-- ==== Sys2Proof/Word.lean ====
section
/-! DEFINITION. The word types of the TZ-880: bytes and the 32-bit words of ports and engine registers. -/

namespace Sys2Proof

/-- A byte of a packet, a buffer, a memory or a wire. -/
abbrev Byte := BitVec 8

/-- A 32-bit register, port or memory word (R4, R220). -/
abbrev Word := BitVec 32

end Sys2Proof
end

