-- ==== Sys2Proof/Machine/Bytes.lean ====
section
/-! DEFINITION. Byte order, bit fields, list updates and the CRC-32C, on which every layout of the spec is built. -/

namespace Sys2Proof.Machine

/-- The `n` bytes of `v`, least significant first (R4: little-endian everywhere). -/
def leb : Nat → Nat → List Byte
  | 0, _ => []
  | n + 1, v => BitVec.ofNat 8 v :: leb n (v / 256)

/-- The value of bytes, the first least significant (R4). -/
def leVal : List Byte → Nat
  | [] => 0
  | b :: bs => b.toNat + 256 * leVal bs

/-- The value of bytes, the first most significant (network order of Ethernet, IPv4 and PTP fields). -/
def beVal (bs : List Byte) : Nat := bs.foldl (fun a b => a * 256 + b.toNat) 0

/-- The `n` bytes of `v`, most significant first. -/
def beb (n v : Nat) : List Byte := (leb n v).reverse

/-- `n` bytes of `bs` from offset `o`, short where `bs` ends. -/
def slice (bs : List Byte) (o n : Nat) : List Byte := (bs.drop o).take n

/-- The little-endian field of `n` bytes at offset `o`; bytes past the end read 0. -/
def fld (bs : List Byte) (o n : Nat) : Nat := leVal (slice bs o n)

/-- The byte at offset `o` as a number; 0 past the end. -/
def byteAt (bs : List Byte) (o : Nat) : Nat := (bs.getD o 0).toNat

/-- Bit `i` of `v`. -/
def bit (v i : Nat) : Bool := v.testBit i

/-- The `w`-bit field of `v` at bit `i`. -/
def bits (v i w : Nat) : Nat := (v / 2 ^ i) % 2 ^ w

/-- A Bool as the number 0 or 1. -/
def b2n (b : Bool) : Nat := if b then 1 else 0

/-- `v` rounded up to a multiple of `m`. -/
def roundUp (v m : Nat) : Nat := (v + m - 1) / m * m

/-- Bits of one-time memory: those of the first list, and with each the bit that the second adds. -/
def orBits : List Bool → List Bool → List Bool
  | [], _ => []
  | a :: as, bs => (a || bs.headD false) :: orBits as bs.tail

/-- Zero bytes. -/
def zeros (n : Nat) : List Byte := List.replicate n 0

/-- Pads `bs` with bytes of 0 to a multiple of `m` (R80). -/
def padTo (m : Nat) (bs : List Byte) : List Byte := bs ++ zeros (roundUp bs.length m - bs.length)

/-- Applies `f` to element `i` of a list, if the list has one. -/
def upd {α : Type} : List α → Nat → (α → α) → List α
  | [], _, _ => []
  | x :: xs, 0, f => f x :: xs
  | x :: xs, i + 1, f => x :: upd xs i f

/-- Applies `f` to every element that satisfies `p`. -/
def updIf {α : Type} (xs : List α) (p : α → Bool) (f : α → α) : List α :=
  xs.map (fun x => if p x then f x else x)

/-- Applies `f` to the first element that satisfies `p`. -/
def updFirst {α : Type} : List α → (α → Bool) → (α → α) → List α
  | [], _, _ => []
  | x :: xs, p, f => if p x then f x :: xs else x :: updFirst xs p f

/-- Folds `f` over a list, the first element first. -/
def forEach {α σ : Type} (xs : List α) (s : σ) (f : σ → α → σ) : σ := xs.foldl f s

/-- Applies `f` `n` times, counting 0, 1, …. -/
def forN {σ : Type} (n : Nat) (s : σ) (f : σ → Nat → σ) : σ := (List.range n).foldl f s

/-- One bit step of a reflected CRC with polynomial `poly`. -/
def crcBit (poly : Word) (c : Word) : Word :=
  if c.getLsbD 0 then (c >>> 1) ^^^ poly else c >>> 1

/-- One byte step of a reflected CRC with polynomial `poly`. -/
def crcByte (poly : Word) (c : Word) (b : Byte) : Word :=
  let x := c ^^^ b.setWidth 32
  crcBit poly (crcBit poly (crcBit poly (crcBit poly
    (crcBit poly (crcBit poly (crcBit poly (crcBit poly x)))))))

/-- CRC-32C (R81): polynomial 0x1EDC_6F41 reflected, initial value and final exclusive-OR 0xFFFF_FFFF. -/
def crc32c (bs : List Byte) : Word :=
  (bs.foldl (crcByte 0x82F63B78#32) 0xFFFFFFFF#32) ^^^ 0xFFFFFFFF#32

/-- The IEEE 802.3 frame check sequence: polynomial 0x04C1_1DB7 reflected. -/
def fcs32 (bs : List Byte) : Word :=
  (bs.foldl (crcByte 0xEDB88320#32) 0xFFFFFFFF#32) ^^^ 0xFFFFFFFF#32

/-- The internet checksum of RFC 1071 over 16-bit big-endian words. -/
def inetSum : List Byte → Nat
  | a :: b :: r => a.toNat * 256 + b.toNat + inetSum r
  | [a] => a.toNat * 256
  | [] => 0

/-- One's-complement fold of a sum into 16 bits. -/
def inetFold (s : Nat) : Nat :=
  let t := s % 65536 + s / 65536
  t % 65536 + t / 65536

/-- The checksum field that makes `bs` sum to 0xFFFF. -/
def inetChecksum (bs : List Byte) : Nat := 65535 - inetFold (inetSum bs)

end Sys2Proof.Machine
end

