-- ==== Sys2Proof/Syntax.lean ====
section
/-! DEFINITION. The commands of the TZ-880: one constructor for each row of spec/opcode_table.json, in the order of the table, with the
operands that the row brings from outside: a packet, bytes on a bus, a frame, an edge, a measured outcome, or the fields
of an engine instruction. -/

namespace Sys2Proof

open Machine (zeros)

/-- Where a packet came from and where its replies go: the host port (1 QSPI, 2 parallel, 3 UDP, R89) and, for UDP, the
peer's addresses (R143, R145). On a wired port the UDP fields are 0. -/
structure Peer where
  port : Nat := 1
  ip : Nat := 0
  udp : Nat := 0
  mac : Nat := 0
  vid : Nat := 0
  deriving DecidableEq, Repr, Inhabited

/-- A Verind command packet but for its opcode, which the row that carries it names: the header fields of Table 4.7 as
received, the parameter bytes, the CRC field, and the length that the transport framed (R79). `to` is the destination
address and UDP port of a datagram that is sent to the host station address (R144), for a packet that came by UDP. -/
structure VCmd where
  src : Peer := {}
  framed : Nat := 20
  sync : Byte := 0xA7#8
  version : Byte := 1#8
  length : Nat := 20
  seq : Nat := 0
  flags : Byte := 0#8
  channel : Nat := 0
  status : Nat := 0
  fid : Nat := 0
  reserved : Nat := 0
  params : List Byte := []
  crc : Nat := 0
  toAddr : Option (Nat × Nat) := none
  deriving DecidableEq, Repr, Inhabited

/-- A read of the flags, lengths and free space: the QSPI STATUS instruction (quad mode or not) or a word address of the
parallel bus (Tables 6.3, 6.4). -/
inductive StatusRead where
  | qspi (quad : Bool)
  | parallel (word : Nat)
  deriving DecidableEq, Repr, Inhabited

/-- A read of the identity: the QSPI ID instruction or word 0x00F of the parallel bus. -/
inductive IdRead where
  | qspi (quad : Bool)
  | parallel
  deriving DecidableEq, Repr, Inhabited

/-- A frame that becomes valid on a multidrop bus (R388): its identifier, format and data, whether its ACK slot was dominant,
how long ago its start of frame came, and the shortest run of equal levels that a detector has seen. -/
structure MbRx where
  ident : Nat := 0
  ide : Bool := false
  rtr : Bool := false
  fdf : Bool := false
  brs : Bool := false
  esi : Bool := false
  dlc : Nat := 0
  data : List Byte := []
  sofAgo : Nat := 0
  ack : Bool := true
  runNs : Nat := 0
  deriving DecidableEq, Repr, Inhabited

/-- A frame that ends in an error as a multidrop controller sees it (R375, Table 14.7): the code, whether it lay in the data
phase, whether the controller was the transmitter, the exception of ISO 11898-1 for an acknowledgement error without a dominant
bit in the passive error flag, whether the receiver's error counts 8, and the shortest run that a detector has seen. -/
structure MbErr where
  code : Nat := 1
  dataPhase : Bool := false
  transmitter : Bool := false
  ackPassive : Bool := false
  heavy : Bool := false
  runNs : Nat := 0
  deriving DecidableEq, Repr, Inhabited

/-- What start step 4 and step 5 find at a serial memory (R174, R175, R180, Table 7.11): the memory as it was left; none, or one
that does not answer; one that R175 calls unusable; a memory that is blank, or holds a foreign copy, with its kind and capacity;
or the memory as it was left, of whose journal only the first `n` records can be read, the rest `broken` by a failed check or
never written. -/
inductive SmSeen where
  | asLeft
  | absent
  | unusable
  | blank (fram : Bool) (capacity : Nat)
  | foreign (fram : Bool) (capacity : Nat)
  | readable (n : Nat) (broken : Bool)
  deriving DecidableEq, Repr, Inhabited

/-- What a start meets (Table 7.3): rising edges at REFCLK_IN in 10 µs (R561), how long the 25 MHz reference is late in ns, the
supplies of IOA to IOD in mV (R569), failures of the self-test of step 2, physical engines whose test fails (R526), key slots whose
words cannot be read (R537), the serial memories, and the time to READY in ns. -/
structure StartIn where
  edges : Nat := 0
  refLate : Nat := 0
  supplies : List Nat := [3300, 3300, 3300, 3300]
  testFails : Nat := 0
  badEngines : List Nat := []
  badKeys : List Nat := []
  sm : List SmSeen := [.asLeft, .asLeft]
  elapsed : Nat := 0
  deriving DecidableEq, Repr, Inhabited

/-- Where an uncorrectable SECDED read falls (Table 3.5, R57, R184, R196, R216, R232): a plate's write buffer, its committed
buffer, or both; a slug of a frame; the head entry of an item or reservation of a host ring, by index; a message object; an
entry of an open ring; a domain's standby table; the journal cache; IRAM or DRAM of an engine; a flash word by bank and
physical word; or something that the part holds in two copies. -/
inductive MemItem where
  | plateWrite (p : Nat)
  | plateCommitted (p : Nat)
  | plateBoth (p : Nat)
  | frame (id : Nat)
  | ringEntry (r idx : Nat)
  | object (n k : Nat)
  | openRing (n i : Nat)
  | standby (dom : Nat)
  | journalCache
  | engine (pe : Nat)
  | flashWord (bank word : Nat)
  | copied
  deriving DecidableEq, Repr, Inhabited

/-- A supply that falls below its threshold (Table 3.8): VDD_CORE or VDD_FL, or a bank, 0 to 3 for IOA to IOD. -/
inductive Rail where
  | core
  | bank (b : Nat)
  deriving DecidableEq, Repr, Inhabited

/-- How an entry to HIBERNATE goes (R519): to its end; abandoned before the point of no return by a wake source of Table 19.5 or,
without one, by a new unfinished event; or met by a source after that point, which leads to a warm restore at once. -/
inductive HibEnd where
  | completes
  | abandoned (src : Option Nat)
  | overtaken (src : Nat) (x : StartIn)
  deriving DecidableEq, Repr, Inhabited

/-- Where a register write without a behaviour of its own goes (R138, R244): a port of an engine, or the window address register
of the parallel bus by its word. -/
inductive RegTarget where
  | port (pe : Fin 14) (n : Fin 256) (v : Word)
  | winAddr (word : Nat) (v : BitVec 16)
  deriving DecidableEq, Repr, Inhabited

/-- What the time service sends at its interval on a port (R455, Table 17.4). -/
inductive PtpKind where
  | sync
  | announce
  | delayReq
  deriving DecidableEq, Repr, Inhabited

/-- What best-master selection (R454), which is that of the profile's standard, makes of a PTP message: nothing new; the part is
grandmaster; no master; or the master with this clockIdentity of its grandmaster and these log Announce and Sync intervals. -/
inductive PtpChoice where
  | keep
  | own
  | nobody
  | master (ident : Nat) (announce sync : Int)
  deriving DecidableEq, Repr, Inhabited

/-- A PTP message that a MAC receives (R439, R452): the frame, how long ago its SFD ended, the outcome of best-master selection,
whether it is a signal accepted from the master followed, and the offset and the delay that the standard's computation completes. -/
structure PtpRx where
  mac : Nat := 0
  bytes : List Byte := []
  ago : Nat := 0
  choice : PtpChoice := .keep
  signal : Bool := false
  offset : Option Int := none
  delay : Option Nat := none
  deriving DecidableEq, Repr, Inhabited

/-- A reference message that becomes valid on a time-triggered bus (R498, R457): its cycle count, identifier, how long ago its start
of frame came, and at level 2 the offset of Orrery time from its global time. -/
structure RefMsg where
  count : Nat := 0
  ident : Nat := 0
  sofAgo : Nat := 0
  offset : Option Int := none
  deriving DecidableEq, Repr, Inhabited

/-- The commands, one per row of the table. Each constructor's docstring is its row's summary and rule. -/
inductive Instr where
  /-- DEVICE_INFO: Command that returns part code, grade, stepping, ROM and patch versions, serial and last start cause (R2) -/
  | deviceInfo (c : VCmd)
  /-- CHANNEL_OPEN: Command that opens or reopens a channel, binds it to the host port and peer it arrived on, clears its reply cache and sets its base (R89) -/
  | channelOpen (c : VCmd)
  /-- CHANNEL_CLOSE: Command that replies DONE, then closes the channel, discards its held commands and clears its reply cache (R90) -/
  | channelClose (c : VCmd)
  /-- EVENT_ACK: Command that acknowledges events up to a given sequence, judged by signed position against the oldest unacknowledged event and the newest sent (R99) -/
  | eventAck (c : VCmd)
  /-- ISLAND_STATUS: Command that returns two status words for each existing island in an ID range (R45) -/
  | islandStatus (c : VCmd)
  /-- ISLAND_CLEAR: Command that clears the OVR, CLKF or HANG flags of one island (R27) -/
  | islandClear (c : VCmd)
  /-- QUOIN_QUERY: Fragmenting command that returns the descriptor of every quoin of one kind or of all kinds (R78) -/
  | quoinQuery (c : VCmd)
  /-- SETTING_GET: Command that returns the value of a setting key (R131) -/
  | settingGet (c : VCmd)
  /-- SETTING_SET: Command that sets a device-wide or per-class setting in the running configuration (R131) -/
  | settingSet (c : VCmd)
  /-- DEVICE_RESET: Command that replies DONE, stops every later command and starts a full device reset 1 ms after the reply leaves (R125) -/
  | deviceReset (c : VCmd)
  /-- FUNC_ENABLE: Command that starts, queues, cancels or refuses a function start according to its lifecycle state (R104) -/
  | funcEnable (c : VCmd)
  /-- FUNC_DISABLE: Command that drains, queues, cancels or refuses a function shutdown according to its lifecycle state (R104) -/
  | funcDisable (c : VCmd)
  /-- FUNC_STATUS: Command that returns a function's two status words (R104) -/
  | funcStatus (c : VCmd)
  /-- FUNC_CLEAR: Command that clears the OVR flag of the island or islands of a function (R590) -/
  | funcClear (c : VCmd)
  /-- FUNC_LIST: Command that returns the status words of every function in function ID order (R113) -/
  | funcList (c : VCmd)
  /-- ALMANAC_INFO: Command that returns copy validity, agreement, capacity, journal bytes used and save count (R189) -/
  | almanacInfo (c : VCmd)
  /-- ALMANAC_SAVE: Command that writes the running configuration into the Almanac as one group under quoin 0x01 (R186) -/
  | almanacSave (c : VCmd)
  /-- ALMANAC_READ: Command that returns a committed user record from the journal cache (R184) -/
  | almanacRead (c : VCmd)
  /-- ALMANAC_WRITE: Command that writes or deletes a user-key value record as one group (R185) -/
  | almanacWrite (c : VCmd)
  /-- ALMANAC_COMPACT: Command that compacts both Almanac copies (R187) -/
  | almanacCompact (c : VCmd)
  /-- TYPECASE_INFO: Command that returns sectors in use, spares left and highest cycle count per Typecase bank (R113) -/
  | typecaseInfo (c : VCmd)
  /-- IMAGE_LIST: Command that returns the 64 image store slot entries (R113) -/
  | imageList (c : VCmd)
  /-- IMAGE_BEGIN: Command that allocates and blank-checks a home-bank extent for an image slot under quoin 0x03 (R211) -/
  | imageBegin (c : VCmd)
  /-- IMAGE_DATA: Command that places an image chunk in the write buffer at the next offset, waiting for buffer room (R212) -/
  | imageData (c : VCmd)
  /-- IMAGE_END: Command that checks the colophon, mirrors the image into the other bank and commits a directory naming the slot (R213) -/
  | imageEnd (c : VCmd)
  /-- IMAGE_DELETE: Command that commits a directory without the slot and erases both extents (R215) -/
  | imageDelete (c : VCmd)
  /-- ENGINE_CONFIG: Command that names a logical engine's image slot, preferred engine and divider for its next start (R283) -/
  | engineConfig (c : VCmd)
  /-- ENGINE_STATUS: Command that returns state, binding, divider, voltage point and fault count of physical engines (R291) -/
  | engineStatus (c : VCmd)
  /-- SPARE_ARM: Command that names a physical engine to shadow a logical engine (R286) -/
  | spareArm (c : VCmd)
  /-- SPARE_DISARM: Command that stops and frees a logical engine's spare at once (R286) -/
  | spareDisarm (c : VCmd)
  /-- ENGINE_MIGRATE: Command that hands a logical engine over to its in-step spare at the next home-domain meridian (R294) -/
  | engineMigrate (c : VCmd)
  /-- PERSONALITY_PARAM: Command that writes the inactive parameter block copy, swapped in at the next meridian (R248) -/
  | personalityParam (c : VCmd)
  /-- PORT_CONFIG: Command that sets a switch port's learning, VLAN filtering, PVID, default class and admission limit (R306) -/
  | portConfig (c : VCmd)
  /-- VLAN_SET: Command that sets the member and untagged masks of a VID (R306) -/
  | vlanSet (c : VCmd)
  /-- FDB_ADD: Command that creates a static or dynamic address-table entry (R310) -/
  | fdbAdd (c : VCmd)
  /-- FDB_DELETE: Command that removes an address-table entry (R310) -/
  | fdbDelete (c : VCmd)
  /-- FDB_READ: Fragmenting command that returns address-table entries by index (R307) -/
  | fdbRead (c : VCmd)
  /-- GALLEY_CONFIG: Command that sets a galley's scheduler, weight, gating and limit (R322) -/
  | galleyConfig (c : VCmd)
  /-- FILTER_SET: Command that sets one filter rule, applying to frames whose first byte arrives after the commit (R355) -/
  | filterSet (c : VCmd)
  /-- SWITCH_COUNTERS: Command that returns forwarded, admission-drop and galley-full counts per class of a switch port (R334) -/
  | switchCounters (c : VCmd)
  /-- MAC_CONFIG: Command that sets a MAC's mode, speed, maximum frame, station address and pause flags (R339) -/
  | macConfig (c : VCmd)
  /-- MAC_COUNTERS: Command that returns a MAC's fourteen counters (R361) -/
  | macCounters (c : VCmd)
  /-- MDIO_READ: Command that reads a PHY register by Clause 22 or 45 under quoin 0x02 (R359) -/
  | mdioRead (c : VCmd)
  /-- MDIO_WRITE: Command that writes a PHY register by Clause 22 or 45 under quoin 0x02 (R359) -/
  | mdioWrite (c : VCmd)
  /-- PROOF_CONFIG: Command that sets a proof sampler's N, truncation, direction and host ring (R331) -/
  | proofConfig (c : VCmd)
  /-- MIRROR_CONFIG: Command that sets a mirror session's masks, destination port and class (R328) -/
  | mirrorConfig (c : VCmd)
  /-- MIRROR_COUNTERS: Command that returns copies sent and dropped for a mirror session or proof sampler (R333) -/
  | mirrorCounters (c : VCmd)
  /-- MB_CONFIG: Command that sets a multidrop controller's bit timing and mode flags (R369) -/
  | mbConfig (c : VCmd)
  /-- MB_RATE_DETECT: Command that listens on an OFF controller's bus to detect its nominal and data rates (R379) -/
  | mbRateDetect (c : VCmd)
  /-- MB_OBJECT_CONFIG: Command that configures a message object, withdrawing its requests and clearing its content, lock and shadow (R408) -/
  | mbObjectConfig (c : VCmd)
  /-- MB_RING_CONFIG: Command that sets the number of open ring entries (R391) -/
  | mbRingConfig (c : VCmd)
  /-- MB_TRANSMIT: Command that places a frame in a transmit object and makes it a request under quoin 0x05 (R402) -/
  | mbTransmit (c : VCmd)
  /-- MB_WAKE_CONFIG: Command that sets how an asleep controller uses its transceiver and which frame wakes it (R383) -/
  | mbWakeConfig (c : VCmd)
  /-- MB_STATUS: Command that returns error counters, state, last error code and frame counts (R387) -/
  | mbStatus (c : VCmd)
  /-- SL_CONFIG: Command that sets a serial line's rate, framing and driver-enable lead and lag (R418) -/
  | slConfig (c : VCmd)
  /-- SL_STATUS: Command that returns framing, parity and overrun counts and the last idle gap (R423) -/
  | slStatus (c : VCmd)
  /-- TIME_GET: Command that returns tick and Orrery time from one time bus publication (R434) -/
  | timeGet (c : VCmd)
  /-- TIME_CONFIG: Command that sets the time service profile, clock type, ports, domain, priorities and slew parameters (R451) -/
  | timeConfig (c : VCmd)
  /-- TIME_STEP: Command that sets the Orrery time to stand at the next step instant, removed by step or slew (R444) -/
  | timeStep (c : VCmd)
  /-- PULSE_CONFIG: Command that sets a transit pulse's enable, polarity, period, width and phase from its next leading edge (R447) -/
  | pulseConfig (c : VCmd)
  /-- CAPTURE_CONFIG: Command that sets which edges of an event input are captured to which host ring (R449) -/
  | captureConfig (c : VCmd)
  /-- TIME_STATUS: Command that returns servo state, quality, epoch, master, offset, path delay and holdover time (R464) -/
  | timeStatus (c : VCmd)
  /-- FORME_RING_CONFIG: Command that sets a forme ring's role, rank, EtherType, cycle and claim value (R469) -/
  | formeRingConfig (c : VCmd)
  /-- IMPOSITION_WRITE: Command that writes entries of a domain's standby imposition table under quoin 0x09 (R491) -/
  | impositionWrite (c : VCmd)
  /-- IMPOSITION_SWITCH: Command that checks the standby table and makes it active at the switching meridian (R492) -/
  | impositionSwitch (c : VCmd)
  /-- FORME_STATUS: Command that returns ring state, loop, start state, formes missed and working-counter mismatches (R482) -/
  | formeStatus (c : VCmd)
  /-- POWER_POLICY: Command that sets the deepest permitted power state and the wake guard (R506) -/
  | powerPolicy (c : VCmd)
  /-- DEADLINE: Command that sets or cancels the channel's host deadline (R512) -/
  | deadline (c : VCmd)
  /-- ALARM_SET: Command that arms a relative or absolute alarm, or cancels it (R513) -/
  | alarmSet (c : VCmd)
  /-- WAKE_CONFIG: Command that enables WAKE pins and sets their mode and active level (R515) -/
  | wakeConfig (c : VCmd)
  /-- POWER_STATUS: Command that returns present state, last wake source and time spent in each state (R523) -/
  | powerStatus (c : VCmd)
  /-- FAULT_LOG_READ: Fragmenting command that returns the log header and records from a snapshot of the fault log (R532) -/
  | faultLogRead (c : VCmd)
  /-- SERVICE_COUNTERS: Command that returns the seven service counters (R533) -/
  | serviceCounters (c : VCmd)
  /-- REPAIR: Command that resets and self-tests a FAILED function's islands and returns it to OFF (R527) -/
  | repair (c : VCmd)
  /-- ENGINE_RETURN: Command that resets and self-tests a fenced physical engine (R526) -/
  | engineReturn (c : VCmd)
  /-- BANK_RETIRE: Command that starts draining a shared-buffer bank toward retirement (R327) -/
  | bankRetire (c : VCmd)
  /-- SECTOR_RETIRE: Command that retires a Typecase physical sector or removes a spare (R219) -/
  | sectorRetire (c : VCmd)
  /-- PIPE_SWITCHOVER: Command that makes the named forwarding pipe active from the next lookup (R326) -/
  | pipeSwitchover (c : VCmd)
  /-- PORT_REMAP: Command that swaps the MACs attached to two switch ports (R528) -/
  | portRemap (c : VCmd)
  /-- SM_REMOVE: Command that makes a serial memory's copy not valid and stops selecting its chip select (R190) -/
  | smRemove (c : VCmd)
  /-- SM_INSERT: Command that discovers and fully resilvers a fitted serial memory (R191) -/
  | smInsert (c : VCmd)
  /-- KEY_INFO: Command that returns the state and use of the eight key slots (R537) -/
  | keyInfo (c : VCmd)
  /-- KEY_REVOKE: Command that checks a signed revocation message and programs a key slot's revocation bits (R538) -/
  | keyRevoke (c : VCmd)
  /-- DEBUG_CHALLENGE: Command that issues a new 32-byte debug challenge (R546) -/
  | debugChallenge (c : VCmd)
  /-- DEBUG_RESPONSE: Command that checks a signature over the challenge and opens the debug lock (R547) -/
  | debugResponse (c : VCmd)
  /-- RING_CONFIG: Command that sets a host ring's size, direction, attention line, base and threshold (R149) -/
  | ringConfig (c : VCmd)
  /-- RING_STATUS: Command that returns a host ring's indices, skip entries and fault discards (R154) -/
  | ringStatus (c : VCmd)
  /-- WINDOW_OPEN: Command that opens a read or read-write window onto PIM, host ring memory or message objects under quoin 0x08 (R127) -/
  | windowOpen (c : VCmd)
  /-- WINDOW_COMMIT: Command that makes a window's staged writes observable at the memory's next commit point (R127) -/
  | windowCommit (c : VCmd)
  /-- WINDOW_CLOSE: Command that closes a window and discards its staging (R127) -/
  | windowClose (c : VCmd)
  /-- CHANNEL_BIND: Command that rebinds a named channel to the host port the command arrived on (R128) -/
  | channelBind (c : VCmd)
  /-- ATTN_CONFIG: Command that sets the sources of an attention line (R158) -/
  | attnConfig (c : VCmd)
  /-- STATUS: QSPI instruction that returns flags, free input space and the head outgoing packet length (R135) -/
  | status (r : StatusRead)
  /-- ID: QSPI instruction that returns part code, grade code and stepping (R135) -/
  | id (r : IdRead)
  /-- PKT_WRITE: QSPI instruction that frames one Verind packet until HQ_CS# rises (R136) -/
  | pktWrite (quad : Bool) (bytes : List Byte)
  /-- PKT_READ: QSPI instruction that reads out the head outgoing packet, delivered when HQ_CS# rises after its last byte (R137) -/
  | pktRead (quad : Bool) (n : Nat)
  /-- WIN_WRITE: QSPI instruction that writes words through a window (R146) -/
  | winWrite (quad : Bool) (addr : Nat) (data : List Byte)
  /-- WIN_READ: QSPI instruction that reads words through a window after wait bytes and a marker (R135) -/
  | winRead (quad : Bool) (addr : Nat) (n : Nat)
  /-- UNKNOWN_INSTRUCTION: A QSPI instruction not in the table is ignored for the transaction and counted as a framing error (R135) -/
  | unknownInstruction (b : Byte)
  /-- PKT_IN: Parallel bus write that appends two bytes to the packet being framed (R138) -/
  | pktIn (w : BitVec 16)
  /-- PKT_END: Parallel bus write that closes the packet frame (R140) -/
  | pktEnd
  /-- PKT_OUT: Parallel bus read that returns the next two bytes of the head outgoing packet and delivers it at its last bytes (R140) -/
  | pktOut
  /-- WIN_DATA_WRITE: Parallel bus write of a window half-word, staging the word at the high half, and advancing the address (R139) -/
  | winDataWrite (w : BitVec 16)
  /-- WIN_DATA_READ: Parallel bus read of a window half-word, fetching the word at the low half, and advancing the address (R139) -/
  | winDataRead
  /-- WINDOW_READ_REQUEST: UDP window datagram that reads words through a window and is answered with one response (R163) -/
  | windowReadRequest (p : Peer) (bytes : List Byte)
  /-- WINDOW_WRITE_REQUEST: UDP window datagram that writes words through a window and is answered with one response (R163) -/
  | windowWriteRequest (p : Peer) (bytes : List Byte)
  /-- ARP_REQUEST: An ARP request for the host IPv4 address reaching SP7 is answered (R141) -/
  | arpRequest (mac : Nat) (vid : Nat) (ip : Nat) (target : Nat)
  /-- REASSEMBLY_TIMEOUT: A datagram reassembly not complete within 100 ms is discarded (R141) -/
  | reassemblyTimeout (ip : Nat)
  /-- EVENT_RETRY: An event still unacknowledged after the event retry interval is presented again with REPLAYED set (R99) -/
  | eventRetry (seq : Nat)
  /-- OUTPUT_QUEUE_TIMEOUT: A packet waiting undelivered 1 s at the head of a wired port's output queue declares F8 on the port (R159) -/
  | outputQueueTimeout (port : Nat)
  /-- UDP_LINK_LOSS_TIMEOUT: The MAC through which UDP peers were last reached being down for 1 s declares F8 (R159) -/
  | udpLinkLossTimeout
  /-- VDD_AON_POWER_ON: VDD_AON reaching tolerance ends AON power-on 1 ms later, latching straps and raising PWR_EN (R164) -/
  | vddAonPowerOn (boot : Nat) (host : Nat) (porstHigh : Bool)
  /-- PORST_ASSERT: PORST# held low for at least 10 µs resets every island, the ORR counter section and the alarm (R560) -/
  | porstAssert (ns : Nat)
  /-- PORST_RELEASE: The rising edge of PORST# latches the straps and begins a start (R164) -/
  | porstRelease (boot : Nat) (host : Nat)
  /-- START: The start sequence runs its steps from reference detection to READY (R166) -/
  | start (x : StartIn)
  /-- OSCILLATOR_START: The 32.768 kHz oscillator starting enables the reference check, HIBERNATE and pending alarms (R577) -/
  | oscillatorStart
  /-- RESILVERING_END: A catch-up or full resilvering completes, sending service event 0x03 (R189) -/
  | resilveringEnd (sm : Nat) (ok : Bool) (fram : Bool) (capacity : Nat)
  /-- ALMANAC_GROUP_COMMIT: A group's commit record verifies in the primary and the group is copied to the other copy (R182) -/
  | almanacGroupCommit
  /-- JOURNALLING: The Compositor journals a backlog commit record into its working area of the Almanac (R120) -/
  | journalling
  /-- SERIAL_MEMORY_FAULT: A busy limit exceeded or failed verify makes the copy not valid and starts a resilvering (R192) -/
  | serialMemoryFault (sm : Nat)
  /-- PAGE_PROGRAM_COMPLETE: A Typecase page program ends and is verified, retrying once and retiring the sector on a second failure (R201) -/
  | pageProgramComplete (ok : Bool)
  /-- SECTOR_ERASE_COMPLETE: A Typecase sector erase ends and its erased check runs (R202) -/
  | sectorEraseComplete (ok : Bool) (hot : Bool)
  /-- TYPECASE_SUSPEND: A held suspend request acted on once the minimum run time is reached stops the bank's operation (R206) -/
  | typecaseSuspend (bank : Nat)
  /-- TYPECASE_SUSPEND_LIMIT: A bank suspended for 2 ms resumes its operation (R206) -/
  | typecaseSuspendLimit (bank : Nat)
  /-- PATROL_READ: Once per scrub interval committed sectors are read and refreshed from the other bank where needed (R216) -/
  | patrolRead (bank : Nat) (sector : Nat) (bad : List Nat) (corrected : Nat)
  /-- SRAM_SCRUB: Periodic scrub reads SRAM, correcting or rolling back words with errors (R49) -/
  | sramScrub (corrected : Nat) (bad : List MemItem)
  /-- CORRECTED_MEMORY_ERROR: A SECDED read corrects a single error in place and counts F1 (R49) -/
  | correctedMemoryError
  /-- UNCORRECTABLE_MEMORY_ERROR: An uncorrectable SECDED read rolls the affected item back per Table 3.5 (R71) -/
  | uncorrectableMemoryError (x : MemItem)
  /-- ENGINE_FAULT: An F3 condition halts the engine before the faulting instruction changes anything (R259) -/
  | engineFault (pe : Fin 14) (cause : Nat)
  /-- HANG_TIMEOUT: A transaction without response within the hang timeout declares F4 on the responding island (R35) -/
  | hangTimeout (island : Nat)
  /-- LIVENESS_PROBE: Every 1 ms of tick the Compositor probes each running island (R36) -/
  | livenessProbe (silent : List Nat)
  /-- LOCKSTEP_MISMATCH: A Compositor cycle comparison mismatch declares F5 and begins a Compositor restart (R73) -/
  | lockstepMismatch
  /-- HEARTBEAT: AON declares F5 when four consecutive Compositor heartbeats are missed (R73) -/
  | heartbeat (missed : Bool)
  /-- COMPOSITOR_RESTART: The restarted Compositor rebuilds its state, reacquires quoins and serves commands again (R75) -/
  | compositorRestart
  /-- CLOCK_FAULT: An island PLL losing lock or off by more than 2% is F10, fencing the island (R41) -/
  | clockFault (island : Nat)
  /-- REFERENCE_FAULT: A missing or inaccurate 25 MHz reference is reported as F10 with no island fenced (R42) -/
  | referenceFault
  /-- SUPPLY_FAULT: A supply below its threshold for 2 µs stops all commits or fences its bank's islands (R53) -/
  | supplyFault (rail : Rail)
  /-- CORE_RAIL_RESTART: A core rail within tolerance for 1 ms after its fault starts the part as after PORST# (R53) -/
  | coreRailRestart
  /-- ISLAND_RESET: An island, or its together pair, is held in reset for 64 cycles and released (R39) -/
  | islandReset (island : Nat)
  /-- LEASE_EXPIRY: A quoin lease running out increments the generation, frees the quoin and rolls the resource back (R65) -/
  | leaseExpiry (kind : Nat) (inst : Nat)
  /-- FUNCTION_START_COMPLETE: A function in STARTING reaches ON, sending lifecycle and completion events and acting on a queued disable (R107) -/
  | functionStartComplete (fid : Nat)
  /-- DRAIN_COMPLETE: A function in DRAINING reaches OFF and a queued enable starts it (R107) -/
  | drainComplete (fid : Nat)
  /-- DRAIN_LIMIT_EXPIRY: A drain not ended within the drain limit is completed by a commanded fence straight to OFF (R108) -/
  | drainLimitExpiry (fid : Nat)
  /-- START_LIMIT_EXPIRY: A start not reaching ON within the start limit is a fault in STARTING (R108) -/
  | startLimitExpiry (fid : Nat)
  /-- SELF_TEST_COMPLETE: A self-test ends, freeing the engine or repaired function or leaving it out of service or FAILED (R526) -/
  | selfTestComplete (pe : Option Nat) (fid : Nat) (pass : Bool)
  /-- IMAGE_LOAD_COMPLETE: A logical engine's image load ends and it reaches ON (R284) -/
  | imageLoadComplete (pe : Fin 14)
  /-- MERIDIAN: A domain's meridian raises MER in every logical engine and drives plate commits and launches (R494) -/
  | meridian (dom : Nat)
  /-- PLATE_READY: The last recall after DONE completes and READY is set in PLATE_STAT (R235) -/
  | plateReady (plate : Nat)
  /-- CUT: The first instruction boundary after the home-domain meridian event logs a cut entry and seals the cycle (R285) -/
  | cut (le : Nat)
  /-- REPLAY_COMPLETE: A spare finishes replaying a sealed cycle and is judged in step or out of step (R289) -/
  | replayComplete (le : Nat) (agrees : Bool)
  /-- TAKEOVER: The spare's outputs become live with events, timers and watchdog set as at the cut (R294) -/
  | takeover (le : Nat)
  /-- WATCHDOG_HALF: Half the watchdog period without a kick raises WDW (R258) -/
  | watchdogHalf (pe : Fin 14)
  /-- WATCHDOG_EXPIRY: The full watchdog period without a kick declares F3 (R258) -/
  | watchdogExpiry (pe : Fin 14)
  /-- TIMER_COMPARE: An engine timer reaching its target raises its event (R255) -/
  | timerCompare (pe : Fin 14) (n : Fin 4)
  /-- DIRECTORY_SHARED_REQUEST: The PIM directory serves a Shared line request, recalling an owner if needed (R240) -/
  | directorySharedRequest (pe : Fin 14) (line : Nat)
  /-- DIRECTORY_OWNED_REQUEST: The PIM directory serves an Owned line request, invalidating sharers or recalling the owner (R240) -/
  | directoryOwnedRequest (pe : Fin 14) (line : Nat)
  /-- WRITE_BACK: The directory writes back an evicted line of matching generation or discards a stale one (R241) -/
  | writeBack (pe : Fin 14)
  /-- NONCACHING_READ: A read by a non-caching agent recalls an owner and leaves the line Shared (R240) -/
  | noncachingRead (line : Nat)
  /-- NONCACHING_WRITE: A write by a non-caching agent invalidates or recalls, merges and writes PIM (R240) -/
  | noncachingWrite (a : Nat) (bytes : List Byte)
  /-- ADD: ALU instruction rd = rs1 + rs2, setting all flags (R264) -/
  | add (pe : Fin 14) (rd : Fin 16) (rs1 : Fin 16) (rs2 : Fin 16)
  /-- SUB: ALU instruction rd = rs1 - rs2, setting all flags (R264) -/
  | sub (pe : Fin 14) (rd : Fin 16) (rs1 : Fin 16) (rs2 : Fin 16)
  /-- ADC: ALU instruction rd = rs1 + rs2 + C (R264) -/
  | adc (pe : Fin 14) (rd : Fin 16) (rs1 : Fin 16) (rs2 : Fin 16)
  /-- SBC: ALU instruction rd = rs1 - rs2 - (1 - C) (R264) -/
  | sbc (pe : Fin 14) (rd : Fin 16) (rs1 : Fin 16) (rs2 : Fin 16)
  /-- AND: ALU instruction bitwise AND (R264) -/
  | and (pe : Fin 14) (rd : Fin 16) (rs1 : Fin 16) (rs2 : Fin 16)
  /-- OR: ALU instruction bitwise OR (R264) -/
  | or (pe : Fin 14) (rd : Fin 16) (rs1 : Fin 16) (rs2 : Fin 16)
  /-- XOR: ALU instruction bitwise XOR (R264) -/
  | xor (pe : Fin 14) (rd : Fin 16) (rs1 : Fin 16) (rs2 : Fin 16)
  /-- ANDN: ALU instruction rs1 AND NOT rs2 (R264) -/
  | andn (pe : Fin 14) (rd : Fin 16) (rs1 : Fin 16) (rs2 : Fin 16)
  /-- SLL: ALU instruction shift left by rs2 bits 4:0 (R264) -/
  | sll (pe : Fin 14) (rd : Fin 16) (rs1 : Fin 16) (rs2 : Fin 16)
  /-- SRL: ALU instruction logical shift right by rs2 bits 4:0 (R264) -/
  | srl (pe : Fin 14) (rd : Fin 16) (rs1 : Fin 16) (rs2 : Fin 16)
  /-- SRA: ALU instruction arithmetic shift right by rs2 bits 4:0 (R264) -/
  | sra (pe : Fin 14) (rd : Fin 16) (rs1 : Fin 16) (rs2 : Fin 16)
  /-- ROR: ALU instruction rotate right by rs2 bits 4:0 (R264) -/
  | ror (pe : Fin 14) (rd : Fin 16) (rs1 : Fin 16) (rs2 : Fin 16)
  /-- CMP: ALU instruction setting flags of rs1 - rs2 without a result (R264) -/
  | cmp (pe : Fin 14) (rs1 : Fin 16) (rs2 : Fin 16)
  /-- TST: ALU instruction setting N and Z of rs1 AND rs2 without a result (R264) -/
  | tst (pe : Fin 14) (rs1 : Fin 16) (rs2 : Fin 16)
  /-- MUL: Instruction giving the low 32 bits of the product (R265) -/
  | mul (pe : Fin 14) (rd : Fin 16) (rs1 : Fin 16) (rs2 : Fin 16)
  /-- MULHU: Instruction giving the high 32 bits of the unsigned product (R265) -/
  | mulhu (pe : Fin 14) (rd : Fin 16) (rs1 : Fin 16) (rs2 : Fin 16)
  /-- MULHS: Instruction giving the high 32 bits of the signed product (R265) -/
  | mulhs (pe : Fin 14) (rd : Fin 16) (rs1 : Fin 16) (rs2 : Fin 16)
  /-- MIN: ALU instruction signed minimum (R264) -/
  | min (pe : Fin 14) (rd : Fin 16) (rs1 : Fin 16) (rs2 : Fin 16)
  /-- MAX: ALU instruction signed maximum (R264) -/
  | max (pe : Fin 14) (rd : Fin 16) (rs1 : Fin 16) (rs2 : Fin 16)
  /-- MINU: ALU instruction unsigned minimum (R264) -/
  | minu (pe : Fin 14) (rd : Fin 16) (rs1 : Fin 16) (rs2 : Fin 16)
  /-- MAXU: ALU instruction unsigned maximum (R264) -/
  | maxu (pe : Fin 14) (rd : Fin 16) (rs1 : Fin 16) (rs2 : Fin 16)
  /-- ADDI: Instruction adding a sign-extended immediate (R264) -/
  | addi (pe : Fin 14) (rd : Fin 16) (rs1 : Fin 16) (imm : BitVec 18)
  /-- ANDI: Instruction ANDing a zero-extended immediate (R264) -/
  | andi (pe : Fin 14) (rd : Fin 16) (rs1 : Fin 16) (imm : BitVec 18)
  /-- ORI: Instruction ORing a zero-extended immediate (R264) -/
  | ori (pe : Fin 14) (rd : Fin 16) (rs1 : Fin 16) (imm : BitVec 18)
  /-- XORI: Instruction XORing a zero-extended immediate (R264) -/
  | xori (pe : Fin 14) (rd : Fin 16) (rs1 : Fin 16) (imm : BitVec 18)
  /-- LUI: Instruction writing imm18 times 2^14 to rd (R264) -/
  | lui (pe : Fin 14) (rd : Fin 16) (imm : BitVec 18)
  /-- CMPI: Instruction setting flags of rs1 minus a signed immediate (R264) -/
  | cmpi (pe : Fin 14) (rs1 : Fin 16) (imm : BitVec 18)
  /-- SLLI: BIT instruction shift left by a (R266) -/
  | slli (pe : Fin 14) (rd : Fin 16) (rs1 : Fin 16) (a : Fin 32)
  /-- SRLI: BIT instruction logical shift right by a (R266) -/
  | srli (pe : Fin 14) (rd : Fin 16) (rs1 : Fin 16) (a : Fin 32)
  /-- SRAI: BIT instruction arithmetic shift right by a (R266) -/
  | srai (pe : Fin 14) (rd : Fin 16) (rs1 : Fin 16) (a : Fin 32)
  /-- RORI: BIT instruction rotate right by a (R266) -/
  | rori (pe : Fin 14) (rd : Fin 16) (rs1 : Fin 16) (a : Fin 32)
  /-- BFX: BIT instruction extracting a zero-extended bit field (R266) -/
  | bfx (pe : Fin 14) (rd : Fin 16) (rs1 : Fin 16) (a : Fin 32) (b : Fin 32)
  /-- BFXS: BIT instruction extracting a sign-extended bit field (R266) -/
  | bfxs (pe : Fin 14) (rd : Fin 16) (rs1 : Fin 16) (a : Fin 32) (b : Fin 32)
  /-- BFI: BIT instruction inserting rs1 bits into a field of rs2 (R266) -/
  | bfi (pe : Fin 14) (rd : Fin 16) (rs1 : Fin 16) (rs2 : Fin 16) (a : Fin 32) (b : Fin 32)
  /-- CLZ: BIT instruction counting leading zeros (R266) -/
  | clz (pe : Fin 14) (rd : Fin 16) (rs1 : Fin 16)
  /-- POPC: BIT instruction counting 1 bits (R266) -/
  | popc (pe : Fin 14) (rd : Fin 16) (rs1 : Fin 16)
  /-- REV: BIT instruction reversing byte order (R266) -/
  | rev (pe : Fin 14) (rd : Fin 16) (rs1 : Fin 16)
  /-- BREV: BIT instruction reversing bit order (R266) -/
  | brev (pe : Fin 14) (rd : Fin 16) (rs1 : Fin 16)
  /-- CRC: Instruction advancing a CRC over a byte, halfword or word with a selected polynomial (R267) -/
  | crc (pe : Fin 14) (rd : Fin 16) (rs1 : Fin 16) (rs2 : Fin 16) (poly : Fin 4) (width : Fin 3)
  /-- LD: Instruction loading a zero-extended byte, halfword or word, setting T (R268) -/
  | ld (pe : Fin 14) (rd : Fin 16) (base : Fin 16) (size : BitVec 2) (imm : BitVec 16)
  /-- LDS: Instruction loading a sign-extended byte or halfword, setting T (R268) -/
  | lds (pe : Fin 14) (rd : Fin 16) (base : Fin 16) (size : BitVec 2) (imm : BitVec 16)
  /-- ST: Instruction storing a byte, halfword or word (R268) -/
  | st (pe : Fin 14) (rd : Fin 16) (base : Fin 16) (size : BitVec 2) (imm : BitVec 16)
  /-- CWB: CACHE operation writing back an Owned line or dropping a Shared one (R270) -/
  | cwb (pe : Fin 14) (base : Fin 16) (imm : BitVec 16)
  /-- PREF: CACHE operation requesting a line Shared without waiting (R270) -/
  | pref (pe : Fin 14) (base : Fin 16) (imm : BitVec 16)
  /-- SWAP: ATOM operation writing rs2 and returning the old word (R269) -/
  | swap (pe : Fin 14) (rd : Fin 16) (rs1 : Fin 16) (rs2 : Fin 16)
  /-- AADD: ATOM operation adding rs2 to the word (R269) -/
  | aadd (pe : Fin 14) (rd : Fin 16) (rs1 : Fin 16) (rs2 : Fin 16)
  /-- AAND: ATOM operation ANDing rs2 into the word (R269) -/
  | aand (pe : Fin 14) (rd : Fin 16) (rs1 : Fin 16) (rs2 : Fin 16)
  /-- AOR: ATOM operation ORing rs2 into the word (R269) -/
  | aor (pe : Fin 14) (rd : Fin 16) (rs1 : Fin 16) (rs2 : Fin 16)
  /-- CAS: ATOM compare-and-swap setting Z when it stores (R269) -/
  | cas (pe : Fin 14) (rd : Fin 16) (rs1 : Fin 16) (rs2 : Fin 16)
  /-- PIN: Instruction reading a port into rd (R271) -/
  | pin (pe : Fin 14) (rd : Fin 16) (rs1 : Fin 16) (imm : BitVec 8)
  /-- POUT: Instruction writing a register to a port (R271) -/
  | pout (pe : Fin 14) (rd : Fin 16) (rs1 : Fin 16) (imm : BitVec 8)
  /-- QPUT: Instruction publishing one item from DRAM to a part-to-host ring (R272) -/
  | qput (pe : Fin 14) (rd : Fin 16) (rs1 : Fin 16) (rs2 : Fin 16)
  /-- QGET: Instruction taking the oldest item of a host-to-part ring into DRAM (R273) -/
  | qget (pe : Fin 14) (rd : Fin 16) (rs1 : Fin 16) (rs2 : Fin 16)
  /-- B: Conditional branch relative to pc (R274) -/
  | b (pe : Fin 14) (cond : Fin 16) (imm : BitVec 22)
  /-- JAL: Jump and link relative to pc (R274) -/
  | jal (pe : Fin 14) (rd : Fin 16) (imm : BitVec 22)
  /-- JALR: Jump and link to rs1 plus immediate (R274) -/
  | jalr (pe : Fin 14) (rd : Fin 16) (rs1 : Fin 16) (imm : BitVec 18)
  /-- WAIT: Instruction stalling until a masked event is pending (R275) -/
  | wait (pe : Fin 14)
  /-- WAITU: Instruction stalling until a tick target or a masked event, setting Z accordingly (R276) -/
  | waitu (pe : Fin 14) (rs1 : Fin 16) (scale : Fin 32)
  /-- ILLEGAL_INSTRUCTION: An illegal instruction word raises F3 with cause 0x02 (R279) -/
  | illegalInstruction (pe : Fin 14) (word : Word)
  /-- REGISTER_WRITE: A write to a port or register with no behaviour of its own stores its value or clears W1C bits (R244) -/
  | registerWrite (t : RegTarget)
  /-- TICK_LO: Port read taking a snapshot of tick and Orrery time for the other time ports (R246) -/
  | tickLo (pe : Fin 14) (rd : Fin 16)
  /-- TMR_CTL: Port write arming an engine timer with its present compare values (R255) -/
  | tmrCtl (pe : Fin 14) (n : Fin 4) (v : Word)
  /-- WD_PERIOD: Port write changing the watchdog period (R258) -/
  | wdPeriod (pe : Fin 14) (v : Word)
  /-- WD_KICK: Port write restarting the watchdog count (R258) -/
  | wdKick (pe : Fin 14) (v : Word)
  /-- QREQ: Port write requesting a quoin, granted, queued or refused by kind (R252) -/
  | qreq (pe : Fin 14) (v : Word)
  /-- QREL: Port write releasing a quoin (R252) -/
  | qrel (pe : Fin 14) (v : Word)
  /-- PLATE_CTL_DONE: Port write marking a plate's work for commit and starting recall of its Owned lines (R235) -/
  | plateCtlDone (pe : Fin 14)
  /-- PLATE_CTL_COMMIT: Port write committing an explicit-commit plate once READY (R236) -/
  | plateCtlCommit (pe : Fin 14)
  /-- PARAM_DATA: Port read returning a parameter block word and advancing PARAM_ADDR (R248) -/
  | paramData (pe : Fin 14) (rd : Fin 16)
  /-- RX_POST: Port write posting a DRAM receive buffer for SP6 frames (R249) -/
  | rxPost (pe : Fin 14) (v : Word)
  /-- RX_DONE: Port read returning and removing the oldest receive completion (R249) -/
  | rxDone (pe : Fin 14) (rd : Fin 16)
  /-- TX_CTL: Port write sending a DRAM frame to the switch through SP6 (R249) -/
  | txCtl (pe : Fin 14) (v : Word)
  /-- TYP_SUSP_REQUEST: Port write requesting a Typecase bank suspend (R250) -/
  | typSuspRequest (pe : Fin 14) (bank : Fin 2)
  /-- TYP_SUSP_RELEASE: Port write releasing a Typecase suspend request, resuming the bank when it is the last (R250) -/
  | typSuspRelease (pe : Fin 14) (bank : Fin 2)
  /-- ALM_CTL_READ: Port write copying a committed Almanac value into DRAM (R251) -/
  | almCtlRead (pe : Fin 14)
  /-- ALM_CTL_WRITE: Port write appending an Almanac record as one group under quoin 0x01 (R251) -/
  | almCtlWrite (pe : Fin 14)
  /-- MB_RIDX: Port write advancing the open ring CI, checked against PI (R394) -/
  | mbRidx (pe : Fin 14) (v : Word)
  /-- MB_RDATA: Port read returning an open ring word and advancing the address (R391) -/
  | mbRdata (pe : Fin 14) (rd : Fin 16)
  /-- MB_ODATA_READ: Port read of an object word, locking at word 0 and releasing at word 19 (R396) -/
  | mbOdataRead (pe : Fin 14) (rd : Fin 16)
  /-- MB_ODATA_WRITE: Port write of a transmit object word under quoin 0x05 (R403) -/
  | mbOdataWrite (pe : Fin 14) (v : Word)
  /-- MB_TXREQ: Port write making a transmit object's content a request (R403) -/
  | mbTxreq (pe : Fin 14) (obj : Fin 128)
  /-- MB_TXREQ_WITHDRAW: Port write with bit 8 withdrawing an object's request (R407) -/
  | mbTxreqWithdraw (pe : Fin 14) (obj : Fin 128)
  /-- MB_STAMP: Port read returning the stamp counter and latching the tick into MB_XTICK (R412) -/
  | mbStamp (pe : Fin 14) (rd : Fin 16)
  /-- SL_RXDATA: Port read returning and removing the oldest received character (R428) -/
  | slRxdata (pe : Fin 14) (rd : Fin 16)
  /-- SL_TXDATA: Port write placing a character and its minimum gap in the transmit FIFO (R425) -/
  | slTxdata (pe : Fin 14) (v : Word)
  /-- SL_TXCTL: Port write aborting transmission by emptying the transmit FIFO (R427) -/
  | slTxctl (pe : Fin 14) (v : Word)
  /-- FR_CTL_RUN: Port write setting RUN, refused on a bad template or launch list, F3 without LOCK (R470) -/
  | frCtlRun (pe : Fin 14) (lock : Bool)
  /-- FR_CTL_LOCK: Port write locking the chase windows until the ring leaves ON (R478) -/
  | frCtlLock (pe : Fin 14) (run : Bool)
  /-- IMP_DATA: Port write of a standby imposition table word under quoin 0x09, advancing IMP_IDX (R491) -/
  | impData (pe : Fin 14) (v : Word)
  /-- IMP_SWITCH: Port write requesting the standby imposition table to become active (R492) -/
  | impSwitch (pe : Fin 14) (n : BitVec 16)
  /-- FRAME_RECEIVE: A MAC receives a whole frame, discarding bad ones, and hands it to the switch for admission and enqueue (R344) -/
  | frameReceive (mac : Nat) (bytes : List Byte) (rxErr : Bool)
  /-- CLASSIFICATION_POINT: With the first 64 bytes held, a frame is filtered, classified and given destinations (R302) -/
  | classificationPoint (mac : Nat) (head : List Byte)
  /-- EGRESS_SCHEDULING: A free egress MAC picks the next eligible frame from crosspoints, strict then weighted galleys (R322) -/
  | egressScheduling (mac : Nat)
  /-- FRAME_TRANSMITTED: A frame leaves whole, freeing slugs at reference count 0 and possibly cancelling pause (R315) -/
  | frameTransmitted (mac : Nat)
  /-- ADDRESS_AGE_EXPIRY: A dynamic address entry aged 300 s is removed (R309) -/
  | addressAgeExpiry (way : Nat)
  /-- PIPE_DISAGREEMENT: Differing decisions of the two pipes make the part find and fence the faulty pipe (R325) -/
  | pipeDisagreement (aWrong : Bool) (bWrong : Bool)
  /-- PIPE_RELOAD_COMPLETE: A fenced forwarding pipe is reloaded from the table of record and checks again (R325) -/
  | pipeReloadComplete (pipe : Nat)
  /-- BANK_RETIRED: A draining bank holding no slug is retired and BANK_RETIRE completes (R327) -/
  | bankRetired (bank : Nat)
  /-- LINK_DOWN_HOLD_EXPIRY: Galley frames of a port still down after the link-down hold are discarded as observable drops (R59) -/
  | linkDownHoldExpiry (port : Nat)
  /-- LINK_DOWN: LINK low for 1 ms or no RXC edge for 10 µs declares the link down as F7 (R340) -/
  | linkDown (mac : Nat)
  /-- LINK_UP: LINK high for 10 ms with RXC edges declares the link up (R340) -/
  | linkUp (mac : Nat)
  /-- PAUSE_REFRESH: While pause is asserted, 32,768 quanta after the last pause frame a new one is sent (R347) -/
  | pauseRefresh (mac : Nat)
  /-- PAUSE_FRAME_RECEIVE: A received MAC control frame is counted and, if an honoured pause, sets the pause hold (R350) -/
  | pauseFrameReceive (mac : Nat) (bytes : List Byte)
  /-- PAUSE_HOLD_EXPIRY: The pause hold ends, letting classes 0 to 6 transmit again (R350) -/
  | pauseHoldExpiry (mac : Nat)
  /-- MB_FRAME_RECEIVED: A frame valid for a receiver is stored in a receive object, shadow or open ring (R388) -/
  | mbFrameReceived (n : Nat) (f : MbRx)
  /-- MB_FRAME_SENT: A transmitted frame is acknowledged, setting TXOK and the stamp and raising TXD (R407) -/
  | mbFrameSent (n : Nat)
  /-- MB_BUS_ERROR: A frame ends in an error, updating TEC, REC, the error state and the last error code (R375) -/
  | mbBusError (n : Nat) (e : MbErr)
  /-- BUS_OFF_RECOVERY: 128 runs of 11 recessive bits return a bus-off controller to error active (R376) -/
  | busOffRecovery (n : Nat)
  /-- INTEGRATION: 11 consecutive recessive bits let the controller take part in bus traffic (R366) -/
  | integration (n : Nat)
  /-- STUCK_DOMINANT: RXD dominant for 1,024 bit times with TXD high declares F7 on the controller (R378) -/
  | stuckDominant (n : Nat)
  /-- LOCK_EXPIRY: A message object lock held 100 µs is released with LEXP set (R399) -/
  | lockExpiry (n : Nat) (obj : Nat)
  /-- RATE_DETECT_TIMEOUT: Rate detection ends at its timeout or 1 s without BRS frames, completing the command (R381) -/
  | rateDetectTimeout (n : Nat)
  /-- DOMINANT_EDGE_WAKE: RXD low for 5 µs on an asleep controller in dominant-edge mode wakes the part (R383) -/
  | dominantEdgeWake (n : Nat)
  /-- REFERENCE_MESSAGE: A valid reference message sets the meridian, cycle count and follower activity of a time-triggered bus (R498) -/
  | referenceMessage (n : Nat) (m : RefMsg)
  /-- POTENTIAL_MASTER_TIMEOUT: A potential master that sees no reference message in time sends its own (R497) -/
  | potentialMasterTimeout (n : Nat)
  /-- IMPOSITION_ENTRY: An applying table entry acts at its offset: a gate change, a mark or a window start (R490) -/
  | impositionEntry (dom : Nat)
  /-- GUARDIAN_VIOLATION: A start of frame outside a permitting window is held recessive and declared F9 (R500) -/
  | guardianViolation (n : Nat)
  /-- SL_CHARACTER_RECEIVED: A received character is written into the receive FIFO with its flags and gap, or counted as overrun (R420) -/
  | slCharacterReceived (n : Nat) (ch : Nat) (pe : Bool) (fe : Bool) (brk : Bool) (ago : Nat)
  /-- SL_CHARACTER_SENT: A character's last stop bit ends, restarting the idle count and starting the next character or the lag (R426) -/
  | slCharacterSent (n : Nat)
  /-- DE_LAG_EXPIRY: DE falls lag sixteenths after the last stop bit with an empty FIFO, raising TXE (R426) -/
  | deLagExpiry (n : Nat)
  /-- GAP_THRESHOLD: The idle count reaching SL_GAPA or SL_GAPB raises its event once per idle period (R424) -/
  | gapThreshold (n : Nat)
  /-- PTP_MESSAGE_RECEIVED: A PTP message of the profile feeds best-master selection and offset measurements (R439) -/
  | ptpMessageReceived (m : PtpRx)
  /-- PTP_MESSAGE_TRANSMIT: At its interval the time service sends Sync, Announce or delay requests (R455) -/
  | ptpMessageTransmit (mac : Nat) (kind : PtpKind)
  /-- STEP_INSTANT: A pending step of Orrery time takes effect, changing the epoch if backward (R443) -/
  | stepInstant
  /-- LOSS_TIME_EXPIRY: No time signals within the loss time counts them as lost (R458) -/
  | lossTimeExpiry
  /-- HOLDOVER_QUALITY_STEP: Holdover time crossing a decade boundary steps the quality code (R460) -/
  | holdoverQualityStep
  /-- PULSE_EDGE: A transit pulse leading or trailing edge at its instant in the pulse timescale (R446) -/
  | pulseEdge (out : Nat)
  /-- EVENT_CAPTURE: A selected edge on an event input is stamped and published to a host ring (R449) -/
  | eventCapture (input : Nat) (rising : Bool)
  /-- CYCLE_FORME: A node processes the first cycle forme copy of a cycle through its slices, or passes it (R473) -/
  | cycleForme (ring : Nat) (odd : Bool) (bytes : List Byte)
  /-- RETURNED_COPY: A cycle forme copy returns whole to the master before the return limit (R480) -/
  | returnedCopy (ring : Nat) (sentOdd : Bool) (retOdd : Bool) (bytes : List Byte)
  /-- RETURN_LIMIT: At the return limit the master merges returned copies into the take plate and sets the ring state (R480) -/
  | returnLimit (ring : Nat)
  /-- CLAIM_FORME: A claiming node removes, forwards or withdraws on a received claim forme (R486) -/
  | claimForme (ring : Nat) (odd : Bool) (bytes : List Byte)
  /-- CLAIM_LISTEN_EXPIRY: A cold-start-capable node hearing no cycle forme for 3 cycles begins claiming (R485) -/
  | claimListenExpiry (ring : Nat)
  /-- SUBSTITUTE_MERIDIAN: No cycle forme within 1.5 cycles makes a substitute meridian and counts a missed forme (R477) -/
  | substituteMeridian (ring : Nat)
  /-- PORT_LOOP: A ring port's link lost for 2 µs makes the node loop formes back (R483) -/
  | portLoop (ring : Nat) (odd : Bool)
  /-- POWER_STATE_ENTRY: With unfinished events ended, the part enters the deepest state permitted by limits and deadlines (R510) -/
  | powerStateEntry (wake : Option Nat)
  /-- HIBERNATE_ENTRY: The part writes a restore block, finishes frames, hands time to AON, resets islands and lowers PWR_EN (R519) -/
  | hibernateEntry (e : HibEnd)
  /-- DEADLINE_EXIT: The part leaves its state in time to be in RUN by a deadline event less the wake guard (R511) -/
  | deadlineExit
  /-- ALARM: The alarm fires at its AON edge, waking the part and sending a wake event (R514) -/
  | alarm
  /-- WAKE_PIN: A WAKE pin edge held 1 µs or level wakes the part or abandons an entry (R515) -/
  | wakePin (ball : Nat) (high : Bool) (held : Option Nat)
  /-- RAIL_GOOD: Switched rails within tolerance for 200 µs after PWR_EN rises release the islands (R520) -/
  | railGood (x : StartIn)
  /-- RAIL_TIMEOUT: Rails not good 20 ms after PWR_EN rises make AON lower PWR_EN and retry 1 s later (R520) -/
  | railTimeout
  /-- CHALLENGE_EXPIRY: A debug challenge 60 s old becomes invalid (R546) -/
  | challengeExpiry
  /-- EXTEST: TAP instruction driving balls from the boundary register in Hold mode only (R565) -/
  | extest (pins : List Bool) (cells : List Bool)
  /-- SAMPLE_PRELOAD: TAP instruction sampling the balls into the boundary register (R565) -/
  | samplePreload (pins : List Bool) (cells : List Bool)
  /-- IDCODE: TAP instruction selecting the identification register (R564) -/
  | idcode
  /-- CLAMP: TAP instruction holding balls from the boundary register in Hold mode only (R565) -/
  | clamp
  /-- HIGHZ: TAP instruction placing balls in high impedance in Hold mode only (R565) -/
  | highz
  /-- BYPASS: TAP instruction selecting the one-bit bypass register (R564) -/
  | bypass
  /-- DBG_CHAL: Private TAP instruction reading the current challenge (R546) -/
  | dbgChal
  /-- DBG_RESP: Private TAP instruction submitting a debug response (R547) -/
  | dbgResp (sig : List Byte)
  /-- DBG_STATE: Private TAP instruction reading the lock state (R547) -/
  | dbgState
  /-- DBG_ADDR: Private TAP instruction setting the island and address for debug reads (R548) -/
  | dbgAddr (v : BitVec 40)
  /-- DBG_DATA: Private TAP instruction reading the word at DBG_ADDR and advancing it (R548) -/
  | dbgData
  /-- DBG_ISTAT: Private TAP instruction reading an island's status words (R548) -/
  | dbgIstat
  /-- DBG_FLOG: Private TAP instruction reading fault log records in turn (R548) -/
  | dbgFlog
  /-- DBG_XSTAT: Private TAP instruction reading an island's crossing status (R548) -/
  | dbgXstat
  /-- WALK_STOP: The walk of the pulse timescale stops at the instant its gap to Orrery time reaches 0 and WALK returns to 0 (R445) -/
  | walkStop
  /-- PWR_EN_RAISE: AON raises PWR_EN at the end of its 1 ms minimum low time after a wake, or 1 s after a failed rail attempt (R520) -/
  | pwrEnRaise
  /-- RETURN_TO_RUN: The part completes leaving NAP or SLUMBER after the exit latency, delivers sleep-buffer frames, resumes probes and runs the selection again (R511) -/
  | returnToRun
  /-- COMPACTION_COMPLETE: Compaction ends when both copies have their new anchor and old region erased, sending service event 0x05 and completing ALMANAC_COMPACT (R187) -/
  | compactionComplete
  /-- STREAMED_READ_COMPLETE: A streamed Typecase read of a blank check or colophon and SHA-256 check ends, completing IMAGE_BEGIN or moving IMAGE_END on (R211) -/
  | streamedReadComplete
  /-- JOIN_COPY_COMPLETE: The copy of the primary's DRAM and cache to a joining spare ends and the spare starts replaying sealed cycles (R287) -/
  | joinCopyComplete (le : Nat)
  /-- REFERENCE_CLOCK_RETURN: The 25 MHz reference returns after an F10 on the reference, ending PLL hold and letting time measurements resume (R42) -/
  | referenceClockReturn
  /-- BANK_SUPPLY_RETURN: A bank supply that faulted outside HIBERNATE returns within tolerance and its functions restart from their off levels (R552) -/
  | bankSupplyReturn (bank : Nat)
  /-- LOSS_OF_POWER: VDD_AON leaves tolerance, so AON resets, PWR_EN falls, the islands are held in reset and the alarm is disarmed (R52) -/
  | lossOfPower
  /-- TEST_LOGIC_RESET: TRST# low or the TMS sequence puts the TAP in Test-Logic-Reset, resetting its instruction and the DBG_FLOG record index (R564) -/
  | testLogicReset (trstLow : Bool)
  /-- REFERENCE_MESSAGE_MISSED: A follower that misses an expected reference message stops transmitting in windows and counts TT_MISS (R498) -/
  | referenceMessageMissed (n : Nat)
  /-- MINIMUM_GAP_EXPIRY: The minimum gap of a waiting character runs out, so DE rises lead sixteenths before its start bit and it is sent (R426) -/
  | minimumGapExpiry (n : Nat)
  /-- RXD_HIGH_CHARACTER_TIME: RXD has been high for one whole character time, so the serial receiver again takes start bits after a start or a break (R415) -/
  | rxdHighCharacterTime (n : Nat)
  deriving DecidableEq, Repr

end Sys2Proof
end

