-- ==== Sys2Proof/Decode.lean ====
section
/-! DEFINITION. The command that a word spells. The table gives no row any bits: the part takes packets, bus cycles, frames, edges and
events, not words, so every word is refused by name of none. -/

namespace Sys2Proof

/-- No row of the table has an encoding in bits. -/
def decodeTableWord (_nbits _w : Nat) : Option Instr := none

end Sys2Proof
end

