-- ==== Sys2Proof/Machine/Mem.lean ====
section
/-! DEFINITION. Addressed byte memories in one canonical form: strictly rising addresses, no entry equal to what an
unlisted address reads as. One operation reads a byte and one writes it; everything wider is built from them. -/

namespace Sys2Proof.Machine

/-- A sparse memory: (address, byte) pairs. -/
abbrev Mem := List Host.Cell

/-- The byte at `a`; an unlisted address reads `d`. -/
def Mem.get (d : Byte) : Mem → Nat → Byte
  | [], _ => d
  | (k, v) :: m, a => if k = a then v else Mem.get d m a

/-- Writes byte `b` at `a`, keeping the canonical form. -/
def Mem.set (d : Byte) : Mem → Nat → Byte → Mem
  | [], a, b => if b = d then [] else [(a, b)]
  | (k, v) :: m, a, b =>
    if a < k then (if b = d then (k, v) :: m else (a, b) :: (k, v) :: m)
    else if a = k then (if b = d then m else (a, b) :: m)
    else (k, v) :: Mem.set d m a b

/-- Every address listed is above `lo`, they rise strictly, and no entry holds the default. -/
def Mem.wfFrom (d : Byte) : Option Nat → Mem → Bool
  | _, [] => true
  | lo, (k, v) :: m =>
    (match lo with | none => true | some l => decide (l < k)) && decide (v ≠ d) && Mem.wfFrom d (some k) m

/-- The canonical form of a memory whose unlisted addresses read `d`. -/
def Mem.wf (d : Byte) (m : Mem) : Bool := Mem.wfFrom d none m

/-- Writes a run of bytes from address `a`. -/
def Mem.setBytes (d : Byte) : Mem → Nat → List Byte → Mem
  | m, _, [] => m
  | m, a, b :: bs => Mem.setBytes d (Mem.set d m a b) (a + 1) bs

/-- Reads `n` bytes from address `a`. -/
def Mem.getBytes (d : Byte) (m : Mem) (a : Nat) : Nat → List Byte
  | 0 => []
  | n + 1 => Mem.get d m a :: Mem.getBytes d m (a + 1) n

/-- Keeps the entries outside `lo` to `lo + n − 1`, so that those addresses read the default. -/
def Mem.clear (m : Mem) (lo n : Nat) : Mem := m.filter (fun c => decide (c.1 < lo) || decide (lo + n ≤ c.1))

end Sys2Proof.Machine
end

