-- ==== Sys2Proof/Machine/State.lean ====
section
/-! DEFINITION. The state of the TZ-880: every register, buffer, queue, table and mode that the spec gives it, as plain
data with its reset value, the queue of commands that wait, the reasons a step can stop, and the state after reset. -/

namespace Sys2Proof.Machine

/-! ## The running configuration (R119, R586, Table 5.25) -/

/-- One switch port's settings: PORT_CONFIG, R306. -/
structure PortCfg where
  learning : Bool := true
  filtering : Bool := false
  untagged : Bool := true
  pvid : Nat := 1
  cls : Nat := 0
  limit : Nat := 0
  deriving DecidableEq, Repr, Inhabited

/-- One galley's settings: GALLEY_CONFIG, R322 (scheduler 0 strict, 1 weighted). -/
structure GalleyCfg where
  sched : Nat := 0
  weight : Nat := 1
  gated : Bool := false
  limit : Nat := 0
  deriving DecidableEq, Repr, Inhabited

/-- One filter rule: FILTER_SET, R351: the MAC mask and the 24-byte body. -/
structure FilterCfg where
  macMask : Nat := 0
  body : List Byte := zeros 24
  deriving DecidableEq, Repr, Inhabited

/-- One VLAN: VLAN_SET, R306. -/
structure VlanCfg where
  vid : Nat := 1
  members : Nat := 0xFF
  untagged : Nat := 0xFF
  deriving DecidableEq, Repr, Inhabited

/-- A static address-table entry of the configuration: FDB_ADD, R310. -/
structure StaticFdb where
  mac : Nat := 0
  vid : Nat := 0
  mask : Nat := 0
  deriving DecidableEq, Repr, Inhabited

/-- MAC_CONFIG, Table 5.11. -/
structure MacCfg where
  mode : Nat := 0
  speed : Nat := 0
  maxFrame : Nat := 2048
  station : Nat := 0
  flags : Nat := 0
  deriving DecidableEq, Repr, Inhabited

/-- One message object's settings: MB_OBJECT_CONFIG, Table 5.13. -/
structure MbObjCfg where
  use : Nat := 0
  prio : Nat := 0
  ext : Bool := false
  ident : Nat := 0
  mask : Nat := 0
  deriving DecidableEq, Repr, Inhabited

/-- MB_CONFIG, MB_RING_CONFIG and MB_WAKE_CONFIG, Table 5.13; objects hold MB_OBJECT_CONFIG. -/
structure MbCfg where
  nbrp : Nat := 0
  ntseg1 : Nat := 0
  ntseg2 : Nat := 0
  nsjw : Nat := 0
  dbrp : Nat := 0
  dtseg1 : Nat := 0
  dtseg2 : Nat := 0
  dsjw : Nat := 0
  flags : Nat := 0
  entries : Nat := 64
  wakeMode : Nat := 0
  wakeFlags : Nat := 0
  wakeId : Nat := 0
  wakeIdMask : Nat := 0
  wakeDlc : Nat := 0
  wakeData : List Byte := zeros 8
  wakeDataMask : List Byte := zeros 8
  objs : List MbObjCfg := List.replicate 128 {}
  deriving DecidableEq, Repr, Inhabited

/-- SL_CONFIG, Table 5.14. -/
structure SlCfg where
  rate : Nat := 0
  dataBits : Nat := 0
  parity : Nat := 0
  stop : Nat := 0
  lead : Nat := 0
  lag : Nat := 0
  deriving DecidableEq, Repr, Inhabited

/-- One logical engine's section: ENGINE_CONFIG, SPARE_ARM, PERSONALITY_PARAM, Table 5.9. `bound` says that
ENGINE_CONFIG has named a slot. -/
structure LeCfg where
  bound : Bool := false
  slot : Nat := 0
  pref : Nat := 0
  div : Nat := 0
  spare : Option Nat := none
  params : Mem := []
  deriving DecidableEq, Repr, Inhabited

/-- FORME_RING_CONFIG, Table 5.16. -/
structure FrCfg where
  role : Nat := 0
  rank : Nat := 0
  etherType : Nat := 0x88B6
  cycle : Nat := 0
  claim : Nat := 0
  deriving DecidableEq, Repr, Inhabited

/-- PULSE_CONFIG of one pulse output, Table 5.15. -/
structure PulseCfg where
  flags : Nat := 0
  period : Nat := 0
  width : Nat := 0
  phase : Nat := 0
  deriving DecidableEq, Repr, Inhabited

/-- CAPTURE_CONFIG of one event input, Table 5.15. -/
structure CapCfg where
  edge : Nat := 0
  ring : Nat := 0
  deriving DecidableEq, Repr, Inhabited

/-- TIME_CONFIG, Table 5.15; starts with profile 0x00 and clock type 0x01 (R121). -/
structure TimeCfg where
  profile : Nat := 0
  clockType : Nat := 1
  portMask : Nat := 0
  domain : Nat := 0
  prio1 : Nat := 0
  prio2 : Nat := 0
  slewWindow : Nat := 1000
  slewLimit : Nat := 100
  pulse : List PulseCfg := List.replicate 2 {}
  capture : List CapCfg := List.replicate 4 {}
  deriving DecidableEq, Repr, Inhabited

/-- MIRROR_CONFIG, Table 5.12. -/
structure MirrorCfg where
  ingress : Nat := 0
  egress : Nat := 0
  dest : Nat := 0
  cls : Nat := 0
  deriving DecidableEq, Repr, Inhabited

/-- PROOF_CONFIG, Table 5.12. -/
structure ProofCfg where
  n : Nat := 0
  trunc : Nat := 0
  dir : Nat := 0
  ring : Nat := 0
  deriving DecidableEq, Repr, Inhabited

/-- RING_CONFIG, Table 5.20 (direction 1 part to host, 2 host to part). -/
structure RingCfg where
  entries : Nat := 0
  dir : Nat := 0
  attn : Nat := 0
  base : Nat := 0
  thr : Nat := 0
  deriving DecidableEq, Repr, Inhabited

/-- The device settings of key 0x0002 (Table 7.10): Table 5.4, the host address, power policy, wake configuration and
attention sources. `drain` and `start` hold classes 1 to 9 and `lease` kinds 0x01 to 0x0A, in order. -/
structure DevCfg where
  hangUs : Nat := 64
  linkHoldMs : Nat := 10
  evRetryMs : Nat := 100
  scrubH : Nat := 24
  typMinUs : Nat := 250
  drain : List Nat := List.replicate 9 100
  start : List Nat := List.replicate 9 100
  lease : List Nat := [50000, 10000, 200000, 2, 10000, 100000, 10000, 1000000, 1000000, 10000]
  hostAddr : Option (Nat × Nat) := none
  policy : Nat := 1
  guardUs : Nat := 0
  wakeEnable : Nat := 0
  wakeEdge : Nat := 0
  wakeLow : Nat := 0
  attn : List Nat := [1, 0]
  deriving DecidableEq, Repr, Inhabited

/-- The running configuration: the content of sections 0x0002 to 0x005F (R119). `present` lists the section keys that hold
something configured (R186). -/
structure RunCfg where
  present : List Nat := []
  dev : DevCfg := {}
  ports : List PortCfg := List.replicate 8 {}
  vlans : List VlanCfg := [{}]
  fdb : List StaticFdb := []
  galleys : List GalleyCfg := List.replicate 64 {}
  filters : List FilterCfg := List.replicate 48 {}
  retired : Nat := 0
  portMap : List Nat := [0, 1, 2, 3, 4, 5]
  macs : List MacCfg := List.replicate 6 {}
  mbs : List MbCfg := List.replicate 4 {}
  sls : List SlCfg := List.replicate 4 {}
  les : List LeCfg := List.replicate 12 {}
  frs : List FrCfg := List.replicate 2 {}
  time : TimeCfg := {}
  mirrors : List MirrorCfg := List.replicate 4 {}
  proofs : List ProofCfg := List.replicate 8 {}
  rings : List RingCfg := List.replicate 32 {}
  deriving DecidableEq, Repr, Inhabited

/-! ## Islands, crossings, quoins and functions -/

/-- One island's status (R45, Tables 2.7 and 2.8). `st`: 0 off, 1 in reset, 2 running, 3 clock-gated, 4 fenced, 5 SRAM
retention. `recovering` marks a fault whose recovery is not complete (R50) and `stuck` an island that stays fenced to
the next start; `cls`, `why` and `ep` are the class, cause and episode of that fault, the episode with the tick of its
detection. -/
structure Island where
  id : Nat := 0
  st : Nat := 1
  cause : Nat := 0
  ovr : Bool := false
  clkf : Bool := false
  hang : Bool := false
  ovc : Nat := 0
  gen : Nat := 0
  recovering : Bool := false
  stuck : Bool := false
  cls : Nat := 0
  why : Nat := 0
  ep : Option (Nat × Nat) := none
  deriving DecidableEq, Repr, Inhabited

/-- One crossing of Table 2.4 between two islands: open or closed, its generation number (R34, R38), whether it carries a value into
`a` and into `b`, and whether that value is stale there (R31). -/
structure Crossing where
  a : Nat := 0
  b : Nat := 0
  isOpen : Bool := false
  gen : Nat := 0
  valA : Bool := false
  valB : Bool := false
  staleA : Bool := false
  staleB : Bool := false
  deriving DecidableEq, Repr, Inhabited

/-- The sending half of one toggle crossing (R26): the instant of its last offer in ps and whether an event is pending.
One per event kind `ev` that island `src` sends to island `dst`. -/
structure Toggle where
  src : Nat := 0
  dst : Nat := 0
  ev : Nat := 0
  last : Nat := 0
  pend : Bool := false
  deriving DecidableEq, Repr, Inhabited

/-- A quoin's owner tag (Table 3.6): type 1 island, 2 logical engine, 3 host channel. -/
inductive Owner where
  | island (i : Nat)
  | le (i : Nat)
  | channel (i : Nat)
  deriving DecidableEq, Repr, Inhabited

/-- A queued request for a quoin (R64, R252): who asked, the lease asked for in µs (cycles for kind 4), and the engine's
quoin slot, which is told when the grant comes. -/
structure QWait where
  owner : Owner
  lease : Nat := 0
  slot : Nat := 0
  deriving DecidableEq, Repr, Inhabited

/-- One quoin (R63, Tables 3.6, 3.7): its holder, generation, lease in µs, the tick at which the lease runs out, the
cycles left of a cycle lease (R68), and the waiting requests. `single` marks one taken for a single command (R124). -/
structure Quoin where
  kind : Nat := 0
  inst : Nat := 0
  owner : Option Owner := none
  gen : Nat := 0
  lease : Nat := 0
  expiry : Nat := 0
  cycles : Nat := 0
  slot : Nat := 0
  queue : List QWait := []
  deriving DecidableEq, Repr, Inhabited

/-- A command that completes later (R102): opcode, sequence, channel, function ID, order of arrival, and whether a
Compositor restart fell between its commit and its completion (R110). -/
structure Waiting where
  op : Nat := 0
  seq : Nat := 0
  ch : Nat := 0
  fid : Nat := 0
  arr : Nat := 0
  recov : Bool := false
  deriving DecidableEq, Repr, Inhabited

/-- One function (R103, R104, Tables 4.2, 4.5, 4.6). `st`: 0 OFF, 1 STARTING, 2 ON, 3 DRAINING, 4 FENCED, 5 FAILED.
`starter` is the command that started the passage, `joined` those that complete with it, `queued` the one held against
it (QEN when it is an enable, QDIS when it is a disable). `limit` is the tick of the drain or start limit. `recovering` lasts
from a fault to the return to ON (R50), with the class, island, cause and episode of the fault (the episode with the tick of its
detection) and the detail with which a failed start completes (R109). -/
structure Func where
  fid : Nat := 0
  st : Nat := 0
  cause : Nat := 0
  gen : Nat := 0
  queued : Option Waiting := none
  starter : Option Waiting := none
  joined : List Waiting := []
  limit : Nat := 0
  retried : Bool := false
  recovering : Bool := false
  fault : Nat := 0
  isl : Nat := 0
  why : Nat := 0
  detail : Nat := 0
  ep : Option (Nat × Nat) := none
  reported : Nat := 0
  staged : List (Nat × List Byte) := []
  deriving DecidableEq, Repr, Inhabited

/-! ## Channels, replies, events, host ports, windows and host rings -/

/-- An admitted command held by HST until its reply is cached (R61, R93): its order of arrival, whether a duplicate is
held behind it (R96), whether it was taken for execution, and whether a Compositor restart fell after that (R61). -/
structure Held where
  op : Nat := 0
  cmd : VCmd := {}
  arr : Nat := 0
  dup : Bool := false
  taken : Bool := false
  recov : Bool := false
  deriving DecidableEq, Repr, Inhabited

/-- A packet of the part: a reply or an event, its parameters before padding (Table 4.7). -/
structure Pkt where
  seq : Nat := 0
  op : Nat := 0
  flags : Nat := 0
  ch : Nat := 0
  status : Nat := 0
  fid : Nat := 0
  body : List Byte := []
  deriving DecidableEq, Repr, Inhabited

/-- A reply cache entry (R94, R95): the command's sequence, opcode and CRC, and the reply; `full` is false where the
entry keeps the status alone. -/
structure CacheEntry where
  seq : Nat := 0
  op : Nat := 0
  crc : Nat := 0
  reply : Pkt := {}
  full : Bool := true
  cmd : VCmd := {}
  deriving DecidableEq, Repr, Inhabited

/-- One channel (R88, R89). `st`: 0 closed, 1 opening, 2 open. `order` is the order of its last open with EVT, 0 where
EVT was clear (R98). -/
structure Chan where
  st : Nat := 0
  peer : Peer := {}
  base : Nat := 0
  held : List Held := []
  cache : List CacheEntry := []
  order : Nat := 0
  deriving DecidableEq, Repr, Inhabited

/-- An event in the event queue (R98, R99): `rsv` marks a completion event, which holds its reservation until it is
acknowledged; `shown` counts presentations and `last` is the tick of the latest. -/
structure Ev where
  seq : Nat := 0
  op : Nat := 0
  fid : Nat := 0
  body : List Byte := []
  rsv : Bool := false
  shown : Nat := 0
  last : Nat := 0
  deriving DecidableEq, Repr, Inhabited

/-- A packet or window response waiting to leave a host port (R134): its channel if it has one, its bytes, where it
goes, a number that names it, and the switch frames that carry it once it is on its way by UDP. -/
structure OutItem where
  id : Nat := 0
  ch : Option Nat := none
  bytes : List Byte := []
  dst : Peer := {}
  frames : Option (List Nat) := none
  deriving DecidableEq, Repr, Inhabited

/-- One host port (R134, Tables 6.4, 6.8, 6.9): its output queue, the tick since which its head has waited, the bytes of
the head already read, the packet being framed, the transport counters, and the bytes it drove last on its pins. -/
structure HostPort where
  out : List OutItem := []
  headSince : Nat := 0
  rd : Nat := 0
  frame : List Byte := []
  lost : Bool := false
  framing : Nat := 0
  overrun : Nat := 0
  winerr : Nat := 0
  driven : List Byte := []
  begun : Bool := false
  deriving DecidableEq, Repr, Inhabited

/-- One IPv4 reassembly (R141): one per peer at a time. -/
structure Reasm where
  ip : Nat := 0
  ident : Nat := 0
  start : Nat := 0
  parts : List (Nat × List Byte) := []
  total : Option Nat := none
  deriving DecidableEq, Repr, Inhabited

/-- One window (R127, R146): its channel, memory, access, range and staged words (window offset, word). -/
structure Window where
  isOpen : Bool := false
  ch : Nat := 0
  mem : Nat := 0
  ctl : Nat := 0
  rw : Bool := false
  off : Nat := 0
  len : Nat := 0
  staged : List (Nat × Nat) := []
  deriving DecidableEq, Repr, Inhabited

/-- A part-side reservation on a ring (R154): a separate grant of quoin 0x07. `item` is its published item. -/
structure Resv where
  id : Nat := 0
  owner : Owner := .island 0
  idx : Nat := 0
  n : Nat := 0
  gen : Nat := 0
  lease : Nat := 0
  expiry : Nat := 0
  slot : Nat := 0
  src : Nat := 0
  inst : Nat := 0
  done : Bool := false
  data : List Byte := []
  deriving DecidableEq, Repr, Inhabited

/-- One host ring (R150, R154, R155): indices, reservations in order of request, the LOST count of each producer
(source × 256 + instance), skip entries, fault discards, the logical engine that binds a host-to-part ring, and the
generation of its quoin. -/
structure Ring where
  pi : Nat := 0
  ci : Nat := 0
  resv : List Resv := []
  lost : List (Nat × Nat) := []
  skips : Nat := 0
  discards : Nat := 0
  bound : Option Nat := none
  gen : Nat := 0
  deriving DecidableEq, Repr, Inhabited

/-- The command and event machinery of HST (R88 to R102, R120). -/
structure Verind where
  chans : List Chan := List.replicate 8 {}
  events : List Ev := []
  evSeq : Nat := 0
  outstanding : Nat := 0
  unsent : Nat := 0
  arrivals : Nat := 0
  opens : Nat := 0
  resetReq : Option Nat := none
  backlog : List (Nat × Nat × Nat) := []
  deriving DecidableEq, Repr, Inhabited

/-- The host ports, windows and host rings of HST (06). The two latches hold the word address and the half that WIN_DATA wrote or
fetched last (R139). -/
structure Hst where
  ports : List HostPort := List.replicate 3 {}
  winAddr : Nat := 0
  wrLatch : Option (Nat × Nat) := none
  rdLatch : Option (Nat × Nat) := none
  windows : List Window := List.replicate 16 {}
  pimPend : List (Nat × Nat) := []
  mem : Mem := []
  rings : List Ring := List.replicate 32 {}
  reasm : List Reasm := []
  outIds : Nat := 0
  lastUdpMac : Option Nat := none
  deriving DecidableEq, Repr, Inhabited

/-! ## The Almanac, the Typecase, the start and the service set -/

/-- What an Almanac record holds (Tables 7.8, 7.10). The byte layout of the part's own records is open (R592), so a save
header carries the configuration that its group saves, and the other part records carry their length alone. -/
inductive RecBody where
  | user (data : List Byte)
  | save (count retire sgen : Nat) (cfg : RunCfg) (on : List Nat)
  | part
  | commit (count : Nat)
  deriving DecidableEq, Repr, Inhabited

/-- One Almanac record (Table 7.7): TYPE 1 value, 2 commit, 3 working, 4 operation. -/
structure Rec where
  type : Nat := 1
  key : Nat := 0
  seq : Nat := 0
  len : Nat := 0
  flags : Nat := 0
  body : RecBody := .part
  deriving DecidableEq, Repr, Inhabited

/-- One serial memory and its copy (R174 to R180): fitted and usable, NOR or FRAM, capacity, valid, anchor generation
and active region, the journal up to its last commit record, and whether bytes past the journal end are not erased (R180). -/
structure SmCopy where
  fitted : Bool := true
  usable : Bool := true
  fram : Bool := false
  capacity : Nat := 262144
  valid : Bool := false
  blank : Bool := true
  agen : Nat := 0
  active : Nat := 1
  journal : List Rec := []
  dirty : Bool := false
  deriving DecidableEq, Repr, Inhabited

/-- An Almanac operation in progress or waiting (R182 to R191): what it writes, and the command or logical engine that
asked. -/
inductive AlmKind where
  | save
  | write (key : Nat) (data : List Byte)
  | compact
  | working (slot : Nat)
  | oper (num : Nat)
  deriving DecidableEq, Repr, Inhabited

/-- One queued Almanac operation. `le` is the engine that asked through its ports. -/
structure AlmOp where
  kind : AlmKind
  cmd : Option Waiting := none
  le : Option Nat := none
  cfg : RunCfg := {}
  on : List Nat := []
  sgen : Nat := 0
  deriving DecidableEq, Repr, Inhabited

/-- The Almanac (07). `resil` is the memory under catch-up (`false`) or full resilvering (`true`) with the command that
asked; `compacting` marks a compaction in progress. `aonGen` is the restore generation that AON retains, and `restore`
the restore block with its own generation (R172). -/
structure Alm where
  sm : List SmCopy := List.replicate 2 {}
  primary : Option Nat := none
  nextSeq : Nat := 0
  saved : RunCfg := {}
  savedOn : List Nat := []
  saveCount : Nat := 0
  ops : List AlmOp := []
  compacting : Bool := false
  compactCmd : Option Waiting := none
  resil : List (Nat × Bool × Option Waiting) := []
  seqRefused : Bool := false
  changed : Bool := false
  savedSgen : Nat := 0
  patchVersion : Nat := 0
  aonGen : Nat := 0
  restore : Option (RunCfg × List Nat × Nat) := none
  deriving DecidableEq, Repr, Inhabited

/-- The operation on a Typecase bank (R201 to R208): erase or program, its logical and physical sector, page, the tick at
which it last began to run, the run time before that, whether it is suspended and since when, and whether it is the one
retry. -/
structure TypOp where
  erase : Bool := true
  sector : Nat := 0
  phys : Nat := 0
  page : Nat := 0
  began : Nat := 0
  ran : Nat := 0
  suspended : Option Nat := none
  retry : Bool := false
  deriving DecidableEq, Repr, Inhabited

/-- A step of Typecase work: a streamed read, the erase of a logical sector, the program of one page. -/
inductive TypStep where
  | stream
  | erase (bank sector : Nat)
  | prog (bank sector page : Nat) (data : List Byte)
  deriving DecidableEq, Repr, Inhabited

/-- A directory entry of an image slot or patch area (Table 8.6). -/
structure DirSlot where
  st : Nat := 0
  keySlot : Nat := 0
  catalogue : Nat := 0
  version : Nat := 0
  length : Nat := 0
  first0 : Nat := 0
  first1 : Nat := 0
  sha : List Byte := zeros 32
  deriving DecidableEq, Repr, Inhabited

/-- A directory entry of an imposition set (Table 8.6). -/
structure DirSet where
  st : Nat := 0
  mask : Nat := 0
  sgen : Nat := 0
  crcs : List Nat := [0, 0, 0, 0, 0, 0]
  deriving DecidableEq, Repr, Inhabited

/-- A change of the directory that a directory write commits (R209). -/
inductive DirChange where
  | slot (i : Nat) (e : DirSlot)
  | patch (area : Nat) (e : DirSlot)
  | set (i : Nat) (e : DirSet)
  | none
  deriving DecidableEq, Repr, Inhabited

/-- What a piece of Typecase work is for, and so what its steps are and what its end does (R211 to R218). -/
inductive TypGoal where
  | blank (slot : Nat) (mirror : Bool)
  | page (slot page : Nat)
  | check (slot : Nat)
  | copy (slot : Nat)
  | dir (c : DirChange)
  | dirCopy
  | eraseRun (bank first n : Nat)
  | patch (area bank : Nat) (slot : Nat) (e : DirSlot)
  | impos (bank set : Nat) (tables : List (List Byte)) (e : DirSet)
  | refresh (bank sector : Nat)
  | retire (bank phys : Nat)
  deriving DecidableEq, Repr, Inhabited

/-- One piece of Typecase work: the steps left, whether it has begun, the sector under its one retry (R201, R202), and the
command that asked for it. -/
structure TypJob where
  goal : TypGoal
  steps : List TypStep := []
  begun : Bool := false
  retry : Option (Nat × Nat) := none
  cmd : Option Waiting := none
  deriving DecidableEq, Repr, Inhabited

/-- One Typecase bank (R194 to R208, R217): flash bytes at physical addresses, uncorrectable flash words, tallies, the bank
map (logical to physical), retired and dead sectors, spares, the running operation, and the held suspend requests
(logical engine, or 255 for the Compositor). -/
structure TypBank where
  flash : Mem := []
  bad : List Nat := []
  tally : List (Nat × Nat) := []
  map : List Nat := List.range 992
  retired : List Nat := []
  dead : List Nat := []
  spares : List Nat := (List.range 32).map (· + 992)
  op : Option TypOp := none
  requests : List Nat := []
  deriving DecidableEq, Repr, Inhabited

/-- An image slot being written (R126, R211 to R213): its length, extents, the next offset expected, the bytes in the write
buffer, the pages handed to programming, and its phase (1 blanking, 2 taking data, 3 ending). -/
structure Writing where
  slot : Nat := 0
  length : Nat := 0
  first : Nat := 0
  mirror : Nat := 0
  next : Nat := 0
  buf : List Byte := []
  pages : Nat := 0
  phase : Nat := 1
  cmd : Option Waiting := none
  entry : DirSlot := {}
  deriving DecidableEq, Repr, Inhabited

/-- The Typecase (08). `restoreHalf` is the restore half last committed. -/
structure Typ where
  banks : List TypBank := List.replicate 2 {}
  dgen : Nat := 0
  dirCur : List Nat := [1, 1]
  patches : List DirSlot := List.replicate 2 {}
  slots : List DirSlot := List.replicate 64 {}
  sets : List DirSet := List.replicate 2 {}
  writing : List Writing := []
  jobs : List TypJob := []
  restoreHalf : Nat := 1
  deriving DecidableEq, Repr, Inhabited

/-- A fault log record (Table 20.3). -/
structure FaultRec where
  recno : Nat := 0
  tick : Nat := 0
  cls : Nat := 0
  island : Nat := 0
  action : Nat := 0
  cause : Nat := 0
  func : Nat := 0
  gen : Nat := 0
  detail : Nat := 0
  episode : Nat := 0
  deriving DecidableEq, Repr, Inhabited

/-- A self-test in progress: ENGINE_RETURN of a PE or REPAIR of a function (R526, R527). -/
structure SelfTest where
  pe : Option Nat := none
  fid : Nat := 0
  cmds : List Waiting := []
  deriving DecidableEq, Repr, Inhabited

/-- The service set (Table 3.2, R530 to R533): the fault log and the seven counters of Table 20.6. `episode` is the first record
of the fault being answered, with the tick of its detection; `late` holds the fault events that wait, and `holding` says that
the fault events of a fence wait for its end (R69 step 4). -/
structure Svc where
  log : List FaultRec := []
  nextRec : Nat := 0
  overwrites : Nat := 0
  discards : Nat := 0
  corrected : Nat := 0
  uncorrectable : Nat := 0
  migrations : Nat := 0
  retirements : Nat := 0
  revocations : Nat := 0
  cmpRestarts : Nat := 0
  tests : List SelfTest := []
  episode : Option (Nat × Nat) := none
  holding : Bool := false
  late : List (Nat × List Byte) := []
  deriving DecidableEq, Repr, Inhabited

/-- Where the part stands between power and READY (R164 to R168): VDD_AON off; PORST# low; started and before READY; held by the
straps after step 1; in reset after a failed self-test; in HIBERNATE; held for a core rail (R53); running. -/
inductive Phase where
  | aonOff
  | porstLow
  | released
  | hold
  | dead
  | hibernate
  | railBad
  | ready
  deriving DecidableEq, Repr, Inhabited

/-- The start and reset state of the part (07, 22): phase, latched straps, the cause of the next or last start
(Table 5.21), the pins of the reset, and the tick at which PORST# rose or the wake came. -/
structure StartSt where
  phase : Phase := .aonOff
  bootSel : Nat := 0
  hostSel : Nat := 0
  cause : Nat := 0
  porstHigh : Bool := false
  resetOutHigh : Bool := false
  since : Nat := 0
  bankClass : List Nat := [0, 0, 0, 0]
  osc32k : Bool := false
  refPresent : Bool := true
  refXtal : Bool := true
  supplyBad : List Bool := [false, false, false, false]
  trstLow : Bool := true
  deriving DecidableEq, Repr, Inhabited

/-- An event that waits while the Compositor restarts: one of Table 5.21, or the completion of a command (R110). -/
inductive HeldEvent where
  | event (op fid : Nat) (body : List Byte)
  | completion (w : Waiting) (status : Nat) (payload : List Byte)
  deriving DecidableEq, Repr

/-- The Compositor (R44, R61, R73): restarting, heartbeats missed in a row, tick of the fault, what was latched, and the events
that wait for the end of the restart, in the order in which they arose. -/
structure Cmp where
  restarting : Bool := false
  missed : Nat := 0
  since : Nat := 0
  latched : List (Nat × Nat) := []
  events : List HeldEvent := []
  deriving DecidableEq, Repr, Inhabited

/-! ## Engines, plates and PIM -/

/-- A cached PIM line (R238): its PIM line number, whether it is Owned (else Shared), its line generation, data and the
count of its last use. -/
structure CLine where
  line : Nat := 0
  owned : Bool := false
  gen : Nat := 0
  data : List Byte := []
  used : Nat := 0
  deriving DecidableEq, Repr, Inhabited

/-- An eviction buffer entry (R241). -/
structure EvLine where
  line : Nat := 0
  gen : Nat := 0
  data : List Byte := []
  consumed : Bool := false
  deriving DecidableEq, Repr, Inhabited

/-- A snapshot of the time ports (R246), or a time reading in general. -/
structure TimeSnap where
  tick : Nat := 0
  sec : Nat := 0
  ns : Nat := 0
  epoch : Nat := 0
  quality : Nat := 0
  deriving DecidableEq, Repr, Inhabited

/-- One engine timer (Table 9.8): the ports as written and the armed target (`armed` while a compare can fire). -/
structure Timer where
  ctl : Word := 0#32
  cmpLo : Word := 0#32
  cmpHi : Word := 0#32
  cmpEp : Word := 0#32
  period : Word := 0#32
  capLo : Word := 0#32
  capHi : Word := 0#32
  stat : Word := 0#32
  armed : Bool := false
  target : Nat := 0
  tEpoch : Nat := 0
  deriving DecidableEq, Repr, Inhabited

/-- One quoin slot of a logical engine (QSTAT, Table 9.5). `st`: 0 none, 1 granted, 2 queued, 3 refused. -/
structure QSlot where
  st : Nat := 0
  kind : Nat := 0
  inst : Nat := 0
  gen : Nat := 0
  deriving DecidableEq, Repr, Inhabited

/-- The selectors of the unit port groups (18, 15, 16), one set per engine. -/
structure UnitSel where
  sel : List Nat := List.replicate 32 0
  deriving DecidableEq, Repr, Inhabited

/-- The architectural core of an engine (R227): g0 to g15, pc and the flags word. -/
structure Regs where
  g : List Word := List.replicate 16 0#32
  pc : Nat := 0
  n : Bool := false
  z : Bool := false
  c : Bool := false
  v : Bool := false
  t : Bool := false
  deriving DecidableEq, Repr, Inhabited

/-- The ports of the engine island (Table 9.5). `raised` gathers the events raised since the last cut (R294). -/
structure EPorts where
  psn : Bool := false
  ovr : Bool := false
  pend : Word := 0#32
  mask : Word := 0#32
  snap : TimeSnap := {}
  lastTick : Nat := 0
  domSel : Nat := 0
  tmr : List Timer := List.replicate 4 {}
  wdPeriod : Nat := 10000
  wdKick : Nat := 0
  wdHalf : Bool := false
  qlease : Nat := 0
  qsel : Nat := 0
  plateSel : Nat := 0
  paramAddr : Nat := 0
  rxAddr : Nat := 0
  rxPosted : List (Nat × Nat × Nat) := []
  rxNext : Nat := 0
  rxDone : List (Nat × Nat) := []
  txAddr : Nat := 0
  txOut : List Nat := []
  typSusp : Nat := 0
  almKey : Nat := 0
  almAddr : Nat := 0
  almLen : Nat := 0
  almCtl : Nat := 0
  almStat : Nat := 0
  raised : Word := 0#32
  deriving DecidableEq, Repr, Inhabited

/-- What stalls an engine (R275, R276); `held` is a spare whose outputs are not live yet between a handover and the takeover
(R294, R295). -/
inductive Stall where
  | none
  | wait
  | waitu (target scale : Nat)
  | held
  deriving DecidableEq, Repr, Inhabited

/-- One physical engine. `status` is ENGINE_STATUS byte 0 (0 free, 1 bound, 2 spare, 3 in step, 4 fenced, 5 out of
service); `running` while it executes code; `le` the logical engine it runs or shadows. -/
structure Pe where
  status : Nat := 0
  le : Option Nat := none
  running : Bool := false
  div : Nat := 16
  faults : Nat := 0
  regs : Regs := {}
  iram : Mem := []
  dram : Mem := []
  cache : List CLine := []
  evb : List EvLine := []
  uses : Nat := 0
  stall : Stall := .none
  ports : EPorts := {}
  sel : UnitSel := {}
  deriving DecidableEq, Repr, Inhabited

/-- One sealed cycle of a shadow log (R288): the bytes of its entries and the tick of the cut that sealed it. -/
structure Sealed where
  bytes : Nat := 0
  at_ : Nat := 0
  deriving DecidableEq, Repr, Inhabited

/-- The state of a logical engine at its last cut (R287, R295), to which a spare in step replays, with the quoins held then
(kind, instance, lease, slot). -/
structure Snap where
  regs : Regs := {}
  dram : Mem := []
  ports : EPorts := {}
  sel : UnitSel := {}
  stall : Stall := .none
  quoins : List (Nat × Nat × Nat × Nat) := []
  deriving DecidableEq, Repr, Inhabited

/-- One logical engine (11): the physical engine that runs it and the one that is armed for it, the slot, home domain and
watchdog period of the image that runs, its quoin slots, the active copy of its parameter block with PGEN and whether a change
waits for the meridian, the spare's progress (`joining`: 0 not loaded, 1 loading, 2 loaded, 3 copying, 4 replaying), the state
at the last cut, the bytes logged in the present cycle and in the sealed ones, replays in time in a row, a planned migration
(command and target), a takeover that waits (1 planned, 2 after a fault; the old physical engine), the fault episode that it
ends, the SPARE_ARM that waits, whether a cut is due, and whether its image is loading. -/
structure Le where
  pe : Option Nat := none
  spare : Option Nat := none
  image : Nat := 0
  dom : Nat := 0xFF
  entry : Nat := 0
  qslots : List QSlot := List.replicate 16 {}
  params : Mem := []
  pgen : Nat := 0
  stagedParam : Bool := false
  joining : Nat := 0
  snap : Option Snap := none
  logged : Nat := 0
  sealed : List Sealed := []
  inTime : Nat := 0
  migrate : Option (Waiting × Nat) := none
  takeover : Option (Nat × Nat) := none
  episode : Option (Nat × Nat) := none
  armCmd : Option Waiting := none
  cutDue : Bool := false
  loading : Bool := false
  deriving DecidableEq, Repr, Inhabited

/-- A directory entry of a PIM line (R239): state 0 Uncached, 1 Shared, 2 Owned. Lines without an entry are Uncached at
generation 0. -/
structure DirLine where
  line : Nat := 0
  st : Nat := 0
  sharers : List Nat := []
  owner : Nat := 0
  gen : Nat := 0
  deriving DecidableEq, Repr, Inhabited

/-- One plate (R233 to R237): storage base, size, domain (none: explicit commit), the declaring logical engine, and which
of its three buffers is committed, written and previous. -/
structure Plate where
  declared : Bool := false
  declarer : Option Nat := none
  base : Nat := 0
  size : Nat := 0
  dom : Option Nat := none
  com : Nat := 0
  wr : Nat := 1
  prev : Nat := 2
  ready : Bool := false
  recalling : Bool := false
  commitAsked : Bool := false
  miss : Nat := 0
  ccount : Nat := 0
  deriving DecidableEq, Repr, Inhabited

/-- Engines and process image memory. -/
structure Eng where
  pes : List Pe := List.replicate 14 {}
  les : List Le := List.replicate 12 {}
  pim : Mem := []
  dir : List DirLine := []
  plates : List Plate := List.replicate 64 {}
  deriving DecidableEq, Repr, Inhabited

/-! ## Keys and the debug lock -/

/-- What the part keeps of security (21): the revocation bits of the eight key slots, slots unreadable at this start, the
current challenge with its tick of issue, whether the debug lock is open, and the tick of the last failed response. -/
structure Sec where
  revoked : List Bool := List.replicate 8 false
  bad : List Nat := []
  challenge : Option (List Byte × Nat) := none
  unlocked : Bool := false
  lastFail : Option Nat := none
  deriving DecidableEq, Repr, Inhabited

/-! ## The switch core and the MACs (12, 13) -/

/-- An address-table entry (R307, R309): address, VID, port mask, static, and the tick at which its age was 0. -/
structure FdbEnt where
  mac : Nat := 0
  vid : Nat := 0
  mask : Nat := 0
  static : Bool := false
  since : Nat := 0
  deriving DecidableEq, Repr, Inhabited

/-- A frame held in slugs (R312): its bytes as received, destination address to FCS, its class, VID, ingress port and
ingress stamp, its slugs, and whether it is a class 7 frame copied for a mirror. -/
structure SwFrame where
  id : Nat := 0
  bytes : List Byte := []
  cls : Nat := 0
  vid : Nat := 0
  ing : Nat := 0
  stamp : Nat := 0
  slugs : List Nat := []
  express : Bool := false
  deriving DecidableEq, Repr, Inhabited

/-- A frame waiting in a galley: its place in order of entry, the frame's number, the mirror session whose copy it is with the bytes it sends, or the time
service's MAC. -/
structure GEnt where
  no : Nat := 0
  frame : Nat := 0
  mirror : Option Nat := none
  raw : List Byte := []
  deriving DecidableEq, Repr, Inhabited

/-- A class 7 frame in a crosspoint (R318): its bytes so far, whether it is whole, whether its end proved bad, and whether
its transmission has begun. -/
structure XEnt where
  id : Nat := 0
  bytes : List Byte := []
  vid : Nat := 0
  stamp : Nat := 0
  whole : Bool := false
  began : Bool := false
  src : Nat := 0
  deriving DecidableEq, Repr, Inhabited

/-- The frame arriving at a switch port after its classification point (R302): its first bytes, class, VID, destination
mask of SP0 to SP5, the logical engine or host ring it is steered to, and the drops decided. -/
structure RxFrame where
  id : Nat := 0
  head : List Byte := []
  cls : Nat := 0
  vid : Nat := 0
  dests : Nat := 0
  toLe : Option Nat := none
  toRing : Option Nat := none
  toHost : Bool := false
  dropped : Bool := false
  stamp : Nat := 0
  deriving DecidableEq, Repr, Inhabited

/-- What a MAC is transmitting: the bytes on the wire, class, ingress port, the tick at which the first bit left, the frame
number in slugs or in its crosspoint, and what kind it is (0 frame from a galley, 1 class 7 frame, 2 pause frame). -/
structure TxFrame where
  kind : Nat := 0
  bytes : List Byte := []
  cls : Nat := 0
  ing : Nat := 0
  start : Nat := 0
  frame : Nat := 0
  mirror : Option Nat := none
  aborted : Bool := false
  deriving DecidableEq, Repr, Inhabited

/-- A mirror session's counters (R328 to R330). -/
structure MirrorSt where
  sent : Nat := 0
  dropped : Nat := 0
  deriving DecidableEq, Repr, Inhabited

/-- A proof sampler (R331 to R333): its two counts, its counters and the bytes of proofs waiting in its buffer. -/
structure ProofSt where
  cin : Nat := 0
  cout : Nat := 0
  sent : Nat := 0
  dropped : Nat := 0
  used : Nat := 0
  deriving DecidableEq, Repr, Inhabited

/-- The switch core (SWC, FWD-A, FWD-B): address table by index, frames in slugs, galleys p × 8 + c, crosspoints
in × 8 + out, deficits and turns of the schedulers, draining banks with the commands that wait, the counters of
Table 12.3 by port × 8 + class, the active pipe and the pipes being reloaded, the open classes of each port, the
gates shut by a restart (12, After a fault), and the galley settings in force (R323: a gated change waits for the meridian). -/
structure Swc where
  fdb : List (Nat × FdbEnt) := []
  frames : List SwFrame := []
  ids : Nat := 0
  galleys : List (List GEnt) := List.replicate 64 []
  xps : List (List XEnt) := List.replicate 64 []
  deficit : List Nat := List.replicate 64 0
  xTurn : List Nat := List.replicate 8 7
  gTurn : List Nat := List.replicate 8 7
  lastBank : Nat := 7
  draining : Nat := 0
  bankCmds : List (Nat × Waiting) := []
  fwd : List Nat := List.replicate 64 0
  adm : List Nat := List.replicate 64 0
  full : List Nat := List.replicate 64 0
  pipe : Nat := 0
  reload : List Bool := [false, false]
  switchover : Option (Nat × Waiting) := none
  rx : List (Option RxFrame) := List.replicate 8 none
  gates : List Nat := List.replicate 8 255
  shut : Bool := false
  gal : List GalleyCfg := List.replicate 64 {}
  mirrors : List MirrorSt := List.replicate 4 {}
  proofs : List ProofSt := List.replicate 8 {}
  deriving DecidableEq, Repr, Inhabited

/-- One MAC pair ERXn, ETXn (13): link state, pause state, the pause frame waiting, the hold, the counters of Table 13.6,
the frame in transmission and the last frame that left whole. `downAt` is the tick at which its port went down and
`expired` says that the link-down hold has run out (R59), as for a port that has not been up. -/
structure Mac where
  linkUp : Bool := false
  downAt : Nat := 0
  expired : Bool := true
  asserted : Bool := false
  lastPause : Nat := 0
  pausePend : Option Nat := none
  holdFrom : Nat := 0
  holdTo : Option Nat := none
  counters : List Nat := List.replicate 14 0
  heldNs : Nat := 0
  tx : Option TxFrame := none
  sent : List Byte := []
  deriving DecidableEq, Repr, Inhabited

/-! ## The Orrery and the time service (17) -/

/-- A step of Orrery time that waits for its instant (R436, R443, R444): the tick of the instant, the correction in ns, or
the time that TIME_STEP gives with its command. -/
structure StepPend where
  at_ : Nat := 0
  corr : Int := 0
  target : Option Nat := none
  cmd : Option Waiting := none
  deriving DecidableEq, Repr, Inhabited

/-- One transit pulse output (R446, R447): its level, whether a pulse is in progress, the value of P at its leading edge, and
the configuration in force with the one that waits. -/
structure Pulse where
  high : Bool := false
  active : Bool := false
  leadP : Nat := 0
  cfg : PulseCfg := {}
  next : Option PulseCfg := none
  deriving DecidableEq, Repr, Inhabited

/-- One event input (R449, R450): the tick of its last captured edge and MISS. -/
structure EvIn where
  last : Option Nat := none
  miss : Nat := 0
  deriving DecidableEq, Repr, Inhabited

/-- The master followed (R459, R464): the identity of TIME_STATUS, the loss time in ns, the port that names it, and what its last
Announce gives of the grandmaster, which a boundary clock or relay passes on (R454, R455). -/
structure Master where
  ident : Nat := 0
  loss : Nat := 0
  port : Nat := 0
  announce : List Byte := []
  deriving DecidableEq, Repr, Inhabited

/-- ORR and the time service (17). Orrery time is `ns` at tick `at_` and advances at the disciplined rate `rate`
(in 10⁻¹² of the tick) and the slew (in 10⁻¹²) up to tick `slewEnd`. The pulse timescale reads `pns` at tick `pAt` and
walks with the sign `walk`. -/
structure Orr where
  at_ : Nat := 0
  ns : Nat := 0
  epoch : Nat := 0
  quality : Nat := 0
  rate : Int := 0
  slew : Int := 0
  slewEnd : Nat := 0
  pAt : Nat := 0
  pns : Nat := 0
  walk : Int := 0
  step : Option StepPend := none
  master : Option Master := none
  lastMaster : Option Nat := none
  recent : List (Nat × Int) := []
  ready : Bool := false
  offsets : List Nat := []
  lastOffset : Int := 0
  pathDelay : Nat := 0
  lastAcc : Option Nat := none
  lastSignal : Nat := 0
  occ : Bool := false
  grand : Bool := false
  refLost : Bool := false
  syncs : List (Nat × Nat) := []
  ptpSeq : List (Nat × Nat) := []
  peerDelay : List Nat := List.replicate 6 0
  pulses : List Pulse := List.replicate 2 {}
  evs : List EvIn := List.replicate 4 {}
  deriving DecidableEq, Repr, Inhabited

/-! ## Forme rings, imposition and time-triggered buses (18) -/

/-- One slice of a ring node: FR_SLADDR, FR_SLCTL and FR_SLOFS. -/
structure Slice where
  addr : Nat := 0
  ctl : Nat := 0
  ofs : Nat := 0
  deriving DecidableEq, Repr, Inhabited

/-- A launch list entry: FR_LENT and FR_LOFS. -/
structure LaunchEnt where
  lent : Nat := 0
  lofs : Nat := 0
  deriving DecidableEq, Repr, Inhabited

/-- A forme ring (FRP-A, FRP-B): FR_STAT's fields (START 0 running, 1 claiming, 2 integrating; RING 0 closed, 1 healed,
2 broken), the unit group of Table 18.9, and the state of launch, return, claim and integration. -/
structure Fr where
  isMaster : Bool := false
  isActive : Bool := false
  start : Nat := 2
  ring : Nat := 0
  loopE : Bool := false
  loopO : Bool := false
  clmEq : Bool := false
  tbad : Bool := false
  lock : Bool := false
  run : Bool := false
  evt : Nat := 0
  emask : Nat := 0
  tmpl : List Nat := [0, 0, 0, 0]
  slices : List Slice := List.replicate 32 {}
  chase : List (Nat × Nat) := List.replicate 8 (1, 0)
  tplate : Nat := 0
  launch : List LaunchEnt := List.replicate 32 {}
  lcnt : Nat := 0
  xwkc : List Nat := List.replicate 32 0xFFFF
  mdly : Nat := 0
  missed : Nat := 0
  mism : Nat := 0
  rttE : Nat := 0
  rttO : Nat := 0
  processed : Option Nat := none
  substitutes : Nat := 0
  lastMer : Nat := 0
  listening : Option Nat := none
  claimReturns : Nat := 0
  claimBack : Bool := false
  merDue : Option Nat := none
  lastForme : Option Nat := none
  launched : List Byte := []
  copies : List (Nat × Nat × List Byte) := []
  awaiting : Bool := false
  sent : List (List Byte) := []
  master0 : Nat := 0
  deriving DecidableEq, Repr, Inhabited

/-- One time-triggered domain (R489 to R493): FR-A, FR-B, MB0 to MB3: its active and standby tables, each 256 entries of
16 bytes, the switch that waits (meridians left, command, logical engine), MCOUNT, the tick of the last meridian, and
whether its imposition has started. `committed` is the standby table's last committed contents (Table 3.5). -/
structure Domain where
  active : Mem := [(4, 0x0F#8)]
  standby : Mem := [(4, 0x0F#8)]
  committed : Mem := [(4, 0x0F#8)]
  pendN : Option Nat := none
  pendCmd : Option Waiting := none
  pendLe : Option Nat := none
  mcount : Nat := 0
  last : Nat := 0
  started : Bool := false
  next : Nat := 1
  deriving DecidableEq, Repr, Inhabited

/-- The time-triggered state of one multidrop controller (R496 to R500, Table 18.10). -/
structure Tt where
  st : Nat := 0
  cycle : Nat := 0
  ccount : Nat := 0
  miss : Nat := 0
  gviol : Nat := 0
  good : Nat := 0
  lastRef : Nat := 0
  expected : Nat := 0
  window : Option (Nat × Nat × Nat) := none
  pend : Bool := false
  deriving DecidableEq, Repr, Inhabited

/-! ## Multidrop controllers (14, 15) -/

/-- A received frame (Table 15.3). -/
structure MbFrame where
  ident : Nat := 0
  ide : Bool := false
  rtr : Bool := false
  fdf : Bool := false
  brs : Bool := false
  esi : Bool := false
  slp : Bool := false
  dlc : Nat := 0
  data : List Byte := []
  stamp : Nat := 0
  deriving DecidableEq, Repr, Inhabited

/-- A transmit request (R405): the copy of the object's content, whether its frame has begun, and whether it is withdrawn
once it ends. -/
structure MbReq where
  content : List Byte := []
  begun : Bool := false
  withdrawn : Bool := false
  sof : Nat := 0
  deriving DecidableEq, Repr, Inhabited

/-- A message object (Tables 15.3, 15.4): its bytes 4 to 79, the flags of word 0, the lock (reader: logical engine 0 to 11, or
16 plus the window; and the tick at which it was taken), the shadow with its lost mark, and the requests. -/
structure MbObj where
  content : List Byte := zeros 76
  new : Bool := false
  lost : Bool := false
  lexp : Bool := false
  txok : Bool := false
  wdrn : Bool := false
  upd : Nat := 0
  lock : Option (Nat × Nat) := none
  shadow : Option (List Byte × Bool) := none
  req : Option MbReq := none
  wait : Option MbReq := none
  deriving DecidableEq, Repr, Inhabited

/-- A rate detection (R379 to R381): the command, its start and timeout, the nominal candidate with its count, the tick of
nominal acceptance, the data candidate with its count, and whether a BRS frame was seen. -/
structure MbDetect where
  cmd : Waiting := {}
  start : Nat := 0
  stop : Nat := 0
  cand : Option Nat := none
  count : Nat := 0
  accepted : Option Nat := none
  dcand : Nat := 0
  dcount : Nat := 0
  brsSeen : Bool := false
  deriving DecidableEq, Repr, Inhabited

/-- A multidrop controller (14, 15): error counters, state, last error, frame counts, its events, the objects, the open ring
(bytes at entry × 80), the stamp counter's origin, sleep, and detection. -/
structure Mb where
  tec : Nat := 0
  recn : Nat := 0
  busOff : Bool := false
  integ : Bool := false
  lastErr : Nat := 0
  rxcnt : Nat := 0
  txcnt : Nat := 0
  evt : Nat := 0
  emask : Nat := 0
  xtick : Nat := 0
  origin : Nat := 0
  objs : List MbObj := List.replicate 128 {}
  ring : Mem := []
  pi : Nat := 0
  ci : Nat := 0
  overrun : Nat := 0
  lostc : Nat := 0
  asleep : Bool := false
  sleepBuf : List MbFrame := []
  errRun : Nat := 0
  detect : Option MbDetect := none
  deriving DecidableEq, Repr, Inhabited

/-! ## Serial line units (16) -/

/-- A receive FIFO entry (Table 16.6). -/
structure SlEnt where
  gap : Nat := 0
  brk : Bool := false
  fe : Bool := false
  pe : Bool := false
  data : Nat := 0
  deriving DecidableEq, Repr, Inhabited

/-- A serial line unit (16): FIFOs, the unit group's registers, address selection, the instant of the last stop bit's end with
the thresholds already raised in this idle period, DE, the character in progress with its start instant, the instant at which
the waiting character starts, the instant at which DE falls, and the counters that SL_STATUS returns. `drainAt` is the tick at which DRAINING began, after which no start bit is taken. `shut` says that the
receiver takes no start bit until RXD has been high (R415, R419). Instants are in ns. `lead` is the lead in force (R418). -/
structure Sl where
  rxf : List SlEnt := []
  txf : List (Nat × Nat) := []
  ctl : Nat := 4
  selected : Bool := false
  evt : Nat := 0
  emask : Nat := 0
  amatch : Nat := 0
  gapA : Nat := 0
  gapB : Nat := 0
  idleFrom : Nat := 0
  firedA : Bool := false
  firedB : Bool := false
  de : Bool := false
  cur : Option (Nat × Nat) := none
  startAt : Option Nat := none
  fallAt : Option Nat := none
  lag : Nat := 0
  lead : Nat := 0
  parity : Nat := 0
  framing : Nat := 0
  overruns : Nat := 0
  lastGap : Nat := 0
  shut : Bool := true
  breakShut : Bool := false
  drainAt : Option Nat := none
  deriving DecidableEq, Repr, Inhabited
/-! ## Power states, alarm and AON (19, 23) -/

/-- The alarm (R513): relative alarms name a tick, absolute ones Orrery nanoseconds since second 0 and an epoch. -/
structure Alarm where
  absolute : Bool := false
  at_ : Nat := 0
  epoch : Nat := 0
  deriving DecidableEq, Repr, Inhabited

/-- Power (19): the state (0 RUN to 4 HIBERNATE), the tick at which a leave of NAP or SLUMBER completes, the source of the
last wake event, each channel's host deadline, the alarm, the ns spent in each state with the instant since which the present
one counts, the WAKE levels, PWR_EN with the tick of its last change, the tick at which it is to rise, rail attempts not yet
reported, the wake event to send after READY, and the islands gated by the present state. -/
structure Pwr where
  st : Nat := 0
  leaving : Option Nat := none
  lastWake : Nat := 0
  deadlines : List (Option Nat) := List.replicate 8 none
  alarm : Option Alarm := none
  times : List Nat := List.replicate 5 0
  since : Nat := 0
  wakePins : List Bool := List.replicate 4 false
  pwrEn : Bool := false
  enSince : Nat := 0
  raiseAt : Option Nat := none
  attempts : Nat := 0
  wakeEvent : Option (Nat × Nat × Nat) := none
  deriving DecidableEq, Repr, Inhabited

/-! ## The TAP and the boundary register (22) -/

/-- The TAP (R548, R564, R565), which has its own clock and stands beside the rest of the part: the instruction selected, the bytes
that its data register captured last, the boundary register from the cell next to TDI on, DBG_ADDR, and the record index of
DBG_FLOG. -/
structure Tap where
  ir : Nat := 2
  dr : List Byte := []
  boundary : List Bool := List.replicate 300 false
  dbgAddr : Nat := 0
  flogIndex : Nat := 0
  deriving DecidableEq, Repr, Inhabited
/-! ## The fixed tables -/

/-- The islands of Table 2.2 in ID order. -/
def islandIds : List Nat :=
  [0x00, 0x01, 0x02, 0x03, 0x04, 0x05, 0x06, 0x07, 0x08, 0x09, 0x0A, 0x0B, 0x0C, 0x0F] ++
  [0x10, 0x11, 0x12, 0x13, 0x14, 0x15, 0x18, 0x19, 0x1A, 0x1B, 0x1C, 0x1D] ++
  [0x20, 0x21, 0x22, 0x23, 0x24, 0x25, 0x26, 0x27] ++
  [0x30, 0x31, 0x32, 0x33, 0x34, 0x35, 0x36, 0x37, 0x38, 0x39, 0x3A, 0x3B, 0x3C, 0x3D]

/-- Every island in reset (Table 2.7: STATE resets to 0x1). -/
def islandTable : List Island := islandIds.map (fun i => { id := i })

/-- The MAC, multidrop, serial line and engine islands. -/
def etxIds : List Nat := [0x10, 0x11, 0x12, 0x13, 0x14, 0x15]
def erxIds : List Nat := [0x18, 0x19, 0x1A, 0x1B, 0x1C, 0x1D]
def mbIds : List Nat := [0x20, 0x21, 0x22, 0x23]
def slIds : List Nat := [0x24, 0x25, 0x26, 0x27]
def peIds : List Nat := [0x30, 0x31, 0x32, 0x33, 0x34, 0x35, 0x36, 0x37, 0x38, 0x39, 0x3A, 0x3B, 0x3C, 0x3D]

/-- Crossings from each island of `xs` to each of `ys`. -/
def crossAll (xs ys : List Nat) : List Crossing :=
  xs.flatMap (fun x => ys.map (fun y => { a := x, b := y }))

/-- Crossings that carry a value from `x` to each of `ys`. -/
def valueTo (x : Nat) (ys : List Nat) : List Crossing := ys.map (fun y => { a := x, b := y, valB := true })

/-- The crossings of Table 2.4, closed at generation 0 before a start. CMP-A and CMP-B are one partner, CMP-A. -/
def crossingTable : List Crossing :=
  crossAll [0x01] (islandIds.filter (fun i => i != 0x01 && i != 0x02 && i != 0x03 && i != 0x0F)) ++
  [{ a := 0x01, b := 0x03, valA := true }, { a := 0x03, b := 0x00, valA := true, valB := true }] ++
  valueTo 0x03 (etxIds ++ erxIds ++ mbIds ++ [0x0B, 0x0C, 0x08] ++ peIds) ++
  erxIds.map (fun x => { a := x, b := x - 8, valA := true, valB := true }) ++
  crossAll [0x08] (erxIds ++ etxIds ++ [0x09, 0x0A] ++ peIds ++ [0x04]) ++
  crossAll [0x0B, 0x0C] [0x18, 0x19, 0x1A, 0x1B, 0x10, 0x11, 0x12, 0x13, 0x07] ++
  crossAll peIds ([0x07, 0x06, 0x04, 0x0B, 0x0C] ++ mbIds ++ slIds) ++
  crossAll [0x04] ([0x07] ++ mbIds) ++
  [{ a := 0x0F, b := 0x01, valA := true, valB := true }]

/-- The default lease of each quoin kind (Table 3.4) in µs, in cycles for kind 4. -/
def quoinRow (kind n : Nat) : List Quoin := (List.range n).map (fun i => { kind := kind, inst := i })

/-- Every quoin of Table 3.4 but those of kind 0x07, which are granted one per reservation (R154). -/
def quoinTable : List Quoin :=
  quoinRow 1 1 ++ quoinRow 2 1 ++ quoinRow 3 2 ++ quoinRow 4 64 ++ quoinRow 5 512 ++ quoinRow 6 4 ++
  quoinRow 8 16 ++ quoinRow 9 6 ++
  [0x00, 0x01, 0x10, 0x11, 0x12, 0x13, 0x20, 0x21, 0x22, 0x23].map (fun i => { kind := 0x0A, inst := i })

/-- The function IDs of Table 4.9 that have a lifecycle, in order. -/
def funcIds : List Nat :=
  (List.range 6).map (· + 0x0100) ++ (List.range 4).map (· + 0x0200) ++ (List.range 4).map (· + 0x0300) ++
  (List.range 12).map (· + 0x0400) ++ (List.range 2).map (· + 0x0500) ++ [0x0600] ++
  (List.range 4).map (· + 0x0700) ++ (List.range 8).map (· + 0x0800) ++ (List.range 32).map (· + 0x0900)

/-- Every function OFF, generation 0 (Table 4.5). -/
def funcTable : List Func := funcIds.map (fun f => { fid := f })

/-! ## The whole part -/

/-- Everything the spec gives the TZ-880, but for its TAP and the queue of waiting commands. `tick` is the monotonic tick in ns
(R429). `free` counts the free values drawn so far (the model's own field). -/
structure Dev where
  tick : Nat := 0
  free : Nat := 0
  islands : List Island := islandTable
  crossings : List Crossing := crossingTable
  toggles : List Toggle := []
  quoins : List Quoin := quoinTable
  funcs : List Func := funcTable
  cmp : Cmp := {}
  start : StartSt := {}
  cfg : RunCfg := {}
  verind : Verind := {}
  hst : Hst := {}
  alm : Alm := {}
  typ : Typ := {}
  svc : Svc := {}
  eng : Eng := {}
  sec : Sec := {}
  swc : Swc := {}
  macs : List Mac := List.replicate 6 {}
  orr : Orr := {}
  frs : List Fr := List.replicate 2 {}
  doms : List Domain := List.replicate 6 {}
  tts : List Tt := List.replicate 4 {}
  mbs : List Mb := List.replicate 4 {}
  sls : List Sl := List.replicate 4 {}
  pwr : Pwr := {}
  deriving DecidableEq, Repr, Inhabited

/-- The machine: the part, its TAP, and the queue of commands that wait, first in, first out. -/
structure State where
  dev : Dev := {}
  tap : Tap := {}
  pending : List Instr := []
  deriving DecidableEq, Repr, Inhabited

/-- Where the machine stops with a fault. -/
inductive Fault where
  /-- Raised by PORST_ASSERT: a low of 1 to 10 µs, for which R578 gives no outcome. Safe: the machine stops where the
  part goes on in a way that the spec does not give. -/
  | porstWidth
  deriving DecidableEq, Repr

/-- Where a command has no meaning in the model. -/
inductive Refusal where
  /-- Raised by a row whose meaning is not written. Safe: nothing is said of it. -/
  | notModelled (mnemonic : String)
  deriving DecidableEq, Repr

/-- The machine at the beginning of VDD_AON power-on: every register at its reset value, no command waiting. -/
def State.reset : State := {}

end Sys2Proof.Machine
end

