-- ==== Sys2Proof/Machine/Flags.lean ====
section
/-! DEFINITION. Every flag computation of the engine (R262, R263): addition, subtraction, results of logic, and the condition codes. -/

namespace Sys2Proof.Machine

/-- A result with the carry and overflow of an addition `x + y + c` (R262). -/
def addC (x y : Word) (c : Bool) : Word × Bool × Bool :=
  let r := x + y + (if c then 1#32 else 0#32)
  (r, decide (2 ^ 32 ≤ x.toNat + y.toNat + (if c then 1 else 0)), (x.msb == y.msb) && (r.msb != x.msb))

/-- A result with C (1 for no borrow) and overflow of a subtraction `x − y − b` (R262). -/
def subB (x y : Word) (b : Bool) : Word × Bool × Bool :=
  let r := x - y - (if b then 1#32 else 0#32)
  (r, decide (y.toNat + (if b then 1 else 0) ≤ x.toNat), (x.msb != y.msb) && (r.msb != x.msb))

/-- All four flags from an addition or subtraction. -/
def Regs.flags4 (g : Regs) (r : Word × Bool × Bool) : Regs :=
  { g with n := r.1.msb, z := r.1 == 0#32, c := r.2.1, v := r.2.2 }

/-- N and Z from a result; C and V stay. -/
def Regs.flagsNZ (g : Regs) (r : Word) : Regs := { g with n := r.msb, z := r == 0#32 }

/-- The base test of a condition code, bits 2:0 (Table 10.4). -/
def Regs.baseCond (g : Regs) : Nat → Bool
  | 0 => g.z
  | 1 => g.n
  | 2 => g.c
  | 3 => g.v
  | 4 => g.c && !g.z
  | 5 => g.n != g.v
  | 6 => g.z || (g.n != g.v)
  | _ => g.t

/-- A condition code: bit 3 inverts the base test (R263). -/
def Regs.cond (g : Regs) (code : Nat) : Bool :=
  if 8 ≤ code then !(g.baseCond (code - 8)) else g.baseCond code

end Sys2Proof.Machine
end

