-- ==== Sys2Proof/Machine/Operands.lean ====
section
/-! DEFINITION. Every operand form of the engine's instructions (R260, R261) and the results of Tables 10.5 to 10.8: registers, immediates,
shifts, bit fields and the CRC step. -/

namespace Sys2Proof.Machine

/-! ## Registers and immediates -/

/-- A register's value; g0 reads as 0 (R227). -/
def Regs.get (g : Regs) (r : Nat) : Word := if r == 0 then 0#32 else g.g.getD r 0#32

/-- Writes a register; a write to g0 is discarded (R227). -/
def Regs.set (g : Regs) (r : Nat) (v : Word) : Regs := if r == 0 then g else { g with g := upd g.g r (fun _ => v) }

/-- A signed immediate. -/
def simm {w : Nat} (i : BitVec w) : Word := i.signExtend 32

/-- An unsigned immediate. -/
def uimm {w : Nat} (i : BitVec w) : Word := i.setWidth 32

/-! ## Shifts and bit operations (Tables 10.5, 10.6) -/

def sllW (x : Word) (n : Nat) : Word := x <<< n
def srlW (x : Word) (n : Nat) : Word := x >>> n
def sraW (x : Word) (n : Nat) : Word := x.sshiftRight n
def rorW (x : Word) (n : Nat) : Word := x.rotateRight n

/-- The shift count of the register forms: rs2 bits 4:0. -/
def shCount (x : Word) : Nat := x.toNat % 32

/-- A mask of `b + 1` ones. -/
def fieldMask (b : Nat) : Word := BitVec.ofNat 32 (2 ^ (b + 1) - 1)

/-- BFX: bits (a + b):a, zero-extended. -/
def bfx (x : Word) (a b : Nat) : Word := (x >>> a) &&& fieldMask b

/-- BFXS: bits (a + b):a, sign-extended. -/
def bfxs (x : Word) (a b : Nat) : Word := (x <<< (31 - (a + b))).sshiftRight (31 - b)

/-- BFI: `y` with bits (a + b):a replaced by `x` bits b:0. -/
def bfi (x y : Word) (a b : Nat) : Word :=
  (y &&& ~~~(fieldMask b <<< a)) ||| ((x &&& fieldMask b) <<< a)

/-- Count of leading zeros, 0 to 32. -/
def clz (x : Word) : Word :=
  BitVec.ofNat 32 (((List.range 32).find? (fun i => x.getLsbD (31 - i))).getD 32)

/-- Count of 1 bits. -/
def popc (x : Word) : Word := BitVec.ofNat 32 (((List.range 32).filter (fun i => x.getLsbD i)).length)

/-- Byte order reversed. -/
def rev (x : Word) : Word :=
  (x <<< 24) ||| ((x &&& 0xFF00#32) <<< 8) ||| ((x >>> 8) &&& 0xFF00#32) ||| (x >>> 24)

/-- Bit order reversed. -/
def brev (x : Word) : Word := BitVec.ofNat 32 (((List.range 32).map (fun i => b2n (x.getLsbD i) * 2 ^ (31 - i))).sum)

/-- Signed and unsigned minimum and maximum. -/
def minS (x y : Word) : Word := if x.slt y then x else y
def maxS (x y : Word) : Word := if x.slt y then y else x
def minU (x y : Word) : Word := if x.ult y then x else y
def maxU (x y : Word) : Word := if x.ult y then y else x

/-- Bits 63:32 of the unsigned product (R265). -/
def mulHu (x y : Word) : Word := BitVec.ofNat 32 (x.toNat * y.toNat / 2 ^ 32)

/-- Bits 63:32 of the signed product (R265). -/
def mulHs (x y : Word) : Word := BitVec.ofInt 32 (x.toInt * y.toInt / 2 ^ 32)

/-! ## The CRC step (R267, Table 10.7) -/

/-- `k` reflected steps of a CRC with polynomial `p`. -/
def crcSteps (p : Word) : Nat → Word → Word
  | 0, c => c
  | k + 1, c => crcSteps p k (crcBit p c)

/-- `k` steps of polynomial 0x1021, most significant bit first. -/
def crcMsbSteps : Nat → Word → Word
  | 0, c => c
  | k + 1, c =>
    crcMsbSteps k (if c.getLsbD 15 then ((c <<< 1) ^^^ 0x1021#32) &&& 0xFFFF#32 else (c <<< 1) &&& 0xFFFF#32)

/-- One byte into polynomial 0x1021. -/
def crcMsbByte (c : Word) (b : Nat) : Word := crcMsbSteps 8 ((c &&& 0xFFFF#32) ^^^ BitVec.ofNat 32 (b * 256))

/-- The polynomial of a reflected CRC. -/
def crcPoly (a : Nat) : Word := if a == 0 then 0x82F63B78#32 else if a == 1 then 0xEDB88320#32 else 0xA001#32

/-- The CRC instruction over 8, 16 or 32 bits of `data`, by width code 0, 1, 2. -/
def crcStep (crc data : Word) (poly width : Nat) : Word :=
  let bytes := if width == 0 then 1 else if width == 1 then 2 else 4
  if poly == 3 then
    ((List.range bytes).reverse.map (fun i => bits data.toNat (8 * i) 8)).foldl crcMsbByte crc
  else crcSteps (crcPoly poly) (8 * bytes) (crc ^^^ BitVec.ofNat 32 (data.toNat % 2 ^ (8 * bytes)))

/-! ## Forms: operands in, a result and flags out -/

/-- The next instruction follows. -/
def Regs.step (g : Regs) : Regs := { g with pc := g.pc + 4 }

/-- Format R with a result that sets N and Z. -/
def Regs.opNZ (g : Regs) (rd : Nat) (r : Word) : Regs := ((g.flagsNZ r).set rd r).step

/-- Format R or I with a result that sets all four flags. -/
def Regs.op4 (g : Regs) (rd : Nat) (r : Word × Bool × Bool) : Regs := ((g.flags4 r).set rd r.1).step

/-- A result that changes no flag. -/
def Regs.opPlain (g : Regs) (rd : Nat) (r : Word) : Regs := (g.set rd r).step

/-- The value of a load: T says that it is not data (R228). -/
def Regs.loaded (g : Regs) (rd : Nat) (r : Word) (notData : Bool) : Regs := ({ g with t := notData }.set rd r).step

/-- A loaded value of 1, 2 or 4 bytes, extended. -/
def extend (signed : Bool) (bytes : Nat) (v : Nat) : Word :=
  if bytes == 1 then (if signed then (BitVec.ofNat 8 v).signExtend 32 else BitVec.ofNat 32 (v % 256))
  else if bytes == 2 then (if signed then (BitVec.ofNat 16 v).signExtend 32 else BitVec.ofNat 32 (v % 65536))
  else BitVec.ofNat 32 v

/-! ## Decoding an instruction word: whether it is legal (R260, Table 10.11) -/

/-- A field of an instruction word. -/
def wf_ (w : Word) (lo n : Nat) : Nat := bits w.toNat lo n

/-- The word is legal: its major opcode is assigned and none of the cases of Table 10.11 holds. -/
def legalWord (w : Word) : Bool :=
  let op := wf_ w 26 6
  let rd := wf_ w 22 4
  let rs1 := wf_ w 18 4
  let rs2 := wf_ w 14 4
  let fnR := wf_ w 0 6
  let rsvR := wf_ w 6 8
  let a := wf_ w 9 5
  let b := wf_ w 4 5
  let fnX := wf_ w 0 4
  let size := wf_ w 16 2
  match op with
  | 0x01 => rsvR == 0 && decide (fnR ≤ 0x14) && !((fnR == 0x0C || fnR == 0x0D) && rd != 0)
  | 0x02 => true
  | 0x03 => true
  | 0x04 => true
  | 0x05 => true
  | 0x06 => rs1 == 0
  | 0x07 => rd == 0
  | 0x08 =>
    if fnX ≤ 3 then rs2 == 0 && b == 0
    else if fnX ≤ 5 then rs2 == 0 && decide (a + b ≤ 31)
    else if fnX == 6 then decide (a + b ≤ 31)
    else decide (fnX ≤ 0xA) && rs2 == 0 && a == 0 && b == 0
  | 0x09 => decide (fnX ≤ 2) && decide (a ≤ 3) && b == 0
  | 0x10 => decide (size ≤ 2)
  | 0x11 => decide (size ≤ 1)
  | 0x12 => decide (size ≤ 2)
  | 0x13 => decide (rd ≤ 1) && size == 0
  | 0x14 => rsvR == 0 && decide (fnR ≤ 4)
  | 0x18 => wf_ w 8 10 == 0
  | 0x19 => wf_ w 8 10 == 0
  | 0x1A => rsvR == 0 && decide (fnR ≤ 1)
  | 0x20 => true
  | 0x21 => true
  | 0x22 => true
  | 0x28 =>
    if fnX == 0 then rd == 0 && rs1 == 0 && rs2 == 0 && a == 0 && b == 0
    else fnX == 1 && rd == 0 && rs2 == 0 && b == 0 && decide (a ≤ 16)
  | _ => false

end Sys2Proof.Machine
end

