-- ==== Sys2Proof/Config.lean ====
section
/-! DEFINITION. What one part fixes for its whole life, and the values that the spec leaves open: constants with no body, so that no proof can
see what they are. -/

namespace Sys2Proof.Config

/-- Grade code of the ordering code (R2, Table 0.1): 0x01 I or 0x02 X. Open: it is fixed by the part ordered. -/
opaque gradeX : Bool

/-- The grade code byte. -/
def grade : Nat := if gradeX then 2 else 1

/-- Part code, stepping and ROM version of stepping A (R2, Table 5.5). -/
def partCode : Nat := 0x0880
def stepping : Nat := 1
def romVersion : Nat := 0x00010000

/-- The device serial number, 64 bits, unique to the part (R534). -/
opaque serial : BitVec 64

/-- The value of the `n`-th free value drawn: a result that the spec does not state. -/
opaque freeValue : Nat → BitVec 64

/-- The value that a PHY register reads on the MDIO bus: clause, port, device and register (R359); `n` is the draw. -/
opaque mdioRead : Nat → Nat → Nat → Nat → Nat → BitVec 16

/-- The `n`-th 32-byte challenge of the random source (R546). -/
opaque challenge : Nat → List Byte

/-- The use byte of key slots 2 to 7 as ordered (R534, Table 21.4): `none` for a slot left empty. -/
opaque keyOrder : Nat → Option (BitVec 8)

/-- The use byte of a key slot (Table 21.4): slots 0 and 1 hold Falpegrim keys; slots 2 to 7 may allow UCAT images, debug
responses and revocations. -/
def keyUse (slot : Nat) : Option Nat :=
  if slot == 0 then some 0x15
  else if slot == 1 then some 0x18
  else if slot < 8 then (keyOrder slot).map (fun b => b.toNat &&& 0x1A)
  else none

/-- The public key of a key slot: X, then Y, big-endian (R534, Table 21.2): programmed into the part and given by no table. -/
opaque publicKey : Nat → Nat × Nat

/-- The byte length of a part record (R592: the layout is the part's own): of a section by key, of a working and of an
operation record. -/
opaque sectionRaw : Nat → Nat
opaque workingRaw : Nat → Nat
opaque operRaw : Nat → Nat

/-- The section keys of Tables 7.10 and 7.13 and the save header. -/
def sectionKeys : List Nat :=
  (List.range 14).map (· + 2) ++ (List.range 6).map (· + 0x10) ++ (List.range 8).map (· + 0x18) ++
  (List.range 15).map (· + 0x20) ++ (List.range 4).map (· + 0x30) ++ (List.range 8).map (· + 0x38) ++
  (List.range 32).map (· + 0x40)

/-- All sections together keep within the 32,768 bytes of R592, counted as R188 counts them. -/
def sectionsFit : Bool := ((sectionKeys.map (fun k => 64 + (sectionRaw k % 4097 + 15) / 16 * 16)).sum + 80) ≤ 32768

/-- Length of section `key`: open (R592) but for its bound of 4,096 bytes (R185) and the bound on the sum (R592). -/
def sectionLen (key : Nat) : Nat := if sectionsFit then sectionRaw key % 4097 else 0

/-- Length of a working record in a backlog slot, at most 256 (R592). -/
def workingLen (slot : Nat) : Nat := workingRaw slot % 257

/-- Length of an operation record, at most 256 (R592). -/
def operLen (op : Nat) : Nat := operRaw op % 257

end Sys2Proof.Config
end

