-- ==== Sys2Proof/Machine/Ops.lean ====
section
/-! DEFINITION. The shared operations on the state: finding and changing islands, functions, quoins and engines; time and
free values; toggle crossings; the fault log; the event queue; lifecycle transitions and completions. -/

namespace Sys2Proof.Machine

/-! ## Status codes (Table 5.2) and how a meaning is run -/

def stDone : Nat := 0x0000
def stAccepted : Nat := 0x0001
def stDeferred : Nat := 0x0002
def stBadLength : Nat := 0x0100
def stBadCrc : Nat := 0x0101
def stBadOpcode : Nat := 0x0102
def stBadParam : Nat := 0x0103
def stBadState : Nat := 0x0104
def stDuplicate : Nat := 0x0105
def stNoResource : Nat := 0x0106
def stDenied : Nat := 0x0107
def stBusy : Nat := 0x0108
def stFenced : Nat := 0x0109
def stEpochChanged : Nat := 0x010A
def stRecovered : Nat := 0x0200
def stFailed : Nat := 0x02FF

/-- The one-time memory of the key slots only gains revocations: a bit once programmed stays, whatever is written (R538). -/
def Dev.burn (old d : Dev) : Dev :=
  { d with sec := { d.sec with revoked := orBits old.sec.revoked d.sec.revoked } }

/-- Runs an effect on the part; the TAP and the queue of waiting commands stay as they are. -/
def State.run (s : State) (f : Dev → Dev) : Host.Outcome State Fault Refusal := .next { s with dev := s.dev.burn (f s.dev) }

/-- Runs an effect on the part and its TAP. -/
def State.runTap (s : State) (f : Tap → Dev → Tap × Dev) : Host.Outcome State Fault Refusal :=
  .next { s with tap := (f s.tap s.dev).1, dev := s.dev.burn (f s.tap s.dev).2 }

/-! ## Time and free values -/

/-- A value that the spec leaves open: nothing constrains it, and the next draw is another one. -/
def Dev.draw (d : Dev) : Nat × Dev := ((Config.freeValue d.free).toNat, { d with free := d.free + 1 })

/-- Moves the monotonic tick forward to `t`; it never moves back (R429). -/
def Dev.advanceTo (d : Dev) (t : Nat) : Dev := { d with tick := max d.tick t }

/-- One period of the 25 MHz reference with no command (R429): the monotonic tick advances by 40 ns in an AON that is powered.
DESIGN CHOICE. -/
def State.idle (s : State) : State :=
  if s.dev.start.phase == .aonOff then s else { s with dev := { s.dev with tick := s.dev.tick + 40 } }

/-- Nanoseconds of a microsecond and of a millisecond count. -/
def usNs (u : Nat) : Nat := u * 1000
def msNs (m : Nat) : Nat := m * 1000000

/-! ## Islands -/

def Dev.island (d : Dev) (i : Nat) : Island := (d.islands.find? (fun x => x.id == i)).getD { id := i, st := 0 }

def Dev.hasIsland (d : Dev) (i : Nat) : Bool := d.islands.any (fun x => x.id == i)

def Dev.setIsland (d : Dev) (i : Nat) (f : Island → Island) : Dev :=
  { d with islands := updFirst d.islands (fun x => x.id == i) f }

def Dev.setIslands (d : Dev) (is : List Nat) (f : Island → Island) : Dev :=
  { d with islands := updIf d.islands (fun x => is.contains x.id) f }

/-- An island's clock runs: running, or clock-gated and restarted by an access (R36). -/
def Dev.islandUp (d : Dev) (i : Nat) : Bool := (d.island i).st == 2 || (d.island i).st == 3

/-- The islands that fence and reset together with `i` (R39, Table 2.5). -/
def pairOf (i : Nat) : List Nat :=
  if i == 1 || i == 2 then [1, 2]
  else if 0x10 ≤ i && i ≤ 0x15 then [i, i + 8]
  else if 0x18 ≤ i && i ≤ 0x1D then [i - 8, i]
  else [i]

def peIsland (p : Nat) : Nat := 0x30 + p

/-! ## Engines and functions -/

def Dev.pe (d : Dev) (p : Nat) : Pe := d.eng.pes.getD p {}
def Dev.le (d : Dev) (l : Nat) : Le := d.eng.les.getD l {}
def Dev.plate (d : Dev) (p : Nat) : Plate := d.eng.plates.getD p {}
def Dev.setEng (d : Dev) (f : Eng → Eng) : Dev := { d with eng := f d.eng }
def Dev.setPe (d : Dev) (p : Nat) (f : Pe → Pe) : Dev := { d with eng := { d.eng with pes := upd d.eng.pes p f } }
def Dev.setLe (d : Dev) (l : Nat) (f : Le → Le) : Dev := { d with eng := { d.eng with les := upd d.eng.les l f } }
def Dev.setPlate (d : Dev) (p : Nat) (f : Plate → Plate) : Dev :=
  { d with eng := { d.eng with plates := upd d.eng.plates p f } }
def Dev.setPorts (d : Dev) (p : Nat) (f : EPorts → EPorts) : Dev := d.setPe p (fun e => { e with ports := f e.ports })
def Dev.setRegs (d : Dev) (p : Nat) (f : Regs → Regs) : Dev := d.setPe p (fun e => { e with regs := f e.regs })

def Dev.func (d : Dev) (fid : Nat) : Func := (d.funcs.find? (fun x => x.fid == fid)).getD {}
def Dev.setFunc (d : Dev) (fid : Nat) (f : Func → Func) : Dev :=
  { d with funcs := updFirst d.funcs (fun x => x.fid == fid) f }
/-- The function class of an ID: its high byte. -/
def fclass (fid : Nat) : Nat := fid / 256
/-- The instance of an ID: its low byte. -/
def finst (fid : Nat) : Nat := fid % 256
def Dev.isOn (d : Dev) (fid : Nat) : Bool := (d.func fid).st == 2

/-- The islands a function runs in (R589, R590, R591): for a logical engine, that of its present physical engine. -/
def Dev.funcIslands (d : Dev) (fid : Nat) : List Nat :=
  match fclass fid with
  | 1 => [0x10 + finst fid, 0x18 + finst fid]
  | 2 => [0x20 + finst fid]
  | 3 => [0x24 + finst fid]
  | 4 => match (d.le (finst fid)).pe with
         | some p => [peIsland p]
         | none => []
  | 5 => [0x0B + finst fid]
  | 6 => [0x03]
  | 7 => [0x08]
  | 8 => [0x08]
  | 9 => [0x04]
  | _ => []

/-- The island that a fault record of a function names: its first, or 0xFF (R591). -/
def Dev.funcIsland (d : Dev) (fid : Nat) : Nat := (d.funcIslands fid).headD 0xFF

/-- The island clock's period in ps (Table 2.2, R22). -/
def Dev.periodPs (d : Dev) (i : Nat) : Nat :=
  if 0x30 ≤ i then (d.pe (i - 0x30)).div * 1250
  else if i == 0x00 then 30517578
  else if i == 0x07 then 2500
  else if i == 0x06 then 10000
  else if 0x20 ≤ i && i ≤ 0x23 then 25000
  else if 0x24 ≤ i && i ≤ 0x27 then 5208
  else if 0x10 ≤ i && i ≤ 0x1D then 8000
  else if i == 0x03 || (0x08 ≤ i && i ≤ 0x0C) then 4000
  else 5000

/-- Nominal clock in kHz, rounded down (Table 2.2). -/
def nominalKHz (i div : Nat) : Nat :=
  if 0x30 ≤ i then 800000 / div
  else if i == 0x00 then 32
  else if i == 0x0F then 0
  else if i == 0x07 then 400000
  else if i == 0x06 then 100000
  else if 0x20 ≤ i && i ≤ 0x23 then 40000
  else if 0x24 ≤ i && i ≤ 0x27 then 192000
  else if 0x10 ≤ i && i ≤ 0x1D then 125000
  else if i == 0x03 || (0x08 ≤ i && i ≤ 0x0C) then 250000
  else 200000

/-- The voltage point of a divider (Table 2.3, R22): the lowest whose frequency limit is not below 800/n MHz. -/
def oppOf (div : Nat) : Nat := if div ≤ 2 then 3 else if div == 3 then 2 else if div ≤ 5 then 1 else 0

/-- OPP of an island: the voltage point of a powered engine, 0 for other islands (R22, Table 2.7). -/
def Dev.opp (d : Dev) (i : Nat) : Nat :=
  if 0x30 ≤ i && (d.island i).st != 0 then oppOf (d.pe (i - 0x30)).div else 0

/-! ## Crossings (R25 to R40) -/

/-- CMP-A and CMP-B count as one partner, CMP-A. -/
def xId (i : Nat) : Nat := if i == 2 then 1 else i

def Dev.crossing? (d : Dev) (a b : Nat) : Option Crossing :=
  d.crossings.find? (fun c => (c.a == xId a && c.b == xId b) || (c.a == xId b && c.b == xId a))

/-- The crossing between two islands is open and both run. -/
def Dev.xOpen (d : Dev) (a b : Nat) : Bool :=
  match d.crossing? a b with
  | some c => c.isOpen && d.islandUp a && d.islandUp b
  | none => false

/-- A crossing closes: the values that it carries are stale where they were accepted (R31, R37). -/
def Crossing.shut (c : Crossing) : Crossing :=
  if c.isOpen then { c with isOpen := false, staleA := c.valA, staleB := c.valB } else c

/-- Closes every crossing of an island (R37, R40), discarding pending toggle events of the crossings. -/
def Dev.closeCrossings (d : Dev) (i : Nat) : Dev :=
  { d with
    crossings := updIf d.crossings (fun c => c.a == xId i || c.b == xId i) Crossing.shut,
    toggles := d.toggles.filter (fun t => !(t.src == i || t.dst == i)) }

/-- An island that is reset holds no value that could be stale (Table 2.7). -/
def Dev.resetHalves (d : Dev) (i : Nat) : Dev :=
  { d with crossings := d.crossings.map (fun (c : Crossing) => { c with
    staleA := c.staleA && c.a != xId i, staleB := c.staleB && c.b != xId i }) }

/-- A value crossing into the island is stale (R31, Table 2.7). -/
def Dev.staleAt (d : Dev) (i : Nat) : Bool :=
  d.crossings.any (fun c => (c.staleA && c.a == xId i) || (c.staleB && c.b == xId i))

/-- Opens a closed crossing, incrementing its generation (R34, R38); the values it carries are accepted anew (R31). -/
def Crossing.openUp (c : Crossing) : Crossing :=
  if c.isOpen then c else { c with isOpen := true, gen := c.gen + 1, staleA := false, staleB := false }

/-- Opens the crossings of an island to every partner that runs (R38). -/
def Dev.openCrossings (d : Dev) (i : Nat) : Dev :=
  let p (c : Crossing) : Bool := (c.a == xId i && d.islandUp c.b) || (c.b == xId i && d.islandUp c.a)
  { d with crossings := updIf d.crossings p Crossing.openUp }

/-- Offers an event on a toggle crossing (R25, R26): whether the receiver is told of it, and the merge where one is. An
event that finds one pending merges into it, and the receiving island counts the merge in OVC and sets OVR. -/
def Dev.toggle (d : Dev) (src dst ev : Nat) : Bool × Dev :=
  if !d.xOpen src dst then (false, d)
  else
    let now := d.tick * 1000
    let sp := 4 * (d.periodPs src + d.periodPs dst)
    match d.toggles.find? (fun t => t.src == src && t.dst == dst && t.ev == ev) with
    | none => (true, { d with toggles := d.toggles ++ [{ src := src, dst := dst, ev := ev, last := now }] })
    | some t =>
      let t1 : Toggle := if t.pend && t.last + sp ≤ now then { t with pend := false, last := t.last + sp } else t
      let put (t' : Toggle) : List Toggle :=
        updFirst d.toggles (fun x => x.src == src && x.dst == dst && x.ev == ev) (fun _ => t')
      if t1.last + sp ≤ now then (true, { d with toggles := put { t1 with last := now, pend := false } })
      else if t1.pend then
        (false, ({ d with toggles := put t1 } : Dev).setIsland dst (fun x => { x with ovr := true, ovc := min 255 (x.ovc + 1) }))
      else (true, { d with toggles := put { t1 with pend := true } })

/-! ## Events of an engine -/

/-- `now` as the WAITU compare of R276 reads it: bits (31 + a):a of the tick, against the target. -/
def waituReached (tick target scale : Nat) : Bool :=
  let now : Word := BitVec.ofNat 32 (tick / 2 ^ scale)
  !((now - BitVec.ofNat 32 target).getLsbD 31)

/-- Ends the wait of an engine whose condition holds (R275, R276): the instruction completes and pc moves on. A target that is reached
has been reached by the accepted time. -/
def Pe.endWait (tick : Nat) (e : Pe) : Pe :=
  let hit := (e.ports.pend &&& e.ports.mask) != 0#32
  match e.stall with
  | .none => e
  | .held => e
  | .wait => if hit then { e with stall := .none, regs := { e.regs with pc := e.regs.pc + 4 } } else e
  | .waitu t a =>
    if waituReached tick t a then
      { e with stall := .none, regs := { e.regs with pc := e.regs.pc + 4, z := true, c := false },
               ports := { e.ports with lastTick := max e.ports.lastTick tick } }
    else if hit then { e with stall := .none, regs := { e.regs with pc := e.regs.pc + 4, z := false, c := false } }
    else e

/-- Sets bit `b` of EVT_PEND of an engine (R247) and ends a wait that it ends. -/
def Dev.setPend (d : Dev) (p b : Nat) : Dev :=
  d.setPe p (fun e => (({ e with ports := { e.ports with
    pend := e.ports.pend ||| (1#32 <<< b), raised := e.ports.raised ||| (1#32 <<< b) } } : Pe)).endWait d.tick)

/-- An event of the engine's own island: it crosses nothing. A spare that only shadows takes its events from the log
(R288), so it is raised on a primary alone. -/
def Dev.raiseLocal (d : Dev) (p b : Nat) : Dev :=
  if (d.pe p).running then d.setPend p b else d

/-- An event that island `src` raises in engine `p` through a toggle crossing (R247): a merge sets OVR in ENG_STAT. -/
def Dev.raise (d : Dev) (src p b : Nat) : Dev :=
  if !(d.pe p).running then d
  else
    let ovc := (d.island (peIsland p)).ovc
    let ovr0 := (d.island (peIsland p)).ovr
    let (told, d) := d.toggle src (peIsland p) b
    if told then d.setPend p b
    else if (d.island (peIsland p)).ovc != ovc || (d.island (peIsland p)).ovr != ovr0 then
      d.setPorts p (fun q => { q with ovr := true })
    else d

/-- Raises an event in the physical engine that runs logical engine `l`. -/
def Dev.raiseLe (d : Dev) (src l b : Nat) : Dev :=
  match (d.le l).pe with
  | some p => d.raise src p b
  | none => d

/-- A store or port write of engine `p` was poisoned: PSN and its event (R229). -/
def Dev.poisonWrite (d : Dev) (p : Nat) : Dev :=
  (d.setPorts p (fun q => { q with psn := true })).raiseLocal p 23

/-- The poison word of R228. -/
def poisonWord (i : Nat) : Word := BitVec.ofNat 32 (0xE0000000 + i)

/-! ## Host port output (R134) -/

def Dev.port (d : Dev) (p : Nat) : HostPort := d.hst.ports.getD (p - 1) {}
def Dev.setPort (d : Dev) (p : Nat) (f : HostPort → HostPort) : Dev :=
  { d with hst := { d.hst with ports := upd d.hst.ports (p - 1) f } }
def Dev.setHst (d : Dev) (f : Hst → Hst) : Dev := { d with hst := f d.hst }
def Dev.setVerind (d : Dev) (f : Verind → Verind) : Dev := { d with verind := f d.verind }
def Dev.chan (d : Dev) (c : Nat) : Chan := d.verind.chans.getD c {}
def Dev.setChan (d : Dev) (c : Nat) (f : Chan → Chan) : Dev :=
  d.setVerind (fun v => { v with chans := upd v.chans c f })

/-- Puts bytes on the output queue of a peer's host port; a head that begins to wait dates from now (R159). -/
def Dev.send (d : Dev) (ch : Option Nat) (dst : Peer) (bytes : List Byte) : Dev :=
  let it : OutItem := { id := d.hst.outIds, ch := ch, bytes := bytes, dst := dst }
  (d.setPort dst.port (fun q =>
      { q with out := q.out ++ [it], headSince := if q.out.isEmpty then d.tick else q.headSince })).setHst
    (fun h => { h with outIds := h.outIds + 1 })

/-- A packet's bytes (R79, R80, R81): header, parameters padded to 4 bytes, CRC. -/
def pktBytes (seq op flags ch status fid : Nat) (body : List Byte) : List Byte :=
  let b := padTo 4 body
  let h := [0xA7#8, 0x01#8] ++ leb 2 (20 + b.length) ++ leb 2 seq ++ leb 2 op ++ leb 1 flags ++ leb 1 ch ++
    leb 2 status ++ leb 2 fid ++ leb 2 0 ++ b
  h ++ leb 4 (crc32c h).toNat

def Pkt.bytes (p : Pkt) : List Byte := pktBytes p.seq p.op p.flags p.ch p.status p.fid p.body

/-! ## Events to the host (R98 to R101) -/

/-- The event channel (R98): the open channel opened most recently with EVT, else channel 0 while open. -/
def Verind.eventChannel (v : Verind) : Option Nat :=
  let best := (List.range 8).foldl (fun (a : Option Nat) i =>
    let c := v.chans.getD i {}
    if c.st == 2 && c.order != 0 && c.order == v.opens then some i else a) none
  match best with
  | some i => some i
  | none => if (v.chans.getD 0 {}).st == 2 then some 0 else none

/-- Slots neither used nor held for a completion event (R100). -/
def Verind.freeSlots (v : Verind) : Nat := 256 - (v.events.length + v.outstanding)

/-- Reservations held: those of commands that have not completed, and of completion events not acknowledged (R100). -/
def Verind.reserved (v : Verind) : Nat := v.outstanding + (v.events.filter (·.rsv)).length

/-- A command that replies ACCEPTED or DEFERRED can reserve its completion's slot (R100). -/
def Verind.canReserve (v : Verind) : Bool := decide (v.reserved < 128) && decide (0 < v.freeSlots)

/-- Presents one event of the queue on the event channel, if there is one: the first time plain, later with REPLAYED
(R99). -/
def Dev.present (d : Dev) (e : Ev) : Dev :=
  match d.verind.eventChannel with
  | none => d
  | some ch =>
    let fl := if e.shown == 0 then 2 else 6
    let d := d.send (some ch) (d.chan ch).peer (pktBytes e.seq e.op fl ch 0 e.fid e.body)
    d.setVerind (fun v => { v with
      events := updFirst v.events (fun x => x.seq == e.seq) (fun x => { x with shown := x.shown + 1, last := d.tick }) })

/-- Presents every event that has not been sent (R98, R99). -/
def Dev.presentWaiting (d : Dev) : Dev :=
  forEach (d.verind.events.filter (fun e => e.shown == 0)) d Dev.present

/-- Appends an event to the queue and presents it; its slot is there (R98). -/
def Dev.pushEvent (d : Dev) (op fid : Nat) (body : List Byte) (rsv : Bool) : Dev :=
  let e : Ev := { seq := d.verind.evSeq, op := op, fid := fid, body := body, rsv := rsv }
  let d := d.setVerind (fun v => { v with events := v.events ++ [e], evSeq := (v.evSeq + 1) % 65536 })
  d.present e

/-- An event waits for the end of a Compositor restart. -/
def Dev.holdEvent (d : Dev) (e : HeldEvent) : Dev := { d with cmp := { d.cmp with events := d.cmp.events ++ [e] } }

/-- Queues an event that is no completion: without a free slot it is counted, not queued (R101). While the Compositor restarts it
waits. -/
def Dev.emit (d : Dev) (op fid : Nat) (body : List Byte) : Dev :=
  if d.cmp.restarting then d.holdEvent (.event op fid body)
  else if d.verind.freeSlots == 0 then d.setVerind (fun v => { v with unsent := v.unsent + 1 })
  else d.pushEvent op fid body false

/-- Reserves a completion event's slot (R100). -/
def Dev.reserve (d : Dev) : Dev := d.setVerind (fun v => { v with outstanding := v.outstanding + 1 })

/-- The error detail of R84: offset, detail code. -/
def errDetail (off det : Nat) : List Byte := leb 2 off ++ leb 2 det

/-- Queues the one completion event of a command (Table 4.10, R102): RECOVERED stands for DONE where a Compositor restart fell
between (R110). -/
def Dev.sendCompletion (d : Dev) (w : Waiting) (status : Nat) (payload : List Byte) : Dev :=
  let st := if status == stDone && w.recov then stRecovered else status
  let d := d.setVerind (fun v => { v with outstanding := v.outstanding - 1 })
  d.pushEvent 0xF001 w.fid (leb 2 w.op ++ leb 2 w.seq ++ leb 1 w.ch ++ [0#8] ++ leb 2 st ++ payload) true

/-- A command completes. While the Compositor restarts, its event waits for the end of the restart (R102, R110). -/
def Dev.complete (d : Dev) (w : Waiting) (status : Nat) (payload : List Byte) : Dev :=
  if d.cmp.restarting then d.holdEvent (.completion w status payload)
  else d.sendCompletion w status payload

def Dev.completeDone (d : Dev) (w : Waiting) : Dev := d.complete w stDone []
def Dev.completeFailed (d : Dev) (w : Waiting) (detail : Nat) : Dev :=
  d.complete w stFailed (errDetail 0xFFFF detail)
def Dev.completeOpt (d : Dev) (w : Option Waiting) (status : Nat) (payload : List Byte) : Dev :=
  match w with
  | some w => d.complete w status payload
  | none => d

/-- Inserts a command by its order of arrival. -/
def insertArr (w : Waiting) : List Waiting → List Waiting
  | [] => [w]
  | x :: xs => if w.arr < x.arr then w :: x :: xs else x :: insertArr w xs

/-- Takes the first command of channel `ch` out of a list. -/
def takeCh (ch : Nat) : List Waiting → Option (Waiting × List Waiting)
  | [] => none
  | x :: xs => if x.ch == ch then some (x, xs) else (takeCh ch xs).map (fun r => (r.1, x :: r.2))

/-- Fills the positions of each channel in arrival order with that channel's commands in order of sequence (R102): the
list given is in order of execution, which within a channel is order of sequence. -/
def fillCh : List Waiting → List Waiting → List Waiting
  | [], _ => []
  | x :: xs, ws =>
    match takeCh x.ch ws with
    | some (w, rest) => w :: fillCh xs rest
    | none => x :: fillCh xs ws

/-- The order of several completions at one transition (R102). -/
def orderCompletions (ws : List Waiting) : List Waiting :=
  fillCh (ws.foldl (fun a w => insertArr w a) []) ws

/-! ## Lifecycle (R103, R104) -/

/-- A lifecycle transition: the state, CAUSE, the generation at each entry to STARTING (R103), and its event (R102). While
the Compositor restarts no event is sent; R76 brings the host up to date afterwards. -/
def Dev.transition (d : Dev) (fid st cause : Nat) : Dev :=
  let f := d.func fid
  let gen := if st == 1 then (f.gen + 1) % 65536 else f.gen
  let d := d.setFunc fid (fun f => { f with st := st, cause := cause, gen := gen })
  if d.cmp.restarting then d
  else
    let d := d.setFunc fid (fun f => { f with reported := st })
    d.emit 0xF002 fid ([BitVec.ofNat 8 f.st, BitVec.ofNat 8 st] ++ leb 2 gen ++ [BitVec.ofNat 8 cause] ++ zeros 3)

/-! ## The fault log (R77, R530, R531) -/

/-- Appends a record to the log, overwriting the oldest of 1,024 (R530, R77). -/
def Svc.append (v : Svc) (r : FaultRec) : Svc :=
  let full := decide (1024 ≤ v.log.length)
  { v with log := (if full then v.log.drop 1 else v.log) ++ [r],
           overwrites := if full then v.overwrites + 1 else v.overwrites,
           nextRec := (v.nextRec + 1) % 4294967296 }

/-- A fault event's parameters (Table 5.21). -/
def faultBody (cls island action recno tick : Nat) : List Byte :=
  leb 1 cls ++ leb 1 island ++ leb 1 action ++ [0#8] ++ leb 4 recno ++ leb 8 tick

/-- Records one item of R77 and sends its fault event. `Svc.episode` holds the first record of the fault being answered and the
tick of its detection, which every record of it carries (Table 20.3); without one the record begins an episode of its own.
Before READY the event waits until after READY (R533). -/
def Dev.logFault (d : Dev) (cls island action cause fid detail : Nat) : Dev :=
  let n := d.svc.nextRec
  let ep := d.svc.episode.getD (n, d.tick)
  let r : FaultRec := { recno := n, tick := ep.2, cls := cls, island := island, action := action, cause := cause,
                        func := fid, gen := (d.func fid).gen, detail := detail, episode := ep.1 }
  let d := { d with svc := { d.svc.append r with episode := some ep } }
  let body := faultBody cls island action n ep.2
  if d.start.phase == .ready && !d.svc.holding then d.emit 0xF003 fid body
  else { d with svc := { d.svc with late := d.svc.late ++ [(fid, body)] } }

/-- Answers one detected fault: its records share an EPISODE (R531). -/
def Dev.episode (d : Dev) (f : Dev → Dev) : Dev :=
  let old := d.svc.episode
  let d := f { d with svc := { d.svc with episode := none } }
  { d with svc := { d.svc with episode := old } }

/-- Makes records that belong to an episode begun before. -/
def Dev.episodeOf (d : Dev) (ep : Option (Nat × Nat)) (f : Dev → Dev) : Dev :=
  let old := d.svc.episode
  let d := f { d with svc := { d.svc with episode := ep } }
  { d with svc := { d.svc with episode := old } }

/-- The fault events that waited go out in order of detection (R533). -/
def Dev.sendLate (d : Dev) : Dev :=
  let xs := d.svc.late
  forEach xs { d with svc := { d.svc with late := [] } } (fun d x => d.emit 0xF003 x.1 x.2)

/-- Runs `f` with its fault events held, then `g`, and sends them (R69 step 4: the function moves first). -/
def Dev.holdingFaults (d : Dev) (f g : Dev → Dev) : Dev :=
  let old := d.svc.holding
  let d := g (f { d with svc := { d.svc with holding := true } })
  let d := { d with svc := { d.svc with holding := old } }
  if d.start.phase == .ready && !old then d.sendLate else d

/-- Runs `f` with episode records kept where one is open, else as an episode of its own. -/
def Dev.inEpisode (d : Dev) (f : Dev → Dev) : Dev := if d.svc.episode.isSome then f d else d.episode f

def wrap32 (n : Nat) : Nat := n % 4294967296

/-- Counts a fault discard in the service set (R58). -/
def Dev.discard (d : Dev) (n : Nat) : Dev := { d with svc := { d.svc with discards := wrap32 (d.svc.discards + n) } }

/-- A service event (Table 5.21, 0xF008). -/
def Dev.serviceEvent (d : Dev) (action what : Nat) : Dev :=
  d.emit 0xF008 0 (leb 1 action ++ [0#8] ++ leb 2 what)

/-! ## Quoins (R63 to R68) -/

def Dev.quoin (d : Dev) (kind inst : Nat) : Quoin :=
  (d.quoins.find? (fun q => q.kind == kind && q.inst == inst)).getD { kind := kind, inst := inst }
def Dev.setQuoin (d : Dev) (kind inst : Nat) (f : Quoin → Quoin) : Dev :=
  { d with quoins := updFirst d.quoins (fun q => q.kind == kind && q.inst == inst) f }

/-- The lease range of a kind in µs (in cycles for kind 4), Table 3.4. -/
def leaseRange (kind : Nat) : Nat × Nat :=
  match kind with
  | 1 => (1000, 1000000)
  | 2 => (1000, 1000000)
  | 3 => (10000, 10000000)
  | 4 => (1, 16)
  | 5 => (100, 10000000)
  | 6 => (1000, 10000000)
  | 7 => (100, 1000000)
  | 8 => (10000, 10000000)
  | 9 => (10000, 10000000)
  | _ => (10, 1000000)

/-- A lease of 0 selects the default of the kind (settings 0x03kk). -/
def Dev.leaseOf (d : Dev) (kind lease : Nat) : Nat :=
  if lease == 0 then d.cfg.dev.lease.getD (kind - 1) 0 else lease

/-- The domain of a plate's writer slot: its lease counts that domain's meridians, or 1 ms cycles (R68). -/
def Dev.cycleLease (d : Dev) (kind inst : Nat) : Bool := kind == 4 && ((d.plate inst).dom).isSome

/-- A quoin with its lease started afresh from `tick` (R64). -/
def Quoin.start (q : Quoin) (tick : Nat) : Quoin :=
  if q.kind == 4 then { q with cycles := q.lease, expiry := tick + q.lease * 1000000 }
  else { q with expiry := tick + q.lease * 1000 }

/-- Gives a free quoin to an owner with a lease. -/
def Dev.grant (d : Dev) (kind inst : Nat) (o : Owner) (lease slot : Nat) : Dev :=
  d.setQuoin kind inst (fun q =>
    Quoin.start { q with owner := some o, lease := d.leaseOf kind lease, slot := slot } d.tick)

/-- Renews the lease of a held quoin (R64). -/
def Dev.renew (d : Dev) (kind inst : Nat) : Dev := d.setQuoin kind inst (fun q => q.start d.tick)

/-- Access by the holder renews (R64): whether `o` holds the quoin. -/
def Dev.holds (d : Dev) (kind inst : Nat) (o : Owner) : Bool := (d.quoin kind inst).owner == some o

/-- The quoin slot of a logical engine for a resource, if it has one. -/
def Le.slotOf (l : Le) (kind inst : Nat) : Option Nat :=
  (List.range 16).find? (fun i => let s := l.qslots.getD i {}; s.kind == kind && s.inst == inst && (s.st == 1 || s.st == 2))

def Dev.setSlot (d : Dev) (l i : Nat) (f : QSlot → QSlot) : Dev := d.setLe l (fun x => { x with qslots := upd x.qslots i f })

/-- Tells a logical engine of a grant: its slot shows it and QST is raised (R253). The islands that own the resources tell
it through their own toggles; the event stands for them all. -/
def Dev.tellGrant (d : Dev) (o : Owner) (kind inst slot : Nat) : Dev :=
  match o with
  | .le l =>
    let d := d.setSlot l slot (fun _ => { st := 1, kind := kind, inst := inst, gen := (d.quoin kind inst).gen })
    d.raiseLe 0x01 l 11
  | _ => d

/-- Grants a free quoin to the oldest queued request (R252, R253). -/
def Dev.grantNext (d : Dev) (kind inst : Nat) : Dev :=
  let q := d.quoin kind inst
  match q.owner, q.queue with
  | none, w :: ws =>
    let d := d.setQuoin kind inst (fun q => { q with queue := ws })
    let d := d.grant kind inst w.owner w.lease w.slot
    d.tellGrant w.owner kind inst w.slot
  | _, _ => d

/-- Frees a quoin, its generation one higher (R65, Table 3.6); grants follow separately. -/
def Dev.freeQuoin (d : Dev) (kind inst : Nat) : Dev :=
  d.setQuoin kind inst (fun q => { q with owner := none, gen := (q.gen + 1) % 65536, expiry := 0, cycles := 0 })

/-- Releases a quoin and grants it on (R252). -/
def Dev.release (d : Dev) (kind inst : Nat) : Dev := (d.freeQuoin kind inst).grantNext kind inst

/-- Clears the slot of a logical engine that held a resource, raising QST (R253). -/
def Dev.dropSlot (d : Dev) (o : Option Owner) (kind inst : Nat) : Dev :=
  match o with
  | some (.le l) =>
    match (d.le l).slotOf kind inst with
    | some i => (d.setSlot l i (fun s => { s with st := 0, gen := (s.gen + 1) % 65536 })).raiseLe 0x01 l 11
    | none => d
  | _ => d

/-- A command acquires or renews a quoin for its channel (R124): false where another owner holds it. -/
def Dev.acquire (d : Dev) (kind inst ch lease : Nat) : Bool × Dev :=
  match (d.quoin kind inst).owner with
  | none => (true, d.grant kind inst (.channel ch) lease 0)
  | some o => if o == .channel ch then (true, d.renew kind inst) else (false, d)

end Sys2Proof.Machine
end

