-- ==== Sys2Proof/Machine/Tables.lean ====
section
/-! DEFINITION. Imposition tables (R489 to R495): their entries, their checks, which entry applies, and the gates that a table opens and
closes. -/

namespace Sys2Proof.Machine

/-- An entry's 16 bytes in a table. -/
def tblEntry (t : Mem) (i : Nat) : List Byte := Mem.getBytes 0 t (16 * i) 16

/-- Fields of an entry (Tables 18.7, 18.8). -/
def enOffset (e : List Byte) : Nat := fld e 0 4
def enKind (e : List Byte) : Nat := byteAt e 4
def enRepeat (e : List Byte) : Nat := byteAt e 5
def enBase (e : List Byte) : Nat := byteAt e 6
def enLen (e : List Byte) : Nat := fld e 12 4
def enObj (e : List Byte) : Nat := byteAt e 8

/-- Header fields (Table 18.7). -/
def tblMatrix (t : Mem) : Nat := byteAt (tblEntry t 0) 5
def tblLevel (t : Mem) : Nat := byteAt (tblEntry t 0) 6
def tblCycle (t : Mem) : Nat := fld (tblEntry t 0) 8 4
def tblRefObj (t : Mem) : Nat := byteAt (tblEntry t 0) 12
def tblNtu (t : Mem) : Nat := fld (tblEntry t 0) 14 2

/-- A table without a saved one (R493): a header of KIND 0x0F and every other field 0. -/
def tblEmpty : Mem := [(4, 0x0F#8)]

/-- The entries 1 onward up to the first of KIND 0x00, with their numbers (R489). -/
def tblFrom (t : Mem) : Nat → Nat → List (Nat × List Byte)
  | 0, _ => []
  | n + 1, i =>
    let e := tblEntry t i
    if enKind e == 0 then [] else (i, e) :: tblFrom t n (i + 1)

def tblEntries (t : Mem) : List (Nat × List Byte) := tblFrom t 255 1

/-- The basic cycle of a domain in ns: the ring's for a forme domain, the header's for a multidrop domain. -/
def Dev.domCycle (d : Dev) (dom : Nat) (t : Mem) : Nat :=
  if dom < 2 then (d.cfg.frs.getD dom {}).cycle else tblCycle t

/-- The nominal bit time of a controller in ns: quanta of 25 ns. -/
def MbCfg.bitNs (c : MbCfg) : Nat := 25 * c.nbrp * (1 + c.ntseg1 + c.ntseg2)

/-- The first byte of an entry that breaks Tables 18.7 and 18.8 on its own (R491), as an offset in the entry. -/
def entryFault (dom i : Nat) (e : List Byte) : Option Nat :=
  let zeroFrom (a n : Nat) : Option Nat := ((List.range n).map (· + a)).find? (fun k => byteAt e k != 0)
  if i == 0 then
    let multi := 2 ≤ dom
    let lv := byteAt e 6
    if enOffset e != 0 then some 0
    else if enKind e != 0x0F then some 4
    else if 6 < byteAt e 5 then some 5
    else if (if multi then 2 < lv else lv != 0) then some 6
    else if byteAt e 7 != 0 then some 7
    else if (if lv == 0 then fld e 8 4 != 0 else fld e 8 4 < 31250 || 1000000000 < fld e 8 4) then some 8
    else if (if lv == 0 then byteAt e 12 != 0xFF else 127 < byteAt e 12 && byteAt e 12 != 0xFF) then some 12
    else if byteAt e 13 != 0 then some 13
    else if (if lv == 2 then fld e 14 2 < 25 else fld e 14 2 != 0) then some 14
    else none
  else
    let k := enKind e
    if !(k == 0 || k == 2 || (k == 1 && dom < 2) || ((k == 4 || k == 5 || k == 6) && 2 ≤ dom)) then some 4
    else if 6 < enRepeat e then some 5
    else if 2 ^ enRepeat e ≤ enBase e then some 6
    else if byteAt e 7 != 0 then some 7
    else if k == 0 || k == 2 then zeroFrom 8 8
    else if k == 1 then none
    else if (if k == 4 then 127 < enObj e else enObj e != 0) then some 8
    else match zeroFrom 9 3 with
      | some o => some o
      | none => if enLen e == 0 then some 12 else none

/-- Two entries can apply in one basic cycle. -/
def enMeet (a b : List Byte) : Bool :=
  let m := 2 ^ min (enRepeat a) (enRepeat b)
  enBase a % m == enBase b % m

/-- The check of R489 before a switch. -/
def Dev.tableOk (d : Dev) (dom : Nat) (t : Mem) : Bool :=
  let es := (tblEntries t).map (·.2)
  let cyc := d.domCycle dom t
  let win (e : List Byte) : Bool := 4 ≤ enKind e
  let bitNs := (d.cfg.mbs.getD (dom - 2) {}).bitNs
  (entryFault dom 0 (tblEntry t 0)).isNone &&
  (es.zip (es.drop 1)).all (fun p => enOffset p.1 ≤ enOffset p.2) &&
  es.all (fun e =>
    (entryFault dom 1 e).isNone && decide (enRepeat e ≤ tblMatrix t) && decide (enOffset e < cyc || dom ≥ 2 && tblLevel t == 0) &&
    (!(win e) || (tblLevel t != 0 && decide (enOffset e + enLen e ≤ cyc) && decide (bitNs ≤ enLen e)))) &&
  (List.range es.length).all (fun i =>
    let a := es.getD i []
    !(win a) || (es.drop (i + 1)).all (fun b => !(win b) || !(enMeet a b) || decide (enOffset a + enLen a ≤ enOffset b)))

/-- The basic cycle count of a domain (R490). -/
def Dev.basicCount (d : Dev) (dom : Nat) : Nat :=
  let m := d.doms.getD dom {}
  if dom < 2 then m.mcount % 2 ^ tblMatrix m.active else (d.tts.getD (dom - 2) {}).cycle

/-- An entry applies in a basic cycle (R490). -/
def enApplies (e : List Byte) (count : Nat) : Bool := count % 2 ^ enRepeat e == enBase e

/-- The domain whose gates the switch follows (R323). -/
def Dev.gateDomain (d : Dev) : Option Nat :=
  if d.isOn 0x0500 then some 0 else if d.isOn 0x0501 then some 1 else none

/-- The gate changes of one basic cycle for class `c` of port `p`: instant after the meridian, and open or not (R495). -/
def gateChanges (t : Mem) (p c count : Nat) : List (Nat × Bool) :=
  (0, true) :: ((tblEntries t).filter (fun e => enKind e.2 == 1 && enApplies e.2 count)).map
    (fun e => (enOffset e.2, bit (byteAt e.2 (8 + p)) c))

/-- The gate changes of `n` basic cycles from count `k` on, the first meridian at tick `m`. -/
def gateTrain (t : Mem) (p c cyc : Nat) : Nat → Nat → Nat → List (Nat × Bool)
  | 0, _, _ => []
  | n + 1, k, m =>
    (gateChanges t p c (k % 2 ^ tblMatrix t)).map (fun x => (m + x.1, x.2)) ++ gateTrain t p c cyc n (k + 1) (m + cyc)

/-- A gate of the active table stays open from now to `stop` (R322). -/
def Dev.gateHolds (d : Dev) (dom p c stop : Nat) : Bool :=
  let m := d.doms.getD dom {}
  let cyc := max 1 (d.domCycle dom m.active)
  let n := (stop - m.last) / cyc + 1
  (gateTrain m.active p c cyc n m.mcount m.last).all (fun x => x.2 || decide (x.1 ≤ d.tick) || decide (stop ≤ x.1))

/-- The longest open window of a gated galley in ns over the whole matrix; `none` where it never closes (R323). -/
def Dev.longestOpen (d : Dev) (dom p c : Nat) : Option Nat :=
  let m := d.doms.getD dom {}
  let cyc := max 1 (d.domCycle dom m.active)
  let n := 2 * 2 ^ tblMatrix m.active
  let tr := gateTrain m.active p c cyc n 0 0
  if tr.all (·.2) then none
  else
    let r := tr.foldl (fun (a : Option Nat × Nat) x =>
      match a.1, x.2 with
      | none, true => (some x.1, a.2)
      | some s, false => (none, max a.2 (x.1 - s))
      | _, _ => a) (none, 0)
    some (match r.1 with
      | some s => max r.2 (n * cyc - s)
      | none => r.2)

end Sys2Proof.Machine
end

