-- ==== Sys2Proof/Machine/Rings.lean ====
section
/-! DEFINITION. Host rings (R149 to R157): entries, reservations, publication, skip entries, the index table and the attention condition. -/

namespace Sys2Proof.Machine

def Dev.ring (d : Dev) (r : Nat) : Ring := d.hst.rings.getD r {}
def Dev.setRing (d : Dev) (r : Nat) (f : Ring → Ring) : Dev := d.setHst (fun h => { h with rings := upd h.rings r f })
def Dev.ringCfg (d : Dev) (r : Nat) : RingCfg := d.cfg.rings.getD r {}
def ringFid (r : Nat) : Nat := 0x0900 + r

/-- Entries that an item of `l` bytes occupies (R153). -/
def itemEntries (l : Nat) : Nat := 1 + (l - 16 + 31) / 32

/-- Published entries that wait for the consumer (R150). -/
def Ring.count (r : Ring) : Nat := (r.pi + 65536 - r.ci) % 65536

/-- Entries under reservations that PI has not passed. -/
def Ring.pendingEntries (r : Ring) : Nat := (r.resv.map (·.n)).sum

/-- Entries free for a new reservation. -/
def Ring.free (r : Ring) (entries : Nat) : Nat := entries - (r.count + r.pendingEntries)

/-- The offset in host ring memory of the entry at index `i` (R150). -/
def RingCfg.at (c : RingCfg) (i : Nat) : Nat := c.base + (i % c.entries) * 32

def hostMemSize : Nat := 0x40000

/-- Writes entries of 32 bytes from index `i` on, wrapping in the ring. -/
def writeEntries (c : RingCfg) : Mem → Nat → List (List Byte) → Mem
  | m, _, [] => m
  | m, i, e :: es => writeEntries c (Mem.setBytes 0 m (RingCfg.at c i) e) (i + 1) es

/-- Splits bytes into chunks of `k`, the last padded with 0. -/
def chunks (k : Nat) : Nat → List Byte → List (List Byte)
  | 0, _ => []
  | n + 1, bs => (bs.take k ++ zeros (k - (bs.take k).length)) :: chunks k n (bs.drop k)

/-- The entries of an item (Tables 6.5, 6.6). -/
def itemBytes (src inst lost stamp : Nat) (data : List Byte) : List (List Byte) :=
  let first := data.take 16
  ([1#8] ++ leb 1 src ++ leb 2 data.length ++ leb 1 lost ++ leb 1 inst ++ zeros 2 ++ leb 8 stamp ++
    first ++ zeros (16 - first.length)) ::
  chunks 32 (itemEntries data.length - 1) (data.drop 16)

/-- The first entry of a skip that spans `n` entries (Table 6.5). -/
def skipBytes (n stamp : Nat) : List (List Byte) :=
  [[0#8, 0#8] ++ leb 2 n ++ zeros 4 ++ leb 8 stamp ++ zeros 16]

/-- A producer's key for its LOST count: source and instance (R155). -/
def lostKey (src inst : Nat) : Nat := src * 256 + inst

def Ring.lostOf (r : Ring) (k : Nat) : Nat := ((r.lost.find? (fun x => x.1 == k)).map (·.2)).getD 0

/-- A producer discards an item that does not fit (R155): its LOST count saturates at 255. -/
def Dev.ringLost (d : Dev) (r src inst : Nat) : Dev :=
  d.setRing r (fun x =>
    let k := lostKey src inst
    { x with lost := (x.lost.filter (fun y => y.1 != k)) ++ [(k, min 255 (x.lostOf k + 1))] })

/-- PI advances over the longest run of published reservations (R154), each published as its item or as one skip entry. -/
def publishRun (c : RingCfg) (tick : Nat) : Nat → Mem → Ring → Mem × Ring
  | 0, m, r => (m, r)
  | k + 1, m, r =>
    match r.resv with
    | [] => (m, r)
    | v :: vs =>
      if v.done then publishRun c tick k m { r with pi := (r.pi + v.n) % 65536, resv := vs } else (m, r)

def Dev.advanceRing (d : Dev) (r : Nat) : Dev :=
  let x := d.ring r
  let (m, x) := publishRun (d.ringCfg r) d.tick x.resv.length d.hst.mem x
  (d.setHst (fun h => { h with mem := m })).setRing r (fun _ => x)

/-- Reserves all the entries of an item (R153, R154): `none` where the ring lacks them. The reservation is a grant of
quoin 0x07 with a lease and generation of its own. -/
def Dev.ringReserve (d : Dev) (r : Nat) (o : Owner) (n src inst lease slot : Nat) : Option (Nat × Dev) :=
  let x := d.ring r
  let c := d.ringCfg r
  if x.free c.entries < n then none
  else
    let l := d.leaseOf 7 lease
    let v : Resv := { id := d.hst.outIds, owner := o, idx := (x.pi + x.pendingEntries) % 65536, n := n, gen := x.gen,
                      lease := l, expiry := d.tick + l * 1000, slot := slot, src := src, inst := inst }
    some (v.id, (d.setRing r (fun x => { x with resv := x.resv ++ [v] })).setHst
      (fun h => { h with outIds := h.outIds + 1 }))

/-- Publishes an item under a reservation: its entries are written and PI advances when its turn comes (R153, R154). The
item carries the producer's LOST count, which returns to 0 (R155). -/
def Dev.ringPublish (d : Dev) (r id : Nat) (data : List Byte) : Dev :=
  match (d.ring r).resv.find? (fun v => v.id == id) with
  | none => d
  | some v =>
    let k := lostKey v.src v.inst
    let es := itemBytes v.src v.inst ((d.ring r).lostOf k) d.tick data
    let d := d.setHst (fun h => { h with mem := writeEntries (d.ringCfg r) h.mem v.idx es })
    (d.setRing r (fun x => { x with
      resv := updFirst x.resv (fun y => y.id == id) (fun y => { y with done := true, data := data }),
      lost := x.lost.filter (fun y => y.1 != k) })).advanceRing r

/-- Abandons a reservation, or answers its lapse: one skip entry that spans its entries (R154). Its generation moves on. -/
def Dev.ringSkip (d : Dev) (r id : Nat) : Dev :=
  match (d.ring r).resv.find? (fun v => v.id == id) with
  | none => d
  | some v =>
    let d := d.setHst (fun h => { h with mem := writeEntries (d.ringCfg r) h.mem v.idx (skipBytes v.n d.tick) })
    (d.setRing r (fun x => { x with
      resv := updFirst x.resv (fun y => y.id == id) (fun y => { y with done := true }),
      skips := wrap32 (x.skips + 1), gen := (x.gen + 1) % 65536 })).advanceRing r

/-- A part-side producer publishes one item in one step (R153): reserved, written, published; or discarded and counted
where it does not fit (R155). The Bool says that it was published. A ring in DRAINING grants no reservation (R157). -/
def Dev.ringPut (d : Dev) (r : Nat) (o : Owner) (src inst : Nat) (data : List Byte) : Bool × Dev :=
  let n := itemEntries data.length
  match d.ringReserve r o n src inst 0 0 with
  | some (id, d1) => (true, d1.ringPublish r id data)
  | none => (false, d.ringLost r src inst)

/-- The ring's condition for its attention line (R158). -/
def Dev.ringCond (d : Dev) (r : Nat) : Bool :=
  let c := d.ringCfg r
  let n := (d.ring r).count
  if c.dir == 1 then decide (c.thr ≤ n) else c.dir == 2 && decide (n < c.thr)

/-- Whether attention line `l` is asserted (R158). -/
def Dev.attnLine (d : Dev) (l : Nat) : Bool :=
  let src := d.cfg.dev.attn.getD l 0
  (bit src 0 && !d.verind.events.isEmpty) ||
  (bit src 1 && (List.range 32).any (fun r => (d.ringCfg r).attn == l && d.ringCond r))

/-- A drain of a ring is complete (R157). -/
def Dev.ringDrained (d : Dev) (r : Nat) : Bool :=
  if (d.ringCfg r).dir == 1 then (d.ring r).resv.isEmpty
  else (d.ring r).count == 0 || (d.ring r).bound.isNone

/-- The word of the index table for ring `r` (Table 6.7). -/
def Dev.indexWord (d : Dev) (r : Nat) : Nat := (d.ring r).ci * 65536 + (d.ring r).pi

/-- Host ring memory as it is read: the index table and the port status block show their registers, the rest its bytes
(R149, Tables 6.7, 6.8). -/
def Dev.hostMemWord (d : Dev) (a : Nat) : Nat :=
  if 0x3FC00 ≤ a && a < 0x3FD00 then (if a % 8 < 4 then d.indexWord (a % 0x400 / 8) else 0)
  else if 0x3FE00 ≤ a && a < 0x3FE30 then
    let p := d.hst.ports.getD (a % 0x200 / 16) {}
    match a % 16 / 4 with
    | 0 => p.framing
    | 1 => p.overrun
    | 2 => p.winerr
    | _ => 0
  else if 0x3FC00 ≤ a then 0
  else leVal (Mem.getBytes 0 d.hst.mem a 4)

/-- Software writes an index word at WINDOW_COMMIT (R152): only CI of a part-to-host ring and only PI of a host-to-part
ring, forward and within its bound; another write is discarded and counted on the port. A PI that moves on tells the
engine that binds the ring. -/
def Dev.writeIndex (d : Dev) (port r w : Nat) : Dev :=
  let c := d.ringCfg r
  let x := d.ring r
  let err := d.setPort port (fun q => { q with winerr := wrap32 (q.winerr + 1) })
  if c.dir == 1 then
    let fwd := (w / 65536 + 65536 - x.ci) % 65536
    if fwd ≤ x.count then d.setRing r (fun x => { x with ci := w / 65536 % 65536 }) else err
  else if c.dir == 2 then
    let fwd := (w % 65536 + 65536 - x.pi) % 65536
    if fwd ≤ c.entries - x.count then
      let d := d.setRing r (fun x => { x with pi := w % 65536 })
      match x.bound with
      | some l => if fwd == 0 then d else d.raiseLe 0x04 l 16
      | none => d
    else err
  else err

/-- A committed write of one word of host ring memory (R127, R152). Reserved words take nothing. -/
def Dev.writeHostWord (d : Dev) (port a w : Nat) : Dev :=
  if 0x3FC00 ≤ a && a < 0x3FD00 then
    (if a % 8 < 4 then d.writeIndex port (a % 0x400 / 8) w else d)
  else if 0x3FC00 ≤ a then d
  else d.setHst (fun h => { h with mem := Mem.setBytes 0 h.mem a (leb 4 w) })

/-- A ring's function enters STARTING: both indices are 0 (R150) and no engine binds it (R273). -/
def Dev.ringStart (d : Dev) (r : Nat) : Dev :=
  d.setRing r (fun x => { x with pi := 0, ci := 0, resv := [], bound := none })

end Sys2Proof.Machine
end

