-- ==== Sys2Proof/Machine/Time.lean ====
section
/-! DEFINITION. The Orrery (17): Orrery time and the pulse timescale against the tick, the servo, steps, master change, occultation, transit
pulses and event captures. -/

namespace Sys2Proof.Machine

def Dev.setOrr (d : Dev) (f : Orr → Orr) : Dev := { d with orr := f d.orr }

/-- Parts in 10¹². -/
def ppT : Int := 1000000000000
def secNs : Nat := 1000000000

/-- Time of the disciplined rate that passes in `dt` ns of tick (R430). -/
def disc (rate : Int) (dt : Nat) : Int := (Int.ofNat dt * (ppT + rate)) / ppT

/-- Ceiling of a quotient of naturals. -/
def ceilDiv (a b : Nat) : Nat := (a + b - 1) / b

/-- The ns by which Orrery time advances from its base to tick `t` (R430). -/
def Orr.advance (o : Orr) (t : Nat) : Int :=
  let te := min (max t o.at_) (max o.slewEnd o.at_)
  let inSlew := (disc o.rate (te - o.at_) * (ppT + o.slew)) / ppT
  inSlew + disc o.rate (max t o.at_ - te)

/-- Orrery time at tick `t` in ns since second 0. -/
def Orr.nsAt (o : Orr) (t : Nat) : Nat := (Int.ofNat o.ns + o.advance t).toNat

/-- One second of P in 10⁻⁴ s of the disciplined rate during a walk (R445). -/
def Orr.walkLen (o : Orr) : Nat := if o.walk < 0 then 10005 else 9995

/-- The pulse timescale P at tick `t` (R445): it follows Orrery time, or walks. -/
def Orr.pOf (o : Orr) (t : Nat) : Nat :=
  if o.walk == 0 then (Int.ofNat o.pns + o.advance t).toNat
  else o.pns + ((disc o.rate (t - o.pAt)).toNat * 10000) / o.walkLen

/-- The gap of R445: Orrery time less P, modulo 1 s into −0.5 s to 0.5 s. -/
def Orr.gap (o : Orr) (t : Nat) : Int :=
  let g := (Int.ofNat (o.nsAt t) - Int.ofNat (o.pOf t)) % 1000000000
  if 500000000 < g then g - 1000000000 else g

/-- Takes the values at tick `t` as the new base; a slew that has run its course ends. -/
def Orr.rebase (o : Orr) (t : Nat) : Orr :=
  { o with at_ := max t o.at_, ns := o.nsAt t, pAt := max t o.at_, pns := o.pOf t,
           slew := if o.slewEnd ≤ t then 0 else o.slew }

/-- Ticks until the disciplined rate has passed `n` ns. -/
def Orr.ticksFor (o : Orr) (n : Nat) : Nat := ceilDiv (n * 1000000000000) (ppT + o.rate).toNat

/-- The first tick at which P, from its present base, has reached `v`. -/
def Orr.pReach (o : Orr) (v : Nat) : Nat :=
  if v ≤ o.pns then o.pAt
  else
    let need := v - o.pns
    if o.walk == 0 then
      let span := ((disc o.rate (o.slewEnd - o.at_) * (ppT + o.slew)) / ppT).toNat
      if need ≤ span then o.at_ + o.ticksFor (ceilDiv (need * 1000000000000) (ppT + o.slew).toNat)
      else max o.slewEnd o.at_ + o.ticksFor (need - span)
    else o.pAt + o.ticksFor (ceilDiv (need * o.walkLen) 10000)

/-- The first value of P at or above `lo` that is `phase` plus a multiple of `period`. -/
def pNext (lo phase period : Nat) : Nat :=
  if lo ≤ phase then phase else phase + ceilDiv (lo - phase) (max 1 period) * max 1 period

/-- A reading of the time at tick `t` (R434): every field from one instant. -/
def Orr.reading (o : Orr) (t : Nat) : TimeSnap :=
  { tick := t, sec := o.nsAt t / secNs % 2 ^ 48, ns := o.nsAt t % secNs, epoch := o.epoch, quality := o.quality }

def Dev.timeNow (d : Dev) : TimeSnap := d.orr.reading d.tick

/-- A time event (Table 5.21, R432). -/
def Dev.timeEvent (d : Dev) (kind : Nat) : Dev :=
  let r := d.timeNow
  d.emit 0xF005 0x0600 (leb 1 kind ++ leb 1 r.quality ++ leb 2 r.epoch ++ leb 6 r.sec ++ zeros 2 ++ leb 4 r.ns)

/-- Quality changes, with its event (R432). -/
def Dev.setQuality (d : Dev) (q : Nat) : Dev :=
  if d.orr.quality == q then d else (d.setOrr (fun o => { o with quality := q })).timeEvent 2

/-- The holdover code for a time without an accepted measurement (Table 17.6). -/
def holdCode (ns : Nat) : Nat :=
  let s := ns / secNs
  if s < 10 then 0x30 else if s < 100 then 0x31 else if s < 1000 then 0x32
  else if s < 10000 then 0x33 else if s < 100000 then 0x34 else 0x35

/-- Quality takes the holdover code of the time since the last accepted measurement; without one it is kept. -/
def Dev.toHoldover (d : Dev) : Dev :=
  match d.orr.lastAcc with
  | some t => d.setQuality (holdCode (d.tick - t))
  | none => d

/-- Ends any slew at this tick. -/
def Dev.endSlew (d : Dev) : Dev := d.setOrr (fun o => { o.rebase d.tick with slew := 0, slewEnd := 0 })

/-- Forgets the measurements: three consistent ones are needed again (R440). -/
def Dev.acquire3 (d : Dev) : Dev := d.setOrr (fun o => { o with recent := [], ready := false, offsets := [] })

def Dev.timeOn (d : Dev) : Bool := d.isOn 0x0600

/-- TIME_STATUS byte 0 (Table 17.7). -/
def Dev.timeState (d : Dev) : Nat :=
  if !d.timeOn then 0
  else if d.orr.occ then 5
  else if d.cfg.time.clockType == 3 then 6
  else match d.orr.master with
    | some _ => if d.orr.ready then 4 else 3
    | none => if d.orr.grand then 2 else 1

/-! ## Steps (R436, R442 to R444) -/

/-- The next step instant for a decision now (R443). -/
def Dev.stepInstant (d : Dev) : Nat :=
  let o := d.orr.rebase d.tick
  o.pReach (pNext (o.pOf (d.tick + 2000)) 0 secNs)

/-- Starts a walk of P if it does not stand at Orrery time modulo 1 s, and ends one that has closed its gap (R445). -/
def Orr.startWalk (o : Orr) : Orr :=
  let g := o.gap o.at_
  { o with walk := if g < 0 then -1 else if 0 < g then 1 else 0 }

/-- Begins a slew that removes the offset `o` (R441): the rate of slew within the limit, and the new disciplined rate, are
the servo's, which the spec leaves open. -/
def Dev.slewOff (d : Dev) (off : Int) : Dev :=
  let (a, d) := d.draw
  let (b, d) := d.draw
  let lim := max 1 d.cfg.time.slewLimit * 1000000
  let mag := 1 + a % lim
  let rate : Int := Int.ofNat (b % 2000000001) - 1000000000
  d.setOrr (fun o =>
    let o := { o.rebase d.tick with rate := rate }
    if off == 0 then { o with slew := 0, slewEnd := 0 }
    else { o with slew := if 0 < off then -Int.ofNat mag else Int.ofNat mag,
                  slewEnd := d.tick + ceilDiv (off.natAbs * 1000000000000) mag })

/-- Leaves occultation, with its event (R461). -/
def Dev.leaveOcc (d : Dev) : Dev :=
  if d.orr.occ then (d.setOrr (fun o => { o with occ := false })).timeEvent 5 else d

/-- Orrery time changes by `corr` at this tick (R442, R431): a backward step increments the epoch. -/
def Dev.jump (d : Dev) (corr : Int) : Dev :=
  let d := d.endSlew
  let d := d.setOrr (fun o =>
    Orr.startWalk { o with ns := (Int.ofNat o.ns + corr).toNat, epoch := if corr < 0 then (o.epoch + 1) % 65536 else o.epoch })
  if corr < 0 then d.timeEvent 1 else d

/-- A pending step takes effect at its instant (R443, R444). -/
def Dev.applyStep (d : Dev) : Dev :=
  match d.orr.step with
  | none => d
  | some p =>
    let d := (d.advanceTo p.at_).setOrr (fun o => { o.rebase (max d.tick p.at_) with step := none })
    match p.target with
    | none => (d.jump p.corr).leaveOcc
    | some t =>
      let off := Int.ofNat d.orr.ns - Int.ofNat t
      let d := if off.natAbs ≤ d.cfg.time.slewWindow * 1000 then d.slewOff off else d.jump (-off)
      let d := (d.setQuality 1).leaveOcc
      d.completeOpt p.cmd stDone (leb 2 d.orr.epoch)

/-! ## Measurements (R439 to R442) -/

/-- Three successive measurements are consistent (R440). -/
def consistent (rate : Int) (m1 m2 m3 : Nat × Int) : Bool :=
  let T : Int := Int.ofNat m3.1 - Int.ofNat m1.1
  let u : Int := Int.ofNat m2.1 - Int.ofNat m1.1
  decide (m1.1 < m2.1 ∧ m2.1 < m3.1) &&
  decide (((m2.2 - m1.2) * T - (m3.2 - m1.2) * u).natAbs ≤ 1000 * T.natAbs) &&
  decide (((m3.2 - m1.2) * ppT + rate * T).natAbs ≤ 1000000000 * T.natAbs)

def Orr.threeConsistent (o : Orr) : Bool :=
  match o.recent with
  | [a, b, c] => consistent o.rate a b c
  | _ => false

/-- All of the last three measurements lie beyond the window with one sign. -/
def Orr.threeBeyond (o : Orr) (w : Nat) : Bool :=
  o.recent.all (fun m => decide ((w : Int) < m.2)) || o.recent.all (fun m => decide (m.2 < -(w : Int)))

/-- A measurement is used: slew within the window, step beyond it; quality follows (R441, R442, Table 17.6). -/
def Dev.useOffset (d : Dev) (off : Int) (refBus : Bool) : Dev :=
  let offs := (off.natAbs :: d.orr.offsets).take 8
  let d := d.setOrr (fun o => { o with lastAcc := some d.tick, lastOffset := off, offsets := offs })
  let locked := offs.length == 8 && offs.all (fun x => x ≤ (if refBus then 1000 else 100))
  let q := if refBus then (if locked then 0x22 else 0x23) else (if locked then 0x20 else 0x21)
  if off.natAbs ≤ d.cfg.time.slewWindow * 1000 then ((d.slewOff off).setQuality q).leaveOcc
  else (d.setOrr (fun o => { o with step := some { at_ := d.stepInstant, corr := -off } })).setQuality q

/-- A measurement completes (R439, R440). -/
def Dev.measure (d : Dev) (off : Int) (refBus : Bool) : Dev :=
  if d.orr.step.isSome || d.orr.refLost then d
  else
    let d := d.setOrr (fun o => { o with
      recent := (if 3 ≤ o.recent.length then o.recent.drop (o.recent.length - 2) else o.recent) ++ [(d.tick, off)] })
    let w := d.cfg.time.slewWindow * 1000
    if !d.orr.ready then
      if d.orr.threeConsistent then (d.setOrr (fun o => { o with ready := true })).useOffset off refBus else d
    else if off.natAbs ≤ w || (d.orr.threeConsistent && d.orr.threeBeyond w) then d.useOffset off refBus
    else d

/-! ## Masters and occultation (R458 to R461) -/

/-- A master is selected (R459): one whose identity differs from the last followed puts the servo in acquiring. -/
def Dev.follow (d : Dev) (m : Master) : Dev :=
  let d := d.setOrr (fun o => { o with lastSignal := d.tick, grand := false })
  let same := (d.orr.master.map (·.ident)) == some m.ident
  let known := d.orr.lastMaster == some m.ident
  let d := d.setOrr (fun o => { o with master := some m, lastMaster := some m.ident })
  if same || known then (if same then d else d.acquire3)
  else ((d.endSlew).acquire3).timeEvent 3

/-- No master is followed any more. -/
def Dev.deselect (d : Dev) : Dev := d.setOrr (fun o => { o with master := none })

/-- Entry to occultation (R460). -/
def Dev.enterOcc (d : Dev) : Dev :=
  if d.orr.occ then d
  else
    let d := ((d.endSlew).acquire3).setOrr (fun o => { o with occ := true })
    (d.toHoldover).timeEvent 4

/-- The loss time of the selected master runs out (R458, R460). -/
def Dev.lossExpiry (d : Dev) : Dev :=
  match d.orr.master with
  | none => d
  | some m => if d.timeOn then ((d.advanceTo (d.orr.lastSignal + m.loss)).deselect).enterOcc else d

/-- The holdover time crosses its next decade (R460). -/
def Dev.holdoverStep (d : Dev) : Dev :=
  let q := d.orr.quality
  match d.orr.lastAcc with
  | some t =>
    if 0x30 ≤ q && q ≤ 0x34 then (d.advanceTo (t + 10 ^ (q - 0x30 + 1) * secNs)).setQuality (q + 1) else d
  | none => d

/-- The time service leaves ON (R463): no master, and a disciplined quality takes the holdover codes. -/
def Dev.timeStops (d : Dev) : Dev :=
  let d := (d.endSlew).setOrr (fun o => { o with master := none, grand := false, occ := false, recent := [], ready := false })
  if 0x20 ≤ d.orr.quality && d.orr.quality ≤ 0x23 then d.toHoldover else d

/-- A fence, hang or reset of ORR (R43, 17 After a fault): pending steps and slews end, and the servo begins afresh. -/
def Dev.orrReset (d : Dev) : Dev :=
  let cmd := d.orr.step.bind (·.cmd)
  let d := ((d.endSlew).acquire3).setOrr (fun o => { o with step := none, lastOffset := 0 })
  d.completeOpt cmd stFailed (errDetail 0xFFFF 0)

/-! ## Transit pulses (R446 to R448) -/

def Dev.setPulse (d : Dev) (i : Nat) (f : Pulse → Pulse) : Dev := d.setOrr (fun o => { o with pulses := upd o.pulses i f })

/-- The output level of a pulse: active or inactive under its polarity. -/
def Pulse.level (p : Pulse) (on : Bool) : Bool := on != bit p.cfg.flags 1

/-- PULSE_CONFIG's change waits for its edge (R447); a change that leaves nothing to end and nothing to emit applies at
once. -/
def Dev.pulseConfig (d : Dev) (i : Nat) (c : PulseCfg) : Dev :=
  d.setPulse i (fun p =>
    if !p.active && !(bit c.flags 0) then
      let p : Pulse := { p with cfg := c, next := none }
      { p with high := p.level false }
    else { p with next := some c })

/-- The value of P at the next leading edge of a schedule after P has read `lo`. -/
def PulseCfg.edge (c : PulseCfg) (lo : Nat) : Option Nat :=
  if bit c.flags 0 then some (pNext (lo + 1) c.phase c.period) else none

/-- The outputs run unless ORR stopped or the time service is FENCED or FAILED (R448). -/
def Dev.pulsesRun (d : Dev) : Bool :=
  d.islandUp 0x03 && (d.func 0x0600).st != 4 && (d.func 0x0600).st != 5

/-- The next edge of a transit pulse (R446, R447): trailing if a pulse is in progress, else the leading edge that comes
first of the old and the new schedule. -/
def Dev.pulseEdge (d : Dev) (i : Nat) : Dev :=
  let p := d.orr.pulses.getD i {}
  let o := d.orr
  if p.active then
    let d := d.advanceTo (o.pReach (p.leadP + p.cfg.width))
    d.setPulse i (fun p =>
      let p : Pulse := match p.next with
        | some c => if bit c.flags 0 then p else { p with cfg := c, next := none }
        | none => p
      { p with active := false, high := p.level false })
  else if !d.pulsesRun then d
  else
    let lo := o.pOf d.tick
    let old := p.cfg.edge lo
    let new := p.next.bind (fun c => c.edge lo)
    let go (d : Dev) (v : Nat) (c : PulseCfg) (nx : Option PulseCfg) : Dev :=
      (d.advanceTo (o.pReach v)).setPulse i (fun p =>
        let p : Pulse := { p with cfg := c, next := nx, active := true, leadP := v }
        { p with high := p.level true })
    match old, new, p.next with
    | some a, some b, some c => if b ≤ a then go d b c none else go d a p.cfg p.next
    | none, some b, some c => go d b c none
    | some a, none, nx => go d a p.cfg nx
    | _, _, _ => d

/-- The walk of P ends at the instant at which its gap is 0 (R445). The gap closes at the difference of the two rates. -/
def Dev.walkStop (d : Dev) : Dev :=
  let o := d.orr.rebase d.tick
  if o.walk == 0 then d
  else
    let g := (o.gap o.at_).natAbs
    let dt := ceilDiv (g * o.walkLen) 5
    let t := o.at_ + o.ticksFor dt
    (d.advanceTo t).setOrr (fun _ =>
      let o := o.rebase t
      { o with walk := 0, pns := (Int.ofNat o.pns + o.gap t).toNat })

/-! ## Event captures (R449, R450) -/

/-- The data of a capture item (Table 17.8). -/
def captureData (input miss : Nat) (rising : Bool) (r : TimeSnap) : List Byte :=
  leb 1 input ++ leb 1 (if rising then 1 else 2) ++ leb 1 miss ++ leb 1 r.quality ++ leb 2 r.epoch ++ zeros 2 ++
  leb 8 r.tick ++ leb 6 r.sec ++ zeros 2 ++ leb 4 r.ns

def Dev.setEv (d : Dev) (i : Nat) (f : EvIn → EvIn) : Dev := d.setOrr (fun o => { o with evs := upd o.evs i f })

/-- An edge at an event input (R449, R450). -/
def Dev.eventCapture (d : Dev) (i : Nat) (rising : Bool) : Dev :=
  let c := d.cfg.time.capture.getD i {}
  let e := d.orr.evs.getD i {}
  if !(d.islandUp 0x03) || !(if rising then bit c.edge 0 else bit c.edge 1) then d
  else
    let near := match e.last with
      | some t => decide (d.tick < t + 1000)
      | none => false
    if near then d.setEv i (fun e => { e with miss := min 255 (e.miss + 1) })
    else
      let d := d.setEv i (fun e => { e with last := some d.tick })
      if !(d.isOn (ringFid c.ring)) || (d.ringCfg c.ring).dir != 1 then d.setEv i (fun e => { e with miss := min 255 (e.miss + 1) })
      else
        let (ok, d) := d.ringPut c.ring (.island 0x03) 3 i (captureData i e.miss rising d.timeNow)
        if ok then d.setEv i (fun e => { e with miss := 0 }) else d

/-! ## What the host reads (Tables 5.15, 17.7) -/

def Dev.timeGetBody (d : Dev) : List Byte :=
  let r := d.timeNow
  leb 8 r.tick ++ leb 6 r.sec ++ leb 2 r.epoch ++ leb 4 r.ns ++ leb 1 r.quality ++ zeros 3

/-- A signed 32-bit field that saturates (R464). -/
def sat32 (x : Int) : Nat :=
  if 2147483647 < x then 0x7FFFFFFF else if x < -2147483647 then 0x80000001 else (x % 4294967296).toNat

def Dev.timeStatusBody (d : Dev) : List Byte :=
  let o := d.orr
  let b0 := d.timeState + (if o.walk != 0 then 128 else 0) + (if o.step.isSome then 64 else 0)
  let hold := 0x30 ≤ o.quality && o.quality ≤ 0x35
  let el := match o.lastAcc with
    | some t => if hold then (d.tick - t) / secNs else 0
    | none => 0
  leb 1 b0 ++ leb 1 o.quality ++ leb 2 o.epoch ++ leb 8 ((o.master.map (·.ident)).getD 0) ++ leb 4 (sat32 o.lastOffset) ++
  leb 4 o.pathDelay ++ leb 4 el

end Sys2Proof.Machine
end

