-- ==== Sys2Proof/Machine/Timers.lean ====
section
/-! DEFINITION. The engine timers and captures (R255 to R257) and the accepted time of an engine island (R29, R246). -/

namespace Sys2Proof.Machine

/-- The tick of the publication that an engine island accepted last (R29): its age lies from one period to 128 ns plus two
periods, which the spec leaves open within these bounds, and it never runs back. -/
def Dev.accepted (d : Dev) (p : Nat) : Nat × Dev :=
  let t := d.periodPs (peIsland p) / 1000
  let (a, d) := d.draw
  let age := t + a % (128 + t + 1)
  let v := max (d.pe p).ports.lastTick (d.tick - age)
  (v, d.setPorts p (fun q => { q with lastTick := v }))

/-- Changes timer `n` of engine `p`. -/
def Dev.setTmr (d : Dev) (p n : Nat) (f : Timer → Timer) : Dev := d.setPorts p (fun q => { q with tmr := upd q.tmr n f })

def Dev.tmr (d : Dev) (p n : Nat) : Timer := (d.pe p).ports.tmr.getD n {}

/-- CTL's MODE and CSRC (Table 9.8). -/
def Timer.mode (t : Timer) : Nat := bits t.ctl.toNat 28 4
def Timer.csrc (t : Timer) : Nat := bits t.ctl.toNat 24 4

/-- The 64-bit tick of CMP_HI:CMP_LO. -/
def Timer.cmpTick (t : Timer) : Nat := t.cmpHi.toNat * 4294967296 + t.cmpLo.toNat

/-- The Orrery instant of an absolute compare in ns since second 0, and its epoch. -/
def Timer.cmpTime (t : Timer) : Nat :=
  (t.cmpHi.toNat + t.cmpEp.toNat % 65536 * 4294967296) * secNs + t.cmpLo.toNat
def Timer.cmpEpoch (t : Timer) : Nat := t.cmpEp.toNat / 65536

/-- TMR_CTL (R255): arms the timer with the values that the compare ports hold now. -/
def Timer.arm (t : Timer) (ctl : Word) : Timer :=
  let t := { t with ctl := ctl }
  if t.mode == 1 || t.mode == 2 then { t with armed := true, target := t.cmpTick, tEpoch := 0 }
  else if t.mode == 3 then { t with armed := true, target := t.cmpTime, tEpoch := t.cmpEpoch }
  else { t with armed := false }

/-- A compare fires: FIRED, the flags of a step, and the timer's event; a periodic compare moves on by PERIOD. -/
def Dev.fire (d : Dev) (p n : Nat) (flags : Nat) : Dev :=
  (d.setTmr p n (fun t =>
    { t with stat := t.stat ||| BitVec.ofNat 32 (1 + flags),
             armed := t.mode == 2 && t.period != 0#32,
             target := if t.mode == 2 then t.target + t.period.toNat else t.target })).raiseLocal p (6 + n)

/-- The tick at which Orrery time reaches `v` ns, if the present rate and slew hold. -/
def Orr.whenNs (o : Orr) (v : Nat) : Nat := ({ o with walk := 0, pAt := o.at_, pns := o.ns } : Orr).pReach v

/-- A timer reaches its target (R255): the part's time moves to the target if it stands before it. -/
def Dev.timerCompare (d : Dev) (p n : Nat) : Dev :=
  let t := d.tmr p n
  if !t.armed || !(d.pe p).running || (d.pe p).stall == .held then d
  else if t.mode == 3 then
    if t.tEpoch == d.orr.epoch then (d.advanceTo (d.orr.whenNs t.target)).fire p n 0 else d
  else (d.advanceTo t.target).fire p n 0

/-- Absolute compares at a step (R256): one of another epoch fires with EPCH, one that a forward step passes with LATE. -/
def Dev.timersAtStep (d : Dev) (forward : Bool) : Dev :=
  forN 14 d (fun d p => if !(d.pe p).running || (d.pe p).stall == .held then d else forN 4 d (fun d n =>
    let t := d.tmr p n
    if !t.armed || t.mode != 3 then d
    else if t.tEpoch != d.orr.epoch then d.fire p n 2
    else if forward && decide (t.target ≤ d.orr.nsAt d.tick) then d.fire p n 4
    else d))

/-- A pending step takes effect, with the compares that it ends (R443, R256). -/
def Dev.stepInstantEffect (d : Dev) : Dev :=
  if d.orr.step.isNone then d
  else
    let ep := d.orr.epoch
    let before := (d.advanceTo ((d.orr.step.map (·.at_)).getD 0)).timeNow
    let d := d.applyStep
    let now := d.timeNow
    if d.orr.epoch != ep then d.timersAtStep false
    else if before.sec * secNs + before.ns < now.sec * secNs + now.ns then d.timersAtStep true
    else d

/-- A capture of every timer of engine `p` whose source is `src` (R257). -/
def Dev.capture (d : Dev) (p src : Nat) : Dev :=
  if !(d.pe p).running || !((List.range 4).any (fun n => (d.tmr p n).csrc == src)) then d
  else
    let (v, d) := d.accepted p
    forN 4 d (fun d n => if (d.tmr p n).csrc != src then d else
      d.setTmr p n (fun t =>
        { t with capLo := BitVec.ofNat 32 v, capHi := BitVec.ofNat 32 (v / 4294967296),
                 stat := t.stat ||| (if bit t.stat.toNat 3 then 0x18#32 else 0x08#32) }))

/-- The physical engine that runs a logical engine. -/
def Dev.peOf (d : Dev) (l : Nat) : Option Nat := (d.le l).pe

/-- The logical engine that holds the unit binding of an instance, if one does. -/
def Dev.bound (d : Dev) (inst : Nat) : Option Nat :=
  match (d.quoin 0x0A inst).owner with
  | some (.le l) => some l
  | _ => none

/-- An event of a bound unit: the UNIT bit and the timers that capture it (Table 9.7, R257). -/
def Dev.unitEvent (d : Dev) (src inst b : Nat) : Dev :=
  match d.bound inst with
  | none => d
  | some l =>
    let d := d.raiseLe src l b
    match d.peOf l with
    | some p => d.capture p 0xC
    | none => d

/-- An edge at an event input as ORR and the engines see it (R449, R257). -/
def Dev.eventEdge (d : Dev) (i : Nat) (rising : Bool) : Dev :=
  let c := d.cfg.time.capture.getD i {}
  let sel := if rising then bit c.edge 0 else bit c.edge 1
  let d := d.eventCapture i rising
  if sel then forN 14 d (fun d p => d.capture p (7 + i)) else d

end Sys2Proof.Machine
end

