-- ==== Sys2Proof/Machine/Multidrop.lean ====
section
/-! DEFINITION. The multidrop controllers (14, 15): where a frame lands, objects with lock and shadow, requests and their order, error
confinement, rate detection, sleep, and the unit group of ports. -/

namespace Sys2Proof.Machine

def Dev.mb (d : Dev) (n : Nat) : Mb := d.mbs.getD n {}
def Dev.setMb (d : Dev) (n : Nat) (f : Mb → Mb) : Dev := { d with mbs := upd d.mbs n f }
def Dev.mbCfg (d : Dev) (n : Nat) : MbCfg := d.cfg.mbs.getD n {}
def Dev.mbObj (d : Dev) (n k : Nat) : MbObj := (d.mb n).objs.getD k {}
def Dev.setObj (d : Dev) (n k : Nat) (f : MbObj → MbObj) : Dev := d.setMb n (fun m => { m with objs := upd m.objs k f })
def Dev.objCfg (d : Dev) (n k : Nat) : MbObjCfg := (d.mbCfg n).objs.getD k {}
def mbFid (n : Nat) : Nat := 0x0200 + n
def mbIsland (n : Nat) : Nat := 0x20 + n

/-- Flag bits of MB_CONFIG (Table 5.13). -/
def MbCfg.fd (c : MbCfg) : Bool := bit c.flags 0
def MbCfg.listen (c : MbCfg) : Bool := bit c.flags 4
def MbCfg.objMode (c : MbCfg) : Bool := bit c.flags 5

/-- Raises bits of MB_EVT; an enabled one raises the multidrop UNIT bit (Table 15.7). -/
def Dev.mbEvent (d : Dev) (n b : Nat) : Dev :=
  let d := d.setMb n (fun m => { m with evt := m.evt ||| 2 ^ b })
  if bit (d.mb n).emask b then d.unitEvent (mbIsland n) (0x10 + n) 20 else d

/-! ## Stamps (R409, R412) -/

/-- The stamp counter at tick `t`. -/
def Mb.stampAt (m : Mb) (t : Nat) : Nat := (t - m.origin) / 25 % 4294967296

/-! ## Frames as bytes (Table 15.3) -/

def dlcLen (fd : Bool) (dlc : Nat) : Nat :=
  if dlc ≤ 8 then dlc
  else if !fd then 8
  else match dlc with
    | 9 => 12
    | 10 => 16
    | 11 => 20
    | 12 => 24
    | 13 => 32
    | 14 => 48
    | _ => 64

/-- Bytes 4 to 79 of an object that holds a frame. -/
def MbFrame.content (f : MbFrame) : List Byte :=
  leb 4 f.stamp ++ leb 4 (f.ident + b2n f.ide * 2 ^ 29 + b2n f.rtr * 2 ^ 30) ++ leb 1 f.dlc ++
  leb 1 (b2n f.fdf + 2 * b2n f.brs + 4 * b2n f.esi + 8 * b2n f.slp) ++ leb 2 f.data.length ++ f.data ++ zeros (64 - f.data.length)

/-- An open ring entry: bytes 0 to 11 as an object's bytes 4 to 15, then LOSTC. -/
def MbFrame.entry (f : MbFrame) (lostc : Nat) : List Byte :=
  f.content.take 12 ++ leb 1 lostc ++ zeros 3 ++ f.content.drop 12

/-! ## The open ring (R391 to R394) -/

def Dev.mbCount (d : Dev) (n : Nat) : Nat :=
  let e := (d.mbCfg n).entries
  ((d.mb n).pi + 64 * e - (d.mb n).ci) % (64 * e)

/-- A frame goes to the open ring (R392, R393). -/
def Dev.toRing (d : Dev) (n : Nat) (f : MbFrame) : Dev :=
  let e := (d.mbCfg n).entries
  if e ≤ d.mbCount n then
    (d.setMb n (fun m => { m with overrun := wrap32 (m.overrun + 1), lostc := min 255 (m.lostc + 1) })).mbEvent n 8
  else
    (d.setMb n (fun m => { m with ring := Mem.setBytes 0 m.ring ((m.pi % e) * 80) (f.entry m.lostc), lostc := 0,
                                  pi := (m.pi + 1) % (64 * e) })).mbEvent n 0

/-- CI is written (R394): false where the check fails and nothing changes. -/
def Dev.mbSetCi (d : Dev) (n v : Nat) : Bool × Dev :=
  let e := (d.mbCfg n).entries
  let fwd := (v % (64 * e) + 64 * e - (d.mb n).ci) % (64 * e)
  if v < 64 * e && decide (fwd ≤ d.mbCount n) then (true, d.setMb n (fun m => { m with ci := v })) else (false, d)

/-! ## Receive objects (R389, R395 to R400) -/

def Dev.objMatches (d : Dev) (n k : Nat) (f : MbFrame) : Bool :=
  let c := d.objCfg n k
  c.use == 1 && f.ide == c.ext && ((f.ident ^^^ c.ident) &&& c.mask) == 0

/-- A frame is stored to a receive object, or to its shadow while it is locked (R395, R397). -/
def Dev.toObject (d : Dev) (n k : Nat) (f : MbFrame) : Dev :=
  let o := d.mbObj n k
  if o.lock.isSome then
    d.setObj n k (fun o => { o with upd := (o.upd + 1) % 65536, shadow := some (f.content, o.shadow.isSome) })
  else
    (d.setObj n k (fun o => { o with content := f.content, lost := o.lost || o.new, new := true,
                                     upd := (o.upd + 1) % 65536 })).mbEvent n 1

/-- A shadow frame becomes the content (R398, R399). -/
def Dev.unshadow (d : Dev) (n k : Nat) (expired : Bool) : Dev :=
  match (d.mbObj n k).shadow with
  | none => d
  | some (c, lost) =>
    (d.setObj n k (fun o => { o with content := c, lost := lost || (expired && o.new), new := true, shadow := none })).mbEvent n 1

/-- A lock ends by a read of word 19 (R398) or by expiry (R399, R400). -/
def Dev.unlock (d : Dev) (n k : Nat) (expired : Bool) : Dev :=
  if (d.mbObj n k).lock.isNone then d
  else if expired then
    ((d.setObj n k (fun o => { o with lock := none, lexp := true })).mbEvent n 7).unshadow n k true
  else (d.setObj n k (fun o => { o with lock := none, new := false, lost := false, lexp := false })).unshadow n k false

/-- Every lock of a reader is released as by expiry (R400). -/
def Dev.unlockReader (d : Dev) (rd : Nat) : Dev :=
  forN 4 d (fun d n => forN 128 d (fun d k =>
    match (d.mbObj n k).lock with
    | some (r, _) => if r == rd then d.unlock n k true else d
    | none => d))

/-- A lock held 100 µs expires (R399). -/
def Dev.lockExpiry (d : Dev) (n k : Nat) : Dev :=
  match (d.mbObj n k).lock with
  | some (_, t) => (d.advanceTo (t + 100000)).unlock n k true
  | none => d

/-- Word 0 of an object (Table 15.4) as a reader sees it. -/
def Dev.objWord0 (d : Dev) (n k : Nat) (rd : Nat) : Nat :=
  let o := d.mbObj n k
  let c := d.objCfg n k
  let busy := match o.lock with
    | some (r, _) => r != rd
    | none => false
  c.use * 2 ^ 30 + c.prio * 2 ^ 27 + b2n o.new * 2 ^ 26 + b2n o.lost * 2 ^ 25 + b2n o.lexp * 2 ^ 24 + b2n busy * 2 ^ 23 +
  b2n o.req.isSome * 2 ^ 22 + b2n o.txok * 2 ^ 21 + b2n o.wdrn * 2 ^ 20 + o.upd

/-- A read of an object word by a reader (R396, R398). -/
def Dev.objRead (d : Dev) (n k w rd : Nat) : Nat × Dev :=
  let o := d.mbObj n k
  let c := d.objCfg n k
  if w == 0 then
    let v := d.objWord0 n k rd
    (v, if c.use == 1 && o.lock.isNone then d.setObj n k (fun o => { o with lock := some (rd, d.tick) }) else d)
  else
    let v := fld o.content ((w - 1) * 4) 4
    match o.lock with
    | some (r, _) => (v, if w == 19 && r == rd then d.unlock n k false else d)
    | none => (v, d)

/-- A read of multidrop memory at a window offset (Table 15.2). -/
def Dev.mbMemRead (d : Dev) (n a rd : Nat) : Nat × Dev :=
  let m := d.mb n
  if a < 0x2800 then d.objRead n (a / 80) (a % 80 / 4) rd
  else if a < 0x2840 then
    (match a % 0x40 / 4 with
     | 0 => m.ci * 65536 + m.pi
     | 1 => (d.mbCfg n).entries
     | 2 => m.overrun
     | _ => 0, d)
  else if (a - 0x2840) < (d.mbCfg n).entries * 80 then (leVal (Mem.getBytes 0 m.ring (a - 0x2840) 4), d)
  else (0, d)

/-! ## Requests (R402 to R408) -/

/-- Why a content is no transmit frame (R402): the offset in MB_TRANSMIT. -/
def Dev.txFault (d : Dev) (n k : Nat) (ident flags dlc len : Nat) : Option Nat :=
  let c := d.objCfg n k
  let fd := bit flags 1
  if c.use != 2 then some 16
  else if ((fd || bit flags 2) && !(d.mbCfg n).fd) || (bit flags 2 && !fd) || bit flags 0 != c.ext then some 24
  else if 15 < dlc || (8 < dlc && !fd) || len != dlcLen true dlc then some 25
  else if (if bit flags 0 then 0x20000000 else 0x800) ≤ ident then some 20
  else none

/-- Bytes 4 to 79 of a transmit object with a frame; the stamp stays. -/
def txContent (old : List Byte) (ident flags dlc : Nat) (data : List Byte) : List Byte :=
  old.take 4 ++ leb 4 (ident + b2n (bit flags 0) * 2 ^ 29) ++ leb 1 dlc ++ leb 1 (b2n (bit flags 1) + 2 * b2n (bit flags 2)) ++
  leb 2 data.length ++ data ++ zeros (64 - data.length)

/-- The arbitration value of a content (R406): base identifiers and data frames come first as ISO 11898-1 orders them. -/
def arbValue (c : List Byte) : Nat :=
  let id := fld c 4 4
  let x := id % 2 ^ 29
  let rtr := b2n (bit id 30)
  if bit id 29 then (x / 2 ^ 18) * 2 ^ 21 + 3 * 2 ^ 19 + (x % 2 ^ 18) * 2 + rtr else (x % 2 ^ 11) * 2 ^ 21 + rtr * 2 ^ 20

/-- Bits of a frame at its longest, nominal and data phase (R499): worst-case stuffing at its DLC. -/
def longestBits (c : List Byte) : Nat × Nat :=
  let ext := bit (fld c 4 4) 29
  let fl := byteAt c 9
  let n := dlcLen (bit fl 0) (byteAt c 8 % 16)
  if bit fl 0 then
    let arb := if ext then 36 else 17
    let crc := if n ≤ 16 then 17 else 21
    let body := 5 + 8 * n
    let tail := 4 + crc + (4 + crc + 3) / 4
    let dataBits := body + (body + 3) / 4 + tail
    if bit fl 1 then (arb + arb / 4 + 10, dataBits) else (arb + arb / 4 + 10 + dataBits, 0)
  else
    let b := if ext then 54 else 34
    (b + 10 + 8 * n + (b + 8 * n - 1) / 4, 0)

/-- The time of a frame at its longest in ns. -/
def MbCfg.longestNs (m : MbCfg) (c : List Byte) : Nat :=
  let (a, b) := longestBits c
  a * m.bitNs + b * (25 * m.dbrp * (1 + m.dtseg1 + m.dtseg2))

/-- The active table's level of a controller (R496); 0 is event-driven. -/
def Dev.ttLevel (d : Dev) (n : Nat) : Nat := tblLevel (d.doms.getD (2 + n) {}).active

/-- Objects that EXCL entries of the active table name (R499). -/
def Dev.exclObjs (d : Dev) (n : Nat) : List Nat :=
  (tblEntries (d.doms.getD (2 + n) {}).active).filterMap (fun e => if enKind e.2 == 4 then some (enObj e.2) else none)

/-- The controller may start a frame at all (R366, R374, R382). -/
def Dev.mbRuns (d : Dev) (n : Nat) : Bool :=
  let m := d.mb n
  d.isOn (mbFid n) && d.islandUp (mbIsland n) && !m.integ && !m.busOff && !m.asleep && !(d.mbCfg n).listen

/-- Whether object `k`'s request may start now in the time-triggered sense (R499). -/
def Dev.ttPermits (d : Dev) (n k : Nat) (c : List Byte) : Bool :=
  if d.ttLevel n == 0 then true
  else match (d.tts.getD n {}).window with
    | none => false
    | some (kind, obj, stop) =>
      let tt := (d.tts.getD n {}).st
      (tt == 2 || tt == 3) && decide (d.tick + (d.mbCfg n).longestNs c ≤ stop) &&
      (if kind == 4 then obj == k && !(d.tts.getD n {}).pend else kind == 5 && !((d.exclObjs n).contains k))

/-- The request that the controller picks (R406). -/
def Dev.pickReq (d : Dev) (n : Nat) : Option Nat :=
  ((List.range 128).filterMap (fun k => match (d.mbObj n k).req with
    | some q => if d.ttPermits n k q.content then some (k, q) else none
    | none => none)).foldl (fun (a : Option (Nat × MbReq)) x => match a with
      | none => some x
      | some y =>
        let px := (d.objCfg n x.1).prio
        let py := (d.objCfg n y.1).prio
        if py < px || (px == py && arbValue x.2.content < arbValue y.2.content) then some x else some y) none |>.map (·.1)

/-- The object whose frame has begun, if one has (R405). -/
def Dev.begunObj (d : Dev) (n : Nat) : Option Nat :=
  (List.range 128).find? (fun k => match (d.mbObj n k).req with
    | some q => q.begun
    | none => false)

/-- Changes the time-triggered state of a controller. -/
def Dev.setTt (d : Dev) (n : Nat) (f : Tt → Tt) : Dev := { d with tts := upd d.tts n f }
def Dev.tt (d : Dev) (n : Nat) : Tt := d.tts.getD n {}

/-- Where the controller may start a frame and none has begun, the picked request begins (R406). -/
def Dev.mbStart (d : Dev) (n : Nat) : Dev :=
  if !(d.mbRuns n) || (d.begunObj n).isSome then d
  else match d.pickReq n with
    | some k => d.setObj n k (fun o => { o with req := o.req.map (fun q => { q with begun := true, sof := d.tick }) })
    | none => d

/-- A request is made (R405): a copy of a content that replaces the pending one, or waits behind one that has begun. -/
def Dev.newRequest (d : Dev) (n k : Nat) (content : List Byte) : Dev :=
  let q : MbReq := { content := content }
  (d.setObj n k (fun o =>
    let o : MbObj := { o with txok := false, wdrn := false }
    if (o.req.map (·.begun)).getD false then { o with wait := some q } else { o with req := some q })).mbStart n

/-- A request ends withdrawn or refused: WDRN and its event (R403, R407). -/
def Dev.setWdrn (d : Dev) (n k : Nat) : Dev := (d.setObj n k (fun o => { o with wdrn := true })).mbEvent n 3

/-- A waiting request becomes pending (R405). -/
def MbObj.promote (o : MbObj) : MbObj := { o with req := o.wait, wait := none }

/-- Withdraws an object's requests (R407): one whose frame has begun completes first. The Bool says that one had not. -/
def Dev.mbWithdraw (d : Dev) (n k : Nat) : Bool × Dev :=
  match (d.mbObj n k).req with
  | none => (false, d)
  | some q =>
    if q.begun then
      let had := (d.mbObj n k).wait.isSome
      (had, d.setObj n k (fun o => { o with req := some { q with withdrawn := true }, wait := none }))
    else (true, (d.setObj n k (fun o => { o with req := none, wait := none })).setWdrn n k)

/-- Withdraws every request of a controller whose frame has not begun (R367, Table 3.5); the Bool says that there was one. -/
def Dev.mbWithdrawAll (d : Dev) (n : Nat) : Bool × Dev :=
  forN 128 (false, d) (fun r k => let (x, d) := r.2.mbWithdraw n k; (r.1 || x, d))

/-- The frame of the object that has begun ends without being sent: it stays pending, or it is withdrawn (R406, R407). -/
def Dev.mbUnbegin (d : Dev) (n : Nat) : Dev :=
  match d.begunObj n with
  | none => d
  | some k =>
    match (d.mbObj n k).req with
    | some q =>
      if q.withdrawn then (d.setObj n k MbObj.promote).setWdrn n k
      else d.setObj n k (fun o => match o.wait with
        | some _ => o.promote
        | none => { o with req := some { q with begun := false } })
    | none => d

/-- MB_OBJECT_CONFIG takes effect (R408). -/
def Dev.mbObjReset (d : Dev) (n k : Nat) : Dev :=
  let keep := (d.mbObj n k).req.filter (·.begun)
  d.setObj n k (fun _ => { req := keep.map (fun q => { q with withdrawn := true }) })

/-- The frame that a transmit object's content holds (R402): identifier, flags as MB_TRANSMIT gives them, DLC, data length. -/
def txFields (c : List Byte) : Nat × Nat × Nat × Nat :=
  let id := fld c 4 4
  let fl := byteAt c 9
  (id % 2 ^ 29, b2n (bit id 29) + 2 * b2n (bit fl 0) + 4 * b2n (bit fl 1), byteAt c 8,
   dlcLen (bit fl 0) (byteAt c 8))

/-- A write of a word of a transmit object's content (R403): LEN is the part's. -/
def Dev.objWrite (d : Dev) (n k w v : Nat) : Dev :=
  if w < 2 || 19 < w then d
  else d.setObj n k (fun o =>
    let c := o.content.take ((w - 1) * 4) ++ leb 4 v ++ o.content.drop (w * 4)
    let (_, _, _, len) := txFields c
    { o with content := c.take 10 ++ leb 2 len ++ c.drop 12 })

/-- MB_TXREQ without bit 8 (R403): the content becomes a request, or the request is refused. The controller must be ON and
not listen-only. -/
def Dev.mbTxreq (d : Dev) (n k : Nat) : Dev :=
  let c := (d.mbObj n k).content
  let (id, fl, dlc, len) := txFields c
  if (d.txFault n k id fl dlc (if bit fl 1 then len else min len 8)).isSome || 15 < dlc || !(d.isOn (mbFid n)) ||
      (d.mbCfg n).listen then d.setWdrn n k
  else d.newRequest n k c

/-! ## The unit group, ports 0xA0 to 0xB3 (Tables 15.5, 15.6, 18.10) -/

def Mb.state (m : Mb) : Nat := if m.busOff then 2 else if 127 < m.tec || 127 < m.recn then 1 else 0

/-- MB_STAT (Table 15.6). -/
def Dev.mbStat (d : Dev) (n : Nat) : Nat :=
  let m := d.mb n
  min 255 m.tec * 2 ^ 24 + min 255 m.recn * 2 ^ 16 + m.state * 2 ^ 14 + b2n m.asleep * 2 ^ 13 + b2n m.integ * 2 ^ 12 +
  m.lastErr % 16

/-- MB_STATUS (Tables 5.13, 14.7). -/
def Dev.mbStatusBody (d : Dev) (n : Nat) : List Byte :=
  let m := d.mb n
  leb 1 (min 255 m.tec) ++ leb 1 (min 255 m.recn) ++ leb 1 m.state ++ leb 1 m.lastErr ++ leb 4 m.rxcnt ++ leb 4 m.txcnt

/-- TT_STAT (Table 18.10). -/
def Dev.ttStat (d : Dev) (n : Nat) : Nat :=
  let t := d.tt n
  (if d.ttLevel n == 0 then 0 else t.st) + (t.cycle % 256) * 256

/-- MB_STAMP (R409, R412): the count, and the tick latched into MB_XTICK. -/
def Dev.mbStampRead (d : Dev) (n : Nat) : Nat × Dev :=
  ((d.mb n).stampAt d.tick, d.setMb n (fun m => { m with xtick := d.tick % 4294967296 }))

end Sys2Proof.Machine
end

