-- ==== Sys2Proof/Machine/Verind.lean ====
section
/-! DEFINITION. How a Verind packet is received and a channel runs (04): the checks of Table 4.8, sequence classification, held commands, the
reply cache and its replays, opening and closing. The meaning of each opcode is a parameter here. -/

namespace Sys2Proof.Machine

/-- What an opcode answers: a status and the parameter bytes of each fragment of its reply (one, but for the opcodes
that fragment, R85). -/
structure Reply where
  status : Nat := 0
  bodies : List (List Byte) := [[]]
  deriving DecidableEq, Repr, Inhabited

/-- A reply of status DONE with a payload. -/
def Reply.done (b : List Byte) : Reply := { status := stDone, bodies := [b] }
/-- A refusal with its error detail (R84). -/
def Reply.err (st off det : Nat) : Reply := { status := st, bodies := [errDetail off det] }

/-- What an opcode's execution gives: its reply, the part with the command's commit applied, and what follows the reply,
such as the events that the commit brings about. -/
structure OpOut where
  reply : Reply
  dev : Dev
  after : Dev → Dev := fun d => d

/-- The outcome of an opcode's execution: `none` where the command waits (R212). -/
abbrev OpResult := Option OpOut

/-- The execution of a command, as HST holds it, from step 8 of Table 4.8 on. -/
abbrev OpExec := Held → Dev → OpResult

/-- DONE with a payload and a new state. -/
def opDone (d : Dev) (b : List Byte := []) : OpResult := some { reply := .done b, dev := d }

/-- A refusal: only the reply commits (R87). -/
def opErr (d : Dev) (st off det : Nat) : OpResult := some { reply := .err st off det, dev := d }

/-- The command as its completion event will name it. -/
def Held.waiting (h : Held) : Waiting :=
  { op := h.op, seq := h.cmd.seq, ch := h.cmd.channel, fid := h.cmd.fid, arr := h.arr }

/-- ACCEPTED or DEFERRED: the completion's slot is reserved, or NO_RESOURCE (R100); what the command begins follows its
reply. -/
def opAccept (h : Held) (d : Dev) (f : Waiting → Dev → Dev) (st : Nat := stAccepted) : OpResult :=
  if d.verind.canReserve then
    some { reply := { status := st }, dev := d.reserve, after := f h.waiting }
  else opErr d stNoResource 0xFFFF 0

/-- The header and parameters of a command as its CRC covers them (R79, R81). -/
def VCmd.covered (op : Nat) (c : VCmd) : List Byte :=
  [c.sync, c.version] ++ leb 2 c.length ++ leb 2 c.seq ++ leb 2 op ++ [c.flags] ++ leb 1 c.channel ++
    leb 2 c.status ++ leb 2 c.fid ++ leb 2 c.reserved ++ c.params

/-- Steps 3 to 5 of Table 4.8: the refusal, if any. -/
def VCmd.check35 (op : Nat) (c : VCmd) : Option Reply :=
  if c.length < 20 || 4096 < c.length || c.length % 4 != 0 || c.length != c.framed then
    some (.err stBadLength 2 0)
  else if (crc32c (VCmd.covered op c)).toNat != c.crc then some (.err stBadCrc 0xFFFF 0)
  else if c.version != 1#8 then some (.err stBadParam 1 0)
  else if c.flags != 0#8 then some (.err stBadParam 8 0)
  else if c.status != 0 then some (.err stBadParam 10 0)
  else if c.reserved != 0 then some (.err stBadParam 14 0)
  else none

/-- Two sources are one: the port and, for UDP, the peer's address and port (R88, R145). -/
def Peer.same (a b : Peer) : Bool := a.port == b.port && (a.port != 3 || (a.ip == b.ip && a.udp == b.udp))

/-- The packets of a reply (R83, R85). -/
def replyPkts (op : Nat) (c : VCmd) (r : Reply) (extra : Nat) : List Pkt :=
  let n := r.bodies.length
  (List.range n).map (fun i =>
    { seq := c.seq, op := op + 0x8000, ch := c.channel, status := r.status, fid := c.fid, body := r.bodies.getD i [],
      flags := 1 + extra + (if i + 1 < n then 8 else 0) })

/-- Sends the packets of a reply to a peer. -/
def Dev.sendReply (d : Dev) (op : Nat) (c : VCmd) (r : Reply) (extra : Nat) (dst : Peer) : Dev :=
  forEach (replyPkts op c r extra) d (fun d p => d.send (some c.channel) dst p.bytes)

/-- A reply of steps 3 to 7: sent to the source, not cached (R86). -/
def Dev.refuse (d : Dev) (op : Nat) (c : VCmd) (r : Reply) : Dev :=
  forEach (replyPkts op c r 0) d (fun d p => d.send none c.src p.bytes)

/-- A reply fits its cache entry: one packet of at most 256 bytes (R95). -/
def Reply.fits (r : Reply) : Bool :=
  r.bodies.length == 1 && decide (20 + roundUp (r.bodies.headD []).length 4 ≤ 256)

/-- Writes a command's reply into the channel's cache, keeping the newest 64 entries (R60, R94, R95). -/
def Dev.cacheReply (d : Dev) (op : Nat) (c : VCmd) (r : Reply) : Dev :=
  let p := (replyPkts op c r 0).headD {}
  let e : CacheEntry := { seq := c.seq, op := op, crc := c.crc, full := r.fits, cmd := c,
                          reply := if r.fits then p else { p with body := [] } }
  d.setChan c.channel (fun ch => { ch with cache := (e :: ch.cache.filter (fun x => x.seq != c.seq)).take 64 })

/-- Sends a cached reply again with REPLAYED; a reply the entry does not hold is made by running the query again
(R94, R95). -/
def Dev.replay (run : OpExec) (d : Dev) (e : CacheEntry) (dst : Peer) : Dev :=
  if e.full then d.send (some e.reply.ch) dst ({ e.reply with flags := e.reply.flags + 4 } : Pkt).bytes
  else match run { op := e.op, cmd := e.cmd } d with
    | some o => d.sendReply e.op e.cmd o.reply 4 dst
    | none => d

/-- Closes a channel (R90): its held commands and cache are gone, and its windows close with it (R127). -/
def Dev.closeChannel (d : Dev) (ch : Nat) : Dev := d.setChan ch (fun _ => {})

/-- What a channel does when the reply of command `h` is written (R60, R96): the base moves past it, the reply is cached
and sent, and a held duplicate is answered just after. -/
def Dev.settleReply (run : OpExec) (d : Dev) (h : Held) (r : Reply) : Dev :=
  let ch := h.cmd.channel
  let r : Reply := if h.recov && (r.status == stDone || r.status == stAccepted) then { r with status := stRecovered } else r
  let d := d.setChan ch (fun c => { c with base := (h.cmd.seq + 1) % 65536,
                                           held := c.held.filter (fun x => x.cmd.seq != h.cmd.seq) })
  let d := d.cacheReply h.op h.cmd r
  let d := d.sendReply h.op h.cmd r 0 (d.chan ch).peer
  if h.dup then
    match (d.chan ch).cache.find? (fun e => e.seq == h.cmd.seq) with
    | some e => d.replay run e (d.chan ch).peer
    | none => d
  else d

/-- CHANNEL_OPEN's effect (R89): the channel's held commands go without a reply, except those admitted behind it while the
channel was opening; the cache is cleared; the channel is open on the peer the command came from. -/
def Dev.openChannel (d : Dev) (c : VCmd) (evt : Bool) : Dev :=
  let keep := (d.chan c.channel).st == 1
  let d := if evt then d.setVerind (fun v => { v with opens := v.opens + 1 }) else d
  d.setChan c.channel (fun x =>
    { st := 2, peer := c.src, base := c.seq, cache := [],
      held := if keep then x.held.filter (fun h => h.cmd.seq != c.seq) else [],
      order := if evt then d.verind.opens else 0 })

/-- Executes one command whose turn has come, and settles its reply. CHANNEL_CLOSE closes after its reply (R90); a
CHANNEL_OPEN that fails step 9 or 10 has no effect, and its refusal is not cached (R89). The Bool says that the channel may
go on. -/
def Dev.runHeld (run : OpExec) (d : Dev) (h : Held) : Bool × Dev :=
  let ch := h.cmd.channel
  match run h d with
  | none =>
    (false, d.setChan ch (fun c =>
      { c with held := updIf c.held (fun x => x.cmd.seq == h.cmd.seq) (fun x => { x with taken := true }) }))
  | some o =>
    if h.op == 0x0001 && o.reply.status != stDone then
      let d := if (d.chan ch).st == 1 then d.closeChannel ch
        else d.setChan ch (fun c => { c with held := c.held.filter (fun x => x.cmd.seq != h.cmd.seq) })
      (false, d.refuse h.op h.cmd o.reply)
    else
      let d1 := o.after (o.dev.settleReply run h o.reply)
      if h.op == 0x0002 && o.reply.status == stDone then (false, d1.closeChannel ch)
      else (d1.verind.resetReq.isNone, d1)

/-- Executes the held commands of a channel in sequence from its base (R91, R93). Nothing executes while the Compositor
restarts (R61), or after a DEVICE_RESET has committed (R125). -/
def Dev.pump (run : OpExec) (ch : Nat) : Nat → Dev → Dev
  | 0, d => d
  | n + 1, d =>
    if d.cmp.restarting || d.verind.resetReq.isSome then d
    else
      match (d.chan ch).held.find? (fun h => h.cmd.seq == (d.chan ch).base) with
      | none => d
      | some h =>
        let (more, d1) := d.runHeld run h
        if more then Dev.pump run ch n d1 else d1

/-- Executes what every channel can execute, in order of channel. -/
def Dev.pumpAll (run : OpExec) (d : Dev) : Dev := forN 8 d (fun d ch => d.pump run ch 17)

/-- Admits a command (R93, R96): one not yet held is kept in order of receipt; of its duplicates one is kept. -/
def Dev.takeIn (d : Dev) (op : Nat) (c : VCmd) : Dev :=
  if (d.chan c.channel).held.any (fun h => h.cmd.seq == c.seq) then
    d.setChan c.channel (fun x =>
      { x with held := updIf x.held (fun h => h.cmd.seq == c.seq) (fun h => { h with dup := true }) })
  else
    let h : Held := { op := op, cmd := c, arr := d.verind.arrivals }
    (d.setVerind (fun v => { v with arrivals := v.arrivals + 1 })).setChan c.channel
      (fun x => { x with held := x.held ++ [h] })

/-- Step 7 of Table 4.8 (R93, R94): admitted, refused BUSY, replayed, or DUPLICATE. -/
def Dev.classify (run : OpExec) (d : Dev) (op : Nat) (c : VCmd) : Dev :=
  let ch := d.chan c.channel
  let dist := (c.seq + 65536 - ch.base) % 65536
  if dist ≥ 32768 then
    match ch.cache.find? (fun e => e.seq == c.seq) with
    | some e =>
      if 65536 - dist ≤ 64 && e.op == op && e.crc == c.crc then d.replay run e c.src
      else d.refuse op c (.err stDuplicate 4 2)
    | none => d.refuse op c (.err stDuplicate 4 2)
  else if dist ≥ 16 then d.refuse op c (.err stBusy 4 0)
  else (d.takeIn op c).pump run c.channel 17

/-- A CHANNEL_OPEN that passed step 6 (R88, R89): a retransmission is replayed; otherwise it executes whatever its
sequence, at once, or after the restart if the Compositor restarts. -/
def Dev.receiveOpen (run : OpExec) (d : Dev) (c : VCmd) : Dev :=
  let ch := d.chan c.channel
  let dist := (c.seq + 65536 - ch.base) % 65536
  let again := ch.st == 2 && decide (32768 ≤ dist) && decide (65536 - dist ≤ 64) &&
    ch.cache.any (fun e => e.seq == c.seq && e.op == 0x0001 && e.crc == c.crc)
  if again || (ch.st == 1 && ch.base == c.seq) then d.classify run 0x0001 c
  else if ch.st == 2 && !(d.cmp.restarting || d.verind.resetReq.isSome) then
    (d.runHeld run { op := 0x0001, cmd := c, arr := d.verind.arrivals }).2
  else
    let d := if ch.st == 0 then d.setChan c.channel (fun x => { x with st := 1, peer := c.src, base := c.seq }) else d
    (d.takeIn 0x0001 c).pump run c.channel 17

/-- Adoption of a host address (R144): a CHANNEL_OPEN to the host station address that passes steps 1 to 5 sets the host
IPv4 address and UDP port; its record takes backlog slot 64 (R120). -/
def Dev.adopt (d : Dev) (op : Nat) (c : VCmd) : Dev :=
  match c.src.port == 3 && op == 0x0001, c.toAddr with
  | true, some (ip, port) =>
    if 1024 ≤ port && port ≤ 65535 then
      let d := { d with cfg := { d.cfg with dev := { d.cfg.dev with hostAddr := some (ip, port) } } }
      d.setVerind (fun v => { v with backlog := v.backlog.filter (fun b => b.1 != 64) ++ [(64, d.tick, 0)] })
    else d
  | _, _ => d

/-- A received Verind packet, checked in the order of Table 4.8 (R86). Before READY nothing is taken (R168), nor after a
DEVICE_RESET has committed (R125). -/
def Dev.receive (run : OpExec) (op : Nat) (c : VCmd) (d : Dev) : Dev :=
  if d.start.phase != .ready || d.verind.resetReq.isSome then d
  else if c.framed < 16 || c.sync != 0xA7#8 || 7 < c.channel then
    d.setPort c.src.port (fun q => { q with framing := wrap32 (q.framing + 1) })
  else
    match VCmd.check35 op c with
    | some r => d.refuse op c r
    | none =>
      let d := (d.setPort c.src.port (fun q => { q with lost := false })).adopt op c
      let ch := d.chan c.channel
      if ch.st == 0 && op != 0x0001 then d.refuse op c (.err stBadState 9 0)
      else if ch.st != 0 && !(Peer.same ch.peer c.src) then d.refuse op c (.err stDenied 9 0)
      else
        let d := if ch.st != 0 then d.setChan c.channel (fun x => { x with peer := c.src }) else d
        if op == 0x0001 then d.receiveOpen run c else d.classify run op c

/-- A packet's bytes as a command, with its opcode; bytes that are not there read 0. -/
def parseCmd (src : Peer) (dst : Option (Nat × Nat)) (bs : List Byte) : Nat × VCmd :=
  (fld bs 6 2,
   { src := src, toAddr := dst, framed := bs.length, sync := bs.getD 0 0, version := bs.getD 1 0, length := fld bs 2 2,
     seq := fld bs 4 2, flags := bs.getD 8 0, channel := byteAt bs 9, status := fld bs 10 2, fid := fld bs 12 2,
     reserved := fld bs 14 2, params := slice bs 16 (bs.length - 20), crc := fld bs (bs.length - 4) 4 })

/-- A framed packet arrives at a host port (R136, R140, R142). -/
def Dev.receiveBytes (run : OpExec) (src : Peer) (dst : Option (Nat × Nat)) (bs : List Byte) (d : Dev) : Dev :=
  let (op, c) := parseCmd src dst bs
  d.receive run op c

/-- Entries of a fragmenting reply spread over packets of at most 4,096 bytes (R85): each fragment begins with its header,
then the fixed fields, then as many whole entries as fit. -/
def fragment (fixed : List Byte) (size : Nat) (entries : List (List Byte)) : List (List Byte) :=
  let per := (4076 - 4 - fixed.length) / max 1 size
  let n := max 1 ((entries.length + per - 1) / max 1 per)
  (List.range n).map (fun i => leb 2 i ++ leb 2 n ++ fixed ++ ((entries.drop (i * per)).take per).flatten)

/-- DONE with a payload in fragments (R85). -/
def opFragments (d : Dev) (fixed : List Byte) (size : Nat) (entries : List (List Byte)) : OpResult :=
  some { reply := { status := stDone, bodies := fragment fixed size entries }, dev := d }

end Sys2Proof.Machine
end

