-- ==== Sys2Proof/Machine/Checks.lean ====
section
/-! DEFINITION. Steps 9 and 10 of Table 4.8: which function IDs an opcode takes, its parameter length and the limits of its fields; and the
limits that the configuring opcodes put on the running configuration (Tables 5.8 to 5.20, 5.24). -/

namespace Sys2Proof.Machine

/-! ## Layouts (R114, R115) -/

/-- A field of a parameter area: its offset and size, and its limits. A reserved byte has the limits 0 and 0. -/
structure Fld where
  off : Nat
  size : Nat := 1
  lo : Nat := 0
  hi : Nat := 0
  deriving DecidableEq, Repr

/-- The offset of the first field out of its limits, the fields given in order of offset. -/
def firstBad (b : List Byte) : List Fld → Option Nat
  | [] => none
  | f :: fs => if fld b f.off f.size < f.lo || f.hi < fld b f.off f.size then some f.off else firstBad b fs

/-- Padding bytes from `len` on are 0 (R80, Table 5.24). -/
def padFields (len total : Nat) : List Fld := (List.range (total - len)).map (fun i => { off := len + i })

/-- A fixed-layout opcode: its function ID, length and fields are checked, and then it executes. -/
def opFixed (h : Held) (d : Dev) (fidOk : Nat → Bool) (len : Nat) (fs : List Fld) (k : OpResult) : OpResult :=
  if !(fidOk h.cmd.fid) then opErr d stBadParam 12 0
  else if h.cmd.params.length != roundUp len 4 then opErr d stBadLength 16 0
  else match firstBad h.cmd.params (fs ++ padFields len (roundUp len 4)) with
    | some o => opErr d stBadParam (16 + o) 0x010A
    | none => k

/-- A variable-length opcode: `fixed` bytes, then as many as the length field of 2 bytes at `at_` says, in units of `unit`. -/
def opVar (h : Held) (d : Dev) (fidOk : Nat → Bool) (fixed at_ unit : Nat) (fs : List Fld) (k : OpResult) : OpResult :=
  let n := fld h.cmd.params at_ 2 * unit
  let total := roundUp (fixed + n) 4
  if !(fidOk h.cmd.fid) then opErr d stBadParam 12 0
  else if h.cmd.params.length < at_ + 2 || h.cmd.params.length != total then opErr d stBadLength (16 + at_) 0
  else match firstBad h.cmd.params (fs ++ padFields (fixed + n) total) with
    | some o => opErr d stBadParam (16 + o) 0x010A
    | none => k

def fidDev (f : Nat) : Bool := f == 0
/-- A function ID of Table 4.9 with a lifecycle. -/
def fidAny (f : Nat) : Bool := funcIds.contains f
def fidClass (c : Nat) (f : Nat) : Bool := fclass f == c && fidAny f

/-! ## Limits of the configuration -/

/-- MAC_CONFIG's check against the bank's class (R12, Table 5.24): the offset and detail of a refusal. Classes are 1 for 1.8 V, 2
for 2.5 V, 3 for 3.3 V, and 0 for a bank treated as off. -/
def MacCfg.bad (c : MacCfg) (bank : Nat) : Option (Nat × Nat) :=
  if c.mode < 1 || 4 < c.mode then some (0, 0x010A)
  else if 2 < c.speed then some (1, 0x010A)
  else if c.maxFrame < 1518 || 9216 < c.maxFrame then some (2, 0x010A)
  else if 3 < c.flags then some (10, 0x010A)
  else if c.mode ≤ 2 && bank != 1 && bank != 2 then some (0, 0x0113)
  else if 3 ≤ c.mode && c.speed == 2 then some (1, 0x010A)
  else none

/-- MB_CONFIG's fields and the conditions of Table 14.4 (R368, R369): the offset of a refusal. -/
def MbCfg.bad (c : MbCfg) : Option Nat :=
  let fd := bit c.flags 0
  let nq := 1 + c.ntseg1 + c.ntseg2
  let nb := 25 * c.nbrp * nq
  let dq := 1 + c.dtseg1 + c.dtseg2
  let db := 25 * c.dbrp * dq
  if c.nbrp < 1 || 256 < c.nbrp then some 0
  else if c.ntseg1 < 2 || 255 < c.ntseg1 then some 2
  else if c.ntseg2 < 1 || 128 < c.ntseg2 then some 3
  else if c.nsjw < 1 || 128 < c.nsjw then some 4
  else if (if fd then c.dbrp < 1 || 32 < c.dbrp else c.dbrp != 0) then some 5
  else if (if fd then c.dtseg1 < 1 || 32 < c.dtseg1 else c.dtseg1 != 0) then some 6
  else if (if fd then c.dtseg2 < 1 || 16 < c.dtseg2 else c.dtseg2 != 0) then some 7
  else if (if fd then c.dsjw < 1 || 16 < c.dsjw else c.dsjw != 0) then some 8
  else if 63 < c.flags then some 9
  else if nq < 8 || 384 < nq || nb < 1000 || 100000 < nb || c.ntseg2 < c.nsjw || c.ntseg1 < c.nsjw then some 0
  else if fd && (dq < 5 || 49 < dq || db < 125 || 1000 < db || nb < db || c.dtseg2 < c.dsjw || c.dtseg1 < c.dsjw) then some 5
  else if !fd && (bit c.flags 1 || bit c.flags 2) then some 9
  else if bit c.flags 3 && (nb < 8000 || c.ntseg1 < 3) then some 9
  else none

/-- MB_RING_CONFIG's field. -/
def ringEntriesOk (n : Nat) : Bool := decide (64 ≤ n) && decide (n ≤ 1024) && n % 64 == 0

/-- SL_CONFIG's fields (R418). -/
def SlCfg.bad (c : SlCfg) : Option Nat :=
  if c.rate < 300 || 12000000 < c.rate then some 0
  else if c.dataBits < 7 || 9 < c.dataBits then some 4
  else if 2 < c.parity then some 5
  else if c.stop < 1 || 2 < c.stop then some 6
  else if 255 < c.lead then some 8
  else if 255 < c.lag then some 10
  else if c.dataBits == 9 && c.parity != 0 then some 5
  else none

/-- FORME_RING_CONFIG's fields. -/
def FrCfg.bad (c : FrCfg) : Option Nat :=
  if c.role < 1 || 3 < c.role then some 0
  else if 63 < c.rank then some 1
  else if c.cycle < 31250 || 1000000000 < c.cycle then some 4
  else none

/-- Ports of a mask. -/
def macsOf (m : Nat) : Nat := ((List.range 6).filter (fun i => bit m i)).length
def mbsOf (m : Nat) : Nat := ((List.range 4).filter (fun i => bit m (8 + i))).length

/-- TIME_CONFIG's fields and the rules of R451. -/
def TimeCfg.bad (c : TimeCfg) : Option Nat :=
  if !([0, 1, 2, 3, 4, 0x10].contains c.profile) then some 0
  else if c.clockType < 1 || 3 < c.clockType then some 1
  else if c.portMask &&& 0xF0C0 != 0 then some 2
  else if 127 < c.domain then some 4
  else if c.slewWindow < 1 || 1000000 < c.slewWindow then some 8
  else if c.slewLimit < 1 || 500 < c.slewLimit then some 12
  else if c.profile == 0 then (if c.clockType != 1 then some 1 else if c.portMask != 0 then some 2 else none)
  else if c.profile == 0x10 then
    (if c.clockType != 1 then some 1 else if macsOf c.portMask != 0 || mbsOf c.portMask != 1 then some 2 else none)
  else if c.clockType == 1 then (if macsOf c.portMask + mbsOf c.portMask != 1 then some 2 else none)
  else if c.clockType == 2 then (if macsOf c.portMask < 2 then some 2 else none)
  else if 3 < c.profile then some 1
  else if mbsOf c.portMask != 0 then some 2
  else none

/-- PULSE_CONFIG's fields. -/
def PulseCfg.bad (c : PulseCfg) : Option Nat :=
  if 3 < c.flags then some 1
  else if c.period < 1000000 || 1000000000 < c.period || 1000000000 % c.period != 0 then some 4
  else if c.width < 100 || c.period / 2 < c.width then some 8
  else if c.period ≤ c.phase then some 12
  else none

def MirrorCfg.bad (c : MirrorCfg) : Option Nat :=
  if 5 < c.dest then some 2 else if 6 < c.cls then some 3 else none

def ProofCfg.bad (c : ProofCfg) : Option Nat :=
  if c.n < 1 || 65535 < c.n then some 0
  else if c.trunc < 1 || 8 < c.trunc then some 2
  else if 3 < c.dir then some 3
  else if 31 < c.ring then some 4
  else none

def pow2s : List Nat := [16, 32, 64, 128, 256, 512, 1024]

/-- RING_CONFIG's fields; a ring lies below 0x3FC00 (R149) and overlaps no other ring (Table 5.24). -/
def RingCfg.bad (c : RingCfg) (i : Nat) (rings : List RingCfg) : Option Nat :=
  if !(pow2s.contains c.entries) then some 0
  else if c.dir < 1 || 2 < c.dir then some 2
  else if !([0, 1, 0xFF].contains c.attn) then some 3
  else if c.base % 32 != 0 || 0x3FC00 < c.base + 32 * c.entries then some 4
  else if c.thr < 1 || c.entries < c.thr then some 8
  else if (List.range 32).any (fun k => k != i && (let o := rings.getD k {}
      o.entries != 0 && decide (c.base < o.base + 32 * o.entries) && decide (o.base < c.base + 32 * c.entries))) then some 4
  else none

/-- The running configuration of a function holds a value that its configuring opcode would refuse (R121). A logical engine's
is checked where it is placed. -/
def Dev.cfgRefused (d : Dev) (fid : Nat) : Bool :=
  let i := finst fid
  match fclass fid with
  | 1 => ((d.cfg.macs.getD i {}).bad (d.start.bankClass.getD (i / 3) 0)).isSome
  | 2 => ((d.cfg.mbs.getD i {}).bad).isSome || !(ringEntriesOk (d.cfg.mbs.getD i {}).entries)
  | 3 => ((d.cfg.sls.getD i {}).bad).isSome
  | 5 => ((d.cfg.frs.getD i {}).bad).isSome
  | 6 => (d.cfg.time.bad).isSome
  | 7 => ((d.cfg.mirrors.getD i {}).bad).isSome
  | 8 => ((d.cfg.proofs.getD i {}).bad).isSome
  | 9 => ((d.cfg.rings.getD i {}).bad i d.cfg.rings).isSome
  | _ => false

/-- R122: a FAILED function takes no configuration. -/
def Dev.failedCfg (d : Dev) (fid : Nat) : Bool := (d.func fid).st == 5

/-- The common form of an opcode that configures a function (R121, R122): refused on a FAILED function; refused where an OFF-only
field changes while the function is not OFF, `offOnly` being the offset of the first such field; else it commits. -/
def opConfig (h : Held) (d : Dev) (offOnly : Option Nat) (k : OpResult) : OpResult :=
  if d.failedCfg h.cmd.fid then opErr d stBadState 0xFFFF 0x0101
  else match offOnly with
    | some o => if (d.func h.cmd.fid).st != 0 then opErr d stBadState (16 + o) 0x0102 else k
    | none => k

/-- The first of several fields that differ, by offset. -/
def firstDiff : List (Nat × Bool) → Option Nat
  | [] => none
  | (o, ne) :: r => if ne then some o else firstDiff r

/-- R122: a command that needs its function ON. -/
def needsOn (h : Held) (d : Dev) (k : OpResult) : OpResult :=
  match (d.func h.cmd.fid).st with
  | 2 => k
  | 4 => opErr d stFenced 0xFFFF 0
  | _ => opErr d stBadState 0xFFFF 0

end Sys2Proof.Machine
end

