-- ==== Sys2Proof/Machine/Digest.lean ====
section
/-! DEFINITION. The digest and the signature check that the spec names (R536): SHA-256 of FIPS 180-4 and ECDSA over the curve P-256 of
FIPS 186-5, whose constants the spec takes from those standards. PRESUMED: safe while they are the standards' own. -/

namespace Sys2Proof.Machine

/-! ## SHA-256 (FIPS 180-4) -/

def shaK0 : List Word :=
  [0x428a2f98#32, 0x71374491#32, 0xb5c0fbcf#32, 0xe9b5dba5#32, 0x3956c25b#32, 0x59f111f1#32, 0x923f82a4#32, 0xab1c5ed5#32,
   0xd807aa98#32, 0x12835b01#32, 0x243185be#32, 0x550c7dc3#32, 0x72be5d74#32, 0x80deb1fe#32, 0x9bdc06a7#32, 0xc19bf174#32]
def shaK1 : List Word :=
  [0xe49b69c1#32, 0xefbe4786#32, 0x0fc19dc6#32, 0x240ca1cc#32, 0x2de92c6f#32, 0x4a7484aa#32, 0x5cb0a9dc#32, 0x76f988da#32,
   0x983e5152#32, 0xa831c66d#32, 0xb00327c8#32, 0xbf597fc7#32, 0xc6e00bf3#32, 0xd5a79147#32, 0x06ca6351#32, 0x14292967#32]
def shaK2 : List Word :=
  [0x27b70a85#32, 0x2e1b2138#32, 0x4d2c6dfc#32, 0x53380d13#32, 0x650a7354#32, 0x766a0abb#32, 0x81c2c92e#32, 0x92722c85#32,
   0xa2bfe8a1#32, 0xa81a664b#32, 0xc24b8b70#32, 0xc76c51a3#32, 0xd192e819#32, 0xd6990624#32, 0xf40e3585#32, 0x106aa070#32]
def shaK3 : List Word :=
  [0x19a4c116#32, 0x1e376c08#32, 0x2748774c#32, 0x34b0bcb5#32, 0x391c0cb3#32, 0x4ed8aa4a#32, 0x5b9cca4f#32, 0x682e6ff3#32,
   0x748f82ee#32, 0x78a5636f#32, 0x84c87814#32, 0x8cc70208#32, 0x90befffa#32, 0xa4506ceb#32, 0xbef9a3f7#32, 0xc67178f2#32]
/-- The 64 round constants. -/
def shaK : List Word := shaK0 ++ shaK1 ++ shaK2 ++ shaK3

/-- The eight working variables, which are also the hash value. -/
structure Sha where
  a : Word := 0x6a09e667#32
  b : Word := 0xbb67ae85#32
  c : Word := 0x3c6ef372#32
  d : Word := 0xa54ff53a#32
  e : Word := 0x510e527f#32
  f : Word := 0x9b05688c#32
  g : Word := 0x1f83d9ab#32
  h : Word := 0x5be0cd19#32
  deriving DecidableEq, Repr

def Sha.words (x : Sha) : List Word := [x.a, x.b, x.c, x.d, x.e, x.f, x.g, x.h]

def Sha.add (x y : Sha) : Sha :=
  { a := x.a + y.a, b := x.b + y.b, c := x.c + y.c, d := x.d + y.d, e := x.e + y.e, f := x.f + y.f, g := x.g + y.g, h := x.h + y.h }

/-- One round with constant `k`; the window holds the message words W(t) to W(t + 15). -/
def Sha.round (s : Sha × List Word) (k : Word) : Sha × List Word :=
  let x := s.1
  let w (i : Nat) : Word := s.2.getD i 0#32
  let t1 := x.h + (x.e.rotateRight 6 ^^^ x.e.rotateRight 11 ^^^ x.e.rotateRight 25) + ((x.e &&& x.f) ^^^ (~~~x.e &&& x.g)) + k + w 0
  let t2 := (x.a.rotateRight 2 ^^^ x.a.rotateRight 13 ^^^ x.a.rotateRight 22) + ((x.a &&& x.b) ^^^ (x.a &&& x.c) ^^^ (x.b &&& x.c))
  let s0 := (w 1).rotateRight 7 ^^^ (w 1).rotateRight 18 ^^^ (w 1) >>> 3
  let s1 := (w 14).rotateRight 17 ^^^ (w 14).rotateRight 19 ^^^ (w 14) >>> 10
  ({ a := t1 + t2, b := x.a, c := x.b, d := x.c, e := x.d + t1, f := x.e, g := x.f, h := x.g }, s.2.drop 1 ++ [s1 + w 9 + s0 + w 0])

/-- One block of 64 bytes. -/
def Sha.block (x : Sha) (b : List Byte) : Sha :=
  x.add (shaK.foldl Sha.round (x, (List.range 16).map (fun i => BitVec.ofNat 32 (beVal (slice b (4 * i) 4))))).1

/-- SHA-256 of a message, 32 bytes. -/
def sha256 (m : List Byte) : List Byte :=
  let p := m ++ [0x80#8] ++ zeros ((119 - m.length % 64) % 64) ++ beb 8 (8 * m.length)
  ((List.range (p.length / 64)).foldl (fun x i => Sha.block x (slice p (64 * i) 64)) {}).words.flatMap (fun w => beb 4 w.toNat)

/-! ## ECDSA over P-256 (FIPS 186-5) -/

def p256p : Nat := 2 ^ 256 - 2 ^ 224 + 2 ^ 192 + 2 ^ 96 - 1
def p256n : Nat := 0xffffffff00000000ffffffffffffffffbce6faada7179e84f3b9cac2fc632551
def p256gx : Nat := 0x6b17d1f2e12c4247f8bce6e563a440f277037d812deb33a0f4a13945d898c296
def p256gy : Nat := 0x4fe342e2fe1a7f9b8ee7eb4a7c0f9e162bce33576b315ececbb6406837bf51f5

/-- The bits of a 256-bit number, the most significant first. -/
def msBits (v : Nat) : List Bool := (List.range 256).map (fun i => v.testBit (255 - i))

def powMod (b e m : Nat) : Nat := (msBits e).foldl (fun a k => if k then a * a % m * b % m else a * a % m) 1

/-- A point in Jacobian coordinates; `z` is 0 at infinity. -/
structure Jac where
  x : Nat := 1
  y : Nat := 1
  z : Nat := 0
  deriving DecidableEq, Repr

/-- `a - b` modulo the prime of the curve. -/
def subP (a b : Nat) : Nat := (a + p256p - b % p256p) % p256p

/-- Twice a point; the coefficient of the curve is -3. -/
def Jac.double (j : Jac) : Jac :=
  if j.z == 0 || j.y == 0 then {}
  else
    let p := p256p
    let zz := j.z * j.z % p
    let m := 3 * (subP j.x zz * ((j.x + zz) % p) % p) % p
    let yy := j.y * j.y % p
    let s := 4 * j.x * yy % p
    let x := subP (m * m % p) (2 * s)
    { x := x, y := subP (m * subP s x % p) (8 * (yy * yy % p)), z := 2 * j.y * j.z % p }

def Jac.add (j k : Jac) : Jac :=
  if j.z == 0 then k
  else if k.z == 0 then j
  else
    let p := p256p
    let zz := j.z * j.z % p
    let ww := k.z * k.z % p
    let u := j.x * ww % p
    let v := k.x * zz % p
    let s := j.y * (ww * k.z % p) % p
    let t := k.y * (zz * j.z % p) % p
    if u == v then (if s == t then j.double else {})
    else
      let h := subP v u
      let r := subP t s
      let hh := h * h % p
      let hhh := h * hh % p
      let x := subP (subP (r * r % p) hhh) (2 * (u * hh % p))
      { x := x, y := subP (r * subP (u * hh % p) x % p) (s * hhh % p), z := h * (j.z * k.z % p) % p }

/-- `u` times the base point and `v` times `q`, together. -/
def Jac.mul2 (u v : Nat) (q : Jac) : Jac :=
  ((msBits u).zip (msBits v)).foldl (fun j b =>
    let j := j.double
    let j := if b.1 then j.add { x := p256gx, y := p256gy, z := 1 } else j
    if b.2 then j.add q else j) {}

/-- The signature `r`, `s` over a digest verifies under the public key at `qx`, `qy`. -/
def ecdsaOk (qx qy : Nat) (digest : List Byte) (r s : Nat) : Bool :=
  if r == 0 || s == 0 || p256n ≤ r || p256n ≤ s then false
  else
    let w := powMod s (p256n - 2) p256n
    let j := Jac.mul2 (beVal digest * w % p256n) (r * w % p256n) { x := qx, y := qy, z := 1 }
    if j.z == 0 then false
    else
      let zi := powMod j.z (p256p - 2) p256p
      j.x * (zi * zi % p256p) % p256p % p256n == r

end Sys2Proof.Machine
end

