-- ==== Sys2Proof/Machine/Security.lean ====
section
/-! DEFINITION. Keys, signatures and the debug lock (21): eligible slots, signature checks, revocation, challenge and response. -/

namespace Sys2Proof.Machine

def Dev.setSec (d : Dev) (f : Sec → Sec) : Dev := { d with sec := f d.sec }

/-- KEY_INFO state of a slot (R537): 0 empty, 1 active, 2 revoked. Either revocation bit revokes; a slot whose words cannot
be read counts as revoked for this start. -/
def Dev.keyState (d : Dev) (slot : Nat) : Nat :=
  match Config.keyUse slot with
  | none => 0
  | some _ => if d.sec.revoked.getD slot false || d.sec.bad.contains slot then 2 else 1

/-- The use byte of a slot, 0 where it is empty. -/
def keyUseOf (slot : Nat) : Nat := (Config.keyUse slot).getD 0

/-- An active slot whose use includes bit `b` of Table 21.4. -/
def Dev.admits (d : Dev) (slot b : Nat) : Bool := d.keyState slot == 1 && bit (keyUseOf slot) b

/-- The use bit that an image needs (Table 21.4): PATCH for a patch, FCAT or UCAT by its catalogue code. -/
def imageUse (kind catalogue : Nat) : Nat := if kind == 2 then 2 else if catalogue < 0x8000 then 0 else 1

/-- A signature over bytes, r and then s in 32 little-endian bytes each, verifies under one of the slots, tried in order from slot 0
(R536). -/
def verifyAny (slots : List Nat) (msg sig : List Byte) : Bool :=
  slots.any (fun k => ecdsaOk (Config.publicKey k).1 (Config.publicKey k).2 (sha256 msg) (leVal (slice sig 0 32)) (leVal (slice sig 32 32)))

def serialBytes : List Byte := leb 8 Config.serial.toNat

/-- The revocation message (Table 21.5). -/
def revokeMsg (slot : Nat) (serial : List Byte) : List Byte :=
  [0x54#8, 0x5A#8, 0x52#8, 0x56#8] ++ leb 1 slot ++ zeros 3 ++ serial

/-- The debug message (Table 21.6). -/
def debugMsg (challenge : List Byte) : List Byte :=
  [0x54#8, 0x5A#8, 0x44#8, 0x42#8] ++ serialBytes ++ challenge ++ zeros 4

/-- The signature of KEY_REVOKE verifies under the named slot, or under another active slot with REVOKE, for this part's
serial or for 0 (R538). -/
def Dev.revokeOk (d : Dev) (slot : Nat) (sig : List Byte) : Bool :=
  let slots := (List.range 8).filter (fun k => (k == slot && d.keyState k == 1) || d.admits k 4)
  verifyAny slots (revokeMsg slot serialBytes) sig || verifyAny slots (revokeMsg slot (zeros 8)) sig

/-- The revocation of a slot (R538, R541): it reads as revoked for good, and the restore generation of AON moves on, so
that the restore block no longer matches (R173). -/
def Dev.revoke (d : Dev) (slot : Nat) : Dev :=
  { d with sec := { d.sec with revoked := upd d.sec.revoked slot (fun _ => true) },
           alm := { d.alm with aonGen := wrap32 (d.alm.aonGen + 1) } }

/-- A new challenge replaces the old one (R546). -/
def Dev.newChallenge (d : Dev) : List Byte × Dev :=
  let c := (Config.challenge d.free).take 32
  let c := c ++ zeros (32 - c.length)
  (c, { d with free := d.free + 1, sec := { d.sec with challenge := some (c, d.tick) } })

/-- A debug response (R547): whether it opened the lock. A valid challenge is consumed either way; for 1 s after a failure
none is accepted. -/
def Dev.debugResponse (d : Dev) (sig : List Byte) : Bool × Dev :=
  let early := match d.sec.lastFail with
    | some t => decide (d.tick < t + msNs 1000)
    | none => false
  let ok := match d.sec.challenge with
    | some (c, t) => !early && decide (d.tick < t + msNs 60000) &&
        verifyAny ((List.range 8).filter (fun k => d.admits k 3)) (debugMsg c) sig
    | none => false
  if ok then (true, d.setSec (fun s => { s with challenge := none, unlocked := true }))
  else if early then (false, d)
  else (false, d.setSec (fun s => { s with challenge := none, lastFail := some d.tick }))

/-- A challenge 60 s old is valid no longer (R546). -/
def Dev.expireChallenge (d : Dev) : Dev :=
  match d.sec.challenge with
  | some (_, t) => (d.advanceTo (t + msNs 60000)).setSec (fun s => { s with challenge := none })
  | none => d

end Sys2Proof.Machine
end

