-- ==== Sys2Proof/Machine/Typecase.lean ====
section
/-! DEFINITION. The Typecase (08): reads and status words, the queue of work and its operations, suspend and resume, the image store, the
directory, endurance and retirement. -/

namespace Sys2Proof.Machine

def Dev.setTyp (d : Dev) (f : Typ → Typ) : Dev := { d with typ := f d.typ }
def Dev.bank (d : Dev) (b : Nat) : TypBank := d.typ.banks.getD b {}
def Dev.setBank (d : Dev) (b : Nat) (f : TypBank → TypBank) : Dev :=
  d.setTyp (fun t => { t with banks := upd t.banks b f })

/-! ## Geometry (R194, R197) -/

/-- The physical sector of a logical one; a sector number of 1,024 or more names physical sector `s − 1,024` itself. -/
def TypBank.phys (k : TypBank) (s : Nat) : Nat := if 1024 ≤ s then s - 1024 else k.map.getD s 0

/-- A byte of a bank by logical sector and offset (an erased byte reads 0xFF, R196). -/
def TypBank.byte (k : TypBank) (s o : Nat) : Byte := Mem.get 0xFF#8 k.flash (k.phys s * 4096 + o)

/-- `n` bytes of a bank from byte `o` of logical sector `s` on, over sectors in logical order. -/
def TypBank.bytes (k : TypBank) (s o : Nat) : Nat → List Byte
  | 0 => []
  | n + 1 => k.byte (s + o / 4096) (o % 4096) :: k.bytes s (o + 1) n

/-- A sector reads erased. -/
def TypBank.isBlank (k : TypBank) (s : Nat) : Bool :=
  let p := k.phys s
  !(k.flash.any (fun c => decide (p * 4096 ≤ c.1) && decide (c.1 < p * 4096 + 4096))) &&
  !(k.bad.any (fun w => w / 256 == p))

/-- The sector holds a word that cannot be corrected. -/
def TypBank.sectorBad (k : TypBank) (s : Nat) : Bool := k.bad.any (fun w => w / 256 == k.phys s)

def homeBank (slot : Nat) : Nat := slot % 2
def mirrorBank (slot : Nat) : Nat := 1 - slot % 2
def sectorsOf (len : Nat) : Nat := (len + 4095) / 4096

/-- The first sector of a slot's extent in a bank. -/
def DirSlot.first (e : DirSlot) (b : Nat) : Nat := if b == 0 then e.first0 else e.first1
def DirSlot.withFirst (e : DirSlot) (b f : Nat) : DirSlot := if b == 0 then { e with first0 := f } else { e with first1 := f }

/-! ## Reading (R198 to R200, R222) -/

/-- A status word (Table 8.5). -/
def statusWord (kind bank susp sector wait : Nat) : Word :=
  BitVec.ofNat 32 (0xF0000000 + kind * 0x1000000 + bank * 0x800000 + susp * 0x400000 + sector * 0x1000 + wait)

/-- What an engine's read of a bank meets: data, or the KIND of a status word. -/
def Dev.typKind (d : Dev) (b s o : Nat) : Option Nat :=
  let k := d.bank b
  if 992 ≤ s then some 6
  else if k.dead.contains s then some 5
  else match k.op with
    | some op =>
      if op.suspended.isSome then
        (if op.sector == s then some 3 else if k.bad.contains (k.phys s * 256 + o / 16) then some 4 else none)
      else some (if op.erase then 2 else 1)
    | none => if k.bad.contains (k.phys s * 256 + o / 16) then some 4 else none

/-- A read of `n` bytes at engine address 0x2000_0000 + `a` (R194, R198): whether it is data, and the value. WAIT is an
upper bound that the spec leaves open, so a free value. An uncorrectable word is F6 and is counted (R196). -/
def Dev.typRead (d : Dev) (a n : Nat) : Bool × Word × Dev :=
  let b := a / 0x400000
  let s := a % 0x400000 / 4096
  let o := a % 4096
  match d.typKind b s o with
  | none => (true, BitVec.ofNat 32 (leVal ((d.bank b).bytes s o n)), d)
  | some kind =>
    let susp := match (d.bank b).op with
      | some op => b2n op.suspended.isSome
      | none => 0
    if kind ≤ 3 then
      let sec := match (d.bank b).op with
        | some op => op.sector
        | none => s
      let (w, d) := d.draw
      (false, statusWord kind b susp (sec % 1024) (w % 4096), d)
    else
      let d := if kind == 4 then
          ({ d with svc := { d.svc with uncorrectable := wrap32 (d.svc.uncorrectable + 1) } } : Dev).episode
            (fun d => d.logFault 6 0x06 0x01 0x03 0 (b * 0x400 + s))
        else d
      (false, statusWord kind b susp (s % 1024) 0, d)

/-! ## The directory (R209, Table 8.6) -/

def DirSlot.bytes (e : DirSlot) : List Byte :=
  leb 1 e.st ++ leb 1 e.keySlot ++ leb 2 e.catalogue ++ leb 4 e.version ++ leb 4 e.length ++ leb 2 e.first0 ++
    leb 2 e.first1 ++ e.sha.take 32 ++ zeros (32 - (e.sha.take 32).length)

def DirSet.bytes (e : DirSet) : List Byte :=
  leb 1 e.st ++ [0#8] ++ leb 2 e.mask ++ leb 4 e.sgen ++ (e.crcs.map (leb 4)).flatten

def Typ.apply (t : Typ) : DirChange → Typ
  | .slot i e => { t with slots := upd t.slots i (fun _ => e) }
  | .patch a e => { t with patches := upd t.patches a (fun _ => e) }
  | .set i e => { t with sets := upd t.sets i (fun _ => e) }
  | .none => t

/-- The 4,096 bytes of a directory of generation `g`. -/
def Typ.dirBytes (t : Typ) (g : Nat) : List Byte :=
  let body := zeros 48 ++ (t.patches.map (fun e => e.bytes ++ zeros 16)).flatten ++
    (t.slots.map DirSlot.bytes).flatten ++ (t.sets.map DirSet.bytes).flatten ++ zeros 768
  [0x54#8, 0x5A#8, 0x44#8, 0x52#8, 1#8] ++ zeros 3 ++ leb 4 g ++ leb 4 (crc32c body).toNat ++ body

/-- Pages of 256 bytes to program from page 0 of a sector on. -/
def pageSteps (b s : Nat) : Nat → Nat → List Byte → List TypStep
  | 0, _, _ => []
  | n + 1, p, bs =>
    if bs.isEmpty then []
    else .prog b (s + p / 16) (p % 16) (bs.take 256 ++ List.replicate (256 - (bs.take 256).length) 0xFF#8) ::
      pageSteps b s n (p + 1) (bs.drop 256)

def allPages (b s : Nat) (bs : List Byte) : List TypStep := pageSteps b s (bs.length / 256 + 1) 0 bs

/-- Erase steps for the sectors of a run that are not blank (R211). -/
def TypBank.blankSteps (k : TypBank) (b first n : Nat) : List TypStep :=
  ((List.range n).filter (fun i => !(k.isBlank (first + i)))).map (fun i => .erase b (first + i))

/-- The lowest run of `n` free sectors of the image area, none of them dead (R211). -/
def Dev.findRun (d : Dev) (b n : Nat) : Option Nat :=
  let used (s : Nat) : Bool :=
    d.typ.slots.any (fun e => e.st == 2 && decide (e.first b ≤ s) && decide (s < e.first b + sectorsOf e.length)) ||
    d.typ.writing.any (fun w =>
      (homeBank w.slot == b && decide (w.first ≤ s) && decide (s < w.first + sectorsOf w.length)) ||
      (mirrorBank w.slot == b && w.mirror != 0 && decide (w.mirror ≤ s) && decide (s < w.mirror + sectorsOf w.length))) ||
    (d.bank b).dead.contains s
  ((List.range (882 + 1 - n)).map (· + 110)).find? (fun f => (List.range n).all (fun i => !(used (f + i))))

/-! ## Retirement (R217 to R219) -/

/-- Gives a logical sector a spare in place of its physical sector, which is retired, with the service event; without a
spare the logical sector is dead, with a fault event of class 6. -/
def Dev.retireSector (d : Dev) (b s : Nat) : Dev :=
  let k := d.bank b
  let p := k.phys s
  match k.spares with
  | sp :: rest =>
    let d := d.setBank b (fun k => { k with map := upd k.map s (fun _ => sp), retired := k.retired ++ [p], spares := rest })
    ({ d with svc := { d.svc with retirements := wrap32 (d.svc.retirements + 1) } } : Dev).serviceEvent 1 (b * 0x400 + p)
  | [] =>
    let d := d.setBank b (fun k => { k with dead := k.dead ++ [s], retired := k.retired ++ [p] })
    d.inEpisode (fun d => d.logFault 6 0x06 0x02 0x03 0 (b * 0x400 + s))

/-! ## Operations (R201 to R204) -/

/-- Cycles counted for a physical sector (R217). -/
def TypBank.cycles (k : TypBank) (p : Nat) : Nat := ((k.tally.find? (fun x => x.1 == p)).map (·.2)).getD 0
def TypBank.addCycles (k : TypBank) (p n : Nat) : TypBank :=
  { k with tally := k.tally.filter (fun x => x.1 != p) ++ [(p, k.cycles p + n)] }

/-- Where the other bank holds the copy of a sector: the directory in force, the same place of an image's extent, or the sector of
the same number (R209, R211). -/
def Dev.otherSector (d : Dev) (b s : Nat) : Nat :=
  if s < 2 then d.typ.dirCur.getD (1 - b) 0
  else match d.typ.slots.find? (fun e => e.st == 2 && decide (e.first b ≤ s) && decide (s < e.first b + sectorsOf e.length)) with
    | some e => if s < 110 then s else e.first (1 - b) + (s - e.first b)
    | none => s

/-- The steps of a piece of work, found when it begins; `none` where it must wait for a quoin (R213). -/
def Dev.typSteps (d : Dev) (g : TypGoal) : Option (List TypStep) :=
  match g with
  | .blank slot m =>
    match d.typ.writing.find? (fun w => w.slot == slot) with
    | some w =>
      let b := if m then mirrorBank slot else homeBank slot
      let free := (d.quoin 3 b).owner.isNone || (d.quoin 3 b).owner == some (.island 1)
      if m && !free then none
      else some (.stream :: (d.bank b).blankSteps b (if m then w.mirror else w.first) (sectorsOf w.length))
    | none => some []
  | .page slot p =>
    match d.typ.writing.find? (fun w => w.slot == slot) with
    | some w => some [.prog (homeBank slot) (w.first + p / 16) (p % 16)
        (w.buf.take 256 ++ List.replicate (256 - (w.buf.take 256).length) 0xFF#8)]
    | none => some []
  | .check _ => some [.stream]
  | .copy slot =>
    match d.typ.writing.find? (fun w => w.slot == slot) with
    | some w =>
      let bs := (d.bank (homeBank slot)).bytes w.first 0 w.length
      some (.stream :: allPages (mirrorBank slot) w.mirror bs ++ [.stream])
    | none => some []
  | .dir c =>
    let s := 1 - d.typ.dirCur.getD 0 0
    some (.erase 0 s :: allPages 0 s ((d.typ.apply c).dirBytes (d.typ.dgen + 1)))
  | .dirCopy =>
    let s := 1 - d.typ.dirCur.getD 1 0
    some (.erase 1 s :: allPages 1 s (d.typ.dirBytes d.typ.dgen))
  | .eraseRun b f n => some ((d.bank b).blankSteps b f n)
  | .patch a b slot _ =>
    match d.typ.writing.find? (fun w => w.slot == slot) with
    | some w =>
      let f := 46 + 32 * a
      let bs := (d.bank (homeBank slot)).bytes w.first 0 w.length
      some (.stream :: (d.bank b).blankSteps b f 32 ++ allPages b f bs ++ [.stream])
    | none => some []
  | .impos b set tabs _ =>
    let f := 34 + 6 * set
    some ((d.bank b).blankSteps b f 6 ++ (List.range 6).flatMap (fun i => allPages b (f + i) (tabs.getD i [])))
  | .refresh b s =>
    some (.erase b s :: allPages b s ((d.bank (1 - b)).bytes (d.otherSector b s) 0 4096))
  | .retire b p =>
    match (d.bank b).spares with
    | sp :: _ =>
      let k := d.bank b
      let src := match (List.range 992).find? (fun s => k.phys s == p) with
        | some s => if k.sectorBad s then (d.bank (1 - b)).bytes (d.otherSector b s) 0 4096 else k.bytes s 0 4096
        | none => []
      some (allPages b (1024 + sp) src)
    | [] => some []

/-- Programs a page: bits clear, so a byte already programmed keeps its cleared bits; the part programs erased pages only
(R201). -/
def Dev.programPage (d : Dev) (b s p : Nat) (bs : List Byte) : Dev :=
  d.setBank b (fun k => { k with flash := Mem.setBytes 0xFF#8 k.flash (k.phys s * 4096 + p * 256) bs })

/-- Erases a sector: every byte reads 0xFF and its bad words are gone. -/
def Dev.eraseSector (d : Dev) (b s : Nat) : Dev :=
  d.setBank b (fun k => { k with flash := Mem.clear k.flash (k.phys s * 4096) 4096,
                                 bad := k.bad.filter (fun w => w / 256 != k.phys s) })

def Dev.setFrontJob (d : Dev) (f : TypJob → TypJob) : Dev := d.setTyp (fun t => { t with jobs := upd t.jobs 0 f })

/-- Starts the front step of the front piece of work as a bank's operation. An erase of a sector whose tally is spent is
not carried out: the sector is retired onto an erased spare (R217). -/
def Dev.startStep (d : Dev) : Nat → Dev
  | 0 => d
  | k + 1 =>
    match d.typ.jobs with
    | [] => d
    | j :: _ =>
      match j.steps with
      | .erase b s :: rest =>
        let kb := d.bank b
        if 1000000 ≤ kb.cycles (kb.phys s) then
          Dev.startStep ((d.inEpisode (fun d => d.retireSector b s)).setFrontJob (fun j => { j with steps := rest })) k
        else
          d.setBank b (fun kb =>
            { (kb.addCycles (kb.phys s) 1) with
              op := some { erase := true, sector := s, phys := kb.phys s, began := d.tick } })
      | .prog b s p _ :: _ =>
        let began := d.tick
        d.setBank b (fun kb => { kb with
          op := some { erase := false, sector := s, phys := kb.phys s, page := p, began := began } })
      | _ => d

/-- Brings the first piece of work that can begin to the front of the queue. -/
def Dev.pickJob (d : Dev) : Option (TypJob × List TypJob) :=
  let rec go : List TypJob → List TypJob → Option (TypJob × List TypJob)
    | [], _ => none
    | j :: js, seen =>
      if j.begun then some (j, seen.reverse ++ js)
      else match d.typSteps j.goal with
        | some st => some ({ j with begun := true, steps := st }, seen.reverse ++ js)
        | none => go js (j :: seen)
  go d.typ.jobs []

/-- No operation runs and no streamed read is under way. -/
def Dev.typIdle (d : Dev) : Bool :=
  (d.bank 0).op.isNone && (d.bank 1).op.isNone &&
  (match d.typ.jobs with
   | j :: _ => !(j.begun && !j.steps.isEmpty)
   | [] => true)

/-! ## Suspend and resume (R205 to R208) -/

/-- TYP_STAT bit of a bank: a suspend is in effect (R250). -/
def Dev.typSuspended (d : Dev) (b : Nat) : Bool :=
  match (d.bank b).op with
  | some op => op.suspended.isSome
  | none => false

/-- The operation of a bank runs again from now (R206). -/
def Dev.typResume (d : Dev) (b : Nat) : Dev :=
  let t := d.tick
  d.setBank b (fun k => { k with op := k.op.map (fun op =>
    if op.suspended.isSome then { op with suspended := none, began := t, ran := 0 } else op) })

/-- Requester `l` asks for a suspend of bank `b` (R205, R207): held; met at once where no operation runs or a suspend is in
effect. -/
def Dev.typRequest (d : Dev) (b l : Nat) : Dev :=
  if (d.bank b).requests.contains l then d
  else
    let d := d.setBank b (fun k => { k with requests := k.requests ++ [l] })
    if (d.bank b).op.isNone || d.typSuspended b then d.raiseLe 0x06 l 18 else d

/-- Requester `l` releases its request (R206, R207): with the last one the operation resumes. -/
def Dev.typRelease (d : Dev) (b l : Nat) : Dev :=
  if !(d.bank b).requests.contains l then d
  else
    let d := d.setBank b (fun k => { k with requests := k.requests.filter (· != l) })
    if (d.bank b).requests.isEmpty then d.typResume b else d

/-- A held request takes effect (R205, R206): no sooner than the minimum run time, the running operation stops at any
point; every requester is told. -/
def Dev.typSuspend (d : Dev) (b : Nat) : Dev :=
  match (d.bank b).op with
  | some op =>
    if op.suspended.isSome || (d.bank b).requests.isEmpty then d
    else
      let d := d.advanceTo (op.began + usNs d.cfg.dev.typMinUs)
      let t := d.tick
      let d := d.setBank b (fun k => { k with op := some { op with suspended := some t, ran := op.ran + (t - op.began) } })
      forEach (d.bank b).requests d (fun d l => d.raiseLe 0x06 l 18)
  | none => d

/-- A bank suspended for 2 ms resumes; requests still held count as new (R206). -/
def Dev.typSuspendLimit (d : Dev) (b : Nat) : Dev :=
  match (d.bank b).op with
  | some op =>
    match op.suspended with
    | some t => (d.advanceTo (t + msNs 2)).typResume b
    | none => d
  | none => d

/-! ## What a piece of work does at its end -/

def Dev.pushJob (d : Dev) (j : TypJob) : Dev := d.setTyp (fun t => { t with jobs := t.jobs ++ [j] })
def Dev.frontJobs (d : Dev) (js : List TypJob) : Dev := d.setTyp (fun t => { t with jobs := js ++ t.jobs })
def Dev.setWriting (d : Dev) (slot : Nat) (f : Writing → Writing) : Dev :=
  d.setTyp (fun t => { t with writing := updFirst t.writing (fun w => w.slot == slot) f })
def Dev.writingOf (d : Dev) (slot : Nat) : Option Writing := d.typ.writing.find? (fun w => w.slot == slot)

/-- The slot returns to empty and its extents become free (R126, R213); its quoins are released. -/
def Dev.dropWriting (d : Dev) (slot : Nat) : Dev :=
  let d := d.setTyp (fun t => { t with
    writing := t.writing.filter (fun w => w.slot != slot),
    jobs := t.jobs.filter (fun j => match j.goal with
      | .blank s _ => s != slot
      | .page s _ => s != slot
      | .check s => s != slot
      | .copy s => s != slot
      | .patch _ _ s _ => s != slot
      | _ => true) })
  let d := if (d.quoin 3 (homeBank slot)).owner.isSome then d.release 3 (homeBank slot) else d
  if (d.quoin 3 (mirrorBank slot)).owner == some (.island 1) then d.release 3 (mirrorBank slot) else d

/-- Ends an image write in failure: the completion event, and the slot empty again. -/
def Dev.failWriting (d : Dev) (slot status detail : Nat) : Dev :=
  let cmd := (d.writingOf slot).bind (·.cmd)
  (d.dropWriting slot).completeOpt cmd status (errDetail 0xFFFF detail)

/-- Hands whole pages of a slot's write buffer to programming, and at the end the last part of a page (R212). -/
def Dev.queuePages (d : Dev) (slot : Nat) : Dev :=
  match d.writingOf slot with
  | none => d
  | some w =>
    let queued := (d.typ.jobs.filter (fun j => match j.goal with
      | .page s _ => s == slot
      | _ => false)).length
    let have_ := if w.phase == 3 then (w.buf.length + 255) / 256 else w.buf.length / 256
    forN (have_ - queued) d (fun d i => d.pushJob { goal := .page slot (w.pages + queued + i) })

end Sys2Proof.Machine
end

