-- ==== Sys2Proof/Machine/Images.lean ====
section
/-! DEFINITION. Gelea images (11) and the running of Typecase work (08): the header, declarations and colophon of an image, the checks of IMAGE_END,
the three completions of Typecase work, and the image opcodes of family 0x03. -/

namespace Sys2Proof.Machine

/-! ## The image format (R280, Tables 11.5 to 11.7) -/

/-- A declaration of an image: a plate that its logical engine writes. -/
structure ImgDecl where
  plate : Nat := 0
  explicit : Bool := false
  dom : Nat := 0
  base : Nat := 0
  size : Nat := 0
  lease : Nat := 0
  deriving DecidableEq, Repr, Inhabited

/-- A parsed image: the header fields, its sections and declarations, and the colophon's key slot. -/
structure Image where
  kind : Nat := 0
  catalogue : Nat := 0
  version : Nat := 0
  length : Nat := 0
  entry : Nat := 0
  iramLen : Nat := 0
  dramLen : Nat := 0
  wdPeriod : Nat := 0
  dom : Nat := 0
  maxDiv : Nat := 0
  decls : List ImgDecl := []
  iram : List Byte := []
  dram : List Byte := []
  keySlot : Nat := 0
  deriving DecidableEq, Repr, Inhabited

def parseDecl (b : List Byte) : ImgDecl :=
  { plate := byteAt b 1, explicit := bit (byteAt b 2) 0, dom := byteAt b 3, base := fld b 4 4, size := fld b 8 4,
    lease := fld b 12 2 }

/-- A declaration is as Table 11.7 gives. -/
def declOk (b : List Byte) : Bool :=
  let e := parseDecl b
  byteAt b 0 == 1 && decide (e.plate < 64) && decide (byteAt b 2 < 2) &&
  (if e.explicit then e.dom == 0xFF else decide (e.dom < 6)) &&
  e.base % 64 == 0 && decide (64 ≤ e.size) && decide (e.size ≤ 65536) && e.size % 64 == 0 &&
  decide (e.base + 3 * e.size ≤ 0x80000) && decide (e.lease ≤ 16) && fld b 14 2 == 0

def parseImage (b : List Byte) : Image :=
  let il := fld b 20 4
  let dl := fld b 24 4
  let nd := byteAt b 33
  let len := fld b 12 4
  { kind := byteAt b 5, catalogue := fld b 6 2, version := fld b 8 4, length := len, entry := fld b 16 4,
    iramLen := il, dramLen := dl, wdPeriod := fld b 28 4, dom := byteAt b 32, maxDiv := byteAt b 34,
    decls := (List.range nd).map (fun i => parseDecl (slice b (64 + il + dl + 16 * i) 16)),
    iram := slice b 64 il, dram := slice b (64 + il) dl, keySlot := byteAt b (len - 128 + 8) }

/-- Check 3 of R281: the header and declarations against Tables 11.5 and 11.7 (R282 for a patch), and the colophon's VERSION
and KIND. -/
def headerOk (b : List Byte) (len : Nat) : Bool :=
  let im := parseImage b
  let col := b.drop (len - 128)
  let nd := byteAt b 33
  slice b 0 4 == [0x47#8, 0x45#8, 0x4C#8, 0x41#8] && byteAt b 4 == 1 && im.length == len &&
  decide (260 ≤ len) && decide (len ≤ 131072) && len % 4 == 0 &&
  im.catalogue != 0 && im.catalogue != 0xFFFF && (slice b 35 29).all (· == 0#8) &&
  len == 64 + im.iramLen + im.dramLen + 16 * nd + 128 &&
  slice col 0 4 == [0x43#8, 0x4F#8, 0x4C#8, 0x31#8] && fld col 4 4 == im.version && byteAt col 9 == im.kind &&
  decide (byteAt col 8 < 8) && (slice col 10 6).all (· == 0#8) && (slice col 112 12).all (· == 0#8) &&
  (if im.kind == 2 then
    decide (4 ≤ im.iramLen) && decide (im.iramLen ≤ 130880) && im.iramLen % 4 == 0 && im.dramLen == 0 &&
    im.entry == 0 && im.wdPeriod == 0 && im.dom == 0 && nd == 0 && im.maxDiv == 0
  else
    im.kind == 1 && decide (4 ≤ im.iramLen) && decide (im.iramLen ≤ 65536) && im.iramLen % 4 == 0 &&
    decide (im.dramLen ≤ 32768) && im.dramLen % 4 == 0 && im.entry % 4 == 0 && decide (im.entry < im.iramLen) &&
    (im.wdPeriod == 0 || (decide (10 ≤ im.wdPeriod) && decide (im.wdPeriod ≤ 1000000))) &&
    (decide (im.dom < 6) || im.dom == 0xFF) && decide (nd ≤ 32) && decide (2 ≤ im.maxDiv) && decide (im.maxDiv ≤ 16) &&
    (List.range nd).all (fun i => declOk (slice b (64 + im.iramLen + im.dramLen + 16 * i) 16)))

/-- Checks 4 and 5 of R281 on a slot that KEYSLOT names: the refusal's status and detail, if any. -/
def Dev.keyCheck (d : Dev) (im : Image) (b : List Byte) (len : Nat) : Option (Nat × Nat) :=
  if d.keyState im.keySlot == 2 then some (stDenied, 0x0106)
  else if !d.admits im.keySlot (imageUse im.kind im.catalogue) then some (stFailed, 0x0104)
  else if !verifyAny [im.keySlot] (b.take (len - 80)) (slice b (len - 80) 64) then some (stFailed, 0x0104)
  else none

/-- The checks of IMAGE_END in order (R281): the refusal's status and detail, or `none`. -/
def Dev.imageCheck (d : Dev) (b : List Byte) (len : Nat) : Option (Nat × Nat) :=
  if len < 260 || (crc32c (b.take (len - 4))).toNat != fld b (len - 4) 4 then some (stFailed, 0x0105)
  else if sha256 (b.take (len - 128)) != slice b (len - 112) 32 then some (stFailed, 0x0105)
  else if !headerOk b len then some (stFailed, 0x0105)
  else d.keyCheck (parseImage b) b len

/-- The bytes of a valid slot's image, from a bank with no operation running (R284). -/
def Dev.imageBytes (d : Dev) (slot : Nat) : List Byte :=
  let e := d.typ.slots.getD slot {}
  let b := if (d.bank 0).op.isNone && !((d.bank 0).dead.contains e.first0) then 0 else 1
  (d.bank b).bytes (e.first b) 0 e.length

/-- The slot's image passes the checks of a load (R171): it is valid, its CRC-32C and SHA-256 match, its key slot is
active. -/
def Dev.loadable (d : Dev) (slot : Nat) : Bool :=
  let e := d.typ.slots.getD slot {}
  let b := d.imageBytes slot
  e.st == 2 && (crc32c (b.take (e.length - 4))).toNat == fld b (e.length - 4) 4 &&
  sha256 (b.take (e.length - 128)) == e.sha && d.keyState e.keySlot == 1

/-! ## The running of Typecase work -/

/-- SECTOR_RETIRE completes with the spares left. -/
def Dev.retireDone (d : Dev) (b : Nat) (cmd : Option Waiting) : Dev :=
  d.completeOpt cmd stDone (leb 2 (d.bank b).spares.length)

/-- What the end of a piece of work does (R209 to R218). -/
def Dev.finishJob (d : Dev) (j : TypJob) : Dev :=
  match j.goal with
  | .blank slot false => (d.setWriting slot (fun w => { w with phase := 2 })).completeOpt j.cmd stDone []
  | .blank slot true => d.frontJobs [{ goal := .copy slot }]
  | .page slot _ =>
    let d := (d.setWriting slot (fun w => { w with buf := w.buf.drop 256, pages := w.pages + 1 })).renew 3 (homeBank slot)
    match d.writingOf slot with
    | some w => if w.phase == 3 && w.buf.isEmpty then d.pushJob { goal := .check slot } else d
    | none => d
  | .check slot =>
    match d.writingOf slot with
    | none => d
    | some w =>
      let b := (d.bank (homeBank slot)).bytes w.first 0 w.length
      match d.imageCheck b w.length with
      | some (st, det) => d.failWriting slot st det
      | none =>
        let im := parseImage b
        let e : DirSlot := { st := 2, keySlot := im.keySlot, catalogue := im.catalogue, version := im.version,
                             length := w.length, sha := slice b (w.length - 112) 32 }
        if im.kind == 2 then
          let p0 := d.typ.patches.getD 0 {}
          let p1 := d.typ.patches.getD 1 {}
          let a := if p0.st == 0 then 0 else if p1.st == 0 then 1 else if p0.version ≤ p1.version then 0 else 1
          let e := { e with first0 := 46 + 32 * a, first1 := 46 + 32 * a }
          d.frontJobs [{ goal := .dir (.patch a {}) }, { goal := .patch a 0 slot e }, { goal := .patch a 1 slot e },
                       { goal := .dir (.patch a e), cmd := w.cmd }]
        else
          match d.findRun (mirrorBank slot) (sectorsOf w.length) with
          | none => d.failWriting slot stFailed 0x0109
          | some f =>
            let e := (e.withFirst (homeBank slot) w.first).withFirst (mirrorBank slot) f
            (d.setWriting slot (fun w => { w with mirror := f, entry := e })).frontJobs [{ goal := .blank slot true }]
  | .copy slot =>
    match d.writingOf slot with
    | none => d
    | some w =>
      if sha256 (((d.bank (mirrorBank slot)).bytes w.mirror 0 w.length).take (w.length - 128)) == w.entry.sha then
        d.frontJobs [{ goal := .dir (.slot slot w.entry), cmd := w.cmd }]
      else d.failWriting slot stFailed 0x0105
  | .dir c =>
    let d := d.setTyp (fun t => { (t.apply c) with dgen := wrap32 (t.dgen + 1),
                                                   dirCur := upd t.dirCur 0 (fun x => 1 - x) })
    let d := d.frontJobs [{ goal := .dirCopy }]
    match c with
    | .slot i e =>
      if e.st == 2 then (d.dropWriting i).completeOpt j.cmd stDone (leb 4 e.version) else d.completeOpt j.cmd stDone []
    | .patch _ e =>
      if e.st == 2 then
        let d := match d.typ.writing.find? (fun w => w.cmd == j.cmd) with
          | some w => d.dropWriting w.slot
          | none => d
        d.completeOpt j.cmd stDone (leb 4 e.version)
      else d
    | .set _ e =>
      { d with alm := { d.alm with ops := updFirst d.alm.ops (fun o => o.kind == .save && o.sgen == 0)
                                            (fun o => { o with sgen := e.sgen }) } }
    | .none => d
  | .dirCopy => d.setTyp (fun t => { t with dirCur := upd t.dirCur 1 (fun x => 1 - x) })
  | .eraseRun .. => d
  | .patch .. => d
  | .impos .. => d
  | .refresh .. => d
  | .retire b p =>
    let k := d.bank b
    match (List.range 992).find? (fun s => k.phys s == p), k.spares with
    | some s, _ :: _ => (d.retireSector b s).retireDone b j.cmd
    | some _, [] => d.completeOpt j.cmd stFailed (errDetail 0xFFFF 0x0109)
    | none, _ => d.retireDone b j.cmd

/-- Runs the queue on: ends the front piece of work that has no step left, begins the next that can, and starts its
operation. `n` bounds the pieces ended at one instant. -/
def Dev.typAdvance : Nat → Dev → Dev
  | 0, d => d
  | n + 1, d =>
    match d.typ.jobs with
    | j :: js =>
      if j.begun then
        (if j.steps.isEmpty then Dev.typAdvance n ((d.setTyp (fun t => { t with jobs := js })).finishJob j)
         else if (d.bank 0).op.isSome || (d.bank 1).op.isSome then d
         else d.startStep 16)
      else
        match d.pickJob with
        | none => d
        | some (j, rest) =>
          let d := d.setTyp (fun t => { t with jobs := j :: rest })
          let d := match j.goal with
            | .blank s true => if (d.quoin 3 (mirrorBank s)).owner.isNone
                then d.grant 3 (mirrorBank s) (.island 1) 0 0 else d.renew 3 (mirrorBank s)
            | _ => d
          Dev.typAdvance n d
    | [] => d

/-- The work that a new piece may start at once. -/
def Dev.typRun (d : Dev) : Dev := d.typAdvance 64

/-- The quoin of a bank is renewed by each page program and sector erase (R204). -/
def Dev.renewBank (d : Dev) (b : Nat) : Dev := if (d.quoin 3 b).owner.isSome then d.renew 3 b else d

/-- Pages 0 to `p` − 1 of a sector as they stand, to be programmed again. -/
def TypBank.redo (k : TypBank) (b s p : Nat) : List TypStep :=
  (List.range p).map (fun i => .prog b s i (k.bytes s (i * 256) 256))

/-- The bank whose operation runs, not suspended. -/
def Dev.busyBank (d : Dev) : Option (Nat × TypOp) :=
  (List.range 2).findSome? (fun b => match (d.bank b).op with
    | some op => if op.suspended.isNone then some (b, op) else none
    | none => none)

/-- A failed verify (R201, R202): the sector is erased and its pages programmed once more; a second failure is F6, and the
sector is retired and its pages programmed on the spare. -/
def Dev.typFail (d : Dev) (b : Nat) (op : TypOp) (rest : List TypStep) (cur : TypStep) : Dev :=
  match d.typ.jobs with
  | [] => d
  | j :: _ =>
    let pages := if op.erase then [] else (d.bank b).redo b op.sector op.page ++ [cur]
    if j.retry == some (b, op.sector) then
      let d := d.episode (fun d =>
        (d.logFault 6 0x06 0x01 0x03 0 (b * 0x400 + op.sector)).retireSector b op.sector)
      d.setFrontJob (fun j => { j with steps := pages ++ rest, retry := none })
    else
      d.setFrontJob (fun j => { j with steps := .erase b op.sector :: (pages ++ rest), retry := some (b, op.sector) })

/-- A page program ends: verified, or not (R201). -/
def Dev.pageDone (ok : Bool) (d : Dev) : Dev :=
  match d.busyBank, d.typ.jobs with
  | some (b, op), j :: _ =>
    match op.erase, j.steps with
    | false, .prog b' s p bs :: rest =>
      let d := (d.setBank b (fun k => { k with op := none })).renewBank b
      if ok then ((d.programPage b' s p bs).setFrontJob (fun j => { j with steps := rest })).typRun
      else (d.typFail b op rest (.prog b' s p bs)).typRun
    | _, _ => d
  | _, _ => d

/-- A sector erase ends: the sector reads erased, or not (R202). Above 105 °C the erase counts 4 cycles (R217). -/
def Dev.eraseDone (ok hot : Bool) (d : Dev) : Dev :=
  match d.busyBank, d.typ.jobs with
  | some (b, op), j :: _ =>
    match op.erase, j.steps with
    | true, .erase b' s :: rest =>
      let d := (d.setBank b (fun k =>
        { (if hot then k.addCycles op.phys 3 else k) with op := none })).renewBank b
      if ok then ((d.eraseSector b' s).setFrontJob (fun j => { j with steps := rest })).typRun
      else (d.typFail b op rest (.erase b' s)).typRun
    | _, _ => d
  | _, _ => d

/-- A streamed read of the TYP island ends (R211, R213): a blank check finds the sectors to erase when it ends. -/
def Dev.streamDone (d : Dev) : Dev :=
  match d.typ.jobs with
  | j :: _ =>
    match j.begun, j.steps with
    | true, .stream :: rest => (d.setFrontJob (fun j => { j with steps := rest })).typRun
    | _, _ => d
  | [] => d

/-! ## The image opcodes (Table 5.8) -/

/-- An image slot that a bound logical engine or an armed spare uses: it names it, or runs it. -/
def Dev.slotInUse (d : Dev) (slot : Nat) : Bool :=
  (List.range 12).any (fun l =>
    let c := d.cfg.les.getD l {}
    (c.bound && c.slot == slot) || ((d.le l).pe.isSome && (d.le l).image == slot))

def opTypecaseInfo (_ : Held) (d : Dev) : OpResult :=
  opDone d ((List.range 2).flatMap (fun b =>
    let k := d.bank b
    leb 2 (992 - k.dead.length) ++ leb 2 k.spares.length ++ leb 4 ((k.tally.map (·.2)).foldl max 0)))

def opImageList (_ : Held) (d : Dev) : OpResult :=
  opDone d ((List.range 64).flatMap (fun i =>
    let e := d.typ.slots.getD i {}
    match d.writingOf i with
    | some _ => [1#8] ++ zeros 31
    | none => leb 1 e.st ++ leb 1 e.keySlot ++ leb 2 e.catalogue ++ leb 4 e.version ++ leb 4 e.length ++
        (if e.st == 2 then e.sha.take 20 else zeros 20)))

def opImageBegin (h : Held) (d : Dev) : OpResult :=
  let p := h.cmd.params
  let slot := byteAt p 0
  let len := fld p 4 4
  if 64 ≤ slot then opErr d stBadParam 16 0x010A
  else if fld p 1 3 != 0 then opErr d stBadParam 17 0x010A
  else if len < 1 || 131072 < len then opErr d stBadParam 20 0x010A
  else if (d.typ.slots.getD slot {}).st == 2 || (d.writingOf slot).isSome then opErr d stBadState 16 0x0110
  else if !d.verind.canReserve then opErr d stNoResource 0xFFFF 0
  else
    let (ok, d1) := d.acquire 3 (homeBank slot) h.cmd.channel 0
    if !ok then opErr d stBusy 16 0x0103
    else opAccept h d1 (fun w d =>
      match d.findRun (homeBank slot) (sectorsOf len) with
      | none => (d.release 3 (homeBank slot)).completeFailed w 0x0109
      | some f =>
        ((d.setTyp (fun t => { t with writing := t.writing ++ [{ slot := slot, length := len, first := f }] })).pushJob
          { goal := .blank slot false, cmd := some w }).typRun)

def opImageData (h : Held) (d : Dev) : OpResult :=
  let p := h.cmd.params
  let slot := byteAt p 0
  let len := fld p 2 2
  let off := fld p 4 4
  if p.length < 4 || p.length != 8 + roundUp len 4 then opErr d stBadLength 18 0
  else if 64 ≤ slot then opErr d stBadParam 16 0x010A
  else if byteAt p 1 != 0 then opErr d stBadParam 17 0x010A
  else if len < 4 || 1024 < len || len % 4 != 0 then opErr d stBadParam 18 0x010A
  else
    match d.writingOf slot with
    | none => opErr d stBadState 16 0
    | some w =>
      if w.phase != 2 then opErr d stBadState 16 0
      else if off != w.next || roundUp w.length 4 < off + len then opErr d stBadParam 20 0x010A
      else if 16384 < (d.typ.writing.map (fun w => w.buf.length)).sum + len then none
      else opDone (((d.setWriting slot (fun w => { w with buf := w.buf ++ slice p 8 len, next := w.next + len })).renewBank
        (homeBank slot)).queuePages slot).typRun

def opImageEnd (h : Held) (d : Dev) : OpResult :=
  let p := h.cmd.params
  let slot := byteAt p 0
  if 64 ≤ slot then opErr d stBadParam 16 0x010A
  else if fld p 1 3 != 0 then opErr d stBadParam 17 0x010A
  else
    match d.writingOf slot with
    | none => opErr d stBadState 16 0
    | some w =>
      if w.phase != 2 then opErr d stBadState 16 0
      else opAccept h d (fun c d =>
        let d := (d.setWriting slot (fun w => { w with phase := 3, cmd := some c })).queuePages slot
        let idle := w.buf.isEmpty && !(d.typ.jobs.any (fun j => match j.goal with
          | .page s _ => s == slot
          | _ => false))
        (if idle then d.pushJob { goal := .check slot } else d).typRun)

/-- IMAGE_DELETE (R215); an empty slot is DONE (R118). -/
def opImageDelete (h : Held) (d : Dev) : OpResult :=
  let p := h.cmd.params
  let slot := byteAt p 0
  let e := d.typ.slots.getD slot {}
  if 64 ≤ slot then opErr d stBadParam 16 0x010A
  else if fld p 1 3 != 0 then opErr d stBadParam 17 0x010A
  else if (d.writingOf slot).isSome || (e.st == 2 && d.slotInUse slot) then opErr d stBadState 16 0x0110
  else if e.st != 2 then opDone d
  else opAccept h d (fun w d =>
    let n := sectorsOf e.length
    (((d.pushJob { goal := .dir (.slot slot {}), cmd := some w }).pushJob { goal := .eraseRun 0 e.first0 n }).pushJob
      { goal := .eraseRun 1 e.first1 n }).typRun)

/-- SECTOR_RETIRE (R218, R219); a sector already retired is DONE (R118). -/
def opSectorRetire (h : Held) (d : Dev) : OpResult :=
  let p := h.cmd.params
  let b := byteAt p 0
  let s := fld p 2 2
  if 2 ≤ b then opErr d stBadParam 16 0x010A
  else if byteAt p 1 != 0 then opErr d stBadParam 17 0x010A
  else if 1024 ≤ s then opErr d stBadParam 18 0x010A
  else if (d.bank b).retired.contains s then opDone d
  else opAccept h d (fun w d =>
    let k := d.bank b
    if k.spares.contains s then
      let d := d.setBank b (fun k => { k with spares := k.spares.filter (· != s), retired := k.retired ++ [s] })
      ({ d with svc := { d.svc with retirements := wrap32 (d.svc.retirements + 1) } } : Dev).retireDone b (some w)
    else if k.spares.isEmpty then d.completeFailed w 0x0109
    else (d.pushJob { goal := .retire b s, cmd := some w }).typRun)

/-- The contents that a cut-off program or erase leaves are unknown (08, After a fault): each byte is a free value. -/
def Dev.unknownRun (d : Dev) (b a n : Nat) : Dev :=
  let bs := (List.range n).map (fun i => (Config.freeValue (d.free + i)).setWidth 8)
  ({ d with free := d.free + n } : Dev).setBank b (fun k => { k with flash := Mem.setBytes 0xFF#8 k.flash a bs })

/-- The operations that run are cut off where they stand. -/
def Dev.typCutOff (d : Dev) : Dev :=
  forN 2 d (fun d b => match (d.bank b).op with
    | some op =>
      let d := if op.erase then d.unknownRun b (op.phys * 4096) 4096
        else d.unknownRun b (op.phys * 4096 + op.page * 256) 256
      d.setBank b (fun k => { k with op := none })
    | none => d)

/-- A fence, reset or supply fault of TYP (08, After a fault): the running operation is cut off, image data and the slots
being written are lost, and other work begins again from its first step. -/
def Dev.typReset (d : Dev) : Dev :=
  let d := d.typCutOff
  let blanking := d.typ.jobs.filter (fun j => match j.goal with
    | .blank _ false => true
    | _ => false)
  let d := forEach blanking d (fun d j => d.completeOpt j.cmd stFailed (errDetail 0xFFFF 0))
  let d := forEach d.typ.writing d (fun d w => d.failWriting w.slot stFailed 0)
  d.setTyp (fun t => { t with jobs := t.jobs.map (fun j => { j with begun := false, steps := [], retry := none }) })

/-- The quoin of a bank lapses (R126, Table 3.5): the page in progress completes, the operation ends there, and the slot
being written returns to empty. -/
def Dev.typLapse (d : Dev) (b : Nat) : Bool × Dev :=
  let ws := d.typ.writing.filter (fun w => homeBank w.slot == b || (w.mirror != 0 && mirrorBank w.slot == b))
  let d := if ws.isEmpty then d else d.setBank b (fun k => { k with op := none })
  (!ws.isEmpty, forEach ws d (fun d w =>
    let blank := d.typ.jobs.filter (fun j => j.goal == .blank w.slot false)
    let d := forEach blank d (fun d j => d.completeOpt j.cmd stFailed (errDetail 0xFFFF 0))
    d.failWriting w.slot stFailed 0))

end Sys2Proof.Machine
end

