-- ==== Sys2Proof/Machine/Pim.lean ====
section
/-! DEFINITION. Process image memory (09): view ranges and buffers of plates, the caches and the directory with its transactions, eviction and
write-back, non-caching accesses, and the commit of plates. -/

namespace Sys2Proof.Machine

/-! ## Offsets in the engine address map (Table 9.2), for addresses inside the ranges -/

def dramOff (a : Nat) : Nat := a % 0x8000
def pimOff (a : Nat) : Nat := a % 0x80000
def typOff (a : Nat) : Nat := a % 0x800000

/-! ## Plates and buffers (R233, R234) -/

/-- What a PIM offset names: a byte of a plate's view range, a byte behind it, or the static area. -/
inductive PimArea where
  | view (plate : Nat)
  | hidden
  | static
  deriving DecidableEq, Repr, Inhabited

def Dev.pimArea (d : Dev) (off : Nat) : PimArea :=
  let inView (p : Nat) : Bool :=
    let q := d.plate p
    q.declared && decide (q.base ≤ off) && decide (off < q.base + q.size)
  let inBack (p : Nat) : Bool :=
    let q := d.plate p
    q.declared && decide (q.base + q.size ≤ off) && decide (off < q.base + 3 * q.size)
  match (List.range 64).find? inView with
  | some p => .view p
  | none => if (List.range 64).any inBack then .hidden else .static

/-- Engine `p` holds the writer slot of a plate: its logical engine does, and the engine is its primary. -/
def Dev.peWrites (d : Dev) (p plate : Nat) : Bool :=
  match (d.pe p).le with
  | some l => (d.le l).pe == some p && d.holds 4 plate (.le l)
  | none => false

/-- The PIM byte behind a view offset for the writer or for another agent (R233). -/
def Plate.phys (q : Plate) (off : Nat) (writer : Bool) : Nat :=
  q.base + (if writer then q.wr else q.com) * q.size + (off - q.base)

def Dev.pimByte (d : Dev) (a : Nat) : Byte := Mem.get 0 d.eng.pim a
def Dev.pimLine (d : Dev) (line : Nat) : List Byte := Mem.getBytes 0 d.eng.pim (line * 64) 64
def Dev.setPim (d : Dev) (a : Nat) (bs : List Byte) : Dev := d.setEng (fun e => { e with pim := Mem.setBytes 0 e.pim a bs })

/-! ## The directory (R239, R240) -/

def Dev.dirLine (d : Dev) (line : Nat) : DirLine := (d.eng.dir.find? (fun x => x.line == line)).getD { line := line }
def Dev.setDir (d : Dev) (x : DirLine) : Dev :=
  d.setEng (fun e => { e with dir := e.dir.filter (fun y => y.line != x.line) ++ [x] })

/-- Line generations are 16 bits (R239). -/
def nextGen (g : Nat) : Nat := (g + 1) % 65536

def Pe.cached (e : Pe) (line : Nat) : Option CLine := e.cache.find? (fun c => c.line == line)
def Pe.evicting (e : Pe) (line : Nat) : Option EvLine := e.evb.find? (fun c => c.line == line)

/-- Drops a line from an engine's cache. -/
def Dev.dropLine (d : Dev) (p line : Nat) : Dev :=
  d.setPe p (fun e => { e with cache := e.cache.filter (fun c => c.line != line) })

/-- Recall of a line from its owner (R240, R241): its data, from the cache or the eviction buffer, whose entry is then
consumed; the owner keeps the line Shared or drops it. PIM is written. -/
def Dev.recall (d : Dev) (line : Nat) (keep : Bool) : Dev :=
  let x := d.dirLine line
  if x.st != 2 then d
  else
    let e := d.pe x.owner
    let (data, kept, d) := match e.cached line with
      | some c =>
        (c.data, keep,
         if keep then d.setPe x.owner (fun e =>
             { e with cache := updFirst e.cache (fun c => c.line == line) (fun c => { c with owned := false }) })
         else d.dropLine x.owner line)
      | none => match e.evicting line with
        | some v => (v.data, false, d.setPe x.owner (fun e =>
            { e with evb := updFirst e.evb (fun c => c.line == line && !c.consumed) (fun c => { c with consumed := true }) }))
        | none => (d.pimLine line, false, d)
    let d := d.setPim (line * 64) data
    d.setDir { x with st := if kept then 1 else 0, sharers := if kept then [x.owner] else [], owner := 0, gen := nextGen x.gen }

/-- Invalidates every sharer of a line but `but`. -/
def Dev.invalidateSharers (d : Dev) (line : Nat) (but : Option Nat) : Dev :=
  let x := d.dirLine line
  let d := forEach (x.sharers.filter (fun p => some p != but)) d (fun d p => d.dropLine p line)
  d.setDir { x with sharers := x.sharers.filter (fun p => some p == but) }

/-- A Shared request of engine `p` (Table 9.3): the line's data, and `p` among the sharers. -/
def Dev.dirShared (d : Dev) (p line : Nat) : Dev :=
  let d := if (d.dirLine line).st == 2 && (d.dirLine line).owner != p then d.recall line true else d
  let x := d.dirLine line
  if x.st == 2 then d
  else d.setDir { x with st := 1, sharers := if x.sharers.contains p then x.sharers else x.sharers ++ [p] }

/-- An Owned request of engine `p` (Table 9.3): other copies go, and the line's generation increments. -/
def Dev.dirOwned (d : Dev) (p line : Nat) : Dev :=
  let d := if (d.dirLine line).st == 2 && (d.dirLine line).owner != p then d.recall line false else d
  let d := d.invalidateSharers line (some p)
  let x := d.dirLine line
  if x.st == 2 then d
  else d.setDir { x with st := 2, sharers := [], owner := p, gen := nextGen x.gen }

/-- A write-back of engine `p` carrying generation `g` (Table 9.3): PIM is written only from the present owner's. -/
def Dev.dirWriteBack (d : Dev) (p : Nat) (v : EvLine) : Dev :=
  let x := d.dirLine v.line
  if x.st == 2 && x.owner == p && x.gen == v.gen then
    (d.setPim (v.line * 64) v.data).setDir { x with st := 0, sharers := [], owner := 0, gen := nextGen x.gen }
  else d

/-- The directory handles the oldest write-back of engine `p`, and its acknowledgement frees the entry (R241). -/
def Dev.serveWriteBack (d : Dev) (p : Nat) : Dev :=
  match (d.pe p).evb with
  | [] => d
  | v :: vs => (d.dirWriteBack p v).setPe p (fun e => { e with evb := vs })

/-- A read by a non-caching agent (Table 9.3): the owner keeps the line Shared, and PIM is current. -/
def Dev.ncRead (d : Dev) (line : Nat) : Dev := d.recall line true

/-- A write by a non-caching agent (Table 9.3): every copy goes, the bytes merge into PIM, the line is Uncached. -/
def Dev.ncWrite (d : Dev) (a : Nat) (bs : List Byte) : Dev :=
  let line := a / 64
  let d := (d.recall line false).invalidateSharers line none
  let x := d.dirLine line
  (d.setDir { x with st := 0, sharers := [], owner := 0 }).setPim a bs

/-! ## The cache (R238, R241, R242) -/

/-- Makes room in the set of `line`: the least recently used line leaves; an Owned one through the eviction buffer, which
first frees an entry if all four are in use. -/
def Dev.makeRoom (d : Dev) (p line : Nat) : Dev :=
  let inSet := (d.pe p).cache.filter (fun c => c.line % 32 == line % 32)
  if inSet.length < 4 then d
  else
    match inSet.foldl (fun (a : Option CLine) c => match a with
        | none => some c
        | some b => if c.used < b.used then some c else some b) none with
    | none => d
    | some c =>
      let d := if c.owned && decide (4 ≤ (d.pe p).evb.length) then d.serveWriteBack p else d
      d.setPe p (fun e => { e with
        cache := e.cache.filter (fun x => x.line != c.line),
        evb := if c.owned then e.evb ++ [{ line := c.line, gen := c.gen, data := c.data }] else e.evb })

/-- Puts a line into the cache as most recently used. -/
def Dev.fill (d : Dev) (p line : Nat) (owned : Bool) (data : List Byte) : Dev :=
  let d := if ((d.pe p).cached line).isSome then d else d.makeRoom p line
  let g := (d.dirLine line).gen
  d.setPe p (fun e => { e with
    cache := e.cache.filter (fun c => c.line != line) ++
      [{ line := line, owned := owned, gen := g, data := data, used := e.uses }],
    uses := e.uses + 1 })

/-- A line in the engine's own eviction buffer stalls the access until its entry is freed (R242): the write-backs before it
and its own are served. -/
def Dev.drainFor (d : Dev) (p line : Nat) : Dev :=
  forN 4 d (fun d _ => if ((d.pe p).evicting line).isSome then d.serveWriteBack p else d)

/-- Brings a line into the cache of `p` for reading (R238). -/
def Dev.needShared (d : Dev) (p line : Nat) : Dev :=
  let d := d.drainFor p line
  match (d.pe p).cached line with
  | some c => d.fill p line c.owned c.data
  | none =>
    let d := d.dirShared p line
    d.fill p line false (d.pimLine line)

/-- Brings a line into the cache of `p` Owned (R238). -/
def Dev.needOwned (d : Dev) (p line : Nat) : Dev :=
  let d := d.drainFor p line
  match (d.pe p).cached line with
  | some c =>
    if c.owned then d.fill p line true c.data
    else
      let d := d.dirOwned p line
      d.fill p line true c.data
  | none =>
    let d := d.dirOwned p line
    d.fill p line true (d.pimLine line)

/-- Bytes of a line in the cache. -/
def Dev.cacheRead (d : Dev) (p a n : Nat) : Nat :=
  match (d.pe p).cached (a / 64) with
  | some c => leVal (slice c.data (a % 64) n)
  | none => 0

/-- Writes bytes into an Owned line. -/
def Dev.cacheWrite (d : Dev) (p a : Nat) (bs : List Byte) : Dev :=
  d.setPe p (fun e => { e with
    cache := updFirst e.cache (fun c => c.line == a / 64) (fun c =>
      { c with data := c.data.take (a % 64) ++ bs ++ c.data.drop (a % 64 + bs.length) }) })

/-- CWB on a line (R270): an Owned line leaves through the eviction buffer, a Shared one becomes Invalid. -/
def Dev.cwb (d : Dev) (p line : Nat) : Dev :=
  match (d.pe p).cached line with
  | none => d
  | some c =>
    if c.owned then
      let d := if 4 ≤ (d.pe p).evb.length then d.serveWriteBack p else d
      (d.dropLine p line).setPe p (fun e => { e with evb := e.evb ++ [{ line := line, gen := c.gen, data := c.data }] })
    else d.dropLine p line

/-! ## Agents that do not cache: windows, the forme units, debug reads (R233) -/

/-- A byte of PIM at a view or static offset as another agent reads it, after the recalls a non-caching read makes. -/
def Dev.agentOffset (d : Dev) (off : Nat) : Option Nat :=
  match d.pimArea off with
  | .view q => some ((d.plate q).phys off false)
  | .hidden => none
  | .static => some off

/-- A word read by a non-caching agent; `none` for poison. -/
def Dev.agentRead (d : Dev) (off : Nat) : Option Nat × Dev :=
  match d.agentOffset off with
  | some a =>
    let d := d.ncRead (a / 64)
    (some (leVal (Mem.getBytes 0 d.eng.pim a 4)), d)
  | none => (none, d)

/-! ## Commits (R235 to R237) -/

/-- Every cached copy of the lines of a plate's three buffers becomes Invalid in every engine (R237). -/
def Dev.invalidatePlate (d : Dev) (q : Plate) : Dev :=
  let lo := q.base / 64
  let hi := (q.base + 3 * q.size) / 64
  let inRange (l : Nat) : Bool := decide (lo ≤ l) && decide (l < hi)
  d.setEng (fun e => { e with
    pes := e.pes.map (fun p => { p with cache := p.cache.filter (fun c => !(inRange c.line)) }),
    dir := e.dir.map (fun x => if inRange x.line && x.st != 0
      then { x with st := 0, sharers := [], owner := 0, gen := if x.st == 2 then nextGen x.gen else x.gen } else x) })

/-- Copies one buffer of a plate onto another in PIM. -/
def Dev.copyBuf (d : Dev) (q : Plate) (src dst : Nat) : Dev :=
  d.setPim (q.base + dst * q.size) (Mem.getBytes 0 d.eng.pim (q.base + src * q.size) q.size)

/-- The logical engine that holds the writer slot of a plate, if one does. -/
def Dev.plateWriter (d : Dev) (p : Nat) : Option Nat :=
  match (d.quoin 4 p).owner with
  | some (.le l) => some l
  | _ => none

/-- A plate commits (R236, R234): its buffers rotate, the new write buffer becomes equal to the plate committed, cached
copies go, CCOUNT counts, and the writer is told. Window writes waiting for the commit become observable (R127). -/
def Dev.commitPlate (d : Dev) (p : Nat) : Dev :=
  let q := d.plate p
  let d := d.invalidatePlate q
  let q1 : Plate := { q with com := q.wr, wr := q.prev, prev := q.com, ready := false, recalling := false, commitAsked := false,
                             ccount := (q.ccount + 1) % 65536 }
  let d := d.setPlate p (fun _ => q1)
  let mine := d.hst.pimPend.filter (fun w => decide (q.base ≤ w.1) && decide (w.1 < q.base + q.size))
  let d := forEach mine d (fun d w => d.setPim (q1.phys w.1 false) (leb 4 w.2))
  let d := d.setHst (fun h => { h with
    pimPend := h.pimPend.filter (fun w => !(decide (q.base ≤ w.1) && decide (w.1 < q.base + q.size))) })
  let d := d.copyBuf q1 q1.com q1.wr
  match d.plateWriter p with
  | some l => d.raiseLe 0x07 l 12
  | none => d

/-- A plate reaches its commit point (R236): it commits if READY, and otherwise MISS counts. -/
def Dev.commitPoint (d : Dev) (p : Nat) : Dev :=
  if (d.plate p).ready then d.commitPlate p
  else d.setPlate p (fun q => { q with miss := min 16383 (q.miss + 1) })

/-- The plates of a domain at its meridian (R237), but for a ring's take plate that commits with each forme (R474). -/
def Dev.commitDomain (d : Dev) (dom : Nat) (but : Option Nat) : Dev :=
  forEach ((List.range 64).filter (fun p => (d.plate p).declared && (d.plate p).dom == some dom && but != some p)) d Dev.commitPoint

/-- Recalls the lines of a plate's write buffer that are Owned, leaving them Shared (R235). -/
def Dev.recallPlate (d : Dev) (p : Nat) : Dev :=
  let q := d.plate p
  let lo := (q.base + q.wr * q.size) / 64
  forN (q.size / 64) d (fun d i => d.recall (lo + i) true)

/-- PLATE_CTL DONE (R235): the recall of the write buffer begins. -/
def Dev.plateDone (d : Dev) (p : Nat) : Dev :=
  (d.recallPlate p).setPlate p (fun q => { q with recalling := true })

/-- The last recall of DONE ends (R235, R236): READY, and the commit of an explicit-commit plate that asked for it. -/
def Dev.plateReady (d : Dev) (p : Nat) : Dev :=
  if (d.plate p).recalling then
    let d := d.setPlate p (fun q => { q with recalling := false, ready := true })
    if (d.plate p).commitAsked then d.commitPlate p else d
  else d

/-- PLATE_CTL COMMIT of an explicit-commit plate (R236). -/
def Dev.plateCommit (d : Dev) (p : Nat) : Dev :=
  if (d.plate p).ready then d.commitPlate p else d.setPlate p (fun q => { q with commitAsked := true })

/-- A store to a plate by its writer clears READY, and a recall still running leaves it 0 (R235). -/
def Dev.storeClearsReady (d : Dev) (p : Nat) : Dev := d.setPlate p (fun q => { q with ready := false, recalling := false })

/-- The write buffer of a plate is discarded (R57): it equals the committed plate, and no READY is left. The Bool says that
something was discarded. -/
def Dev.discardWrite (d : Dev) (p : Nat) : Bool × Dev :=
  let q := d.plate p
  if !q.declared then (false, d)
  else
    let lo := (q.base + q.wr * q.size) / 64
    let hi := lo + q.size / 64
    let inBuf (l : Nat) : Bool := decide (lo ≤ l) && decide (l < hi)
    let held := d.eng.pes.any (fun e => e.cache.any (fun c => c.owned && inBuf c.line) || e.evb.any (fun v => inBuf v.line))
    let differs := Mem.getBytes 0 d.eng.pim (q.base + q.wr * q.size) q.size !=
      Mem.getBytes 0 d.eng.pim (q.base + q.com * q.size) q.size
    let d := d.setEng (fun e => { e with
      pes := e.pes.map (fun p => { p with cache := p.cache.filter (fun c => !(inBuf c.line)),
                                          evb := p.evb.filter (fun v => !(inBuf v.line)) }),
      dir := e.dir.map (fun x => if inBuf x.line && x.st != 0
        then { x with st := 0, sharers := [], owner := 0, gen := if x.st == 2 then nextGen x.gen else x.gen } else x) })
    let d := d.copyBuf q q.com q.wr
    (held || differs || q.ready, d.setPlate p (fun q => { q with ready := false, recalling := false, commitAsked := false }))

/-- The committed plate holds an uncorrectable error: the plate committed before it comes back (R57). -/
def Dev.restorePlate (d : Dev) (p : Nat) : Dev :=
  let q := d.plate p
  let d := d.invalidatePlate q
  let d := d.setPlate p (fun q => { q with com := q.prev, prev := q.com })
  d

/-- A fence of an engine: the directory marks its Owned lines Invalid, removes it from every sharer mask, and its cache and
eviction buffer are gone (09, After a fault). -/
def Dev.dirForget (d : Dev) (p : Nat) : Dev :=
  (d.setEng (fun e => { e with dir := e.dir.map (fun x =>
      if x.st == 2 && x.owner == p then { x with st := 0, sharers := [], owner := 0, gen := nextGen x.gen }
      else { x with sharers := x.sharers.filter (· != p), st := if x.st == 1 && x.sharers.all (· == p) then 0 else x.st }) })).setPe
    p (fun e => { e with cache := [], evb := [] })

end Sys2Proof.Machine
end

