-- ==== Sys2Proof/Machine/Engines.lean ====
section
/-! DEFINITION. Physical and logical engines (11): power, placement, loading, declared plates, cuts, the shadow log, joining, replay, and
the takeover after a migration or a fault. -/

namespace Sys2Proof.Machine

def Dev.leCfg (d : Dev) (l : Nat) : LeCfg := d.cfg.les.getD l {}
def leFid (l : Nat) : Nat := 0x0400 + l

/-! ## Power of an island (R503, R588) -/

/-- Powering on an island that is off is a reset of it with cause 0 (R588). -/
def Dev.powerOn (d : Dev) (i : Nat) : Dev :=
  if (d.island i).st == 0 then
    (d.resetHalves i).setIsland i (fun x => { x with st := 2, gen := (x.gen + 1) % 4096, cause := 0 })
  else d

/-- An island that is not in use is powered off (R503). -/
def Dev.powerOff (d : Dev) (i : Nat) : Dev :=
  ((d.closeCrossings i).resetHalves i).setIsland i (fun x => { x with st := 0, recovering := false })

/-! ## Physical engines -/

/-- A physical engine becomes free, out of use, with its fault count (R526). -/
def Dev.freePe (d : Dev) (p : Nat) : Dev :=
  ((d.dirForget p).setPe p (fun e => { faults := e.faults })).powerOff (peIsland p)

/-- A physical engine is fenced (R69, R526): it halts, its cache is forgotten, its suspend requests are released (R250), posted
buffers and transmissions are gone, and it is powered off. -/
def Dev.fencePe (d : Dev) (p : Nat) : Dev :=
  let d := forN 2 d (fun d b => match (d.pe p).le with
    | some l => if (d.le l).pe == some p then d.typRelease b l else d
    | none => d)
  ((d.dirForget p).setPe p (fun e => { faults := wrap32 (e.faults + 1), status := 4 })).powerOff (peIsland p)

/-- Placement of a logical engine (R171): where it is bound already, else its preferred physical engine if that is free and no
armed spare, else the lowest free one of PE0 to PE11, else of PE12 and PE13. -/
def Dev.place (d : Dev) (l : Nat) : Option Nat :=
  match (d.le l).pe with
  | some p => some p
  | none =>
    let free (p : Nat) : Bool := decide (p < 14) && (d.pe p).status == 0
    if free (d.leCfg l).pref then some (d.leCfg l).pref
    else match (List.range 12).find? free with
      | some p => some p
      | none => [12, 13].find? free

/-- The image that a logical engine runs. -/
def Dev.imageOf (d : Dev) (slot : Nat) : Image := parseImage (d.imageBytes slot)

/-- Plates that the images of the other configured logical engines declare (R283). -/
def Dev.otherDecls (d : Dev) (l : Nat) : List ImgDecl :=
  (List.range 12).flatMap (fun k => if k != l && (d.leCfg k).bound then (d.imageOf (d.leCfg k).slot).decls else [])

/-- A declaration collides with a plate number or PIM range of another configured logical engine or of a forme ring (R283). -/
def Dev.declCollides (d : Dev) (l : Nat) (e : ImgDecl) : Bool :=
  let hit (num base size : Nat) : Bool :=
    num == e.plate || (decide (e.base < base + 3 * size) && decide (base < e.base + 3 * e.size))
  (d.otherDecls l).any (fun x => hit x.plate x.base x.size) ||
  (List.range 64).any (fun n => let q := d.plate n
    q.declared && q.declarer.isNone && hit n q.base q.size)

/-- A logical engine enters STARTING (R284, R171): its slot is checked and it is placed. The number says what fails: 0 nothing, 1
the image, 2 the placement or a configuration that ENGINE_CONFIG would refuse (R121). -/
def Dev.leBegin (d : Dev) (l : Nat) : Nat × Dev :=
  let c := d.leCfg l
  if !c.bound then (2, d)
  else if !d.loadable c.slot then (1, d)
  else
    let im := d.imageOf c.slot
    if c.div < 2 || im.maxDiv < c.div || im.decls.any (d.declCollides l) then (2, d)
    else match d.place l with
      | none => (2, d)
      | some p =>
        let d := (d.powerOn (peIsland p)).setPe p (fun e => { faults := e.faults, status := 1, le := some l, div := c.div })
        (0, d.setLe l (fun x => { x with
          pe := some p, image := c.slot, dom := im.dom, entry := im.entry, params := c.params, pgen := 0, stagedParam := false,
          qslots := List.replicate 16 {}, logged := 0, sealed := [], inTime := 0, snap := none, cutDue := false,
          joining := if x.spare.isSome then 1 else 0, loading := true }))

/-- Steps 2 to 4 of R284: IRAM, DRAM, divider and watchdog period; registers and ports as R230 gives. -/
def Dev.loadPe (d : Dev) (l p : Nat) : Dev :=
  let im := d.imageOf (d.le l).image
  let d := d.powerOn (peIsland p)
  let e := d.pe p
  let e1 : Pe := {
    faults := e.faults, status := e.status, le := some l, div := (d.leCfg l).div, regs := { pc := im.entry },
    iram := Mem.setBytes 0 [] 0 im.iram, dram := Mem.setBytes 0 [] 0 im.dram,
    ports := { wdPeriod := if im.wdPeriod == 0 then 10000 else im.wdPeriod } }
  d.setPe p (fun _ => e1)

/-- The plate of one declaration (R284 step 5): a plate that this logical engine declared before keeps its buffers; a new one
starts with its committed buffer as PIM holds it. -/
def Dev.declarePlate (d : Dev) (l : Nat) (e : ImgDecl) : Dev :=
  let q := d.plate e.plate
  if q.declared && q.declarer == some l && q.base == e.base && q.size == e.size then d
  else
    let q : Plate := { declared := true, declarer := some l, base := e.base, size := e.size,
                       dom := if e.explicit then none else some e.dom }
    (d.setPlate e.plate (fun _ => q)).copyBuf q 0 1

/-- The writer slot of a declared plate goes to the lowest free quoin slot of the logical engine, if the slot and the quoin are
free. -/
def Dev.takeWriter (d : Dev) (l : Nat) (e : ImgDecl) : Dev :=
  match (d.quoin 4 e.plate).owner, (List.range 16).find? (fun i => ((d.le l).qslots.getD i {}).st == 0) with
  | none, some i =>
    let d := d.grant 4 e.plate (.le l) e.lease i
    d.setSlot l i (fun _ => { st := 1, kind := 4, inst := e.plate, gen := (d.quoin 4 e.plate).gen })
  | _, _ => d

/-- The load of a logical engine ends (R284): it runs from its entry point, and the watchdog from its first instruction. -/
def Dev.leLoaded (d : Dev) (l p : Nat) : Dev :=
  let im := d.imageOf (d.le l).image
  let d := d.loadPe l p
  let gone (n : Nat) : Bool := (d.plate n).declarer == some l && !(im.decls.any (fun e => e.plate == n))
  let d := forN 64 d (fun d n => if gone n then d.setPlate n (fun _ => {}) else d)
  let d := forEach im.decls d (fun d e => (d.declarePlate l e).takeWriter l e)
  (d.setPe p (fun e => { e with running := true, ports := { e.ports with wdKick := d.tick } })).setLe l
    (fun x => { x with loading := false })

/-! ## Spares (R286 to R293) -/

/-- The log and the spare's state go; the spare joins again at the next cut (R292). -/
def Dev.discardLog (d : Dev) (l : Nat) : Dev :=
  let d := match (d.le l).spare with
    | some q => d.setPe q (fun e => { e with status := 2 })
    | none => d
  d.setLe l (fun x => { x with joining := if x.joining == 0 || x.joining == 1 then x.joining else 2, logged := 0, sealed := [],
                               inTime := 0 })

/-- The spare of a logical engine stops and is free (R286). -/
def Dev.dropSpare (d : Dev) (l : Nat) : Dev :=
  match (d.le l).spare with
  | none => d
  | some q => (d.freePe q).setLe l (fun x => { x with spare := none, joining := 0, logged := 0, sealed := [], inTime := 0 })

/-- ENGINE_MIGRATE fails: no spare shadows in step (R129). -/
def Dev.failMigrate (d : Dev) (l : Nat) : Dev :=
  match (d.le l).migrate with
  | some (w, _) => (d.completeFailed w 0x0108).setLe l (fun x => { x with migrate := none })
  | none => d

/-- SPARE_ARM that waits ends without its spare in step. -/
def Dev.failArm (d : Dev) (l : Nat) : Dev :=
  match (d.le l).armCmd with
  | some w => (d.completeFailed w 0).setLe l (fun x => { x with armCmd := none })
  | none => d

/-- A spare that shadows faults or diverges (R293, 03 When things coincide): it is fenced and counted, and the logical engine
runs on unshadowed. -/
def Dev.spareFault (d : Dev) (l cls cause : Nat) : Dev :=
  match (d.le l).spare with
  | none => d
  | some q =>
    let pc := (d.pe q).regs.pc
    let d := (d.fencePe q).setLe l (fun x => { x with spare := none, joining := 0, logged := 0, sealed := [], inTime := 0 })
    let d := d.inEpisode (fun d => d.logFault cls (peIsland q) 3 cause (leFid l) (if cls == 3 then pc else 0))
    let d := { d with svc := { d.svc with migrations := wrap32 (d.svc.migrations + 1) } }
    (d.failMigrate l).failArm l

/-- The primary logs `n` bytes of input (R288); entries beyond the space that replay has left free discard the log (R292). -/
def Dev.logInput (d : Dev) (l n : Nat) : Dev :=
  let x := d.le l
  if x.joining < 3 then d
  else if 16384 < x.logged + n + (x.sealed.map (·.bytes)).sum then d.discardLog l
  else d.setLe l (fun x => { x with logged := x.logged + n })

/-- An engine logs for the logical engine that it runs. -/
def Dev.peLog (d : Dev) (p n : Nat) : Dev :=
  match (d.pe p).le with
  | some l => if (d.le l).pe == some p then d.logInput l n else d
  | none => d

/-- The quoins that a logical engine holds, as a cut records them. -/
def Dev.heldBy (d : Dev) (l : Nat) : List (Nat × Nat × Nat × Nat) :=
  (d.quoins.filter (fun q => q.owner == some (.le l))).map (fun q => (q.kind, q.inst, q.lease, q.slot))

/-- The state of a logical engine at a cut. -/
def Dev.snapOf (d : Dev) (l p : Nat) : Snap :=
  let e := d.pe p
  { regs := e.regs, dram := e.dram, ports := { e.ports with raised := 0#32 }, sel := e.sel, stall := e.stall,
    quoins := d.heldBy l }

/-- The spare of a logical engine takes the state of its last cut and waits, its outputs not live, while events and frames for
the logical engine reach it (R294 step 3, R295 step 3). -/
def Dev.holdSpare (d : Dev) (l : Nat) (more : Word) : Dev :=
  match (d.le l).spare, (d.le l).snap with
  | some q, some s =>
    (d.setPe q (fun e => { e with
      running := true, le := some l, regs := s.regs, dram := s.dram, sel := s.sel, cache := [], evb := [], stall := .held,
      ports := { s.ports with pend := s.ports.pend ||| more } })).setLe l (fun x => { x with pe := some q, spare := none })
  | _, _ => d

/-- The cut of a logical engine (R285): its state is captured; at a join cut the copy begins (R287); a cycle logged is sealed
(R289); at the handover cut the primary stops, its Owned lines are recalled, and it becomes free (R294). -/
def Dev.cut (d : Dev) (l : Nat) : Dev :=
  let d := d.setLe l (fun x => { x with cutDue := false })
  match (d.le l).pe with
  | none => d
  | some p =>
    if !(d.pe p).running || (d.pe p).stall == .held then d
    else
      let s := d.snapOf l p
      let d := (d.setPorts p (fun q => { q with raised := 0#32 })).setLe l (fun x => { x with snap := some s })
      let d := match (d.le l).joining with
        | 2 => d.setLe l (fun x => { x with joining := 3, logged := 0, sealed := [], inTime := 0 })
        | 3 | 4 =>
          let d := d.logInput l 16
          if (d.le l).joining < 3 then d
          else d.setLe l (fun x => { x with sealed := x.sealed ++ [{ bytes := x.logged, at_ := d.tick }], logged := 0 })
        | _ => d
      if (d.le l).takeover.map (·.1) == some 1 then
        let lines := ((d.pe p).cache.filter (·.owned)).map (·.line) ++ (d.pe p).evb.map (·.line)
        let d := forEach lines d (fun d n => if (d.dirLine n).owner == p then d.recall n true else d)
        (d.freePe p).holdSpare l 0#32
      else d

/-- The cut tick of a logical engine with home domain 0xFF falls at every 1 ms of the monotonic tick (R285). -/
def nextCutTick (t : Nat) : Nat := (t / 1000000 + 1) * 1000000

/-- One quarter of the home domain's cycle; 250 µs for the cut tick. -/
def Dev.replayAllowance (d : Dev) (l : Nat) : Nat :=
  let dom := (d.le l).dom
  if dom < 6 then d.domCycle dom (d.doms.getD dom {}).active / 4 else 250000

/-- The spare is loaded, and the crossings of its island open (R38, R287). -/
def Dev.spareLoaded (d : Dev) (l q : Nat) : Dev :=
  ((d.openCrossings (peIsland q)).loadPe l q).setLe l (fun x => { x with joining := 2 })

/-- JOIN_COPY_COMPLETE (R287): the spare holds the primary's state at the join cut. -/
def Dev.joinCopied (d : Dev) (l : Nat) : Dev :=
  if (d.le l).joining == 3 then d.setLe l (fun x => { x with joining := 4 }) else d

/-- The spare becomes in step, and SPARE_ARM completes (R291). -/
def Dev.inStep (d : Dev) (l : Nat) : Dev :=
  match (d.le l).spare with
  | none => d
  | some q =>
    let d := d.setPe q (fun e => { e with status := 3 })
    let w := (d.le l).armCmd
    (d.completeOpt w stDone []).setLe l (fun x => { x with armCmd := none })

/-- REPLAY_COMPLETE (R289 to R293): a divergence is a fault of the spare; otherwise the replay of the oldest sealed cycle is
judged against the replay allowance. -/
def Dev.replayComplete (d : Dev) (l : Nat) (agrees : Bool) : Dev :=
  match (d.le l).joining, (d.le l).sealed, (d.le l).spare with
  | 4, c :: rest, some q =>
    if !agrees then d.episode (fun d => d.spareFault l 3 0)
    else
      let good := decide (d.tick ≤ c.at_ + d.replayAllowance l)
      let n := if good then (d.le l).inTime + 1 else 0
      let d := d.setLe l (fun x => { x with sealed := rest, inTime := n })
      if 2 ≤ n then d.inStep l else d.setPe q (fun e => { e with status := 2 })
  | _, _, _ => d

/-! ## Takeover (R294, R295) -/

/-- A quoin held at the cut and still free is granted again under its new generation (R295). -/
def Dev.regrant (d : Dev) (l : Nat) (q : Nat × Nat × Nat × Nat) : Dev :=
  if (d.quoin q.1 q.2.1).owner.isSome then d
  else (d.grant q.1 q.2.1 (.le l) q.2.2.1 q.2.2.2).tellGrant (.le l) q.1 q.2.1 q.2.2.2

/-- The takeover (R294 step 5): the spare's outputs become live; compares whose target has passed fire; the watchdog restarts;
the wait that it stood in goes on. After a fault the quoins of the cut come back first (R295), and the record of the
migration, with the fault's class and cause (Table 20.7), closes its episode. -/
def Dev.takeover (d : Dev) (l : Nat) : Dev :=
  match (d.le l).takeover, (d.le l).pe with
  | some (kind, old), some p =>
    if (d.pe p).stall != .held then d
    else
      let s := ((d.le l).snap).getD {}
      let d := d.setPe p (fun e => { e with status := 1, stall := .none, cache := [], evb := [],
                                            ports := { e.ports with wdKick := d.tick, wdHalf := false, raised := e.ports.pend } })
      let d := if kind == 2 then forEach s.quoins d (fun d q => d.regrant l q) else d
      let d := forN 4 d (fun d n => let t := d.tmr p n
        if !t.armed then d
        else if t.mode == 3 then
          (if t.tEpoch != d.orr.epoch then d.fire p n 2 else if t.target ≤ d.orr.nsAt d.tick then d.fire p n 0 else d)
        else if t.target ≤ d.tick then d.fire p n 0 else d)
      let d := d.setPe p (fun e => ({ e with stall := s.stall } : Pe).endWait d.tick)
      let d := { d with svc := { d.svc with migrations := wrap32 (d.svc.migrations + 1) } }
      let ep := (d.le l).episode
      let d := if kind == 2 then
          let f := d.func (leFid l)
          d.episodeOf ep (fun d => d.logFault f.fault (peIsland old) 4 f.why (leFid l) (p * 256 + old))
        else d
      let w := (d.le l).migrate.map (·.1)
      let d := d.completeOpt w stDone [BitVec.ofNat 8 p, BitVec.ofNat 8 old]
      d.setLe l (fun x => { x with takeover := none, episode := none, migrate := none, joining := 0, logged := 0, sealed := [],
                                   inTime := 0, snap := none })
  | _, _ => d

/-- A cut that is due falls before the engine's next instruction (R285). -/
def Dev.cutIfDue (d : Dev) (p : Nat) : Dev :=
  match (d.pe p).le with
  | some l => if (d.le l).cutDue && (d.le l).pe == some p then d.cut l else d
  | none => d

/-- The home-domain meridian of a logical engine, or its cut tick (R285, R294, R295): staged parameters take effect (R248), a
planned migration is judged, a takeover after a fault happens, and a cut is due. -/
def Dev.leMeridian (d : Dev) (l : Nat) : Dev :=
  let d := if (d.le l).stagedParam then
      ((d.setLe l (fun x => { x with params := (d.leCfg l).params, pgen := wrap32 (x.pgen + 1), stagedParam := false })).raiseLe
        0x01 l 13)
    else d
  match (d.le l).takeover with
  | some (2, _) => d.takeover l
  | some _ => d
  | none =>
    let d := match (d.le l).migrate, (d.le l).pe with
      | some (_, target), some p =>
        (match (d.le l).spare with
         | some q => if (d.pe q).status == 3 && (target == 0xFF || target == q)
             then d.setLe l (fun x => { x with takeover := some (1, p) }) else d.failMigrate l
         | none => d.failMigrate l)
      | some _, none => d.failMigrate l
      | none, _ => d
    d.setLe l (fun x => { x with cutDue := x.pe.isSome })

/-- A logical engine leaves its physical engine and the log: at the end of its drain, of its fence, or of REPAIR. The spare stays
armed for the next start (R286). -/
def Dev.leUnbind (d : Dev) (l : Nat) : Dev :=
  let d := match (d.le l).pe with
    | some p => if (d.pe p).status == 4 then d else d.freePe p
    | none => d
  let d := match (d.le l).spare with
    | some q => (d.setPe q (fun e => { faults := e.faults, status := 2, le := some l })).powerOff (peIsland q)
    | none => d
  d.setLe l (fun x => { x with pe := none, joining := 0, logged := 0, sealed := [], inTime := 0, snap := none, cutDue := false,
                               takeover := none, loading := false, qslots := List.replicate 16 {} })

end Sys2Proof.Machine
end

