-- ==== Sys2Proof/Machine/Switch.lean ====
section
/-! DEFINITION. The switch core (12) with what the MACs do for it (13): classification and filter rules, forwarding and learning, slugs and
admission, galleys, crosspoints, mirror copies, proofs, pause, and egress scheduling. -/

namespace Sys2Proof.Machine

def Dev.setSwc (d : Dev) (f : Swc → Swc) : Dev := { d with swc := f d.swc }
def Dev.mac (d : Dev) (m : Nat) : Mac := d.macs.getD m {}
def Dev.setMac (d : Dev) (m : Nat) (f : Mac → Mac) : Dev := { d with macs := upd d.macs m f }
def macFid (m : Nat) : Nat := 0x0100 + m

/-! ## Ports and MACs (R299, R300) -/

/-- The MAC attached to a switch port, and the switch port of a MAC. -/
def Dev.portMac (d : Dev) (p : Nat) : Nat := d.cfg.portMap.getD p p
def Dev.macPort (d : Dev) (m : Nat) : Nat := ((List.range 6).find? (fun p => d.portMac p == m)).getD m

/-- A MAC carries frames: ON, its pair up and its link up (R341). -/
def Dev.macUp (d : Dev) (m : Nat) : Bool :=
  d.isOn (macFid m) && (d.mac m).linkUp && d.islandUp (0x10 + m) && d.islandUp (0x18 + m)

/-- Wire time of a byte and of a bit in ns at the MAC's speed. -/
def Dev.byteNs (d : Dev) (m : Nat) : Nat :=
  match (d.cfg.macs.getD m {}).speed with
  | 2 => 8
  | 1 => 80
  | _ => 800
def Dev.bitNs (d : Dev) (m : Nat) : Nat := d.byteNs m / 8

/-- The forme ring of a MAC, if it belongs to one. -/
def ringOfMac (m : Nat) : Option Nat := if m < 4 then some (m / 2) else none

/-- The MAC's forme ring is not OFF (R300). -/
def Dev.inRing (d : Dev) (m : Nat) : Bool :=
  match ringOfMac m with
  | some r => (d.func (0x0500 + r)).st != 0
  | none => false

/-! ## A frame's fields (R303, R307) -/

def frDa (b : List Byte) : List Byte := slice b 0 6
def frSa (b : List Byte) : List Byte := slice b 6 6
/-- The outer tag's TPID, if there is one. -/
def frTag (b : List Byte) : Option Nat :=
  let t := beVal (slice b 12 2)
  if (t == 0x8100 || t == 0x88A8) && decide (16 ≤ b.length) then some t else none
def frTci (b : List Byte) : Nat := if (frTag b).isSome then beVal (slice b 14 2) else 0
/-- The EtherType after the outer tag. -/
def frType (b : List Byte) : Nat := beVal (slice b (if (frTag b).isSome then 16 else 12) 2)
/-- Offset of what follows the EtherType. -/
def frPay (b : List Byte) : Nat := if (frTag b).isSome then 18 else 14
def isGroup (a : List Byte) : Bool := (a.getD 0 0).getLsbD 0
def broadcast : List Byte := List.replicate 6 0xFF#8

/-- A frame's bytes without its FCS, and with the FCS they need. -/
def noFcs (b : List Byte) : List Byte := b.take (b.length - 4)
def withFcs (b : List Byte) : List Byte := b ++ leb 4 (fcs32 b).toNat
def fcsGood (b : List Byte) : Bool := b == withFcs (noFcs b)

/-- The host station address (R535). -/
def hostStation : List Byte := [0x02#8] ++ beb 5 (Config.serial.toNat % 2 ^ 40)

/-- Ethernet destination of pause frames. -/
def pauseDa : List Byte := [0x01#8, 0x80#8, 0xC2#8, 0#8, 0#8, 0x01#8]

/-- 01-80-C2-00-00-00 to -0F (R304). -/
def isReservedDa (a : List Byte) : Bool :=
  a.take 5 == [0x01#8, 0x80#8, 0xC2#8, 0#8, 0#8] && decide (byteAt a 5 < 16)

/-! ## The address table (R307 to R310) -/

def fdbBucket (mac : List Byte) (vid : Nat) : Nat := (crc32c (mac ++ leb 2 vid)).toNat % 512

def Swc.way (s : Swc) (i : Nat) : Option FdbEnt := (s.fdb.find? (fun x => x.1 == i)).map (·.2)
def Swc.setWay (s : Swc) (i : Nat) (e : Option FdbEnt) : Swc :=
  let rest := s.fdb.filter (fun x => x.1 != i)
  { s with fdb := match e with
    | some e => rest ++ [(i, e)]
    | none => rest }

/-- The index at which an address and VID are held. -/
def Swc.findFdb (s : Swc) (mac : List Byte) (vid : Nat) : Option (Nat × FdbEnt) :=
  let b := fdbBucket mac vid * 4
  ((List.range 4).filterMap (fun w => (s.way (b + w)).map (fun e => (b + w, e)))).find?
    (fun x => x.2.mac == leVal mac && x.2.vid == vid)

/-- A way for a new entry (R309): a free one, else the dynamic entry of the greatest age. -/
def Swc.placeFdb (s : Swc) (mac : List Byte) (vid : Nat) : Option Nat :=
  let b := fdbBucket mac vid * 4
  let ws := (List.range 4).map (· + b)
  match ws.find? (fun i => (s.way i).isNone) with
  | some i => some i
  | none => (ws.filterMap (fun i => match s.way i with
      | some e => if e.static then none else some (i, e.since)
      | none => none)).foldl (fun (a : Option (Nat × Nat)) x => match a with
        | none => some x
        | some y => if x.2 < y.2 then some x else some y) none |>.map (·.1)

/-- Learning (R309). -/
def Dev.learn (d : Dev) (p : Nat) (b : List Byte) (vid : Nat) : Dev :=
  let sa := frSa b
  if 6 ≤ p || !(d.cfg.ports.getD p {}).learning || isGroup sa then d
  else
    let e : FdbEnt := { mac := leVal sa, vid := vid, mask := 2 ^ p, since := d.tick }
    match d.swc.findFdb sa vid with
    | some (i, x) => if x.static then d else d.setSwc (fun s => s.setWay i (some e))
    | none => match d.swc.placeFdb sa vid with
      | some i => d.setSwc (fun s => s.setWay i (some e))
      | none => d

/-- A dynamic entry of 300 s is removed (R309). -/
def Dev.fdbAge (d : Dev) (i : Nat) : Dev :=
  match d.swc.way i with
  | some e => if e.static then d
    else (d.advanceTo (e.since + 300 * secNs)).setSwc (fun s => s.setWay i none)
  | none => d

/-! ## VLANs and filter rules (R305, R306, R351, R352) -/

def Dev.vlan (d : Dev) (vid : Nat) : VlanCfg :=
  (d.cfg.vlans.find? (fun v => v.vid == vid)).getD { vid := vid, members := 0, untagged := 0 }

/-- Whether a rule's tests hold for a frame (R352, Table 13.4). -/
def ruleMatches (r : FilterCfg) (b : List Byte) : Bool :=
  let x := r.body
  let m := byteAt x 16
  let land (a k : List Byte) : List Byte := (a.zip k).map (fun q => q.1 &&& q.2)
  let tagged := (frTag b).isSome
  (!(bit m 0) || land (frDa b) (slice x 6 6) == land (slice x 0 6) (slice x 6 6)) &&
  (!(bit m 1) || frType b == fld x 12 2) &&
  (!(bit m 2) || (tagged && frTci b % 4096 == fld x 14 2 % 4096)) &&
  (!(bit m 3) || (tagged && frTci b / 8192 == fld x 14 2 / 8192)) &&
  (!(bit m 4) || tagged) && (!(bit m 5) || !tagged) && (!(bit m 6) || frTag b == some 0x88A8)

/-- The first rule that matches (R351). -/
def Dev.ruleFor (d : Dev) (m : Nat) (b : List Byte) : Option (List Byte) :=
  (d.cfg.filters.find? (fun r => bit r.macMask m && byteAt r.body 17 != 0 && ruleMatches r b)).map (·.body)

/-! ## Counters -/

def bump (xs : List Nat) (i n : Nat) : List Nat := upd xs i (fun v => (v + n) % 2 ^ 64)
def Dev.countFwd (d : Dev) (p c : Nat) : Dev := d.setSwc (fun s => { s with fwd := bump s.fwd (p * 8 + c) 1 })
def Dev.countAdm (d : Dev) (p c : Nat) : Dev := d.setSwc (fun s => { s with adm := bump s.adm (p * 8 + c) 1 })
def Dev.countFull (d : Dev) (p c : Nat) : Dev := d.setSwc (fun s => { s with full := bump s.full (p * 8 + c) 1 })
def Dev.countMac (d : Dev) (m i n : Nat) : Dev := d.setMac m (fun x => { x with counters := bump x.counters i n })

/-! ## Destinations (R304, R308) -/

/-- A forwarding pipe is fenced, in reset or being reloaded. -/
def Dev.pipeDown (d : Dev) (k : Nat) : Bool := !(d.islandUp (0x09 + k)) || d.swc.reload.getD k false

/-- A forwarding pipe is loaded and decides (R324, R325). -/
def Dev.pipeUp (d : Dev) : Bool := !(d.pipeDown 0) || !(d.pipeDown 1)

/-- A PIPE_SWITCHOVER that waits ends where its pipe has become active, or has failed (12, When things coincide). -/
def Dev.settlePipe (d : Dev) : Dev :=
  match d.swc.switchover with
  | some (k, w) =>
    if d.swc.pipe == k then (d.setSwc (fun s => { s with switchover := none })).completeDone w
    else if d.pipeDown k then (d.setSwc (fun s => { s with switchover := none })).completeFailed w 0
    else d
  | none => d

/-- A lookup begins: the pipe that PIPE_SWITCHOVER names becomes active (R326). -/
def Dev.beginLookup (d : Dev) : Dev :=
  match d.swc.switchover with
  | some (k, _) => (if d.pipeDown k then d else d.setSwc (fun s => { s with pipe := k })).settlePipe
  | none => d

/-- The switch takes frames. -/
def Dev.swcUp (d : Dev) : Bool := d.islandUp 0x08 && d.pipeUp

/-- Steps 3 and 4 of R308 on a port mask. -/
def Dev.reduceDests (d : Dev) (ing vid mask : Nat) : Nat :=
  ((List.range 8).map (fun p =>
    let gone := p < 6 && ((d.mac (d.portMac p)).expired || d.inRing (d.portMac p))
    if bit mask p && bit (d.vlan vid).members p && p != ing && !gone then 2 ^ p else 0)).sum

/-- Step 2 of R308: the table's mask, or SP0 to SP5; the host station entry names SP7 (R141). -/
def Dev.addressMask (d : Dev) (b : List Byte) (vid : Nat) : Nat :=
  let da := frDa b
  if da == broadcast then 0x3F
  else if da == hostStation then 0x80
  else match d.swc.findFdb da vid with
    | some (_, e) => e.mask &&& 0xBF
    | none => 0x3F

/-- The class and destinations of a frame from switch port `p` (R302 to R308, R353). `forced` is the class that SP6 or SP7
gives and `mask` a destination mask that comes with the frame. -/
def Dev.classifyFrame (d : Dev) (p : Nat) (b : List Byte) (forced : Option Nat) (mask : Option Nat) : RxFrame :=
  let pc := d.cfg.ports.getD p {}
  let rule := if p < 6 then d.ruleFor (d.portMac p) b else none
  let rb := rule.getD []
  let act := byteAt rb 17
  let cls := if bit (byteAt rb 18) 3 && rule.isSome then byteAt rb 18 % 8
    else match forced with
      | some c => c
      | none => if (frTag b).isSome then min 6 (frTci b / 8192) else pc.cls
  let tci := frTci b
  let untagged := (frTag b).isNone || tci % 4096 == 0
  let vid := if untagged then pc.pvid else tci % 4096
  let rx : RxFrame := { head := b, cls := cls, vid := vid, stamp := d.tick }
  let bad := (untagged && !pc.untagged) || (pc.filtering && !(bit (d.vlan vid).members p))
  let byAddr := if isReservedDa (frDa b) then 0 else d.addressMask b vid
  let target := byteAt rb 19
  let also := if bit (byteAt rb 20) 0 then byAddr else 0
  let le := if act == 2 && d.isOn (0x0400 + target) then some target else none
  let ring := if act == 3 && d.isOn (ringFid target) && (d.ringCfg target).dir == 1 then some target else none
  let want := match mask with
    | some m => m
    | none =>
      if act == 2 then also ||| (if le.isSome then 0x40 else 0)
      else if act == 3 then also ||| (if ring.isSome then 0x80 else 0)
      else if act == 4 then target &&& 0x3F
      else byAddr
  let dests := d.reduceDests p vid want
  if bad || act == 5 || dests == 0 then { rx with dropped := true }
  else { rx with dests := dests, toLe := if bit dests 6 then le else none, toRing := if bit dests 7 then ring else none,
                 toHost := bit dests 7 && ring.isNone }

/-! ## Slugs and galleys (R312 to R316) -/

def slugsFor (n : Nat) : Nat := (n + 255) / 256

def Swc.galley (s : Swc) (g : Nat) : List GEnt := s.galleys.getD g []
def Swc.frame (s : Swc) (i : Nat) : SwFrame := (s.frames.find? (fun f => f.id == i)).getD {}
def Swc.setGalley (s : Swc) (g : Nat) (f : List GEnt → List GEnt) : Swc := { s with galleys := upd s.galleys g f }

/-- Slugs that the frames of a galley hold, the one in transmission included until it has left whole (R314, R315). -/
def Dev.occupancy (d : Dev) (g : Nat) : Nat :=
  ((d.swc.galley g).map (fun e => (d.swc.frame e.frame).slugs.length)).sum +
  (if g < 48 then
    match (d.mac (d.portMac (g / 8))).tx with
    | some t => if t.kind == 0 && t.cls == g % 8 then (d.swc.frame t.frame).slugs.length else 0
    | none => 0
  else 0)

/-- A frame is referenced by an entry that is no mirror copy, or is in transmission as itself. -/
def Dev.heldPlain (d : Dev) (i : Nat) : Bool :=
  d.swc.galleys.any (fun g => g.any (fun e => e.frame == i && e.mirror.isNone)) ||
  d.macs.any (fun m => match m.tx with
    | some t => t.kind == 0 && t.frame == i && t.mirror.isNone
    | none => false)

/-- A frame is referenced at all. -/
def Dev.heldAny (d : Dev) (i : Nat) : Bool :=
  d.swc.galleys.any (fun g => g.any (fun e => e.frame == i)) ||
  d.macs.any (fun m => match m.tx with
    | some t => t.kind == 0 && t.frame == i
    | none => false)

/-- The ingress occupancy of a port (R316). -/
def Dev.ingressSlugs (d : Dev) (p : Nat) : Nat :=
  ((d.swc.frames.filter (fun f => f.ing == p && !f.express && d.heldPlain f.id)).map (·.slugs.length)).sum

def Dev.bankUp (d : Dev) (b : Nat) : Bool := !(bit d.swc.draining b) && !(bit d.cfg.retired b)
def Swc.bankUsed (s : Swc) (b : Nat) : Nat := ((s.frames.map (fun f => (f.slugs.filter (fun x => x / 1024 == b)).length))).sum

/-- Banks draining or retired (R317). -/
def Dev.banksOut (d : Dev) : Nat := ((List.range 8).filter (fun b => !(d.bankUp b))).length
def Dev.slugsInService (d : Dev) : Nat := 1024 * (8 - d.banksOut)
def Dev.freeSlugs (d : Dev) : Nat := ((List.range 8).map (fun b => if d.bankUp b then 1024 - d.swc.bankUsed b else 0)).sum
def Dev.highMark (d : Dev) : Nat := 48 * (8 - d.banksOut)
def Dev.lowMark (d : Dev) : Nat := 32 * (8 - d.banksOut)

/-- A free slug of a bank, lowest number first. -/
def Swc.freeSlug (s : Swc) (b : Nat) (taken : List Nat) : Option Nat :=
  let used := (s.frames.flatMap (fun f => f.slugs.filter (fun x => x / 1024 == b))) ++ taken
  ((List.range 1024).map (· + 1024 * b)).find? (fun x => !(used.contains x))

/-- Takes `n` slugs in turn from the banks in service (R312). -/
def Dev.takeSlugs (d : Dev) : Nat → Nat → List Nat → List Nat × Nat
  | 0, last, acc => (acc, last)
  | n + 1, last, acc =>
    let pick := ((List.range 8).map (fun k => (last + 1 + k) % 8)).filterMap (fun b =>
      if d.bankUp b then (d.swc.freeSlug b acc).map (fun s => (b, s)) else none)
    match pick with
    | (b, s) :: _ => Dev.takeSlugs d n b (acc ++ [s])
    | [] => (acc, last)

/-- Frees the slugs of frames that nothing references (R315), retires drained banks' waits elsewhere, and tells engines
whose transmissions have left that their buffers are free (R249). -/
def Dev.collect (d : Dev) : Dev :=
  let live := d.swc.frames.filter (fun f => d.heldAny f.id)
  let d := d.setSwc (fun s => { s with frames := live })
  let gone (i : Nat) : Bool := !(live.any (fun f => f.id == i)) && !(d.swc.xps.any (fun x => x.any (fun e => e.id == i)))
  forN 14 d (fun d p =>
    let done := (d.pe p).ports.txOut.filter gone
    if done.isEmpty then d
    else (d.setPorts p (fun q => { q with txOut := q.txOut.filter (fun i => !(gone i)) })).raise 0x08 p 15)

/-- Drops one mirror copy from a galley, counted against its session (R330). -/
def Dev.dropMirror (d : Dev) (g : Nat) (e : GEnt) : Dev :=
  let d := d.setSwc (fun s => s.setGalley g (fun q => q.filter (fun x => x.no != e.no)))
  match e.mirror with
  | some k => (d.setSwc (fun s => { s with mirrors := upd s.mirrors k (fun m => { m with dropped := m.dropped + 1 }) })).collect
  | none => d.collect

/-- Makes room in a galley for `n` slugs by dropping its own mirror copies, newest first (R330); whether they fit. -/
def Dev.roomIn (d : Dev) (g n : Nat) : Nat → Bool × Dev
  | 0 => (false, d)
  | k + 1 =>
    let lim := (d.swc.gal.getD g {}).limit
    if lim == 0 || d.occupancy g + n ≤ lim then (true, d)
    else match ((d.swc.galley g).filter (fun e => e.mirror.isSome)).getLast? with
      | some e => Dev.roomIn (d.dropMirror g e) g n k
      | none => (false, d)

/-- Finds `n` free slugs, dropping waiting mirror copies, oldest first across all sessions (R330). -/
def Dev.roomFor (d : Dev) (n : Nat) : Nat → Bool × Dev
  | 0 => (decide (n ≤ d.freeSlugs), d)
  | k + 1 =>
    if n ≤ d.freeSlugs then (true, d)
    else
      let all := (List.range 64).flatMap (fun g => ((d.swc.galley g).filter (fun e => e.mirror.isSome)).map (fun e => (g, e)))
      match all.foldl (fun (a : Option (Nat × GEnt)) x => match a with
          | none => some x
          | some y => if x.2.no < y.2.no then some x else some y) none with
      | some (g, e) => Dev.roomFor (d.dropMirror g e) n k
      | none => (false, d)

/-! ## Pause (R347 to R350) -/

/-- Evaluates pause of one MAC against the watermarks (R347, R349). -/
def Dev.pauseEval (d : Dev) (m : Nat) : Dev :=
  let p := d.macPort m
  let c := d.cfg.macs.getD m {}
  let x := d.mac m
  if !(d.macUp m) then d
  else
    let occ := d.ingressSlugs p
    if x.asserted then
      if occ ≤ d.lowMark || !(bit c.flags 0) then
        d.setMac m (fun x => { x with asserted := false,
                                      pausePend := if x.pausePend == some 0xFFFF then none else some 0 })
      else d
    else if bit c.flags 0 && decide (d.highMark < occ) then
      d.setMac m (fun x => { x with asserted := true, pausePend := some 0xFFFF, lastPause := d.tick })
    else d

def Dev.pauseAll (d : Dev) : Dev := forN 6 d Dev.pauseEval

/-- The refresh of an asserted pause (R347). -/
def Dev.pauseRefresh (d : Dev) (m : Nat) : Dev :=
  let x := d.mac m
  if x.asserted && d.macUp m && x.pausePend.isNone then
    let t := x.lastPause + 32768 * 512 * d.byteNs m / 8
    (d.advanceTo t).setMac m (fun x => { x with pausePend := some 0xFFFF, lastPause := max t d.tick })
  else d

/-- A pause frame's bytes (R348). -/
def Dev.pauseFrame (d : Dev) (m q : Nat) : List Byte :=
  withFcs (pauseDa ++ leb 6 (d.cfg.macs.getD m {}).station ++ beb 2 0x8808 ++ beb 2 1 ++ beb 2 q ++ zeros 42)

/-- Time under a hold is counted up to now, in µs (Table 13.6). -/
def Dev.accountHold (d : Dev) (m : Nat) : Dev :=
  d.setMac m (fun x => match x.holdTo with
    | some t =>
      let ns := x.heldNs + (min d.tick t - x.holdFrom)
      { x with heldNs := ns, holdFrom := max x.holdFrom (min d.tick t), counters := upd x.counters 13 (fun _ => ns / 1000) }
    | none => x)

/-- A received MAC control frame (R350): a pause frame that is discarded counts with the other control frames (Table 13.6). -/
def Dev.macControl (d : Dev) (m : Nat) (b : List Byte) : Dev :=
  let c := d.cfg.macs.getD m {}
  let pause := (frDa b == pauseDa || frDa b == leb 6 c.station) && beVal (slice b 14 2) == 1 && b.length == 64
  if pause && bit c.flags 1 then
    let q := beVal (slice b 16 2)
    let d := (d.accountHold m).countMac m 6 1
    d.setMac m (fun x =>
      { x with holdFrom := d.tick, holdTo := if q == 0 then none else some (d.tick + q * 512 * d.bitNs m) })
  else d.countMac m 7 1

/-- The hold ends (R350). -/
def Dev.pauseHoldEnd (d : Dev) (m : Nat) : Dev :=
  match (d.mac m).holdTo with
  | some t => ((d.advanceTo t).accountHold m).setMac m (fun x => { x with holdTo := none })
  | none => d

def Dev.held (d : Dev) (m : Nat) : Bool :=
  match (d.mac m).holdTo with
  | some t => decide (d.tick < t)
  | none => false

/-! ## Mirror copies and proofs (R328 to R333) -/

/-- One mirror copy of a frame on the session's galley (R328, R329): of slugs held, or new slugs for a class 7 frame. -/
def Dev.mirrorCopy (d : Dev) (k : Nat) (bytes : List Byte) (held : Option Nat) (cls ing vid stamp : Nat) : Dev :=
  let c := d.cfg.mirrors.getD k {}
  let g := c.dest * 8 + c.cls
  let n := slugsFor bytes.length
  let lim := (d.swc.gal.getD g {}).limit
  let half := if lim == 0 then 512 else lim / 2
  let need := if held.isSome then 0 else n
  let ok := decide (d.occupancy g + n ≤ half) && decide (need + d.slugsInService / 8 ≤ d.freeSlugs)
  if !ok then d.setSwc (fun s => { s with mirrors := upd s.mirrors k (fun m => { m with dropped := m.dropped + 1 }) })
  else
    let (fid, d) := match held with
      | some i => (i, d)
      | none =>
        let (sl, last) := d.takeSlugs n d.swc.lastBank []
        let f : SwFrame := { id := d.swc.ids, bytes := bytes, cls := cls, vid := vid, ing := ing, stamp := stamp,
                             slugs := sl, express := true }
        (f.id, d.setSwc (fun s => { s with ids := s.ids + 1, lastBank := last, frames := s.frames ++ [f] }))
    let e : GEnt := { no := d.swc.ids, frame := fid, mirror := some k, raw := bytes }
    d.setSwc (fun s => { (s.setGalley g (fun q => q ++ [e])) with ids := s.ids + 1 })

/-- Mirror copies of a frame at a port, for every session that is ON and selects the port (R328). -/
def Dev.mirrorAt (d : Dev) (egress : Bool) (p : Nat) (bytes : List Byte) (held : Option Nat) (cls ing vid stamp : Nat) : Dev :=
  forN 4 d (fun d k =>
    let c := d.cfg.mirrors.getD k {}
    if d.isOn (0x0700 + k) && bit (if egress then c.egress else c.ingress) p then
      d.mirrorCopy k bytes held cls ing vid stamp
    else d)

/-- The proof sampler of a port sees a frame (R331, R332). -/
def Dev.proof (d : Dev) (egress : Bool) (p : Nat) (bytes : List Byte) (cls from_ stamp : Nat) (lost : Bool) : Dev :=
  let c := d.cfg.proofs.getD p {}
  if !(d.isOn (0x0800 + p)) || !(bit c.dir (if egress then 1 else 0)) then d
  else
    let s := d.swc.proofs.getD p {}
    let n := (if egress then s.cout else s.cin) + 1
    let hit := decide (c.n ≤ n)
    let put (d : Dev) (f : ProofSt → ProofSt) : Dev := d.setSwc (fun x => { x with proofs := upd x.proofs p f })
    let d := put d (fun s => if egress then { s with cout := if hit then 0 else n } else { s with cin := if hit then 0 else n })
    if !hit then d
    else
      let len := min bytes.length (64 * c.trunc)
      let tci := frTci bytes
      let tag := if (frTag bytes).isSome then tci / 8192 * 8192 + (if frTag bytes == some 0x88A8 then 4096 else 0) + tci % 4096
        else 0
      let flags := (if cls == 7 then 1 else 0) + (if len < bytes.length then 2 else 0) + (if lost then 4 else 0)
      let item := leb 1 (if egress then 2 else 1) ++ leb 1 cls ++ leb 1 from_ ++ leb 1 flags ++ leb 2 bytes.length ++ leb 2 tag ++
        leb 8 stamp ++ bytes.take len
      let ok := d.isOn (ringFid c.ring) && (d.ringCfg c.ring).dir == 1
      if !ok then put d (fun s => { s with dropped := s.dropped + 1 })
      else
        let (sent, d) := d.ringPut c.ring (.island 0x08) 2 p item
        put d (fun s => if sent then { s with sent := s.sent + 1 } else { s with dropped := s.dropped + 1 })

/-! ## Delivery to SP6 and SP7 (R249, R354) -/

/-- A frame steered to a logical engine is written into its oldest posted buffer (R249). -/
def Dev.deliverLe (d : Dev) (l cls : Nat) (bytes : List Byte) : Dev :=
  match d.peOf l with
  | none => d.countFull 6 cls
  | some p =>
    match (d.pe p).ports.rxPosted with
    | (i, a, n) :: rest =>
      if bytes.length ≤ n then
        let d := d.setPe p (fun e => { e with
          dram := Mem.setBytes 0 e.dram a bytes,
          ports := { e.ports with rxPosted := rest, rxDone := e.ports.rxDone ++ [(bytes.length, i)] } })
        ((d.raise 0x08 p 14).capture p 0xB).countFwd 6 cls
      else d.countFull 6 cls
    | [] => d.countFull 6 cls

/-- A frame steered to a host ring is published without its FCS (R354). -/
def Dev.deliverRing (d : Dev) (r ing cls : Nat) (bytes : List Byte) : Dev :=
  if d.isOn (ringFid r) then
    let (ok, d) := d.ringPut r (.island 0x08) 4 ing (noFcs bytes)
    if ok then d.countFwd 7 cls else d.countFull 7 cls
  else d.countFull 7 cls

/-- What reaches the host channel at SP7: the frame and its VID. -/
abbrev HostFrame := List Byte × Nat

/-! ## Egress form of a frame (R311, R345) -/

/-- The bytes of a frame as it leaves a port, before the FCS is made afresh. -/
def Dev.egressBytes (d : Dev) (p cls vid : Nat) (b : List Byte) : List Byte :=
  let untag := bit (d.vlan vid).untagged p
  let body := noFcs b
  let plain := slice body 0 12 ++ body.drop (if (frTag b).isSome then 16 else 12)
  let out := if untag then plain
    else match frTag b with
      | some tp => slice body 0 12 ++ beb 2 tp ++ beb 2 (frTci b / 4096 * 4096 + vid) ++ body.drop 16
      | none => slice body 0 12 ++ beb 2 0x8100 ++ beb 2 (cls * 8192 + vid) ++ body.drop 12
  withFcs (out ++ zeros (60 - out.length))

/-- The frame exceeds the maximum of the port's MAC after R311 (R345). -/
def Dev.tooLong (d : Dev) (p cls vid : Nat) (b : List Byte) : Bool :=
  decide ((d.cfg.macs.getD (d.portMac p) {}).maxFrame < (d.egressBytes p cls vid b).length)

/-! ## Frames into galleys and crosspoints (R313 to R315, R318, R319) -/

/-- Free bytes of the crosspoint from port `i` to port `o`. -/
def Swc.xpFree (s : Swc) (i o : Nat) : Nat := 2048 - ((s.xps.getD (i * 8 + o) []).map (fun e => e.bytes.length)).sum

/-- A class 7 frame is decided: each destination's crosspoint accepts it or drops it (R319). -/
def Dev.expressIn (d : Dev) (p : Nat) (rx : RxFrame) (src : Nat) : Dev × Nat :=
  (List.range 6).foldl (fun (a : Dev × Nat) o =>
    let (d, m) := a
    if !(bit rx.dests o) then (d, m)
    else if 1536 ≤ d.swc.xpFree p o then
      (d.setSwc (fun s => { s with xps := upd s.xps (p * 8 + o) (fun q => q ++
        [{ id := rx.id, bytes := rx.head, vid := rx.vid, stamp := rx.stamp, src := src }]) }), m)
    else (d.countFull o 7, m - 2 ^ o)) (d, rx.dests)

/-- The clockIdentity of the part (R452). -/
def clockIdent : List Byte := hostStation.take 3 ++ [0xFF#8, 0xFE#8] ++ hostStation.drop 3

/-- The PTP message that a frame carries for the profile, by its offset (Table 17.3). -/
def Dev.ptpAt (d : Dev) (b : List Byte) (port : Nat) : Option Nat :=
  let o := frPay b
  if d.cfg.time.profile == 2 then
    (if frType b == 0x0800 && byteAt b o == 0x45 && byteAt b (o + 9) == 17 && beVal (slice b (o + 22) 2) == port then some (o + 28)
     else none)
  else if frType b == 0x88F7 then some o
  else none

/-- A timestamp of IEEE 1588: seconds and nanoseconds. -/
def ptpStamp (ns : Nat) : List Byte := beb 6 (ns / secNs) ++ beb 4 (ns % secNs)

/-- The rewrite of a PTP event message at its transmit stamping point, for a transmission that begins at `at_`. Between two MACs
(R456, R358) the residence time, and with profile 0x03 the peer delay of the ingress port, join the correctionField. In a message
of the part's own the one-step fields are completed: the origin timestamp of a Sync, the turnaround of a Pdelay_Resp (R455). -/
def Dev.transparent (d : Dev) (m ing stamp at_ : Nat) (b : List Byte) : List Byte :=
  let pf := d.cfg.time.profile
  match d.ptpAt b 319 with
  | none => b
  | some h =>
    let ty := byteAt b h % 16
    let sfd := at_ + 8 * d.byteNs m
    let own := ing == 7 && slice b (h + 20) 8 == clockIdent && !(bit (byteAt b (h + 6)) 1)
    let addCf (n : Nat) : List Byte :=
      b.take (h + 8) ++ beb 8 ((beVal (slice b (h + 8) 8) + n * 65536) % 2 ^ 64) ++ b.drop (h + 16)
    let b1 :=
      if !d.timeOn || byteAt b (h + 4) != d.cfg.time.domain then b
      else if ing < 6 && (pf == 1 || pf == 2 || pf == 3) && ty < 4 then
        addCf (sfd - stamp + (if pf == 3 && ty == 0 then d.orr.peerDelay.getD (d.portMac ing) 0 else 0))
      else if own && ty == 0 then b.take (h + 34) ++ ptpStamp (d.orr.nsAt sfd) ++ b.drop (h + 44)
      else if own && ty == 3 then addCf (sfd - stamp)
      else b
    if b1 == b then b
    else
      let o := frPay b
      withFcs (noFcs (if pf == 2 then b1.take (o + 26) ++ zeros 2 ++ b1.drop (o + 28) else b1))

/-- The whole of an express frame is in: its crosspoints and any transmission under way hold its bytes. -/
def Dev.expressWhole (d : Dev) (id vid : Nat) (bytes : List Byte) : Dev :=
  let d := d.setSwc (fun s => { s with
    xps := s.xps.map (fun q => updIf q (fun e => e.id == id) (fun e => { e with bytes := bytes, whole := true })) })
  forN 6 d (fun d m => d.setMac m (fun x => { x with tx := x.tx.map (fun t =>
    if t.kind == 1 && t.frame == id then
      let st := (((d.swc.xps.getD (t.ing * 8 + d.macPort m) []).find? (fun e => e.id == id)).map (·.stamp)).getD 0
      { t with bytes := d.transparent m t.ing st t.start (d.egressBytes (d.macPort m) 7 vid bytes) }
    else t) }))

/-- An express frame proves bad or too long (R318, R320): a transmission that began ends with an inverted FCS, and the
frame leaves every crosspoint where it waits. The Bool says that a transmission had begun. -/
def Dev.expressBad (d : Dev) (id : Nat) : Bool × Dev :=
  let began := d.macs.any (fun m => match m.tx with
    | some t => t.kind == 1 && t.frame == id
    | none => false)
  let d := d.setSwc (fun s => { s with xps := s.xps.map (fun q => q.filter (fun e => e.id != id || e.began)) })
  (began, forN 6 d (fun d m => d.setMac m (fun x => { x with tx := x.tx.map (fun t =>
    if t.kind == 1 && t.frame == id then { t with aborted := true } else t) })))

/-- A whole express frame leaves each destination whose maximum frame is below its length after R311, which counts a galley-full drop
(R345, R314); a transmission that began ends with an inverted FCS. `m` is the mask of the destinations. -/
def Dev.expressLong (d : Dev) (p id vid m : Nat) (bytes : List Byte) : Dev × Nat :=
  (List.range 6).foldl (fun (a : Dev × Nat) o =>
    let (d, m) := a
    if bit m o && d.tooLong o 7 vid bytes then
      let d := (d.countFull o 7).setSwc (fun s => { s with
        xps := upd s.xps (p * 8 + o) (fun q => q.filter (fun e => e.id != id || e.began)) })
      (d.setMac (d.portMac o) (fun x => { x with tx := x.tx.map (fun t =>
        if t.kind == 1 && t.frame == id then { t with aborted := true } else t) }), m - 2 ^ o)
    else (d, m)) (d, m)

/-- A frame of class 0 to 6 that is whole and good: slugs, galley limits, its galleys, mirror copies (R313 to R315). The
Bool says that it was admitted. -/
def Dev.galleyIn (d : Dev) (p : Nat) (rx : RxFrame) (bytes : List Byte) : Bool × Dev :=
  let n := slugsFor bytes.length
  let lim := (d.cfg.ports.getD p {}).limit
  let (found, d) := d.roomFor n 64
  if !found || (lim != 0 && decide (lim < d.ingressSlugs p + n)) then (false, d.countAdm p rx.cls)
  else
    let (keep, d) := (List.range 6).foldl (fun (a : Nat × Dev) o =>
      let (m, d) := a
      if !(bit m o) then (m, d)
      else
        let (fits, d) := d.roomIn (o * 8 + rx.cls) n 64
        if fits && !(d.tooLong o rx.cls rx.vid bytes) then (m, d) else (m - 2 ^ o, d.countFull o rx.cls)) (rx.dests, d)
    if keep == 0 then (false, d)
    else
      let (sl, last) := d.takeSlugs n d.swc.lastBank []
      let f : SwFrame := { id := rx.id, bytes := bytes, cls := rx.cls, vid := rx.vid, ing := p, stamp := rx.stamp, slugs := sl }
      let d := d.setSwc (fun s => { s with frames := s.frames ++ [f], lastBank := last })
      let d := (List.range 6).foldl (fun (d : Dev) o =>
        if bit keep o then d.setSwc (fun s =>
          { (s.setGalley (o * 8 + rx.cls) (fun q => q ++ [{ no := s.ids, frame := rx.id }])) with ids := s.ids + 1 })
        else d) d
      let d := if p < 6 then d.mirrorAt false p bytes (some rx.id) rx.cls p rx.vid rx.stamp else d
      (true, d)

/-- A whole good frame takes its destinations: galleys or crosspoints, SP6 and SP7; learning, proofs and pause follow. -/
def Dev.frameIn (d : Dev) (p : Nat) (rx : RxFrame) (bytes : List Byte) (started : Bool) : List HostFrame × Dev :=
  let rx := { rx with head := bytes }
  let lost (d : Dev) : List HostFrame × Dev := ([], (d.proof false p bytes rx.cls 0xFF rx.stamp true).pauseAll)
  if rx.dropped then lost (d.countAdm p rx.cls)
  else if rx.cls == 7 && 1536 < bytes.length then
    let (_, d) := d.expressBad rx.id
    lost (d.countAdm p 7)
  else
    let (okIn, d) := if rx.cls == 7 then
        let (d, m) := if started then (d, rx.dests) else d.expressIn p rx rx.id
        let d := d.expressWhole rx.id rx.vid bytes
        let (d, m) := d.expressLong p rx.id rx.vid m bytes
        let d := if p < 6 && m &&& 0x3F != 0 then d.mirrorAt false p bytes none 7 p rx.vid rx.stamp else d
        (true, d)
      else if rx.dests &&& 0x3F != 0 then d.galleyIn p rx bytes
      else (true, d)
    let d := d.learn p bytes rx.vid
    let d := d.proof false p bytes rx.cls 0xFF rx.stamp (!okIn)
    let d := match rx.toLe with
      | some l => d.deliverLe l rx.cls bytes
      | none => d
    let d := match rx.toRing with
      | some r => d.deliverRing r p rx.cls bytes
      | none => d
    let d := if rx.toHost then d.countFwd 7 rx.cls else d
    (if rx.toHost then [(bytes, rx.vid)] else [], (d.collect).pauseAll)

/-- The classification point of a frame arriving at a MAC (R302): the part holds its first bytes. -/
def Dev.classifyAt (d : Dev) (p : Nat) (head : List Byte) : Dev :=
  let d := d.beginLookup
  let id := d.swc.ids
  let rx : RxFrame := { (d.classifyFrame p head none none) with id := id }
  let d := d.setSwc (fun s => { s with ids := s.ids + 1 })
  if rx.cls == 7 && !rx.dropped then
    let (d, m) := d.expressIn p rx id
    let rx : RxFrame := { rx with dests := (rx.dests &&& 0xC0) + (m &&& 0x3F) }
    d.setSwc (fun s => { s with rx := upd s.rx p (fun _ => some rx) })
  else d.setSwc (fun s => { s with rx := upd s.rx p (fun _ => some rx) })

/-- PTP messages that the time service takes from a MAC of its mask (R452), of the transport of its profile. -/
def Dev.ptpTaken (d : Dev) (m : Nat) (b : List Byte) : Bool :=
  let pf := d.cfg.time.profile
  d.timeOn && bit d.cfg.time.portMask m && decide (1 ≤ pf) && decide (pf ≤ 4) && ((d.ptpAt b 319).isSome || (d.ptpAt b 320).isSome)

/-- CLASSIFICATION_POINT (R302). -/
def Dev.classificationPoint (d : Dev) (m : Nat) (head : List Byte) : Dev :=
  let p := d.macPort m
  if !(d.macUp m) || !(d.swcUp) || frType head == 0x8808 || d.inRing m || d.ptpTaken m head then d
  else d.classifyAt p head

/-- A whole frame is received by a MAC (R344), handed to the switch (R313 to R320), and what reaches the host. -/
def Dev.frameReceive (d : Dev) (m : Nat) (bytes : List Byte) (err : Bool) : List HostFrame × Dev :=
  let p := d.macPort m
  let rx := (d.swc.rx.getD p none)
  let d0 := d
  if !(d.macUp m) then ([], d)
  else
    let d := d.setSwc (fun s => { s with rx := upd s.rx p (fun _ => none) })
    let bad (i : Nat) : List HostFrame × Dev :=
      let d := d.countMac m i 1
      match rx with
      | some r => if r.cls == 7 then
          let (began, d) := d.expressBad r.id
          ([], if began then d.countAdm p 7 else d)
        else ([], d)
      | none => ([], d)
    if !(fcsGood bytes) then bad 2
    else if err then bad 3
    else if bytes.length < 64 then bad 4
    else if (d.cfg.macs.getD m {}).maxFrame < bytes.length then bad 5
    else if beVal (slice bytes 12 2) == 0x8808 then ([], d.macControl m bytes)
    else
      let d := (d.countMac m 0 1).countMac m 1 bytes.length
      if d.ptpTaken m bytes then ([], d)
      else if d.inRing m then
        let r := m / 2
        if beVal (slice bytes 12 2) == (d.cfg.frs.getD r {}).etherType then ([], d)
        else ([], d.countAdm p (d.classifyFrame p bytes none none).cls)
      else if !(d0.swcUp) then ([], d.discard 1)
      else match rx with
        | some r => d.frameIn p r bytes true
        | none =>
          let id := d.swc.ids
          let r : RxFrame := { (d.classifyFrame p bytes none none) with id := id }
          (d.setSwc (fun s => { s with ids := s.ids + 1 })).frameIn p r bytes false

/-- A frame that the part itself sends into the switch through SP6 or SP7, whole, with its class and perhaps a mask or one
MAC (R302, R320, R452). Its number tells its sender when it has left. -/
def Dev.inject (d : Dev) (p : Nat) (bytes : List Byte) (cls : Nat) (mask : Option Nat) : Nat × List HostFrame × Dev :=
  let d := if mask.isNone then d.beginLookup else d
  let id := d.swc.ids
  let rx : RxFrame := { (d.classifyFrame p bytes (some cls) mask) with id := id }
  let d := d.setSwc (fun s => { s with ids := s.ids + 1 })
  if !(d.swcUp) then (id, [], d.discard 1) else
  let (h, d) := d.frameIn p rx bytes false
  (id, h, d)

/-- A frame to the one MAC of a port, without lookup and without regard to VLANs (R452). -/
def Dev.injectTo (d : Dev) (m cls : Nat) (bytes : List Byte) : Nat × Dev :=
  let p := d.macPort m
  let id := d.swc.ids
  let rx : RxFrame := { id := id, head := bytes, cls := cls, vid := (d.cfg.ports.getD p {}).pvid, dests := 2 ^ p, stamp := d.tick }
  let d := d.setSwc (fun s => { s with ids := s.ids + 1 })
  if !(d.swcUp) then (id, d.discard 1) else
  let (_, d) := d.frameIn 7 rx bytes false
  (id, d)

/-! ## Egress (R320, R322, R323) -/

/-- A galley's gate is open for a frame that ends at `stop` (R322, R323). -/
def Dev.gateOpen (d : Dev) (p c stop : Nat) : Bool :=
  let g := d.swc.gal.getD (p * 8 + c) {}
  if !g.gated then true
  else if d.swc.shut then false
  else match d.gateDomain with
    | none => true
    | some dom => bit (d.swc.gates.getD p 255) c && d.gateHolds dom p c stop

/-- The wire time of a frame with preamble and SFD. -/
def Dev.wireNs (d : Dev) (m len : Nat) : Nat := (8 + len) * d.byteNs m

/-- Heads of a gated galley longer than every open window of it are discarded (R323). -/
def Dev.dropOverlong (d : Dev) (p c : Nat) : Nat → Dev
  | 0 => d
  | k + 1 =>
    match d.swc.galley (p * 8 + c), d.gateDomain with
    | e :: _, some dom =>
      if !(d.swc.gal.getD (p * 8 + c) {}).gated then d
      else match d.longestOpen dom p c with
        | none => d
        | some w =>
          let f := d.swc.frame e.frame
          let len := (if e.mirror.isSome then e.raw else d.egressBytes p f.cls f.vid f.bytes).length
          if d.wireNs (d.portMac p) len ≤ w then d
          else
            let d := d.setSwc (fun s => s.setGalley (p * 8 + c) (fun q => q.drop 1))
            let d := match e.mirror with
              | some k => d.setSwc (fun s => { s with mirrors := upd s.mirrors k (fun m => { m with dropped := m.dropped + 1 }) })
              | none => d.countFull p c
            Dev.dropOverlong d.collect p c k
    | _, _ => d

/-- The head of a galley with the bytes it sends, if it is eligible (R322). -/
def Dev.eligible (d : Dev) (p c : Nat) : Option (GEnt × List Byte) :=
  match d.swc.galley (p * 8 + c) with
  | [] => none
  | e :: _ =>
    let f := d.swc.frame e.frame
    let b := if e.mirror.isSome then e.raw else d.egressBytes p f.cls f.vid f.bytes
    let m := d.portMac p
    if d.gateOpen p c (d.tick + d.wireNs m b.length) && (c == 7 || !(d.held m)) then some (e, b) else none

/-- Starts a transmission. -/
def Dev.startTx (d : Dev) (m : Nat) (t : TxFrame) : Dev := d.setMac m (fun x => { x with tx := some { t with start := d.tick } })

/-- Takes the head of a galley into transmission. -/
def Dev.sendGalley (d : Dev) (p c : Nat) (e : GEnt) (b : List Byte) : Dev :=
  let m := d.portMac p
  let f := d.swc.frame e.frame
  let b := if e.mirror.isSome then b else d.transparent m f.ing f.stamp d.tick b
  (d.setSwc (fun s => s.setGalley (p * 8 + c) (fun q => q.drop 1))).startTx m
    { kind := 0, bytes := b, cls := c, ing := f.ing, frame := e.frame, mirror := e.mirror }

/-- The next class 7 frame for port `p` (R320, R322 step 1): round robin from the ingress port after the one served last. -/
def Dev.expressNext (d : Dev) (p : Nat) : Option (Nat × XEnt) :=
  let m := d.portMac p
  let last := d.swc.xTurn.getD p 7
  ((List.range 8).map (fun k => (last + 1 + k) % 8)).findSome? (fun i =>
    match d.swc.xps.getD (i * 8 + p) [] with
    | e :: _ =>
      let fast := 6 ≤ i || decide (d.byteNs (d.portMac i) ≤ d.byteNs m)
      if !e.began && (e.whole || fast) && d.gateOpen p 7 d.tick then some (i, e) else none
    | [] => none)

/-- Deficit round robin among the weighted galleys of a port (R322 step 3): the class to serve, the deficits and the turn. -/
def drr (ok : Nat → Option Nat) (w : Nat → Nat) : Nat → Nat → List Nat → Bool → Option (Nat × List Nat)
  | 0, _, _, _ => none
  | n + 1, c, def_, given =>
    match ok c with
    | none => drr ok w n ((c + 1) % 8) (upd def_ c (fun _ => 0)) false
    | some len =>
      let have_ := def_.getD c 0 + (if given then 0 else w c * 256)
      if len ≤ have_ then some (c, upd def_ c (fun _ => have_ - len))
      else drr ok w n ((c + 1) % 8) (upd def_ c (fun _ => have_)) false

/-- EGRESS_SCHEDULING (R322): a free egress MAC picks the next frame. -/
def Dev.egress (d : Dev) (m : Nat) : Dev :=
  let p := d.macPort m
  if !(d.macUp m) || (d.mac m).tx.isSome || !(d.islandUp 0x08) then d
  else match (d.mac m).pausePend with
    | some q =>
      (d.setMac m (fun x => { x with pausePend := none, lastPause := d.tick })).startTx m
        { kind := 2, bytes := d.pauseFrame m q }
    | none =>
      match d.expressNext p with
        | some (i, e) =>
          let b := if e.whole then d.transparent m i e.stamp d.tick (d.egressBytes p 7 e.vid e.bytes) else e.bytes
          (d.setSwc (fun s => { s with
            xTurn := upd s.xTurn p (fun _ => i),
            xps := upd s.xps (i * 8 + p) (fun q => updFirst q (fun x => x.id == e.id) (fun x => { x with began := true })) })).startTx m
            { kind := 1, bytes := b, cls := 7, ing := i, frame := e.id }
        | none =>
          let d := forN 8 d (fun d c => d.dropOverlong p c 64)
          let strict := (List.range 8).map (fun k => 7 - k) |>.findSome? (fun c =>
            if (d.swc.gal.getD (p * 8 + c) {}).sched == 0 then (d.eligible p c).map (fun x => (c, x)) else none)
          match strict with
          | some (c, e, b) => d.sendGalley p c e b
          | none =>
            let ok (c : Nat) : Option Nat :=
              if (d.swc.gal.getD (p * 8 + c) {}).sched == 1 then (d.eligible p c).map (fun x => x.2.length) else none
            let def_ := (List.range 8).map (fun c => d.swc.deficit.getD (p * 8 + c) 0)
            let turn := d.swc.gTurn.getD p 7
            match drr ok (fun c => (d.swc.gal.getD (p * 8 + c) {}).weight) 400 turn def_ true with
            | some (c, def2) =>
              let d := d.setSwc (fun s => { s with
                gTurn := upd s.gTurn p (fun _ => c),
                deficit := (List.range 64).map (fun g => if g / 8 == p then def2.getD (g % 8) 0 else s.deficit.getD g 0) })
              match d.eligible p c with
              | some (e, b) => d.sendGalley p c e b
              | none => d
            | none => d

/-- FRAME_TRANSMITTED: the last bit of the frame in transmission has left the MAC (R315, R331, R347). -/
def Dev.frameTransmitted (d : Dev) (m : Nat) : Dev :=
  let p := d.macPort m
  match (d.mac m).tx with
  | none => d
  | some t =>
    if !(d.macUp m) && (d.func (macFid m)).st != 3 then d
    else
      let d := d.advanceTo (t.start + d.wireNs m t.bytes.length)
      let d := d.setMac m (fun x => { x with tx := none, sent := t.bytes })
      if t.kind == 2 then (d.countMac m 10 1).pauseAll
      else
        let d := if t.kind == 1 then d.setSwc (fun s => { s with
            xps := upd s.xps (t.ing * 8 + p) (fun q => q.filter (fun e => e.id != t.frame)) }) else d
        if t.aborted then
          ((d.setMac m (fun x => { x with sent := noFcs t.bytes ++ (t.bytes.drop (t.bytes.length - 4)).map (fun b => ~~~b) })).countMac m 11 1).collect.pauseAll
        else
          let d := ((d.countMac m 8 1).countMac m 9 t.bytes.length).countFwd p t.cls
          let stamp := t.start + 8 * d.byteNs m
          let d := match t.mirror with
            | some k => d.setSwc (fun s => { s with mirrors := upd s.mirrors k (fun x => { x with sent := x.sent + 1 }) })
            | none =>
              let d := d.mirrorAt true p t.bytes (if t.kind == 0 then some t.frame else none) t.cls t.ing (d.swc.frame t.frame).vid
                (d.swc.frame t.frame).stamp
              d.proof true p t.bytes t.cls t.ing stamp false
          (d.collect).pauseAll

/-! ## Ports going down and coming up (R59, R341) -/

/-- A frame in transmission or reception is cut off: fault discards; whether there was one. -/
def Dev.cutFrames (d : Dev) (m : Nat) : Bool × Dev :=
  let p := d.macPort m
  let tx := (d.mac m).tx
  let rx := d.swc.rx.getD p none
  let n := (if tx.isSome then 1 else 0) + (if rx.isSome then 1 else 0)
  let d := match rx with
    | some r => if r.cls == 7 then (d.expressBad r.id).2 else d
    | none => d
  let d := match tx with
    | some t => if t.kind == 1 then d.setSwc (fun s => { s with
        xps := upd s.xps (t.ing * 8 + p) (fun q => q.filter (fun e => e.id != t.frame)) }) else d
    | none => d
  let d := d.setSwc (fun s => { s with rx := upd s.rx p (fun _ => none) })
  let d := (d.setMac m (fun x => { x with tx := none })).discard n
  (decide (0 < n), d.collect)

/-- Mirror copies waiting for a port that goes down are dropped first (R330). -/
def Dev.dropPortMirrors (d : Dev) (p : Nat) : Dev :=
  forN 8 d (fun d c => forEach ((d.swc.galley (p * 8 + c)).filter (fun e => e.mirror.isSome)) d
    (fun d e => d.dropMirror (p * 8 + c) e))

/-- A MAC's port goes down: pause and hold end, and the link-down hold begins (R59, 13). -/
def Dev.portDown (d : Dev) (m : Nat) : Bool × Dev :=
  let (cut, d) := (d.accountHold m).cutFrames m
  let d := d.setMac m (fun x =>
    { x with linkUp := false, downAt := d.tick, expired := false, asserted := false, pausePend := none, holdTo := none })
  (cut, d.dropPortMirrors (d.macPort m))

/-- The link event of a MAC (Table 5.21). -/
def Dev.linkEvent (d : Dev) (m : Nat) (up : Bool) : Dev :=
  d.emit 0xF006 (macFid m) ([BitVec.ofNat 8 (b2n up), BitVec.ofNat 8 (d.cfg.macs.getD m {}).speed] ++ zeros 2)

/-- LINK_DOWN while the MAC is ON (R340, R341): F7, recorded on the receive island (R48): a rollback where a frame was cut short (R77),
else reported. -/
def Dev.linkDown (d : Dev) (m : Nat) : Dev :=
  if !(d.mac m).linkUp || !(d.isOn (macFid m)) then d
  else
    let (cut, d) := d.portDown m
    let d := (d.countMac m 12 1).linkEvent m false
    d.episode (fun d => d.logFault 7 (0x18 + m) (if cut then 2 else 9) 0 (macFid m) 0)

/-- LINK_UP while the MAC is ON (R340, R341). -/
def Dev.linkUp (d : Dev) (m : Nat) : Dev :=
  if (d.mac m).linkUp || !(d.isOn (macFid m)) then d
  else ((d.setMac m (fun x => { x with linkUp := true, expired := false })).linkEvent m true).pauseEval m

/-- The link-down hold of a port runs out (R59): its waiting frames are dropped and counted. -/
def Dev.holdExpiry (d : Dev) (p : Nat) : Dev :=
  let m := d.portMac p
  if (d.mac m).linkUp || (d.mac m).expired then d
  else
    let d := (d.advanceTo ((d.mac m).downAt + msNs d.cfg.dev.linkHoldMs)).setMac m (fun x => { x with expired := true })
    let d := forN 8 d (fun d c =>
      forEach (d.swc.galley (p * 8 + c)) (d.setSwc (fun s => s.setGalley (p * 8 + c) (fun _ => []))) (fun d e =>
        match e.mirror with
        | some k => d.setSwc (fun s => { s with mirrors := upd s.mirrors k (fun x => { x with dropped := x.dropped + 1 }) })
        | none => d.countFull p c))
    let d := forN 8 d (fun d i =>
      let q := d.swc.xps.getD (i * 8 + p) []
      forEach q (d.setSwc (fun s => { s with xps := upd s.xps (i * 8 + p) (fun _ => []) })) (fun d _ => d.countFull p 7))
    (d.collect).pauseAll

/-! ## Pipes and banks (R325 to R327) -/

/-- A bank that drains holds no slug any more: it is retired and its commands complete (R327). -/
def Dev.bankRetired (d : Dev) (b : Nat) : Dev :=
  if bit d.swc.draining b && d.swc.bankUsed b == 0 then
    let cmds := d.swc.bankCmds.filter (fun x => x.1 == b)
    let d := d.setSwc (fun s => { s with draining := s.draining - 2 ^ b, bankCmds := s.bankCmds.filter (fun x => x.1 != b) })
    let d := { d with cfg := { d.cfg with retired := d.cfg.retired ||| 2 ^ b,
                                          present := if d.cfg.present.contains 3 then d.cfg.present else d.cfg.present ++ [3] } }
    let d := { d with svc := { d.svc with retirements := wrap32 (d.svc.retirements + 1) } }
    forEach cmds d (fun d x => d.complete x.2 stDone (leb 2 d.slugsInService))
  else d

/-- A fence or hang of SWC (12, After a fault): crosspoints, arriving frames and deficits are lost, whole frames stay, and
gated galleys stay closed until the next meridian. The Bool says that a frame was cut off. -/
def Dev.swcReset (d : Dev) : Bool × Dev :=
  let n := (d.swc.xps.map (·.length)).sum + (d.swc.rx.filter (·.isSome)).length
  let d := d.setSwc (fun s => { s with
    xps := List.replicate 64 [], rx := List.replicate 8 none, deficit := List.replicate 64 0, shut := true })
  (decide (0 < n), (d.discard n).collect)

/-- A slug of a frame holds an uncorrectable error (12, After a fault): the frame leaves every galley. -/
def Dev.frameF2 (d : Dev) (id : Nat) : Bool × Dev :=
  let n := (d.swc.galleys.map (fun g => (g.filter (fun e => e.frame == id)).length)).sum
  (decide (0 < n), ((d.setSwc (fun s => { s with galleys := s.galleys.map (fun g => g.filter (fun e => e.frame != id)) })).discard n).collect.pauseAll)

end Sys2Proof.Machine
end

