-- ==== Sys2Proof/Machine/Forme.lean ====
section
/-! DEFINITION. Forme rings (18): template, slices and chase windows, processing of a copy, launch, return and merge, loops, claims and
integration. -/

namespace Sys2Proof.Machine

def Dev.fr (d : Dev) (r : Nat) : Fr := d.frs.getD r {}
def Dev.setFr (d : Dev) (r : Nat) (f : Fr → Fr) : Dev := { d with frs := upd d.frs r f }
def Dev.frCfg (d : Dev) (r : Nat) : FrCfg := d.cfg.frs.getD r {}
def frFid (r : Nat) : Nat := 0x0500 + r
def frIsland (r : Nat) : Nat := 0x0B + r
/-- The MAC of a ring port: the even one, or the odd one. -/
def frMac (r : Nat) (odd : Bool) : Nat := 2 * r + b2n odd

/-- Sets bits of FR_EVT; an enabled one raises the forme UNIT bit (Table 18.9). -/
def Dev.frEvent (d : Dev) (r b : Nat) : Dev :=
  let d := d.setFr r (fun f => { f with evt := f.evt ||| 2 ^ b })
  if bit (d.fr r).emask b then d.unitEvent (frIsland r) r 19 else d

/-- One forme missed (Table 18.4). -/
def Dev.frMissed (d : Dev) (r : Nat) : Dev := (d.setFr r (fun f => { f with missed := wrap32 (f.missed + 1) })).frEvent r 1

/-- The unit binding of the ring is held, or R295 counts it as held: its holder takes over at the next meridian (R479). -/
def Dev.frBound (d : Dev) (r : Nat) : Bool :=
  (d.bound r).isSome || ((d.quoin 0x0A r).owner.isNone && d.eng.les.any (fun l =>
    (l.takeover.map (·.1) == some 2) && (match l.snap with
      | some s => s.quoins.any (fun q => q.1 == 0x0A && q.2.1 == r)
      | none => false)))

/-! ## Template, slices and chase windows (Table 18.5, R470, R472, R478) -/

def Fr.t (f : Fr) (w lo n : Nat) : Nat := bits (f.tmpl.getD w 0) lo n
def Fr.fhl (f : Fr) : Nat := f.t 0 0 8
def Fr.dhl (f : Fr) : Nat := f.t 0 8 8
def Fr.trl (f : Fr) : Nat := f.t 2 0 8
def Fr.be (f : Fr) : Bool := f.t 1 10 1 == 1

/-- A template obeys Table 18.5. -/
def Fr.tmplOk (f : Fr) : Bool :=
  let aw := if f.t 1 8 2 == 1 then 2 else 4
  decide (f.fhl ≤ 32) && decide (4 ≤ f.dhl ∧ f.dhl ≤ 16) && decide (f.t 0 16 8 < f.dhl) && f.t 0 24 8 == 0 &&
  (f.t 1 8 2 == 1 || f.t 1 8 2 == 2) && decide (f.t 1 0 8 + aw ≤ f.dhl) && f.t 1 11 5 == 0 &&
  decide (f.t 1 16 8 + 2 ≤ f.dhl) && decide (7 ≤ f.t 1 24 4 ∧ f.t 1 24 4 ≤ 14) && decide (f.t 1 24 4 < f.t 1 28 4) &&
  decide (2 ≤ f.trl ∧ f.trl ≤ 8) && f.t 2 16 16 == 0 && f.t 3 24 8 == 0 &&
  f.t 3 0 8 != f.t 3 8 8 && f.t 3 8 8 != f.t 3 16 8 && f.t 3 0 8 != f.t 3 16 8

/-- Launch entries: plate, length, offset. -/
def LaunchEnt.plate (e : LaunchEnt) : Nat := bits e.lent 26 6
def LaunchEnt.len (e : LaunchEnt) : Nat := bits e.lent 0 11

/-- The launch list in use obeys R479 and Table 18.9. -/
def Dev.launchOk (d : Dev) (r : Nat) : Bool :=
  let f := d.fr r
  let es := f.launch.take f.lcnt
  let total := (es.map LaunchEnt.len).sum
  decide (46 ≤ total ∧ total ≤ 1500) &&
  es.all (fun e => (d.plate e.plate).declared && e.len != 0 && decide (e.lofs + e.len ≤ (d.plate e.plate).size))

def Slice.kind (s : Slice) : Nat := bits s.ctl 30 2
def Slice.plate (s : Slice) : Nat := bits s.ctl 16 6
def Slice.len (s : Slice) : Nat := bits s.ctl 0 11

/-- A logical byte lies in a chase window. -/
def Fr.inChase (f : Fr) (a : Nat) : Bool := f.chase.any (fun w => decide (w.1 ≤ a) && decide (a ≤ w.2))

/-- Every put slice lies whole in some chase window (R478). -/
def Fr.slicesInside (f : Fr) : Bool :=
  f.slices.all (fun s => s.kind != 2 || s.len == 0 ||
    f.chase.any (fun w => decide (w.1 ≤ s.addr) && decide (s.addr + s.len - 1 ≤ w.2)))

/-! ## The take plate (R474, Table 18.9) -/

def Fr.tpNum (f : Fr) : Nat := bits f.tplate 26 6
def Fr.tpSize (f : Fr) : Nat := (bits f.tplate 16 10 + 1) * 64
def Fr.tpBase (f : Fr) : Nat := bits f.tplate 0 13 * 64

/-- The ring has a take plate: it holds its writer slot. -/
def Dev.frTakes (d : Dev) (r : Nat) : Bool := d.holds 4 (d.fr r).tpNum (.island (frIsland r))

/-- A plate number or PIM range collides with a declared plate (R283). -/
def Dev.plateCollides (d : Dev) (num base size : Nat) (but : Nat) : Bool :=
  (List.range 64).any (fun p => p != but && (d.plate p).declared &&
    (p == num || (decide (base < (d.plate p).base + 3 * (d.plate p).size) && decide ((d.plate p).base < base + 3 * size))))

/-- A write of FR_TPLATE declares the take plate (R474): `none` where it breaks R283 and completes with poison. -/
def Dev.setTakePlate (d : Dev) (r v : Nat) : Option Dev :=
  let old := (d.fr r).tpNum
  let had := d.frTakes r
  let num := bits v 26 6
  let size := (bits v 16 10 + 1) * 64
  let base := bits v 0 13 * 64
  if bits v 13 3 != 0 || 0x80000 < base + 3 * size || d.plateCollides num base size (if had then old else 64) then none
  else
    let d := if had then (d.freeQuoin 4 old).setPlate old (fun _ => {}) else d
    let d := d.setFr r (fun f => { f with tplate := v })
    let d := d.setPlate num (fun _ => { declared := true, base := base, size := size, dom := some r })
    some (d.grant 4 num (.island (frIsland r)) 0 0)

/-- Bytes of the committed buffer of a plate. -/
def Dev.plateBytes (d : Dev) (p o n : Nat) : List Byte :=
  let q := d.plate p
  Mem.getBytes 0 d.eng.pim (q.base + q.com * q.size + o) n

/-- The ring writes bytes into its take plate's write buffer, as far as the plate reaches. -/
def Dev.takeWrite (d : Dev) (r o : Nat) (bs : List Byte) : Dev :=
  let q := d.plate (d.fr r).tpNum
  if d.frTakes r then d.ncWrite (q.base + q.wr * q.size + o) (bs.take (q.size - o)) else d

/-- The ring discards what it wrote for this forme. -/
def Dev.takeDiscard (d : Dev) (r : Nat) : Dev := if d.frTakes r then (d.discardWrite (d.fr r).tpNum).2 else d

/-! ## Processing a copy (R471 to R474, R478) -/

/-- A 16- or 32-bit field in the byte order of the template. -/
def Fr.field (f : Fr) (b : List Byte) (o n : Nat) : Nat := if f.be then beVal (slice b o n) else leVal (slice b o n)
def Fr.put16 (f : Fr) (v : Nat) : List Byte := if f.be then beb 2 v else leb 2 v

/-- One datagram: its header offset, command, first logical address, length, and whether more follow. -/
structure Datagram where
  pos : Nat := 0
  cmd : Nat := 0
  addr : Nat := 0
  len : Nat := 0
  more : Bool := false
  deriving DecidableEq, Repr, Inhabited

/-- The datagrams of a forme from offset `pos`, and whether it is malformed (R471). -/
def Fr.parse (f : Fr) (b : List Byte) (lim : Nat) : Nat → Nat → List Datagram × Bool
  | 0, _ => ([], true)
  | n + 1, pos =>
    let lw := f.field b (pos + f.t 1 16 8) 2
    let len := lw % 2 ^ (f.t 1 24 4 + 1)
    let g : Datagram := { pos := pos, cmd := byteAt b (pos + f.t 0 16 8),
                          addr := f.field b (pos + f.t 1 0 8) (if f.t 1 8 2 == 1 then 2 else 4),
                          len := len, more := bit lw (f.t 1 28 4) }
    if lim < pos + f.dhl + len + f.trl then ([], true)
    else if g.more then
      let (gs, bad) := Fr.parse f b lim n (pos + f.dhl + len + f.trl)
      (g :: gs, bad)
    else ([g], false)

/-- Replaces bytes at an offset. -/
def splice (b : List Byte) (o : Nat) (x : List Byte) : List Byte := b.take o ++ x ++ b.drop (o + x.length)

/-- A node serves one datagram: the bytes it sends on, the bytes it takes (offset in the take plate, data), and whether a put
would have passed the chase windows. -/
def Dev.serve (d : Dev) (r : Nat) (g : Datagram) (b : List Byte) : List Byte × List (Nat × List Byte) × Bool :=
  let f := d.fr r
  let takes := g.cmd == f.t 3 0 8 || g.cmd == f.t 3 16 8
  let puts := g.cmd == f.t 3 8 8 || g.cmd == f.t 3 16 8
  let data := g.pos + f.dhl
  let meets (s : Slice) : Bool := decide (s.addr < g.addr + g.len) && decide (g.addr < s.addr + s.len)
  let ts := if takes then f.slices.filter (fun s => s.kind == 1 && meets s) else []
  let ps := if puts then f.slices.filter (fun s => s.kind == 2 && meets s) else []
  let taken := ts.map (fun s =>
    let lo := max s.addr g.addr
    let hi := min (s.addr + s.len) (g.addr + g.len)
    (s.ofs + (lo - s.addr), slice b (data + (lo - g.addr)) (hi - lo)))
  let byte (k : Nat) : Byte × Bool :=
    let a := g.addr + k
    let old := b.getD (data + k) 0
    match ps.find? (fun s => decide (s.addr ≤ a) && decide (a < s.addr + s.len)) with
    | none => (old, false)
    | some s =>
      let o := s.ofs + (a - s.addr)
      if !(f.inChase a) then (old, true)
      else if (d.plate s.plate).declared && decide (o < (d.plate s.plate).size) then
        ((d.plateBytes s.plate o 1).headD 0, false)
      else (old, false)
  let new := (List.range g.len).map byte
  let wk := f.field b (data + g.len) 2
  let inc := (if ts.isEmpty then 0 else f.t 2 8 4) + (if ps.isEmpty then 0 else f.t 2 12 4)
  let b := if ps.isEmpty then b else splice b data (new.map (·.1))
  let b := if inc == 0 then b else splice b (data + g.len) (f.put16 ((wk + inc) % 65536))
  (b, taken, new.any (·.2))

/-- What a node makes of a copy: the bytes it sends on, what it takes, malformed, and a chase violation (R471 to R473). -/
def Dev.processForme (d : Dev) (r : Nat) (b : List Byte) : List Byte × List (Nat × List Byte) × Bool × Bool :=
  let f := d.fr r
  let lim := b.length - 4
  if (d.frCfg r).role == 3 then (b, [(0, slice b 14 (lim - 14))], false, false)
  else
    let (gs, bad) := f.parse b lim 400 (14 + f.fhl)
    let (b, tk, v) := gs.foldl (fun (a : List Byte × List (Nat × List Byte) × Bool) g =>
      let (b1, t1, v1) := d.serve r g a.1
      (b1, a.2.1 ++ t1, a.2.2 || v1)) (b, [], false)
    (b, tk, bad, v)

/-! ## Loops and ring state (R482, R483) -/

/-- A copy leaves by the other port, or by the port it came on where the other is looped. -/
def Fr.leaves (f : Fr) (odd : Bool) : Bool := if (if odd then f.loopE else f.loopO) then odd else !odd

/-- Frames that the ring's MACs send: the bytes and the counters of Table 13.6. -/
def Dev.frSend (d : Dev) (r : Nat) (odd : Bool) (b : List Byte) : Dev :=
  let m := frMac r odd
  let d := d.setFr r (fun f => { f with sent := (f.sent ++ [b]).drop ((f.sent.length + 1) - 2) })
  (((d.setMac m (fun x => { x with sent := b })).countMac m 8 1).countMac m 9 b.length)

/-- Changes the ring state, with RING and, on a master, the class 7 fault event (R482). -/
def Dev.setRingState (d : Dev) (r st : Nat) : Dev :=
  if (d.fr r).ring == st then d
  else
    let d := (d.setFr r (fun f => { f with ring := st })).frEvent r 3
    if (d.fr r).isMaster && st != 0 then
      d.episode (fun d => d.logFault 7 (frIsland r) st 0 (frFid r) 0)
    else d

/-- The ring state of a slave from its looped ports (R482). -/
def Dev.slaveRing (d : Dev) (r : Nat) : Dev :=
  let f := d.fr r
  if f.isMaster then d
  else d.setRingState r (if f.loopE && f.loopO then 2 else if f.loopE || f.loopO then 1 else 0)

/-- A ring port loops (R483); a forme partly sent on it is a fault discard. -/
def Dev.portLoop (d : Dev) (r : Nat) (odd : Bool) : Dev :=
  if !(d.isOn (frFid r)) || (if odd then (d.fr r).loopO else (d.fr r).loopE) then d
  else
    let m := frMac r odd
    let d := if (d.mac m).tx.isSome then (d.setMac m (fun x => { x with tx := none })).discard 1 else d
    (d.setFr r (fun f => if odd then { f with loopO := true } else { f with loopE := true })).slaveRing r

/-- A ring port unloops once its MAC has declared the link up (R483). -/
def Dev.portUnloop (d : Dev) (r : Nat) (odd : Bool) : Dev :=
  if !(if odd then (d.fr r).loopO else (d.fr r).loopE) then d
  else (d.setFr r (fun f => if odd then { f with loopO := false } else { f with loopE := false })).slaveRing r

/-! ## Integration, claims and the master (R485 to R488) -/

/-- A forme domain's imposition starts: MCOUNT is 0 (R493), and no entry acts before the next meridian. -/
def Dev.startImposition (d : Dev) (dom : Nat) : Dev :=
  { d with doms := upd d.doms dom (fun x => { x with mcount := 0, started := true, last := d.tick, next := 256 }) }

/-- A node becomes active (R488). -/
def Dev.frActivate (d : Dev) (r : Nat) : Dev :=
  (((d.setFr r (fun f => { f with isActive := true, start := 0, listening := none })).frEvent r 5)).startImposition r

/-- A whole cycle forme with good FCS, first of its cycle, counts toward integration (R488). -/
def Dev.frHeard (d : Dev) (r : Nat) : Dev :=
  let f := d.fr r
  let cyc := (d.frCfg r).cycle
  let apart := match f.lastForme with
    | some t => decide (cyc ≤ (d.tick - t) + cyc / 1000 + 2000) && decide (d.tick - t ≤ cyc + cyc / 1000 + 2000)
    | none => false
  let d := d.setFr r (fun f => { f with lastForme := some d.tick, listening := none, claimReturns := 0,
                                        start := if f.isActive then 0 else 2 })
  if !f.isActive && apart then d.frActivate r else d

/-- A frame on a ring port is a forme of this ring (R469), and a claim forme. -/
def Dev.isForme (d : Dev) (r : Nat) (b : List Byte) : Bool :=
  beVal (slice b 12 2) == (d.frCfg r).etherType && decide (64 ≤ b.length) && decide (b.length ≤ 1518)
def isClaim (b : List Byte) : Bool := slice b 14 4 == [0x43#8, 0x4C#8, 0x4D#8, 0x31#8]

/-- A cycle forme copy arrives (R473, R474, R477). `onViolation` is what F9 on the ring function does. -/
def Dev.cycleForme (onViolation : Dev → Nat → Dev) (d : Dev) (r : Nat) (odd : Bool) (b : List Byte) : Dev :=
  let f := d.fr r
  let cyc := (d.frCfg r).cycle
  if !(d.isOn (frFid r)) || !(d.macUp (frMac r odd)) || (if odd then f.loopO else f.loopE) || !(d.isForme r b) || isClaim b then d
  else if f.isMaster then d.frSend r (f.leaves odd) b
  else
    let good := fcsGood b
    let first := match f.processed with
      | some t => decide (t + cyc / 2 ≤ d.tick)
      | none => true
    if !first then d.frSend r (f.leaves odd) b
    else
      let wasActive := f.isActive
      let d := if good then d.frHeard r else d
      let d := d.setFr r (fun f => { f with processed := some d.tick, merDue := some (d.tick + f.mdly), substitutes := 0 })
      if !(wasActive && f.run && d.frBound r) then d.frSend r (f.leaves odd) b
      else
        let (out, tk, bad, viol) := d.processForme r b
        let d := forEach tk d (fun d t => d.takeWrite r t.1 t.2)
        let d :=
          if good && !bad then
            let d := d.frSend r (f.leaves odd) (withFcs (noFcs out))
            let d := if d.frTakes r then d.commitPlate (d.fr r).tpNum else d
            d.frEvent r 0
          else
            let x := withFcs (noFcs out)
            let d := d.frSend r (f.leaves odd) (noFcs x ++ (x.drop (x.length - 4)).map (fun v => ~~~v))
            (d.takeDiscard r).frMissed r
        if viol then onViolation d r else d

/-- The bytes of a forme from one MAC of the ring (R469, R479): its payload padded to 46 bytes. -/
def Dev.formeBytes (d : Dev) (r : Nat) (odd : Bool) (payload : List Byte) : List Byte :=
  withFcs (broadcast ++ leb 6 (d.cfg.macs.getD (frMac r odd) {}).station ++ beb 2 (d.frCfg r).etherType ++
    payload ++ zeros (46 - payload.length))

/-- The launch of one cycle forme (R479, R480), or a launch skipped. -/
def Dev.launch (d : Dev) (r : Nat) : Dev :=
  let f := d.fr r
  if (d.func (frFid r)).st != 2 then d
  else if !(f.run && d.frBound r) then (d.setFr r (fun f => { f with awaiting := false, copies := [] })).frMissed r
  else
    let pay := ((f.launch.take f.lcnt).map (fun e => d.plateBytes e.plate e.lofs e.len)).flatten
    let pay := pay ++ zeros (46 - pay.length)
    let d := d.setFr r (fun f => { f with launched := pay, copies := [], awaiting := true })
    let go (d : Dev) (odd : Bool) : Dev := if d.macUp (frMac r odd) then d.frSend r odd (d.formeBytes r odd pay) else d
    go (go d false) true

/-- A copy returns whole to the master (R480, R482). -/
def Dev.returnedCopy (d : Dev) (r : Nat) (sentOdd retOdd : Bool) (b : List Byte) : Dev :=
  let f := d.fr r
  let lim := f.lastMer + (d.frCfg r).cycle / 2
  if !f.isMaster || !f.awaiting || !(fcsGood b) || !(d.isForme r b) || lim < d.tick || !(d.macUp (frMac r retOdd)) then d
  else
    let t := min 65535 ((d.tick - f.lastMer) / 16)
    d.setFr r (fun f => { (if sentOdd then { f with rttO := t } else { f with rttE := t }) with
      copies := f.copies.filter (fun c => c.1 != b2n sentOdd) ++ [(b2n sentOdd, b2n retOdd, slice b 14 (b.length - 18))] })

/-- The merge of two returned copies (R480): exclusive OR with what was launched, working counters added. -/
def Fr.merge (f : Fr) (a b : List Byte) : List Byte :=
  let s := f.launched
  let x := (List.range s.length).map (fun i => a.getD i 0 ^^^ b.getD i 0 ^^^ s.getD i 0)
  let (gs, _) := f.parse (zeros 14 ++ s) (14 + s.length) 400 (14 + f.fhl)
  gs.foldl (fun x g =>
    let o := g.pos - 14 + f.dhl + g.len
    splice x o (f.put16 ((f.field a o 2 + f.field b o 2 + 65536 - f.field s o 2) % 65536))) x

/-- The return limit (R480 to R482). -/
def Dev.returnLimit (d : Dev) (r : Nat) : Dev :=
  let f := d.fr r
  if !f.isMaster || !f.awaiting then d
  else
    let d := (d.advanceTo (f.lastMer + (d.frCfg r).cycle / 2)).setFr r (fun f => { f with awaiting := false })
    match f.copies with
    | [] => (d.frMissed r).setRingState r 2
    | c :: cs =>
      let res := match cs with
        | c2 :: _ => f.merge c.2.2 c2.2.2
        | [] => c.2.2
      let d := d.takeWrite r 0 res
      let d := if d.frTakes r then d.setPlate f.tpNum (fun q => { q with ready := true }) else d
      let d := d.frEvent r 0
      let (gs, _) := f.parse (zeros 14 ++ f.launched) (14 + f.launched.length) 400 (14 + f.fhl)
      let wrong := ((List.range (min 32 gs.length)).filter (fun i =>
        let g := gs.getD i {}
        let x := f.xwkc.getD i 0xFFFF
        x != 0xFFFF && f.field res (g.pos - 14 + f.dhl + g.len) 2 != x)).length
      let d := if wrong == 0 then d else (d.setFr r (fun f => { f with mism := wrap32 (f.mism + wrong) })).frEvent r 2
      d.setRingState r (if f.copies.any (fun x => x.1 != x.2.1) then 0 else 1)

/-- The claim forme of a node on one of its MACs (Table 18.6). -/
def Dev.claimBytes (d : Dev) (r : Nat) (odd : Bool) : List Byte :=
  d.formeBytes r odd ([0x43#8, 0x4C#8, 0x4D#8, 0x31#8] ++ leb 4 (d.frCfg r).claim ++ leb 1 (d.frCfg r).rank ++ zeros 1 ++
    leb 6 (d.cfg.macs.getD (frMac r odd) {}).station ++ zeros 30)

def Dev.sendClaims (d : Dev) (r : Nat) : Dev :=
  let go (d : Dev) (odd : Bool) : Dev := if d.macUp (frMac r odd) then d.frSend r odd (d.claimBytes r odd) else d
  go (go d false) true

/-- A claim forme arrives (R486). Own claims count their returns, which the next meridian judges (R487); a node that claims no
longer removes its own that are still in flight. -/
def Dev.claimForme (d : Dev) (r : Nat) (odd : Bool) (b : List Byte) : Dev :=
  let f := d.fr r
  if !(d.isOn (frFid r)) || !(d.macUp (frMac r odd)) || !(d.isForme r b) || !(isClaim b) then d
  else
    let st := slice b 24 6
    let own := st == leb 6 (d.cfg.macs.getD (frMac r false) {}).station || st == leb 6 (d.cfg.macs.getD (frMac r true) {}).station
    let v := fld b 18 4
    if own then
      if f.start != 1 || f.claimBack then d
      else d.setFr r (fun f => { f with claimBack := true, claimReturns := f.claimReturns + 1 })
    else if f.start != 1 then d.frSend r (f.leaves odd) b
    else if v < (d.frCfg r).claim then
      (d.setFr r (fun f => { f with start := 2, claimReturns := 0 })).frSend r (f.leaves odd) b
    else if v == (d.frCfg r).claim then (d.setFr r (fun f => { f with clmEq := true })).frEvent r 4
    else d

/-- A cold-start-capable node hears no cycle forme in its listening time (R485, R488): it begins to claim at the whole
seconds of P. -/
def Dev.claimListen (d : Dev) (r : Nat) : Dev :=
  match (d.fr r).listening with
  | none => d
  | some t =>
    if !(d.isOn (frFid r)) || (d.frCfg r).role != 1 || (d.fr r).start == 1 then d
    else
      let d := d.advanceTo t
      d.setFr r (fun f => { f with listening := none, start := 1, claimReturns := 0, claimBack := false,
                                   master0 := pNext (d.orr.pOf d.tick) 0 secNs })

/-- FR_STAT (Table 18.11). -/
def Dev.frStat (d : Dev) (r : Nat) : Nat :=
  let f := d.fr r
  let role := if (d.func (frFid r)).st == 0 then 0 else (d.frCfg r).role
  role * 2 ^ 30 + f.start * 2 ^ 28 + f.ring * 2 ^ 26 + b2n f.loopE * 2 ^ 25 + b2n f.loopO * 2 ^ 24 + b2n f.clmEq * 2 ^ 23 +
  b2n f.tbad * 2 ^ 22 + b2n f.lock * 2 ^ 21 + b2n f.run * 2 ^ 20

/-- FORME_STATUS (Tables 5.16, 18.4). -/
def Dev.formeStatusBody (d : Dev) (r : Nat) : List Byte :=
  let f := d.fr r
  let loop := if f.isMaster || f.loopE == f.loopO then 0xFF else frMac r f.loopO
  leb 1 f.ring ++ leb 1 loop ++ leb 1 f.start ++ zeros 1 ++ leb 4 f.missed ++ leb 4 f.mism

/-- FR_CTL is written (R470, R478, R479): `none` for F3 with cause 0x07. -/
def Dev.frCtl (d : Dev) (r v : Nat) : Option Dev :=
  let d := if bit v 1 then d.setFr r (fun f => { f with lock := true }) else d
  let f := d.fr r
  if !(bit v 0) then some (d.setFr r (fun f => { f with run := false }))
  else if f.run then some d
  else if !f.lock || !f.slicesInside then none
  else if !f.tmplOk || ((d.frCfg r).role == 1 && !(d.launchOk r)) then some (d.setFr r (fun f => { f with tbad := true }))
  else some (d.setFr r (fun f => { f with run := true, tbad := false }))

/-- The ring enters ON (R485, R488): it listens or integrates. -/
def Dev.frEnterOn (d : Dev) (r : Nat) : Dev :=
  let cyc := (d.frCfg r).cycle
  d.setFr r (fun f =>
    { f with isMaster := false, isActive := false, start := 2, lastForme := none, processed := none, merDue := none,
             substitutes := 0, claimReturns := 0, awaiting := false,
             listening := if (d.frCfg r).role == 1 then some (d.tick + 3 * cyc) else none,
             loopE := !((d.mac (frMac r false)).linkUp), loopO := !((d.mac (frMac r true)).linkUp) })

/-- The ring leaves ON: the chase windows are free again (R478), and nothing is launched or processed. -/
def Dev.frLeaveOn (d : Dev) (r : Nat) : Dev :=
  d.setFr r (fun f => { f with lock := false, isActive := false, isMaster := false, start := 2, listening := none, merDue := none })

/-- A fence of the holder of the unit binding that is not taken over (18, After a fault): RUN becomes 0. -/
def Dev.frUnbound (d : Dev) (r : Nat) : Dev := d.setFr r (fun f => { f with run := false })

/-- A fence, hang or reset of the forme processor (18, After a fault; Table 18.11). -/
def Dev.frReset (d : Dev) (r : Nat) : Dev :=
  d.setFr r (fun f => { f with start := 2, ring := 0, loopE := false, loopO := false, clmEq := false, tbad := false,
                               isMaster := false, isActive := false, awaiting := false, copies := [], listening := none,
                               merDue := none })

end Sys2Proof.Machine
end

