-- ==== Sys2Proof/Machine/Almanac.lean ====
section
/-! DEFINITION. The Almanac (07): records, groups and their commit, live bytes and compaction, the mirror and its resilvering, journalling of the
backlog, and the opcodes of family 0x02 that need no more than that. -/

namespace Sys2Proof.Machine

def Dev.setAlm (d : Dev) (f : Alm → Alm) : Dev := { d with alm := f d.alm }
def Alm.copy (a : Alm) (i : Nat) : SmCopy := a.sm.getD i {}
def Dev.setCopy (d : Dev) (i : Nat) (f : SmCopy → SmCopy) : Dev := d.setAlm (fun a => { a with sm := upd a.sm i f })

/-! ## Records (Tables 7.7 to 7.9) -/

/-- Bytes of a record: 64 plus its padded data; a commit record has 16 data bytes. -/
def Rec.size (r : Rec) : Nat := 64 + roundUp r.len 16
def recBytes (rs : List Rec) : Nat := (rs.map Rec.size).sum

/-- A commit record that closes `n` records. -/
def commitRec (seq n flags : Nat) : Rec := { type := 2, key := 0, seq := seq, len := 16, flags := flags, body := .commit n }

/-- SEQ up to which working and operation records are retired by the last save header of a journal (R186). -/
def retiredUpTo (js : List Rec) : Nat :=
  js.foldl (fun a r => match r.body with
    | .save _ ret _ _ _ => ret
    | _ => a) 0

/-- The live records of a journal, in order (07, Compaction): the latest value of each key with LEN above 0, and the
working and operation records that no save has retired. -/
def liveFrom (ret : Nat) : List Rec → List Rec
  | [] => []
  | r :: rs =>
    let keep := if r.type == 1 then decide (0 < r.len) && !(rs.any (fun x => x.type == 1 && x.key == r.key))
      else if r.type == 2 then false
      else decide (ret < r.seq)
    if keep then r :: liveFrom ret rs else liveFrom ret rs

def live (js : List Rec) : List Rec := liveFrom (retiredUpTo js) js
def liveBytes (js : List Rec) : Nat := recBytes (live js)

/-! ## Copies -/

def Alm.primaryCopy (a : Alm) : SmCopy :=
  match a.primary with
  | some i => a.copy i
  | none => {}

/-- The journal that the journal cache shows (R184): that of the primary. -/
def Alm.journal (a : Alm) : List Rec := a.primaryCopy.journal
def Alm.used (a : Alm) : Nat := recBytes a.journal
def Alm.anyValid (a : Alm) : Bool := a.sm.any (·.valid)
/-- The primary: SM0 when it is valid, otherwise SM1 (Table 7.1). -/
def Alm.pickPrimary (a : Alm) : Option Nat :=
  if (a.copy 0).valid then some 0 else if (a.copy 1).valid then some 1 else none

/-- The value of a user key (ALMANAC_READ, R185). -/
def Alm.value (a : Alm) (key : Nat) : Option (List Byte) :=
  match (live a.journal).find? (fun r => r.type == 1 && r.key == key) with
  | some r => match r.body with
    | .user b => some b
    | _ => none
  | none => none

/-! ## Groups (R179, R181, R182, R188) -/

/-- The records of an operation's group before its commit record, with their SEQs from `seq` on. -/
def AlmOp.records (o : AlmOp) (seq count : Nat) : List Rec :=
  match o.kind with
  | .write key data =>
    [{ type := 1, key := key, seq := seq, len := data.length, body := .user data }]
  | .working slot => [{ type := 3, key := slot, seq := seq, len := Config.workingLen slot }]
  | .oper num => [{ type := 4, key := num, seq := seq, len := Config.operLen num }]
  | .compact => []
  | .save =>
    let keys := Config.sectionKeys.filter (fun k => o.cfg.present.contains k)
    let sealed := (List.range 12).flatMap (fun l =>
      if o.cfg.present.contains (0x20 + l) then [0x100 + 2 * l, 0x101 + 2 * l] else [])
    { type := 1, key := 1, seq := seq, len := 16, body := .save count (seq - 1) o.sgen o.cfg o.on } ::
    (List.range (keys.length + sealed.length)).map (fun i =>
      if i < keys.length then
        { type := 1, key := keys.getD i 0, seq := seq + 1 + i, len := Config.sectionLen (keys.getD i 0) }
      else
        { type := 1, key := sealed.getD (i - keys.length) 0, seq := seq + 1 + i, len := 2064, flags := 1 })

/-- The next SEQ is 1 in an Almanac that has none yet (R181 leaves the first SEQ open). -/
def Alm.seq (a : Alm) : Nat := if a.nextSeq == 0 then 1 else a.nextSeq

/-- Appends a committed group to the primary and to every other valid copy (R182). -/
def Alm.append (a : Alm) (g : List Rec) : Alm :=
  { a with sm := a.sm.map (fun c => if c.valid then { c with journal := c.journal ++ g } else c),
           nextSeq := a.seq + g.length, changed := true }

/-- Why a group cannot be written: SEQ used up (R181), or live bytes above 49,152 (R188). -/
def Alm.groupRefused (a : Alm) (g : List Rec) : Option Bool :=
  if 0xFFFF0000 < a.seq + g.length - 1 then some true
  else if 49152 < liveBytes (a.journal ++ g) then some false
  else none

/-- The first refusal for want of SEQ after each start sends one fault event of class 6 (R181). -/
def Dev.seqFault (d : Dev) : Dev :=
  if d.alm.seqRefused then d
  else ({ d with alm := { d.alm with seqRefused := true } } : Dev).episode
    (fun d => d.logFault 6 0x05 0x09 (match d.alm.primary with
      | some 1 => 0x02
      | _ => 0x01) 0 d.alm.seq)

/-- A valid copy holds bytes past its journal end: it is compacted before the next append (R180). -/
def Alm.unclean (a : Alm) : Bool := a.sm.any (fun c => c.valid && c.dirty)

/-- A commit leaves journal bytes used above 49,152: both copies are compacted (R187). -/
def Dev.checkCompact (d : Dev) : Dev :=
  if 49152 < d.alm.used && d.alm.seq < 0xFFFFFFFF then d.setAlm (fun a => { a with compacting := true }) else d

/-- An operation ends: its command completes, or the engine that asked is told through ALM_STAT and its event (R251); a
quoin that the command took is released (R124). -/
def Dev.almEnd (d : Dev) (o : AlmOp) (status : Nat) (payload : List Byte) (detail : Nat) : Dev :=
  let d := match o.le with
    | some l =>
      match (d.le l).pe with
      | some p =>
        (d.setPorts p (fun q => { q with almStat := (if status == stDone then 0x80000000 else 0xC0000000) + detail })).raiseLe
          0x01 l 17
      | none => d
    | none => d
  match o.cmd with
  | some w =>
    let d := if d.holds 1 0 (.channel w.ch) then d.release 1 0 else d
    if status == stDone then d.complete w stDone payload else d.completeFailed w detail
  | none => d

/-- A group's commit record verifies in the primary, and the group stands in the other valid copy (R182): the front
operation's effect. Nothing is written while a compaction runs (07, When things coincide). A save waits for its imposition
set (R215). -/
def Dev.groupCommit (d : Dev) : Dev :=
  match d.alm.ops with
  | [] => d
  | o :: os =>
    if d.alm.compacting || d.cmp.restarting || (o.kind == .save && o.sgen == 0) then d
    else
      let d0 := d.setAlm (fun a => { a with ops := os })
      if !d.alm.anyValid then d0.almEnd o stFailed [] 0x010E
      else if d.alm.unclean && d.alm.seq < 0xFFFFFFFF then d.setAlm (fun a => { a with compacting := true })
      else
        let count := wrap32 (d.alm.saveCount + 1)
        let rs := o.records d.alm.seq count
        let g := rs ++ [commitRec (d.alm.seq + rs.length) rs.length 0]
        match d.alm.groupRefused g with
        | some true => d0.seqFault.almEnd o stFailed [] 0x0109
        | some false => d0.almEnd o stFailed [] 0x0109
        | none =>
          let d := d0.setAlm (fun a => a.append g)
          let d := match o.kind with
            | .save => d.setAlm (fun a => { a with saved := o.cfg, savedOn := o.on, saveCount := count, savedSgen := o.sgen })
            | _ => d
          let payload := match o.kind with
            | .save => leb 4 count
            | _ => []
          (d.almEnd o stDone payload 0).checkCompact

/-- The part's own writes have held quoin 0x01 for one page transfer at a time (R183): its generation has moved on with each release, how
often is open. -/
def Dev.ownWrites (d : Dev) : Dev :=
  if (d.quoin 1 0).owner.isSome then d
  else let (n, d) := d.draw; d.setQuoin 1 0 (fun q => { q with gen := (q.gen + 1 + n) % 65536 })

/-- The Compositor journals the oldest backlog record that it can (R120): it needs quoin 0x01 free of engines and channels,
a valid copy, and a SEQ; otherwise the record stays. -/
def Dev.journalling (d : Dev) : Dev :=
  let free := match (d.quoin 1 0).owner with
    | none => true
    | some (.island _) => true
    | _ => false
  match d.verind.backlog with
  | [] => d
  | b :: bs =>
    if !free || d.alm.compacting || d.cmp.restarting || !d.alm.anyValid then d
    else if d.alm.unclean && d.alm.seq < 0xFFFFFFFF then d.setAlm (fun a => { a with compacting := true })
    else
      let o : AlmOp := { kind := .working b.1 }
      let rs := o.records d.alm.seq 0
      let g := rs ++ [commitRec (d.alm.seq + 1) 1 0]
      match d.alm.groupRefused g with
      | some true => d.seqFault
      | some false => d
      | none => ((d.setAlm (fun a => a.append g)).setVerind (fun v => { v with backlog := bs })).ownWrites.checkCompact

/-! ## Compaction (R187) -/

/-- A copy after its compaction: its live records in the next region, closed by a commit record with the compaction flag,
and a new anchor. -/
def SmCopy.compacted (c : SmCopy) (seq : Nat) : SmCopy :=
  let l := live c.journal
  let n := c.capacity / 65536
  { c with journal := l ++ [commitRec seq l.length 2], agen := c.agen + 1, dirty := false,
           active := if c.active + 1 < n then c.active + 1 else 1 }

/-- Both copies are compacted: one SEQ for both, service event 0x05, and the command's completion. A compaction that R180 alone
calls for is of the copy concerned. -/
def Dev.compactionDone (d : Dev) : Dev :=
  if !d.alm.compacting then d
  else
    let cmd := d.alm.compactCmd
    let all := cmd.isSome || !d.alm.unclean || decide (49152 < d.alm.used)
    let d := d.setAlm (fun a => { a with compacting := false, compactCmd := none, changed := true, nextSeq := a.seq + 1,
                                         sm := a.sm.map (fun c => if c.valid && (all || c.dirty) then c.compacted a.seq else c) })
    let d := d.ownWrites.serviceEvent 5 0
    match cmd with
    | some w => (if d.holds 1 0 (.channel w.ch) then d.release 1 0 else d).complete w stDone (leb 4 d.alm.used)
    | none => d

/-! ## Resilvering, removal and faults of a copy (R189 to R192) -/

/-- Begins a catch-up or full resilvering of copy `i` (service event 0x02): the copy under repair is not valid; a full one erases its
anchor sectors and region 1 first (R191). -/
def Dev.beginResilver (d : Dev) (i : Nat) (full : Bool) (cmd : Option Waiting) : Dev :=
  let d := d.setCopy i (fun c => { c with valid := false,
                                          blank := c.blank || full, journal := if full then [] else c.journal })
  let d := d.setAlm (fun a => { a with primary := a.pickPrimary,
                                       resil := a.resil.filter (fun r => r.1 != i) ++ [(i, full, cmd)] })
  d.serviceEvent 2 i

/-- A resilvering ends (R189, R191): a catch-up has appended the missing groups; a full one has written the live records
into region 1 under anchor generation 1. One that fails leaves the copy not valid (R192). -/
def Dev.resilverEnd (ok : Bool) (i : Nat) (d : Dev) : Dev :=
  match d.alm.resil.find? (fun r => r.1 == i) with
  | none => d
  | some (_, full, cmd) =>
    let d := d.setAlm (fun a => { a with resil := a.resil.filter (fun r => r.1 != i) })
    if !ok then (d.serviceEvent 3 i).completeOpt cmd stFailed (errDetail 0xFFFF 0x010E)
    else
      let src := d.alm.journal
      let l := live src
      let d := if full then
          let seq := d.alm.seq
          let d := d.setCopy i (fun c => { c with
            valid := true, blank := false, fitted := true, usable := true, dirty := false, active := 1, agen := 1,
            journal := if l.isEmpty then [] else l ++ [commitRec seq l.length 2] })
          if l.isEmpty then d else d.setAlm (fun a => { a with nextSeq := seq + 1 })
        else d.setCopy i (fun c => { c with valid := true, dirty := false, journal := src })
      let d := d.setAlm (fun a => { a with primary := if a.primary.isSome then a.primary else a.pickPrimary, changed := true })
      (d.ownWrites.serviceEvent 3 i).completeOpt cmd stDone []

/-- The SEQ that the record of an Almanac fault gives (Table 20.4): that of the record being written, a free value while a group, a
resilvering or a compaction runs; else that of the last record. -/
def Dev.smSeq (d : Dev) : Nat × Dev :=
  if d.alm.ops.isEmpty && d.alm.resil.isEmpty && !d.alm.compacting then (d.alm.seq - 1, d)
  else let (n, d) := d.draw; (n % 4294967296, d)

/-- A memory exceeds a busy limit or fails a read-back verify: F6 on its copy (R192). The copy is not valid, a fault event
of class 6 with action 0x01 is sent, and one full resilvering starts; if that very resilvering fails, the copy stays not
valid. -/
def Dev.smFault (i : Nat) (d : Dev) : Dev :=
  let c := d.alm.copy i
  let recorded : Dev := let (n, d) := d.smSeq; d.episode (fun d => d.logFault 6 0x05 0x01 (i + 1) 0 n)
  if (d.alm.resil.any (fun r => r.1 == i)) then recorded.resilverEnd false i
  else if !c.valid then d
  else
    let d := recorded
    let d := d.setCopy i (fun c => { c with valid := false })
    let d := d.setAlm (fun a => { a with primary := a.pickPrimary })
    if d.alm.anyValid then d.beginResilver i true none else d

/-! ## Opcodes of family 0x02 and the memory service actions -/

def opAlmanacInfo (_ : Held) (d : Dev) : OpResult :=
  let a := d.alm
  opDone d (leb 1 (b2n (a.copy 0).valid + 2 * b2n (a.copy 1).valid) ++ leb 1 (b2n (!a.resil.isEmpty)) ++ zeros 2 ++
    leb 4 a.primaryCopy.capacity ++ leb 4 a.used ++ leb 4 a.saveCount)

def opAlmanacRead (h : Held) (d : Dev) : OpResult :=
  let p := h.cmd.params
  if fld p 2 2 != 0 then opErr d stBadParam 18 0x010A
  else if fld p 0 2 < 0x8000 then opErr d stBadParam 16 0x010A
  else match d.alm.value (fld p 0 2) with
    | some b => opDone d (leb 2 b.length ++ zeros 2 ++ b)
    | none => opErr d stBadParam 16 0

def opAlmanacWrite (h : Held) (d : Dev) : OpResult :=
  let p := h.cmd.params
  let len := fld p 2 2
  if p.length < 4 || p.length != 4 + roundUp len 4 then opErr d stBadLength 18 0
  else if fld p 0 2 < 0x8000 then opErr d stBadParam 16 0x010A
  else if 2048 < len then opErr d stBadParam 18 0x010A
  else if let some i := (List.range 4).find? (fun i => byteAt p (4 + len + i) != 0) then opErr d stBadParam (20 + len + i) 0x010A
  else if !d.verind.canReserve then opErr d stNoResource 0xFFFF 0
  else
    let (ok, d1) := d.acquire 1 0 h.cmd.channel 0
    if !ok then opErr d stBusy 0xFFFF 0x0103
    else opAccept h d1 (fun w d =>
      if !d.alm.anyValid then d.almEnd { kind := .write 0 [], cmd := some w } stFailed [] 0x010E
      else d.setAlm (fun a => { a with ops := a.ops ++ [{ kind := .write (fld p 0 2) (slice p 4 len), cmd := some w }] }))

def opAlmanacCompact (h : Held) (d : Dev) : OpResult :=
  if !d.verind.canReserve then opErr d stNoResource 0xFFFF 0
  else
    let (ok, d1) := d.acquire 1 0 h.cmd.channel 0
    if !ok then opErr d stBusy 0xFFFF 0x0103
    else opAccept h d1 (fun w d =>
      if !d.alm.anyValid then d.almEnd { kind := .compact, cmd := some w } stFailed [] 0x010E
      else if 0xFFFFFFFF ≤ d.alm.seq then d.almEnd { kind := .compact, cmd := some w } stFailed [] 0x0109
      else if d.alm.compacting && d.alm.compactCmd.isSome then
        d.almEnd { kind := .compact, cmd := some w } stDone (leb 4 d.alm.used) 0
      else d.setAlm (fun a => { a with compacting := true, compactCmd := some w }))

def opSmRemove (h : Held) (d : Dev) : OpResult :=
  let p := h.cmd.params
  let i := byteAt p 0
  let a := d.alm
  if 2 ≤ i then opErr d stBadParam 16 0x010A
  else if fld p 1 3 != 0 then opErr d stBadParam 17 0x010A
  else if !(a.copy (1 - i)).valid then opErr d stBadState 16 0x010F
  else if !a.ops.isEmpty || a.compacting || a.resil.any (fun r => !r.2.1 || r.1 != i) then opErr d stBusy 0xFFFF 0x0103
  else opAccept h d (fun w d =>
    let d := if d.alm.resil.any (fun r => r.1 == i) then d.resilverEnd false i else d
    let d := d.setCopy i (fun c => { c with valid := false })
    (d.setAlm (fun a => { a with primary := a.pickPrimary })).completeDone w)

def opSmInsert (h : Held) (d : Dev) : OpResult :=
  let p := h.cmd.params
  let i := byteAt p 0
  if 2 ≤ i then opErr d stBadParam 16 0x010A
  else if fld p 1 3 != 0 then opErr d stBadParam 17 0x010A
  else opAccept h d (fun w d => d.beginResilver i true (some w))

/-! ## The running configuration's backlog (R120, R586) -/

/-- The lowest free command slot of the backlog (R592). -/
def Verind.freeBacklog (v : Verind) : Option Nat :=
  (List.range 64).find? (fun s => !(v.backlog.any (fun b => b.1 == s)))

/-- A change of the running configuration (R120, R586): refused NO_RESOURCE with the backlog full; otherwise it commits with
its record in the lowest free slot, and its section holds something from then on. -/
def cfgChange (h : Held) (d : Dev) (key : Nat) (f : RunCfg → RunCfg) (g : Dev → Dev := fun d => d) : OpResult :=
  match d.verind.freeBacklog with
  | none => opErr d stNoResource 0xFFFF 0x0100
  | some s =>
    let d := d.setVerind (fun v => { v with backlog := v.backlog ++ [(s, d.tick, h.op)] })
    let d := { d with cfg := f { d.cfg with present := if d.cfg.present.contains key then d.cfg.present
                                                       else d.cfg.present ++ [key] } }
    opDone (g d)

end Sys2Proof.Machine
end

