-- ==== Sys2Proof/Machine/Serial.lean ====
section
/-! DEFINITION. The serial line units (16): rate and framing, FIFOs, address mode, idle gaps, driver enable, and the unit group
of ports. -/

namespace Sys2Proof.Machine

def Dev.sl (d : Dev) (n : Nat) : Sl := d.sls.getD n {}
def Dev.setSl (d : Dev) (n : Nat) (f : Sl → Sl) : Dev := { d with sls := upd d.sls n f }
def Dev.slCfg (d : Dev) (n : Nat) : SlCfg := d.cfg.sls.getD n {}
def slFid (n : Nat) : Nat := 0x0300 + n
def slIsland (n : Nat) : Nat := 0x24 + n

/-- The rate divisor (R417), halves rounded up. -/
def SlCfg.divisor (c : SlCfg) : Nat := (2 * 16 * 192000000 + c.rate) / (2 * c.rate)

/-- `k` sixteenths of a bit time in ns: a sixteenth is D / 256 periods of 192 MHz. -/
def SlCfg.sixteenths (c : SlCfg) (k : Nat) : Nat := k * c.divisor * 125 / 6144

/-- Bits of a character. -/
def SlCfg.charBits (c : SlCfg) : Nat := 1 + c.dataBits + (if c.parity == 0 then 0 else 1) + c.stop

/-- A character time in ns. -/
def SlCfg.charNs (c : SlCfg) : Nat := c.sixteenths (16 * c.charBits)

/-- Raises bits of SL_EVT; one enabled by SL_EMASK raises the serial line UNIT bit (R428). -/
def Dev.slEvent (d : Dev) (n b : Nat) : Dev :=
  let d := d.setSl n (fun s => { s with evt := s.evt ||| 2 ^ b })
  if bit (d.sl n).emask b then d.unitEvent (slIsland n) (0x20 + n) 21 else d

/-- The idle count at tick `t`, in sixteenths, saturating (R423). -/
def Dev.slIdle (d : Dev) (n t : Nat) : Nat :=
  let c := d.slCfg n
  if c.rate == 0 then 0 else min 65535 ((t - (d.sl n).idleFrom) * 6144 / (c.divisor * 125))

/-- The unit runs: its function is ON or DRAINING and its island runs. -/
def Dev.slRuns (d : Dev) (n : Nat) : Bool :=
  let st := (d.func (slFid n)).st
  (st == 2 || st == 3) && d.islandUp (slIsland n)

/-- The idle count restarts at a last stop bit's end (R423, R424). -/
def Dev.slIdleRestart (d : Dev) (n : Nat) : Dev :=
  d.setSl n (fun s => { s with idleFrom := d.tick, firedA := false, firedB := false })

/-! ## Transmitting (R425 to R427) -/

/-- Where no character is in progress and one waits, sets the instants at which its start bit begins and DE rises (R426): the
start bit begins when the minimum gap has passed and, where DE is low, not before the lead from now. -/
def Dev.slSchedule (d : Dev) (n : Nat) : Dev :=
  let s := d.sl n
  let c := d.slCfg n
  if s.cur.isSome then d
  else match s.txf with
    | [] => d.setSl n (fun s => { s with startAt := none })
    | (_, gap) :: _ =>
      let due := s.idleFrom + c.sixteenths gap
      let at_ := if s.de then max d.tick due else max (d.tick + c.sixteenths c.lead) due
      let stays := s.de && decide (due ≤ s.idleFrom + c.sixteenths (s.lag + c.lead))
      d.setSl n (fun s => { s with startAt := some at_, fallAt := if stays then none else s.fallAt })

/-- The start bit of the waiting character begins; DE is high, RE# follows (R426). -/
def Dev.slBegin (d : Dev) (n : Nat) : Dev :=
  match (d.sl n).txf, (d.sl n).startAt with
  | (ch, _) :: rest, some t =>
    d.setSl n (fun s => { s with txf := rest, cur := some (ch, t), startAt := none, fallAt := none, de := true })
  | _, _ => d

/-- A waiting character whose gap has passed begins; its DE rises at once and the start bit after the lead (R426). -/
def Dev.slTry (d : Dev) (n : Nat) : Dev :=
  let d := d.slSchedule n
  match (d.sl n).startAt with
  | some t => if t ≤ d.tick || (!(d.sl n).de && t ≤ d.tick + (d.slCfg n).sixteenths (d.slCfg n).lead) then
                (d.setSl n (fun s => { s with de := true, lag := if s.de then s.lag else (d.slCfg n).lag })).slBegin n
              else d
  | none => d

/-- MINIMUM_GAP_EXPIRY: the gap of the waiting character runs out; DE is high lead sixteenths before its start bit. -/
def Dev.slGapEnds (d : Dev) (n : Nat) : Dev :=
  if !(d.slRuns n) || (d.sl n).cur.isSome then d
  else match (d.sl n).startAt with
    | some t =>
      let d := d.advanceTo (if (d.sl n).de then t else t - (d.slCfg n).sixteenths (d.slCfg n).lead)
      (d.setSl n (fun s => { s with de := true, lag := if s.de then s.lag else (d.slCfg n).lag })).slBegin n
    | none => d

/-- DE falls (R426): with the transmit FIFO empty TXE is raised (Table 16.4). -/
def Dev.slLagEnds (d : Dev) (n : Nat) : Dev :=
  match (d.sl n).fallAt with
  | none => d
  | some t =>
    let d := (d.advanceTo t).setSl n (fun s => { s with de := false, fallAt := none })
    let d := if (d.sl n).txf.isEmpty then d.slEvent n 1 else d
    d.slSchedule n

/-- SL_CHARACTER_SENT: the last stop bit of the character in progress ends (R423, R426). -/
def Dev.slSent (d : Dev) (n : Nat) : Dev :=
  match (d.sl n).cur with
  | none => d
  | some (_, t) =>
    let d := (d.advanceTo (t + (d.slCfg n).charNs)).setSl n (fun s => { s with cur := none })
    let d := d.slIdleRestart n
    let d := d.setSl n (fun s => { s with fallAt := some (d.tick + (d.slCfg n).sixteenths s.lag) })
    d.slTry n

/-- SL_TXDATA (R425): `none` where the write completes with poison. Bits above the data bits are ignored. -/
def Dev.slTxdata (d : Dev) (n l v : Nat) : Option Dev :=
  if !(d.holds 6 n (.le l)) || 32 ≤ (d.sl n).txf.length || !(d.isOn (slFid n)) || !(d.islandUp (slIsland n)) ||
      bits v 9 7 != 0 then none
  else
    let ch := v % 2 ^ (d.slCfg n).dataBits
    some (((d.renew 6 n).setSl n (fun s => { s with txf := s.txf ++ [(ch, bits v 16 16)] })).slTry n)

/-- The transmit FIFO is emptied; the character in progress completes (R427). The Bool says that one waited. -/
def Dev.slAbort (d : Dev) (n : Nat) : Bool × Dev :=
  (!(d.sl n).txf.isEmpty || (d.sl n).cur.isSome, d.setSl n (fun s => { s with txf := [], startAt := none }))

/-! ## Receiving (R419 to R424) -/

/-- A character goes into the receive FIFO, or is an overrun (R420). -/
def Dev.slStore (d : Dev) (n : Nat) (e : SlEnt) : Dev :=
  let d := d.setSl n (fun s => { s with lastGap := e.gap })
  if 64 ≤ (d.sl n).rxf.length then (d.setSl n (fun s => { s with overruns := wrap32 (s.overruns + 1) })).slEvent n 2
  else
    let d := (d.setSl n (fun s => { s with rxf := s.rxf ++ [e] })).slEvent n 0
    if e.brk || e.fe || e.pe then d.slEvent n 3 else d

/-- SL_CHARACTER_RECEIVED: a character whose start edge came `ago` ns before its last stop bit's end. -/
def Dev.slReceived (d : Dev) (n ch : Nat) (pe fe brk : Bool) (ago : Nat) : Dev :=
  let s := d.sl n
  let c := d.slCfg n
  if !(d.slRuns n) || s.shut || s.breakShut ||
      (match s.drainAt with | some t => decide (t < d.tick - ago) | none => false) then d
  else
    let gap := d.slIdle n (d.tick - ago)
    let heard := bit s.ctl 2 && (!s.de || bit s.ctl 0)
    let ch := ch % 2 ^ c.dataBits
    let pe := pe && c.parity != 0
    let e : SlEnt := { gap := gap, brk := brk, fe := fe || brk, pe := pe, data := ch }
    let d := d.setSl n (fun s => { s with breakShut := brk })
    let d :=
      if !heard then d
      else
        let d := d.setSl n (fun s => { s with
          framing := wrap32 (s.framing + b2n (fe || brk)), parity := wrap32 (s.parity + b2n pe) })
        if brk || !(bit s.ctl 1) || c.dataBits != 9 then d.slStore n e
        else if bit ch 8 then
          if ((ch % 256) ^^^ (s.amatch % 256)) &&& (s.amatch / 256 % 256) == 0 then
            ((d.setSl n (fun s => { s with selected := true })).slStore n e).slEvent n 6
          else d.setSl n (fun s => { s with selected := false })
        else if s.selected then d.slStore n e
        else d
    d.slIdleRestart n

/-- RXD has been high for one whole character time (R415), or it has returned high after a break (R419). -/
def Dev.slHigh (d : Dev) (n : Nat) : Dev :=
  if d.slRuns n then d.setSl n (fun s => { s with shut := false, breakShut := false }) else d

/-- GAP_THRESHOLD (R424): the idle count reaches the nearer threshold not yet raised in this idle period. -/
def Dev.slThreshold (d : Dev) (n : Nat) : Dev :=
  let s := d.sl n
  let c := d.slCfg n
  let a := if s.gapA != 0 && !s.firedA then some s.gapA else none
  let b := if s.gapB != 0 && !s.firedB then some s.gapB else none
  if !(d.slRuns n) || s.cur.isSome then d
  else
    let goA (d : Dev) (g : Nat) : Dev :=
      ((d.advanceTo (s.idleFrom + c.sixteenths g)).setSl n (fun s => { s with firedA := true })).slEvent n 4
    let goB (d : Dev) (g : Nat) : Dev :=
      ((d.advanceTo (s.idleFrom + c.sixteenths g)).setSl n (fun s => { s with firedB := true })).slEvent n 5
    match a, b with
    | none, none => d
    | some x, none => goA d x
    | none, some y => goB d y
    | some x, some y => if x < y then goA d x else if y < x then goB d y else goB (goA d x) y

/-! ## Lifecycle (R415, R416) -/

/-- The unit enters ON (R415). Counters stay. -/
def Dev.slEnterOn (d : Dev) (n : Nat) : Dev :=
  d.setSl n (fun s => { parity := s.parity, framing := s.framing, overruns := s.overruns, lastGap := s.lastGap,
                        idleFrom := d.tick })

/-- A fence, hang or reset of the unit (16, After a fault): the FIFO contents are fault discards. -/
def Dev.slReset (d : Dev) (n : Nat) : Dev :=
  let s := d.sl n
  (d.discard (s.rxf.length + s.txf.length + (if s.cur.isSome then 1 else 0))).setSl n (fun s =>
    { parity := s.parity, framing := s.framing, overruns := s.overruns, lastGap := s.lastGap })

/-- The drain is complete (R416). -/
def Dev.slDrained (d : Dev) (n : Nat) : Bool :=
  let s := d.sl n
  s.txf.isEmpty && s.cur.isNone && !s.de

/-! ## The unit group, ports 0xC0 to 0xCB (Tables 16.3 to 16.6) -/

def SlEnt.word (e : SlEnt) : Nat :=
  e.gap * 65536 + 2 ^ 15 + b2n e.brk * 2 ^ 14 + b2n e.fe * 2 ^ 13 + b2n e.pe * 2 ^ 12 + e.data

/-- SL_RXDATA returns and removes the oldest entry (R428). -/
def Dev.slRxdata (d : Dev) (n : Nat) : Nat × Dev :=
  match (d.sl n).rxf with
  | [] => (0, d)
  | e :: es => (e.word, d.setSl n (fun s => { s with rxf := es }))

/-- A read of a port of the group by its offset. -/
def Dev.slPortRead (d : Dev) (n o : Nat) : Nat × Dev :=
  let s := d.sl n
  match o with
  | 0 => ((32 - s.txf.length) * 65536 + s.rxf.length, d)
  | 1 => (s.evt, d)
  | 2 => (s.emask, d)
  | 3 => (s.ctl, d)
  | 4 => d.slRxdata n
  | 7 => (s.amatch, d)
  | 8 => (s.gapA, d)
  | 9 => (s.gapB, d)
  | 10 => (d.slIdle n d.tick, d)
  | 11 => (s.framing % 65536 * 65536 + s.overruns % 65536, d)
  | _ => (0, d)

/-- A write of a port of the group by its offset, but for SL_TXDATA; `none` where it completes with poison. -/
def Dev.slPortWrite (d : Dev) (n l o v : Nat) : Option Dev :=
  match o with
  | 1 => some (d.setSl n (fun s => { s with evt := s.evt &&& (0x7F ^^^ (v % 128)) }))
  | 2 => some (d.setSl n (fun s => { s with emask := v % 128 }))
  | 3 => some (d.setSl n (fun s => { s with ctl := v % 8, selected := s.selected && !(bit v 1 && !(bit s.ctl 1)) }))
  | 5 => d.slTxdata n l v
  | 6 => some (if bit v 0 then (d.slAbort n).2 else d)
  | 7 => some (d.setSl n (fun s => { s with amatch := v % 65536 }))
  | 8 => some (d.setSl n (fun s => { s with gapA := v % 65536 }))
  | 9 => some (d.setSl n (fun s => { s with gapB := v % 65536 }))
  | _ => some d

/-- SL_STATUS (Table 5.14). -/
def Dev.slStatusBody (d : Dev) (n : Nat) : List Byte :=
  let s := d.sl n
  leb 4 s.framing ++ leb 4 s.parity ++ leb 4 s.overruns ++ leb 4 (s.lastGap / 16)

end Sys2Proof.Machine
end

