-- ==== Sys2Proof/Machine/Power.lean ====
section
/-! DEFINITION. Power states (19): policy and limits, unfinished and deadline events, the selection, entry and leaving, wake sources,
the alarm, host deadlines, PWR_EN, and the time carried across SLUMBER and HIBERNATE. -/

namespace Sys2Proof.Machine

def Dev.setPwr (d : Dev) (f : Pwr → Pwr) : Dev := { d with pwr := f d.pwr }

/-- Counts the time in the present state up to now (R523). In DOZE only the periods with every island gated count, which are a free
value up to the whole time. -/
def Dev.accountPwr (d : Dev) : Dev :=
  let dt := d.tick - d.pwr.since
  let (x, d) := if d.pwr.st == 1 then d.draw else (0, d)
  let dt := if d.pwr.st == 1 then x % (dt + 1) else dt
  d.setPwr (fun p => { p with times := upd p.times p.st (fun t => t + dt), since := d.tick })

/-- The part is in a new power state from now. -/
def Dev.pwrTo (d : Dev) (st : Nat) : Dev := (d.accountPwr).setPwr (fun p => { p with st := st })

def exitLatency (st : Nat) : Nat :=
  match st with
  | 1 => 200
  | 2 => 40000
  | 3 => 1500000
  | 4 => 60000000
  | _ => 0

def entryBudget (st : Nat) : Nat :=
  match st with
  | 1 => 100
  | 2 => 10000
  | 3 => 500000
  | 4 => 2000000
  | _ => 0

/-! ## Limits (R506, R507, Table 19.4) -/

/-- Transit pulses or captures enabled. -/
def Dev.pulseOrCapture (d : Dev) : Bool :=
  d.cfg.time.pulse.any (fun p => bit p.flags 0) || d.cfg.time.capture.any (fun c => c.edge != 0)

/-- The shallowest function limit among DOZE to SLUMBER (Table 19.4); 3 where none is shallower. -/
def Dev.funcLimit (d : Dev) : Nat :=
  let off (f : Nat) : Bool := (d.func f).st == 0
  if (List.range 6).any (fun m => !(off (macFid m))) || (List.range 2).any (fun r => !(off (0x0500 + r))) ||
      (List.range 4).any (fun n => (d.isOn (mbFid n) && d.ttLevel n != 0) || !(off (slFid n))) ||
      (d.timeOn && d.cfg.time.profile != 0) then 1
  else if d.pulseOrCapture then 2
  else 3

/-- A condition that does not permit HIBERNATE (Table 19.4, last column; R577). -/
def Dev.hibBlocked (d : Dev) : Bool :=
  (List.range 2).any (fun r => (d.func (0x0500 + r)).st != 0) ||
  (List.range 4).any (fun n => d.isOn (mbFid n) && d.ttLevel n != 0) || d.pulseOrCapture || !d.start.osc32k

/-! ## Unfinished events (R508) -/

/-- An enabled WAKE pin in level mode at its asserted level. -/
def Dev.wakeLevel (d : Dev) : Bool :=
  let c := d.cfg.dev
  (List.range 4).any (fun i => bit c.wakeEnable i && !(bit c.wakeEdge i) && (d.pwr.wakePins.getD i false != bit c.wakeLow i))

/-- A multidrop controller that is ON is at bus idle: no request pending, no frame in progress (R382). -/
def Dev.mbIdle (d : Dev) (n : Nat) : Bool := (d.mb n).objs.all (fun o => o.req.isNone)

/-- A logical engine has its physical engine running and not in WAIT or WAITU, or a transmission outstanding. -/
def Dev.leBusy (d : Dev) : Bool :=
  d.eng.les.any (fun l => match l.pe with
    | some p => let e := d.pe p; (e.running && e.stall == .none) || !e.ports.txOut.isEmpty
    | none => false)

/-- Some unfinished event is present (R508). -/
def Dev.unfinished (d : Dev) : Bool :=
  d.verind.chans.any (fun c => !c.held.isEmpty) || d.hst.ports.any (fun p => !p.out.isEmpty || p.begun) ||
  d.funcs.any (fun f => f.st == 1 || f.st == 3 || f.st == 4 || f.recovering) ||
  d.islands.any (fun i => i.recovering) || d.cmp.restarting || !d.svc.tests.isEmpty ||
  d.typ.banks.any (fun b => b.op.isSome) || !d.typ.jobs.isEmpty ||
  !d.alm.ops.isEmpty || d.alm.compacting || !d.alm.resil.isEmpty ||
  d.leBusy ||
  (List.range 4).any (fun n => (d.isOn (mbFid n) && !(d.mbIdle n)) || (d.mb n).detect.isSome) ||
  d.hst.windows.any (fun w => w.isOpen && !w.staged.isEmpty) || d.wakeLevel

/-! ## Deadline events and the alarm (R509, R512, R513) -/

def minOpt (a b : Option Nat) : Option Nat :=
  match a, b with
  | none, x => x
  | x, none => x
  | some x, some y => some (min x y)

def minList (xs : List Nat) : Option Nat := xs.foldl (fun a x => minOpt a (some x)) none

/-- The host deadlines not yet reached. -/
def Dev.hostDeadlines (d : Dev) : List Nat := (d.pwr.deadlines.filterMap id).filter (fun t => d.tick < t)

/-- The tick of a timer's target, as far as the present rate gives it. -/
def Dev.timerTick (d : Dev) (t : Timer) : Option Nat :=
  if !t.armed then none
  else if t.mode == 3 then (if t.tEpoch == d.orr.epoch then some (d.orr.whenNs t.target) else none)
  else some t.target

/-- The tick at which a WAITU target is next reached (R276). -/
def waituTick (tick target scale : Nat) : Nat :=
  let now := tick / 2 ^ scale
  let ahead := (target + 4294967296 - now % 4294967296) % 4294967296
  if waituReached tick target scale then tick else (now + ahead) * 2 ^ scale

/-- The other deadline events, which NAP and SLUMBER heed (R509). -/
def Dev.partDeadlines (d : Dev) : List Nat :=
  let pes := d.eng.pes.filter (·.running)
  pes.flatMap (fun e =>
    e.ports.tmr.filterMap d.timerTick ++
    (match e.stall with
     | .waitu t a => [waituTick d.tick t a]
     | _ => []) ++
    (if e.ports.wdHalf then [] else [e.ports.wdKick + usNs e.ports.wdPeriod / 2])) ++
  (d.quoins.filter (fun q => q.owner.isSome)).map (·.expiry) ++
  d.hst.rings.flatMap (fun r => (r.resv.filter (fun x => !x.done)).map (·.expiry)) ++
  ((d.orr.step.map (·.at_)).toList)

/-- The earliest deadline event that a state heeds. -/
def Dev.earliest (d : Dev) (st : Nat) : Option Nat :=
  minList (d.hostDeadlines ++ (if st == 2 || st == 3 then d.partDeadlines else []))

/-- The tick of the alarm, as far as the present rate gives it (R513, R514). -/
def Dev.alarmTick (d : Dev) : Option Nat :=
  match d.pwr.alarm with
  | none => none
  | some a => if !a.absolute then some a.at_
              else if a.epoch == d.orr.epoch then some (d.orr.whenNs a.at_) else some d.tick

/-! ## Selection (R510, R518) -/

/-- HIBERNATE's own conditions (R518). -/
def Dev.hibOk (d : Dev) : Bool :=
  d.cfg.dev.policy == 4 && !d.hibBlocked && d.verind.events.isEmpty &&
  (List.range 32).all (fun r => (d.ringCfg r).dir != 1 || !(d.isOn (ringFid r)) || (d.ring r).pi == (d.ring r).ci)

/-- The need of a state in ns (R510); HIBERNATE adds 70 ms for a new restore block. -/
def Dev.pwrNeed (d : Dev) (st : Nat) : Nat :=
  entryBudget st + exitLatency st + (if st == 4 && d.alm.changed then 70000000 else 0)

/-- A state leaves room before every deadline event and the alarm. -/
def Dev.pwrRoom (d : Dev) (st : Nat) : Bool :=
  let need := d.pwrNeed st
  (match d.earliest st with
   | some e => decide (d.tick + need + usNs d.cfg.dev.guardUs ≤ e)
   | none => true) &&
  (match d.alarmTick with
   | some a => decide (d.tick + need ≤ a)
   | none => true)

/-- The state that the part chooses (R510). The Compositor does not choose while it restarts. -/
def Dev.choose (d : Dev) : Nat :=
  if d.start.phase != .ready || d.cmp.restarting then 0
  else
    let busy := d.unfinished
    let ok (st : Nat) : Bool :=
      d.pwrRoom st &&
      (if st == 4 then !busy && d.hibOk
       else decide (st ≤ min d.cfg.dev.policy d.funcLimit) && (st == 1 || !busy) && (st != 3 || d.verind.events.isEmpty))
    ([4, 3, 2, 1].find? ok).getD 0

/-! ## Entry and leaving (R503 to R505, R511, R516 to R519) -/

/-- Before ORR stops, its snapshot goes to AON: any slew ends, and a step that waits is discarded (R462; 17). -/
def Dev.orrCarry (d : Dev) : Dev :=
  d.endSlew.setOrr (fun o => { o with step := none })

/-- ORR restarts from the snapshot (R462): P equals Orrery time, and a locked quality becomes a holdover code. -/
def Dev.orrResume (d : Dev) : Dev :=
  let d := d.setOrr (fun o => let o := o.rebase d.tick; { o with pns := o.ns, walk := 0 })
  if 0x20 ≤ d.orr.quality && d.orr.quality < 0x30 then d.toHoldover else d

/-- The STATE of an island in use in NAP or SLUMBER (Table 19.3). -/
def napState (st i : Nat) : Nat :=
  if i == 0x00 || (0x20 ≤ i && i ≤ 0x23) then 2
  else if st == 3 then 5
  else if i == 0x03 || i == 0x04 then 2
  else 3

/-- Enters DOZE, NAP or SLUMBER. -/
def Dev.enterState (d : Dev) (st : Nat) : Dev :=
  let d := d.pwrTo st
  if st < 2 then d
  else
    let d := if st == 3 then d.orrCarry else d
    let d := { d with islands := d.islands.map (fun i => if i.st == 2 || i.st == 3 then { i with st := napState st i.id } else i) }
    forN 4 d (fun d n => if d.isOn (mbFid n) then d.setMb n (fun m => { m with asleep := true, errRun := 0, sleepBuf := [] }) else d)

/-- The wake event (Table 5.21, R517). After HIBERNATE it waits for READY. -/
def Dev.sendWake (d : Dev) (src left result : Nat) : Dev :=
  if left == 4 then
    if d.pwr.wakeEvent.isSome then d else d.setPwr (fun p => { p with wakeEvent := some (src, left, result) })
  else (d.setPwr (fun p => { p with lastWake := src })).emit 0xF007 0 (leb 1 src ++ leb 1 left ++ leb 2 result)

/-- The part begins to leave NAP or SLUMBER, if it has not begun; how long it takes is open up to the exit latency. DOZE ends
at once. -/
def Dev.beginLeave (d : Dev) : Dev :=
  if d.pwr.st == 1 then d.pwrTo 0
  else if (d.pwr.st == 2 || d.pwr.st == 3) && d.pwr.leaving.isNone then
    let (a, d) := d.draw
    d.setPwr (fun p => { p with leaving := some (d.tick + a % (exitLatency p.st + 1)) })
  else d

/-- A wake in HIBERNATE: PWR_EN is to rise, at the end of its 1 ms low time at the earliest (R520). -/
def Dev.wakeRails (d : Dev) : Dev :=
  if d.pwr.st == 4 && !d.pwr.pwrEn && d.pwr.raiseAt.isNone then
    { d with start := { d.start with since := d.tick },
             pwr := { d.pwr with raiseAt := some (max d.tick (d.pwr.enSince + 1000000)) } }
  else d

/-- A source of Table 19.5 with an event code acts (R516, R517). Only the first source of one leave sends its event. -/
def Dev.wakeBy (d : Dev) (src : Nat) : Dev :=
  let st := d.pwr.st
  if (st == 2 || st == 3) && d.pwr.leaving.isNone then (d.sendWake src st stDone).beginLeave
  else if st == 4 && d.pwr.raiseAt.isNone && !d.pwr.pwrEn then (d.sendWake src 4 stDone).wakeRails
  else d

/-- A host packet or chip select reaches the part (R516): whether it is taken. In SLUMBER it only ends the state. -/
def Dev.hostWakes (d : Dev) : Bool × Dev :=
  if d.pwr.st == 2 then (true, d.beginLeave)
  else if d.pwr.st == 3 then (false, d.beginLeave)
  else if d.pwr.st == 4 then (false, d)
  else (true, d)

/-- A fault detected in NAP or SLUMBER returns the part to RUN before any recovery (19, After a fault). -/
def Dev.faultWakes (d : Dev) : Dev := if d.pwr.st == 2 || d.pwr.st == 3 || d.pwr.st == 1 then d.beginLeave else d

/-- The islands run again (Table 19.3). -/
def Dev.islandsAwake (d : Dev) : Dev :=
  { d with islands := d.islands.map (fun i => if i.st == 3 || i.st == 5 then { i with st := 2 } else i) }

/-- The deadline that ends the present state, and the instant at which the leave begins (R511): the host's come with an event. -/
def Dev.deadlineExit (d : Dev) : Dev :=
  let st := d.pwr.st
  if st == 0 || d.pwr.leaving.isSome || d.pwr.raiseAt.isSome then d
  else match d.earliest st with
    | none => d
    | some e =>
      let host := minList d.hostDeadlines == some e
      let d := d.advanceTo (e - usNs d.cfg.dev.guardUs - exitLatency st)
      if st == 1 then d.pwrTo 0
      else if host then d.wakeBy 0x20
      else if st == 4 then d
      else d.beginLeave

/-! ## The alarm (R513, R514) -/

/-- The alarm fires: its event in every state, disarmed, and the leave. -/
def Dev.fireAlarm (d : Dev) (result : Nat) : Dev :=
  let st := d.pwr.st
  let d := d.setPwr (fun p => { p with alarm := none })
  if st == 4 then (d.sendWake 0 4 result).wakeRails else (d.sendWake 0 st result).beginLeave

/-- ALARM: the first AON edge at or after the alarm, within 30.518 µs; it waits for the oscillator (R577). -/
def Dev.alarmDue (d : Dev) : Dev :=
  match d.pwr.alarm with
  | none => d
  | some a =>
    if !d.start.osc32k then d
    else if a.absolute && a.epoch != d.orr.epoch then d.fireAlarm stEpochChanged
    else
      let t := if a.absolute then d.orr.whenNs a.at_ else a.at_
      let (x, d) := d.draw
      (d.advanceTo (t + x % 30519)).fireAlarm stDone

/-- A step of Orrery time meets the alarm (R514). -/
def Dev.alarmAtStep (d : Dev) : Dev :=
  match d.pwr.alarm with
  | none => d
  | some a =>
    if !a.absolute then d
    else if a.epoch != d.orr.epoch then d.fireAlarm stEpochChanged
    else if a.at_ ≤ d.orr.nsAt d.tick then d.fireAlarm stDone
    else d

/-- A WAKE pin changes (R515): it stays at its level, or comes back after `held` ns. -/
def Dev.wakePin (d : Dev) (i : Nat) (high : Bool) (held : Option Nat) : Dev :=
  let c := d.cfg.dev
  let (a, d) := d.draw
  let enough := match held with
    | none => true
    | some h => decide (1000 ≤ h) || (decide (50 ≤ h) && a % 2 == 1)
  let d := if held.isNone then d.setPwr (fun p => { p with wakePins := upd p.wakePins i (fun _ => high) }) else d
  if !(bit c.wakeEnable i) || high == bit c.wakeLow i then d
  else if bit c.wakeEdge i then (if enough then d.wakeBy (1 + i) else d)
  else d.wakeBy (1 + i)

end Sys2Proof.Machine
end

