-- ==== Sys2Proof/Machine/MbBus.lean ====
section
/-! DEFINITION. Events of the multidrop buses (14, 15, 18): frames received and sent, errors and bus-off, integration, rate
detection, sleep and wake, and the time-triggered windows. -/

namespace Sys2Proof.Machine

/-- Changes an error counter and raises EPAS where the controller enters or leaves error passive (R375, Table 15.7). -/
def Dev.mbCount2 (d : Dev) (n : Nat) (f : Mb → Mb) : Dev :=
  let was := (d.mb n).state
  let d := d.setMb n f
  if !(d.mb n).busOff && was != 2 && was != (d.mb n).state then d.mbEvent n 6 else d

/-! ## Rate detection (R379 to R381, Table 14.6) -/

/-- Nominal candidates: rate and bit time in ns. -/
def nomCands : List (Nat × Nat) :=
  [(1000000, 1000), (800000, 1250), (500000, 2000), (250000, 4000), (125000, 8000), (50000, 20000), (20000, 50000),
   (10000, 100000)]
def dataCands : List Nat := [8000000, 5000000, 4000000, 2000000, 1000000]

def absDiff (a b : Nat) : Nat := (a - b) + (b - a)

/-- The candidate whose bit time lies nearest a run (R380). -/
def nearestCand (run : Nat) : Nat :=
  (List.range 8).foldl (fun best i =>
    if absDiff run (nomCands.getD i (0, 0)).2 < absDiff run (nomCands.getD best (0, 0)).2 then i else best) 0

/-- The detection ends (R381): its completion, and MBn_STBY high again. -/
def Dev.detectEnd (d : Dev) (n : Nat) : Dev :=
  match (d.mb n).detect with
  | none => d
  | some t =>
    let d := d.setMb n (fun m => { m with detect := none })
    match t.accepted, t.cand with
    | some _, some c =>
      let rate := (nomCands.getD c (0, 0)).1
      let dr := if !t.brsSeen then 0 else if 3 ≤ t.dcount then dataCands.getD t.dcand 0 else 0xFFFFFFFF
      d.complete t.cmd stDone (leb 4 rate ++ leb 4 dr)
    | _, _ => d.completeFailed t.cmd 0x0111

/-- A detector sees an error-free frame, or a frame with an error (R380, R381). The search begins after the settle time. -/
def Dev.detectFrame (d : Dev) (n : Nat) (good brs : Bool) (runNs : Nat) : Dev :=
  match (d.mb n).detect with
  | none => d
  | some t =>
    if d.tick < t.start + 50000 then d
    else
      let c := t.cand.getD (nearestCand runNs)
      let t : MbDetect := { t with cand := some c }
      let put (t : MbDetect) : Dev := d.setMb n (fun m => { m with detect := some t })
      match t.accepted with
      | none =>
        if !good then put { t with cand := some ((c + 1) % 8), count := 0 }
        else if 2 ≤ t.count then put { t with count := 3, accepted := some d.tick }
        else put { t with count := t.count + 1 }
      | some _ =>
        if !brs then d
        else if !good then put { t with dcand := (t.dcand + 1) % 5, dcount := 0, brsSeen := true }
        else if 2 ≤ t.dcount then (put { t with dcount := 3, brsSeen := true }).detectEnd n
        else put { t with dcount := t.dcount + 1, brsSeen := true }

/-- RATE_DETECT_TIMEOUT: 1 s after nominal acceptance with no BRS frame, or the timeout (R381). -/
def Dev.detectTimeout (d : Dev) (n : Nat) : Dev :=
  match (d.mb n).detect with
  | none => d
  | some t =>
    let stop := match t.accepted with
      | some a => if t.brsSeen then t.stop else min t.stop (a + 1000000000)
      | none => t.stop
    (d.advanceTo stop).detectEnd n

/-! ## Receiving (R375, R384, R385, R388, R389) -/

/-- A frame is stored: in object mode to the lowest object that matches, else to the open ring (R389). -/
def Dev.mbStore (d : Dev) (n : Nat) (f : MbFrame) : Dev :=
  let d := d.setMb n (fun m => { m with rxcnt := wrap32 (m.rxcnt + 1) })
  match (if (d.mbCfg n).objMode then (List.range 128).find? (fun k => d.objMatches n k f) else none) with
  | some k => d.toObject n k f
  | none => d.toRing n f

/-- The wake frame of R384. -/
def MbCfg.wakes (c : MbCfg) (f : MbRx) : Bool :=
  !f.fdf && !f.rtr && f.ide == bit c.wakeFlags 0 && ((f.ident ^^^ c.wakeId) &&& c.wakeIdMask) == 0 && f.dlc == c.wakeDlc &&
  (List.range f.dlc).all (fun i => ((byteAt f.data i ^^^ byteAt c.wakeData i) &&& byteAt c.wakeDataMask i) == 0)

/-- The received frame with its stamp (R409). -/
def Dev.mbFrame (d : Dev) (n : Nat) (f : MbRx) (slp : Bool) : MbFrame :=
  { ident := f.ident, ide := f.ide, rtr := f.rtr, fdf := f.fdf, brs := f.brs, esi := f.esi, slp := slp, dlc := f.dlc,
    data := if f.rtr then [] else f.data.take (dlcLen f.fdf f.dlc), stamp := (d.mb n).stampAt (d.tick - f.sofAgo) }

/-- An asleep controller receives a frame (R383 to R385). -/
def Dev.mbAsleepFrame (d : Dev) (n : Nat) (f : MbRx) : Dev :=
  let c := d.mbCfg n
  if !(bit c.wakeMode 1) then d
  else
    let d := d.setMb n (fun m => { m with errRun := 0 })
    let d := if 4 ≤ (d.mb n).sleepBuf.length then
        (d.setMb n (fun m => { m with overrun := wrap32 (m.overrun + 1) })).mbEvent n 8
      else
        let g := d.mbFrame n f true
        d.setMb n (fun m => { m with sleepBuf := m.sleepBuf ++ [g] })
    if bit c.wakeMode 0 || c.wakes f then d.wakeBy (0x10 + n) else d

/-- The receiver's counter after a successful reception (R375): down by one, or to 120 from above 127. -/
def recDown (r : Nat) : Nat := if 127 < r then 120 else r - 1

/-- The controller takes part in bus traffic as a receiver. -/
def Dev.mbHears (d : Dev) (n : Nat) : Bool :=
  let st := (d.func (mbFid n)).st
  (st == 2 || st == 3) && d.islandUp (mbIsland n) && !(d.mb n).integ && !(d.mb n).busOff

/-- A frame of the controller's own that has begun is not the one received: it lost arbitration. Where the frame ends, the
next may begin. -/
def Dev.mbReceived (d : Dev) (n : Nat) (f : MbRx) : Dev :=
  if (d.mb n).detect.isSome then d.detectFrame n f.ack f.brs f.runNs
  else if !(d.mbHears n) then d
  else if (d.mb n).asleep then d.mbAsleepFrame n f
  else if f.fdf && !(d.mbCfg n).fd then d
  else
    let d := d.mbUnbegin n
    let d := if (d.mbCfg n).listen then d else d.mbCount2 n (fun m => { m with recn := recDown m.recn })
    let d := d.mbStore n (d.mbFrame n f false)
    d.mbStart n

/-- The sleep buffer's frames are delivered in order, and the controller integrates again (R385, R386). -/
def Dev.mbAwake (d : Dev) (n : Nat) : Dev :=
  let fs := (d.mb n).sleepBuf
  let was := (d.mb n).asleep
  let d := d.setMb n (fun m => { m with asleep := false, sleepBuf := [], integ := m.integ || was })
  let d := forEach fs d (fun d f => d.mbStore n f)
  if fs.isEmpty then d else d.mbEvent n 9

/-- RETURN_TO_RUN: the leave completes; sleep-buffer frames are delivered and the part chooses again (R385, R511, R522). -/
def Dev.returnToRun (d : Dev) : Dev :=
  match d.pwr.leaving with
  | none => d
  | some t =>
    let d := d.advanceTo t
    let slept := d.pwr.st == 3
    let d := (d.pwrTo 0).setPwr (fun p => { p with leaving := none })
    let d := d.islandsAwake
    let d := if slept then d.orrResume else d
    forN 4 d Dev.mbAwake

/-! ## Sending (R405 to R407) -/

/-- The object's frame has been sent and acknowledged (R407). -/
def Dev.mbSentObj (d : Dev) (n k : Nat) : Dev :=
  match (d.mbObj n k).req with
  | none => d
  | some q =>
    let stamp := (d.mb n).stampAt q.sof
    let d := d.setMb n (fun m => { m with txcnt := wrap32 (m.txcnt + 1) })
    let d := d.mbCount2 n (fun m => { m with tec := m.tec - 1 })
    let d := d.setObj n k (fun o => { o with txok := true, content := leb 4 stamp ++ o.content.drop 4 })
    (d.setObj n k MbObj.promote).mbEvent n 2

/-! ## Errors (R375 to R378, Table 14.7) -/

/-- A frame ends in an error. A begun frame of the controller's stays pending or is withdrawn; a controller that goes bus-off
sets both counters to 0 and recovers. -/
def Dev.mbError (d : Dev) (n : Nat) (e : MbErr) : Dev :=
  if (d.mb n).detect.isSome then d.detectFrame n false e.dataPhase e.runNs
  else if !(d.mbHears n) then d
  else if (d.mb n).asleep then
    if !(bit (d.mbCfg n).wakeMode 1) then d
    else if bit (d.mbCfg n).wakeMode 0 then d.wakeBy (0x10 + n)
    else
      let d := d.setMb n (fun m => { m with errRun := m.errRun + 1 })
      if 32 ≤ (d.mb n).errRun then
        (d.setMb n (fun m => { m with errRun := 0, lastErr := e.code % 16 + 128 * b2n e.dataPhase })).wakeBy (0x10 + n)
      else d
  else
    let d := d.setMb n (fun m => { m with lastErr := e.code % 16 + 128 * b2n e.dataPhase })
    let d := d.mbUnbegin n
    if e.code == 7 then d.setMb n (fun m => { m with integ := true })
    else if (d.mbCfg n).listen then d
    else
      let d :=
        if e.transmitter then
          if e.ackPassive && (d.mb n).state == 1 && e.code == 3 then d
          else if 255 < (d.mb n).tec + 8 then
            (d.setMb n (fun m => { m with tec := 0, recn := 0, busOff := true })).mbEvent n 4
          else d.mbCount2 n (fun m => { m with tec := m.tec + 8 })
        else d.mbCount2 n (fun m => { m with recn := min 255 (m.recn + (if e.heavy then 8 else 1)) })
      d.mbStart n

/-- BUS_OFF_RECOVERY: 128 runs of 11 recessive bits (R376). -/
def Dev.mbRecover (d : Dev) (n : Nat) : Dev :=
  if (d.mb n).busOff && d.isOn (mbFid n) then ((d.setMb n (fun m => { m with busOff := false })).mbEvent n 5).mbStart n else d

/-- INTEGRATION: 11 recessive bits (R366). -/
def Dev.mbIntegrated (d : Dev) (n : Nat) : Dev :=
  if d.isOn (mbFid n) && (d.mb n).integ && !(d.mb n).asleep then (d.setMb n (fun m => { m with integ := false })).mbStart n
  else d

/-- STUCK_DOMINANT (R378): a fault event of class 7 with code 8; a frame in progress is a fault discard, the controller stays ON
and integrates again. -/
def Dev.mbStuck (d : Dev) (n : Nat) : Dev :=
  if !(d.isOn (mbFid n)) || !(d.islandUp (mbIsland n)) || (d.mb n).asleep then d
  else
    let cut := (d.begunObj n).isSome
    let d := if cut then (d.discard 1).mbUnbegin n else d
    let d := d.setMb n (fun m => { m with lastErr := 8, integ := true })
    d.episode (fun d => d.logFault 7 (mbIsland n) (if cut then 2 else 9) 0 (mbFid n) 0)

/-- DOMINANT_EDGE_WAKE: RXD low for 5 µs wakes an asleep controller in mode 0b01 (R383). -/
def Dev.mbEdge (d : Dev) (n : Nat) : Dev :=
  if d.isOn (mbFid n) && (d.mb n).asleep && (d.mbCfg n).wakeMode % 4 == 1 then d.wakeBy (0x10 + n) else d

/-! ## Lifecycle (R366, R367; 15, After a fault) -/

/-- A controller enters STARTING: both ring indices become 0 (R391). -/
def Dev.mbEnterStarting (d : Dev) (n : Nat) : Dev := d.setMb n (fun m => { m with pi := 0, ci := 0 })

/-- A controller enters ON (R366, R493): counters of errors 0, it integrates; a time-triggered one integrates its bus too. -/
def Dev.mbEnterOn (d : Dev) (n : Nat) : Dev :=
  let d := d.setMb n (fun m => { m with tec := 0, recn := 0, busOff := false, integ := true, asleep := false })
  d.setTt n (fun t => { t with st := 1, good := 0, window := none, pend := false, lastRef := d.tick,
                               expected := d.tick + tblCycle (d.doms.getD (2 + n) {}).active })

/-- The drain is complete (R367). -/
def Dev.mbDrained (d : Dev) (n : Nat) : Bool :=
  let m := d.mb n
  (d.begunObj n).isNone || m.busOff || m.integ || m.asleep

/-- A fence, hang or reset of the island: a frame being sent is a fault discard, requests roll back, locks end as by expiry, the
stamp counter restarts; receive buffers and objects stay. The Bool says that something was cut short. -/
def Dev.mbReset (d : Dev) (n : Nat) : Bool × Dev :=
  let cut := (d.begunObj n).isSome
  let (had, d) := d.mbWithdrawAll n
  let d := if cut then (d.discard 1) else d
  let d := forN 128 d (fun d k => d.setObj n k (fun o => { o with req := none, wait := none }))
  let d := forN 128 d (fun d k => d.unlock n k true)
  (cut || had, d.setMb n (fun m => { m with tec := 0, recn := 0, busOff := false, integ := false, lastErr := 0, evt := 0,
                                            emask := 0, xtick := 0, origin := d.tick, asleep := false, sleepBuf := [],
                                            errRun := 0 }))

/-! ## Time-triggered buses (R496 to R501) -/

/-- A window begins (R499): an exclusive one starts the named object's pending request, if any, and nothing after that. -/
def Dev.windowStart (d : Dev) (n : Nat) (e : List Byte) : Dev :=
  let d := d.setTt n (fun t => { t with window := some (enKind e, enObj e, d.tick + enLen e), pend := false })
  let d := d.mbStart n
  d.setTt n (fun t => { t with pend := enKind e == 4 })

/-- The reference message that the time master writes (R496, R501): the cycle count, and at level 2 the NTU's zero resolution byte
and global time. The layout is that of ISO 11898-4. -/
def Dev.refData (d : Dev) (n : Nat) : List Byte :=
  let t := d.tt n
  let tbl := (d.doms.getD (2 + n) {}).active
  let c := leb 1 (t.cycle % 64)
  if d.ttLevel n == 2 then c ++ [0#8] ++ leb 2 (d.orr.nsAt d.tick / max 1 (tblNtu tbl)) else c

/-- Sends a reference message from REFOBJ (R497): it begins as soon as the bus lets it. -/
def Dev.sendReference (d : Dev) (n : Nat) : Dev :=
  let tbl := (d.doms.getD (2 + n) {}).active
  let k := tblRefObj tbl
  if 127 < k || !(d.isOn (mbFid n)) || (d.mb n).busOff || (d.mb n).integ || (d.begunObj n).isSome then d
  else
    let d := d.setTt n (fun t => { t with cycle := (t.cycle + 1) % 2 ^ tblMatrix tbl })
    let data := d.refData n
    let old := (d.mbObj n k).content
    let c := old.take 8 ++ leb 1 data.length ++ [0#8] ++ leb 2 data.length ++ data ++ zeros (64 - data.length)
    d.setObj n k (fun o => { o with content := c, txok := false, wdrn := false,
                                    req := some { content := c, begun := true, sof := d.tick } })

/-- POTENTIAL_MASTER_TIMEOUT (R497): CYCLE plus 8 × (identifier bits 2:0) nominal bit times without a reference message. -/
def Dev.masterTimeout (d : Dev) (n : Nat) : Dev :=
  let tbl := (d.doms.getD (2 + n) {}).active
  let k := tblRefObj tbl
  let t := d.tt n
  if d.ttLevel n == 0 || 127 < k || !(d.isOn (mbFid n)) || t.st == 3 then d
  else
    let id := fld (d.mbObj n k).content 4 4
    (d.advanceTo (t.lastRef + tblCycle tbl + 8 * (id % 8) * (d.mbCfg n).bitNs)).sendReference n

/-- A valid reference message of another node counts (R497, R498): its cycle count, and its mark `mark`. A follower that has seen
two with consecutive counts, CYCLE ± 0.5 % apart, is active. -/
def Dev.referenceHeard (d : Dev) (n count mark : Nat) : Dev :=
  let tbl := (d.doms.getD (2 + n) {}).active
  let t := d.tt n
  let cyc := tblCycle tbl
  let gap := mark - t.lastRef
  let next := decide (200 * absDiff gap cyc ≤ cyc) && count % 64 == (t.cycle + 1) % 2 ^ tblMatrix tbl
  let good := if t.good == 0 then 1 else if next then t.good + 1 else 1
  d.setTt n (fun t => { t with cycle := count % 64, lastRef := mark, expected := mark + cyc, good := good, window := none,
                               st := if t.st == 2 || 2 ≤ good then 2 else 1 })

/-- The part's own reference message has been sent: it is the time master (R497, R498). -/
def Dev.referenceSent (d : Dev) (n mark : Nat) : Dev :=
  let tbl := (d.doms.getD (2 + n) {}).active
  d.setTt n (fun t => { t with st := 3, ccount := wrap32 (t.ccount + 1), lastRef := mark, good := 0, window := none,
                               expected := mark + tblCycle tbl })

/-- REFERENCE_MESSAGE_MISSED (R498): a follower stops transmitting in windows and counts it. The message is late by 0.5 %. -/
def Dev.referenceMissed (d : Dev) (n : Nat) : Dev :=
  let cyc := tblCycle (d.doms.getD (2 + n) {}).active
  let t := d.tt n
  if d.ttLevel n == 0 || !(d.isOn (mbFid n)) || t.st == 3 || t.st == 0 then d
  else
    let d := d.advanceTo (t.expected + cyc / 200)
    d.setTt n (fun t => { t with st := 1, good := 0, miss := wrap32 (t.miss + 1), window := none, expected := t.expected + cyc })

end Sys2Proof.Machine
end

