-- ==== Sys2Proof/Machine/Recovery.lean ====
section
/-! DEFINITION. Leases, revocation and rollback (03), the fence of a function or island, the passages of a function between its lifecycle
states (04), and its restart after a fault. -/

namespace Sys2Proof.Machine

/-! ## Windows -/

/-- A window closes (R127): staged writes are discarded, and locks held through it end. The Bool says that something was
discarded. -/
def Dev.closeWindow (d : Dev) (w : Nat) : Bool × Dev :=
  let x := d.hst.windows.getD w {}
  if !x.isOpen then (false, d)
  else (!x.staged.isEmpty, (d.setHst (fun h => { h with windows := upd h.windows w (fun _ => {}) })).unlockReader (16 + w))

/-! ## Rollback (Table 3.5) -/

/-- The resource of a quoin goes back to its target after its holder has lost it (R65, R71). The Bool says that something was
discarded or cut short (R77). `taken` says that a spare takes over the holder's binding (R295). -/
def Dev.rollback (d : Dev) (kind inst : Nat) (o : Owner) (taken : Bool) : Bool × Dev :=
  match kind with
  | 1 =>
    match o with
    | .le l =>
      let mine := d.alm.ops.any (fun x => x.le == some l)
      (mine, (d.setAlm (fun a => { a with ops := a.ops.filter (fun x => x.le != some l) })).setPorts
        (((d.le l).pe).getD 99) (fun q => if mine then { q with almStat := 3 * 2 ^ 30 } else q))
    | _ => (false, d)
  | 3 => d.typLapse inst
  | 4 => d.discardWrite inst
  | 5 => d.mbWithdraw (inst / 128) (inst % 128)
  | 6 => d.slAbort inst
  | 8 => d.closeWindow inst
  | 9 => (decide ((d.doms.getD inst {}).standby ≠ (d.doms.getD inst {}).committed),
          { d with doms := upd d.doms inst (fun x => { x with standby := x.committed }) })
  | 10 => (false, if inst < 2 && !taken then d.frUnbound inst else d)
  | _ => (false, d)

/-- A revocation (R65): the generation moves on, the holder is told, and it is counted. -/
def Dev.revokeQuoin (d : Dev) (kind inst : Nat) : Dev :=
  let o := (d.quoin kind inst).owner
  let d := (d.freeQuoin kind inst).dropSlot o kind inst
  { d with svc := { d.svc with revocations := wrap32 (d.svc.revocations + 1) } }

/-- A lease that lapses (R65): revoked, rolled back, granted on. It is no fault. -/
def Dev.lapse (d : Dev) (kind inst : Nat) : Dev :=
  match (d.quoin kind inst).owner with
  | none => d
  | some o => ((d.revokeQuoin kind inst).rollback kind inst o false).2.grantNext kind inst

/-- A reservation lapses or is revoked (R154, R65): it becomes a skip entry. -/
def Dev.lapseResv (d : Dev) (r id : Nat) : Dev :=
  let o := ((d.ring r).resv.find? (fun v => v.id == id)).map (·.owner)
  let d := (d.ringSkip r id).dropSlot o 7 r
  { d with svc := { d.svc with revocations := wrap32 (d.svc.revocations + 1) } }

/-- The oldest reservation of a ring that is not published. -/
def Dev.openResv (d : Dev) (r : Nat) : Option Resv := (d.ring r).resv.find? (fun v => !v.done)

/-- LEASE_EXPIRY: time moves to the end of the lease, if it has not come, and the lease lapses. -/
def Dev.leaseExpiry (d : Dev) (kind inst : Nat) : Dev :=
  if kind == 7 then
    match d.openResv inst with
    | some v => (d.advanceTo v.expiry).lapseResv inst v.id
    | none => d
  else if (d.quoin kind inst).owner.isNone || d.cycleLease kind inst then d
  else (d.advanceTo (d.quoin kind inst).expiry).lapse kind inst

/-- A meridian of a domain ends one cycle of each writer slot's lease (R68). -/
def Dev.leaseCycles (d : Dev) (dom : Nat) : Dev :=
  forN 64 d (fun d p =>
    if (d.plate p).declared && (d.plate p).dom == some dom && (d.quoin 4 p).owner.isSome then
      let d := d.setQuoin 4 p (fun q => { q with cycles := q.cycles - 1 })
      if (d.quoin 4 p).cycles == 0 then d.lapse 4 p else d
    else d)

/-! ## The fence (R69) -/

/-- Queued requests of an owner are withdrawn (R69 step 2). -/
def Dev.withdrawQueued (d : Dev) (o : Owner) : Dev :=
  let d := { d with quoins := d.quoins.map (fun q => { q with queue := q.queue.filter (fun w => w.owner != o) }) }
  match o with
  | .le l => d.setLe l (fun x => { x with qslots := x.qslots.map (fun s => if s.st == 2 then {} else s) })
  | _ => d

/-- The DETAIL of a record about a resource (Table 20.4). -/
def resDetail (kind inst : Nat) : Nat := kind * 16777216 + inst * 256

/-- Steps 2 and 3 of a fence for one owner: every quoin and reservation it holds is revoked, and then each resource rolls back,
with their records (R77) unless the fence is commanded (R108). Freed quoins are granted on after that. -/
def Dev.stripOwner (d : Dev) (o : Owner) (cls isl cause fid : Nat) (log taken : Bool) : Dev :=
  let record (d : Dev) (act det : Nat) : Dev := if log then d.logFault cls isl act cause fid det else d
  let held := (d.quoins.filter (fun q => q.owner == some o)).map (fun q => (q.kind, q.inst))
  let resv := (List.range 32).flatMap (fun r =>
    ((d.ring r).resv.filter (fun v => v.owner == o && !v.done)).map (fun v => (r, v.id)))
  let d := d.withdrawQueued o
  let d := forEach held d (fun d q => record (d.revokeQuoin q.1 q.2) 8 (resDetail q.1 q.2))
  let d := forEach resv d (fun d q => record { d with svc := { d.svc with revocations := wrap32 (d.svc.revocations + 1) } } 8
    (resDetail 7 q.1))
  let d := forEach held d (fun d q =>
    let (cut, d) := d.rollback q.1 q.2 o taken
    if cut then record d 2 (resDetail q.1 q.2) else d)
  let d := forEach resv d (fun d q => record ((d.ringSkip q.1 q.2).dropSlot (some o) 7 q.1) 2 (resDetail 7 q.1))
  forEach held d (fun d q => d.grantNext q.1 q.2)

/-- What a fence, hang or reset does to the contents of an island. The Bool says that something was discarded or cut short. -/
def Dev.islandLoses (d : Dev) (i : Nat) : Bool × Dev :=
  if 0x10 ≤ i && i ≤ 0x15 then (if (d.mac (i - 0x10)).linkUp then d.portDown (i - 0x10) else d.cutFrames (i - 0x10))
  else if 0x20 ≤ i && i ≤ 0x23 then d.mbReset (i - 0x20)
  else if 0x24 ≤ i && i ≤ 0x27 then
    let s := d.sl (i - 0x24)
    (!(s.rxf.isEmpty && s.txf.isEmpty && s.cur.isNone), d.slReset (i - 0x24))
  else if i == 0x0B || i == 0x0C then
    let r := i - 0x0B
    let n := (d.fr r).copies.length
    (decide (0 < n), (d.discard n).frReset r)
  else match i with
    | 0x03 => (d.orr.step.isSome, d.orrReset)
    | 0x04 =>
      let cut := d.hst.ports.any (fun q => !q.frame.isEmpty || q.rd != 0) || d.hst.windows.any (fun w => !w.staged.isEmpty) ||
        !d.hst.reasm.isEmpty
      let n := (d.hst.ports.filter (fun q => !q.frame.isEmpty || q.rd != 0)).length
      let d := forN 16 d (fun d w => (d.closeWindow w).2)
      (cut, (d.discard n).setHst (fun h => { h with
        ports := h.ports.map (fun q => { q with frame := [], rd := 0, lost := false, begun := false, out := if q.rd == 0 then q.out else q.out.drop 1 }),
        reasm := [], pimPend := [] }))
    | 0x06 => (d.typ.banks.any (fun k => k.op.isSome) || !d.typ.writing.isEmpty, d.typReset)
    | 0x07 =>
      let d := forN 12 d (fun d l => d.discardLog l)
      let (cut, d) := forN 64 (false, d) (fun x p => let (c, d) := x.2.discardWrite p; (x.1 || c, d))
      (cut, d)
    | 0x08 =>
      let copies := d.swc.galleys.flatMap (fun g => g.filter (fun e => e.mirror.isSome))
      let proofs := d.swc.proofs.filter (fun p => p.used != 0)
      let d := (d.discard (copies.length + proofs.length)).setSwc (fun s => { s with
        galleys := s.galleys.map (fun g => g.filter (fun e => e.mirror.isNone)),
        proofs := s.proofs.map (fun p => { p with used := 0 }) })
      let (cut, d) := d.swcReset
      (cut || !copies.isEmpty || !proofs.isEmpty, d)
    | _ => (false, d)

/-- The owners whose quoins a fence of a function revokes: its islands, and the logical engine itself. -/
def Dev.ownersOf (d : Dev) (fid : Nat) : List Owner :=
  (if fclass fid == 4 then [Owner.le (finst fid)] else []) ++ (d.funcIslands fid).map Owner.island

/-- A function has islands of its own, which a fence closes and the recovery resets. -/
def ownIslands (fid : Nat) : Bool := fclass fid == 1 || fclass fid == 2 || fclass fid == 3 || fclass fid == 5 || fclass fid == 6

/-- Steps 1 to 3 of the fence of a function (R69): crossings close, its islands are fenced and lose what they held, quoins are
revoked, resources roll back. `log` is false for the commanded fence of R108. -/
def Dev.fenceBody (d : Dev) (fid cls isl cause detail : Nat) (log taken : Bool) : Dev :=
  let owners := d.ownersOf fid
  let is := if ownIslands fid then d.funcIslands fid else []
  let d := forEach is d (fun d i => (d.closeCrossings i).setIsland i (fun x => if x.st == 0 then x else { x with st := 4 }))
  let d := if fclass fid == 4 then
      (match (d.le (finst fid)).pe with
       | some p => (d.closeCrossings (peIsland p)).fencePe p
       | none => d).unlockReader (finst fid)
    else d
  let d := if log then d.logFault cls isl 3 cause fid detail else d
  let d := forEach owners d (fun d o => d.stripOwner o cls isl cause fid log taken)
  let (cut, d) := forEach is (false, d) (fun x i => let (c, d) := x.2.islandLoses i; (x.1 || c, d))
  if cut && log then d.logFault cls isl 2 cause fid 0 else d

/-! ## Class actions at the passages -/

/-- Work that ends when a function leaves ON or DRAINING for good. -/
def Dev.classEnds (d : Dev) (fid : Nat) : Dev :=
  let i := finst fid
  match fclass fid with
  | 1 => if (d.mac i).linkUp then (d.portDown i).2 else (d.cutFrames i).2
  | 4 => d.leUnbind i
  | 5 => d.frLeaveOn i
  | 6 => d.timeStops
  | _ => d

/-- The bank that a function's balls use (Table 22.3): 0 to 3 for IOA to IOD. -/
def funcBanks (fid : Nat) : List Nat :=
  match fclass fid with
  | 1 => [finst fid / 3]
  | 2 => [3]
  | 3 => [3]
  | 5 => [frMac (finst fid) false / 3, frMac (finst fid) true / 3]
  | _ => []

/-- The islands without a function of their own that a function needs: one that stays fenced after an overlap fails its start
(R50). -/
def neededIslands (fid : Nat) : List Nat :=
  match fclass fid with
  | 1 => [0x08]
  | 4 => [0x06, 0x07]
  | 5 => [0x07, 0x08]
  | 6 => [0x03]
  | 7 => [0x08]
  | 8 => [0x08]
  | 9 => [0x04]
  | _ => []

/-- The ring's two MACs are configured to one speed (R467). -/
def Dev.frSpeeds (d : Dev) (r : Nat) : Bool :=
  (d.cfg.macs.getD (frMac r false) {}).speed == (d.cfg.macs.getD (frMac r true) {}).speed

/-- A function enters STARTING (R107): what it begins, and what ends the start at once: 0 nothing, 1 an image that fails its
check, 2 a condition without a class of its own (R108), with the detail of a failure. -/
def Dev.classBegins (d : Dev) (fid : Nat) : Nat × Nat × Dev :=
  let i := finst fid
  let d := if ownIslands fid then forEach (d.funcIslands fid) d (fun d x => (d.powerOn x).openCrossings x) else d
  if (funcBanks fid).any (fun b => d.start.bankClass.getD b 0 == 0) then (2, 0, d)
  else if d.cfgRefused fid || (neededIslands fid).any (fun x => (d.island x).stuck) then (2, 0, d)
  else match fclass fid with
    | 2 => (0, 0, d.mbEnterStarting i)
    | 4 => let (n, d) := d.leBegin i
           (n, 0, match (d.le i).pe with
             | some p => d.openCrossings (peIsland p)
             | none => d)
    | 5 => if d.frSpeeds i then (0, 0, d) else (2, 0x010A, d)
    | 9 => (0, 0, d.ringStart i)
    | _ => (0, 0, d)

/-- A function reaches ON (the chapter of its class). -/
def Dev.classOn (d : Dev) (fid : Nat) : Dev :=
  let i := finst fid
  match fclass fid with
  | 2 => d.mbEnterOn i
  | 3 => d.slEnterOn i
  | 5 =>
    let f := d.fr i
    let d := if f.tplate != 0 && (d.plate f.tpNum).declared && (d.plate f.tpNum).declarer.isNone && (d.quoin 4 f.tpNum).owner.isNone
      then d.grant 4 f.tpNum (.island (frIsland i)) 0 0 else d
    d.frEnterOn i
  | _ => d

/-- Pending changes that a domain's meridian was to apply take effect at STARTING (R117). -/
def Dev.drainBegins (d : Dev) (fid : Nat) : Dev :=
  let i := finst fid
  match fclass fid with
  | 2 => (d.mbWithdrawAll i).2
  | 3 => d.setSl i (fun s => { s with drainAt := some d.tick })
  | 4 => ((d.failMigrate i).failArm i).setPe (((d.le i).pe).getD 99) (fun e => { e with running := false })
  | 5 => d.setFr i (fun f => { f with listening := none })
  | _ => d

/-- The drain limit and the start limit of a function's class in ms (settings of Table 5.4). -/
def Dev.drainLimit (d : Dev) (fid : Nat) : Nat := msNs (d.cfg.dev.drain.getD (fclass fid - 1) 100)
def Dev.startLimit (d : Dev) (fid : Nat) : Nat := msNs (d.cfg.dev.start.getD (fclass fid - 1) 100)

/-- The work of a draining function is finished (R107 and the chapter of its class). -/
def Dev.drained (d : Dev) (fid : Nat) : Bool :=
  let i := finst fid
  match fclass fid with
  | 1 => (d.mac i).tx.isNone && (d.swc.rx.getD (d.macPort i) none).isNone
  | 2 => d.mbDrained i
  | 3 => d.slDrained i
  | 4 => match (d.le i).pe with
         | some p => (d.pe p).ports.txOut.isEmpty
         | none => true
  | 5 => !(d.fr i).awaiting && (d.fr i).processed.isNone
  | 7 => !(d.swc.galleys.any (fun g => g.any (fun e => e.mirror == some i)))
  | 8 => (d.swc.proofs.getD i {}).used == 0
  | 9 => d.ringDrained i
  | _ => true

/-! ## Passages -/

/-- Completes the commands of a passage at its end, in the order of R102. -/
def Dev.completeAll (d : Dev) (ws : List Waiting) (f : Waiting → Nat × List Byte) : Dev :=
  forEach (orderCompletions ws) d (fun d w => let (st, b) := f w; d.complete w st b)

/-- The function's drain begins (R107). -/
def Dev.toDraining (d : Dev) (fid cause : Nat) (starter : Option Waiting) : Dev :=
  let d := d.setFunc fid (fun f => { f with starter := starter, joined := [], queued := none, limit := d.tick + d.drainLimit fid })
  (d.transition fid 3 cause).drainBegins fid

/-- The function reaches ON: its lifecycle event, its completions (RECOVERED after an internal retry, R109), and the queued
disable (R105). -/
def Dev.reachOn (d : Dev) (fid : Nat) : Dev :=
  let f := d.func fid
  let d := d.classOn fid
  let ws := f.starter.toList ++ f.joined
  let d := d.setFunc fid (fun f => { f with starter := none, joined := [], queued := none, recovering := false, retried := false,
                                            ep := none })
  let d := d.transition fid 2 f.cause
  let d := d.completeAll ws (fun _ => (if f.retried then stRecovered else stDone, []))
  match f.queued with
  | some w => d.toDraining fid 0 (some w)
  | none => d

/-- The function becomes FAILED (R50, R109, R527), with the record of the move. -/
def Dev.toFailed (d : Dev) (fid : Nat) : Dev :=
  let f := d.func fid
  let d := d.setFunc fid (fun f => { f with starter := none, joined := [], queued := none, recovering := false, retried := false,
                                            ep := none })
  let d := d.transition fid 5 1
  let d := d.episodeOf (f.ep <|> d.svc.episode) (fun d => d.logFault f.fault f.isl 6 f.why fid 0)
  let others := f.joined ++ f.queued.toList
  d.completeAll (f.starter.toList ++ others) (fun w =>
    if f.starter == some w then (stFailed, errDetail 0xFFFF f.detail) else (stFailed, errDetail 0xFFFF 0x0101))

/-- The fence of a function by a fault, to the end of R69: FENCED, or on from DRAINING to OFF, or on to FAILED where the fault
overlaps one whose recovery is not complete (R50). The function moves before its fault events go out (R69 step 4). `isl` is the
island that the records name, `detail` the detail of the fence's record, `code` that of a failed start. The Bool says that a restart
follows. -/
def Dev.faultFence (d : Dev) (fid isl cls cause detail code : Nat) (taken : Bool) : Bool × Dev :=
  let f := d.func fid
  if f.st == 0 || f.st == 5 then (false, d)
  else
    let again := f.st != 4 && f.st != 3 && !f.recovering
    (again, d.holdingFaults
      (fun d =>
        let d := d.fenceBody fid cls isl cause detail true taken
        let ep := d.svc.episode
        let d := d.setFunc fid (fun f => { f with fault := cls, isl := isl, why := cause, detail := code, ep := ep })
        if fclass fid == 4 && taken then d else d.classEnds fid)
      (fun d =>
        if f.st == 4 then d.toFailed fid
        else
          let d := d.transition fid 4 1
          if again then d.setFunc fid (fun g => { g with recovering := true, retried := f.st == 1 })
          else if f.st == 3 then d
          else d.toFailed fid))

/-- The island that a function's restart waits for is reset by its own row; a function without islands of its own restarts as
soon as its fence is complete, when no Compositor restart is under way. -/
def Dev.restartsAtOnce (d : Dev) (fid : Nat) : Bool := !(ownIslands fid) && !d.cmp.restarting

/-- Answers a fault within the episode that is open, or one of its own, with an answer besides. -/
def Dev.inEpisode2 (d : Dev) (f : Dev → Bool × Dev) : Bool × Dev :=
  let old := d.svc.episode
  let (b, d) := f d
  (b, { d with svc := { d.svc with episode := old } })

/-- The record of a restart, in the episode of the fault that it answers (R70, R77). -/
def Dev.restartRecord (d : Dev) (fid : Nat) : Dev :=
  let f := d.func fid
  if f.recovering then d.episodeOf f.ep (fun d => d.logFault f.fault f.isl 5 f.why fid 0) else d

/-- A start (R107), with its one retry after a fault (R108, 03 When things coincide); `n` bounds the tries. -/
def Dev.startFunc (fid : Nat) : Nat → Nat → Dev → Dev
  | 0, _, d => d
  | n + 1, cause, d =>
    let d := d.setFunc fid (fun f => { f with limit := d.tick + d.startLimit fid })
    let d := (d.transition fid 1 cause).restartRecord fid
    let (bad, code, d) := d.classBegins fid
    if bad == 0 then d
    else
      let (again, d) := d.inEpisode2 (fun d =>
        d.faultFence fid (d.funcIsland fid) (if bad == 1 then 6 else 4) (if bad == 1 then 3 else 0) 0 code false)
      if again && d.restartsAtOnce fid then Dev.startFunc fid n 3 d else d

/-- The restart of a fenced function (R70): cause 0x03 where a start is retried, else 0x01. -/
def Dev.restart (d : Dev) (fid : Nat) : Dev :=
  let f := d.func fid
  if f.st != 4 || !f.recovering then d
  else d.startFunc fid 2 (if f.retried then 3 else 1)

/-- At the end of a drain the function's quoins are released (R107); what they covered is rolled back, which finds the work
done. -/
def Dev.releaseAll (d : Dev) (fid : Nat) : Dev :=
  if ownIslands fid || fclass fid == 4 then
    forEach (d.ownersOf fid) d (fun d o =>
      let held := (d.quoins.filter (fun q => q.owner == some o)).map (fun q => (q.kind, q.inst))
      forEach held (d.withdrawQueued o) (fun d q =>
        (((d.freeQuoin q.1 q.2).rollback q.1 q.2 o false).2).grantNext q.1 q.2))
  else d

/-- The function reaches OFF: its islands are out of use, its lifecycle event, its completions, and the queued enable. -/
def Dev.reachOff (d : Dev) (fid cause : Nat) : Dev :=
  let f := d.func fid
  let d := (d.releaseAll fid).classEnds fid
  let is := if fclass fid == 1 || fclass fid == 2 || fclass fid == 3 || fclass fid == 5 then d.funcIslands fid else []
  let d := forEach is d (fun d i => if 0x20 ≤ i && i ≤ 0x23 && (d.mb (i - 0x20)).detect.isSome then d else d.powerOff i)
  let d := d.setFunc fid (fun f => { f with starter := none, joined := [], queued := none, recovering := false, retried := false,
                                            ep := none, staged := [] })
  let d := d.transition fid 0 cause
  let d := d.completeAll (f.starter.toList ++ f.joined) (fun _ => (stDone, []))
  match f.queued with
  | some w => (d.setFunc fid (fun f => { f with starter := some w })).startFunc fid 2 0
  | none => d

/-- A fault of a function that island `isl` shows, answered to the end: a draining function goes OFF, one without islands of its own
restarts at once. -/
def Dev.funcFaultAt (d : Dev) (fid isl cls cause detail code : Nat) (taken : Bool) : Dev :=
  (d.faultWakes).inEpisode (fun d =>
    let was := (d.func fid).st
    let (again, d) := d.faultFence fid isl cls cause detail code taken
    if was == 3 && (d.func fid).st == 4 then d.reachOff fid 1
    else if again && d.restartsAtOnce fid then d.restart fid
    else d)

/-- A fault of a function on its own first island. -/
def Dev.funcFault (d : Dev) (fid cls cause detail code : Nat) (taken : Bool) : Dev :=
  d.funcFaultAt fid (d.funcIsland fid) cls cause detail code taken

/-! ## Engine faults (R259, R295) -/

/-- A self-test ends (R526, R527): its engine is free or out of service, or its function OFF or still FAILED. -/
def Dev.selfTestDone (d : Dev) (pe : Option Nat) (fid : Nat) (pass : Bool) : Dev :=
  match d.svc.tests.find? (fun t => t.pe == pe && t.fid == fid) with
  | none => d
  | some t =>
    let d := { d with svc := { d.svc with tests := d.svc.tests.filter (fun x => !(x.pe == pe && x.fid == fid)) } }
    let d := match pe with
      | some p =>
        let d := d.setPe p (fun e => { faults := e.faults, status := if pass then 0 else 5 })
        (d.resetHalves (peIsland p)).setIsland (peIsland p) (fun x => { x with st := 0, gen := (x.gen + 1) % 4096, cause := 1 })
      | none =>
        if !pass || (d.func fid).st != 5 then d
        else
          let d := forEach (if ownIslands fid then d.funcIslands fid else []) d (fun d i =>
            ((d.resetHalves i).setIsland i (fun x => { x with
              st := if i == 0x03 then 2 else 0, gen := (x.gen + 1) % 4096, cause := 1, recovering := false })))
          let d := if fclass fid == 6 then d.openCrossings 0x03 else d
          let d := if fclass fid == 4 then d.setLe (finst fid) (fun x => { x with pe := none }) else d
          let d := if fclass fid == 9 then d.ringStart (finst fid) else d
          d.transition fid 0 5
    d.completeAll t.cmds (fun _ => if pass then (stDone, []) else (stFailed, errDetail 0xFFFF 0))

/-- A fault of a physical engine of class `cls` with a cause of Table 9.9 for F3: a spare is fenced alone; a primary whose spare is
in step is fenced and its logical engine passes to the spare at the next meridian (R295); otherwise the logical engine
restarts, on its armed spare if it has one (R284). -/
def Dev.engineFault (d : Dev) (p cls cause : Nat) : Dev :=
  let e := d.pe p
  if e.status == 4 then d.selfTestDone (some p) 0 false
  else match e.le with
    | none => d
    | some l =>
      if e.status == 2 || e.status == 3 then
        if (d.le l).spare == some p then (d.faultWakes).episode (fun d => d.spareFault l cls cause) else d
      else
        let d := d.faultWakes.cutIfDue p
        let det := if cls == 3 then (d.pe p).regs.pc else 0
        if (d.le l).pe != some p then
          d.episode (fun d => (d.fencePe p).logFault cls (peIsland p) 3 cause (leFid l) 0)
        else
          match (d.le l).spare with
          | none => d.funcFault (leFid l) cls cause det 0 false
          | some q =>
            if (d.pe q).status == 3 && (d.isOn (leFid l)) && (d.le l).snap.isSome then
              let more := (d.pe p).ports.raised
              d.episode (fun d =>
                let d := d.fenceBody (leFid l) cls (peIsland p) cause det true true
                let ep := d.svc.episode
                let d := d.setFunc (leFid l) (fun f => { f with fault := cls, isl := peIsland p, why := cause })
                (d.holdSpare l more).setLe l (fun x => { x with takeover := some (2, p), episode := ep, logged := 0, cutDue := false }))
            else
              d.episode (fun d =>
                let was := (d.func (leFid l)).st
                let (again, d) := d.faultFence (leFid l) (peIsland p) cls cause det 0 false
                let d := ((d.failMigrate l).failArm l).freePe q
                let d := d.setLe l (fun x => { x with spare := none })
                if was == 3 && (d.func (leFid l)).st == 4 then d.reachOff (leFid l) 1
                else if again then
                  let d := (d.setPe q (fun e => { e with status := 1, le := some l })).setLe l (fun x => { x with pe := some q })
                  if d.cmp.restarting then d else d.restart (leFid l)
                else d)

/-! ## Faults of islands (R39 to R42, R50, R589) -/

/-- The function that an island carries as its own. -/
def islandFunc (i : Nat) : Option Nat :=
  if 0x10 ≤ i && i ≤ 0x15 then some (0x0100 + (i - 0x10))
  else if 0x18 ≤ i && i ≤ 0x1D then some (0x0100 + (i - 0x18))
  else if 0x20 ≤ i && i ≤ 0x23 then some (0x0200 + (i - 0x20))
  else if 0x24 ≤ i && i ≤ 0x27 then some (0x0300 + (i - 0x24))
  else if i == 0x0B || i == 0x0C then some (0x0500 + (i - 0x0B))
  else if i == 0x03 then some 0x0600
  else none

/-- F5 (R73), or a clock fault of CMP answered as F5 (R41): the restart begins, or begins again (R50). -/
def Dev.compositorFault (d : Dev) (cls isl : Nat) : Dev :=
  let d := (d.faultWakes).closeCrossings 0x01
  { d with cmp := { d.cmp with restarting := true, since := d.tick, missed := 0, latched := [(cls, isl)] } }

/-- A fence of SMG stops the transfer under way and revokes quoin 0x01 (07, After a fault), whoever holds it. -/
def Dev.stripBus (d : Dev) (cls cause : Nat) : Dev :=
  let cut := !d.alm.ops.isEmpty || d.alm.compacting || !d.alm.resil.isEmpty
  let d := match (d.quoin 1 0).owner with
    | some o => ((d.revokeQuoin 1 0).logFault cls 0x05 8 cause 0 (resDetail 1 0)).rollback 1 0 o false |>.2
    | none => d
  let d := if cut then d.logFault cls 0x05 2 cause 0 (resDetail 1 0) else d
  d.grantNext 1 0

/-- A fault of an island without a function of its own (R50, R589). -/
def Dev.bareFault (d : Dev) (i cls cause : Nat) : Dev :=
  let x := d.island i
  if x.stuck then d
  else d.inEpisode (fun d =>
    if x.recovering then
      (d.setIsland i (fun x => { x with st := 4, stuck := true })).logFault cls i 6 cause 0 0
    else
      let d := (d.closeCrossings i).setIsland i (fun x => { x with st := 4, recovering := true, cls := cls, why := cause })
      let d := d.logFault cls i 3 cause 0 0
      let ep := d.svc.episode
      let d := d.setIsland i (fun x => { x with ep := ep })
      let d := d.stripOwner (.island i) cls i cause 0 true false
      let d := if i == 0x05 then d.stripBus cls cause else d
      let (cut, d) := d.islandLoses i
      let d := if cut then d.logFault cls i 2 cause 0 0 else d
      if i == 0x09 || i == 0x0A then
        (if d.swc.pipe == i - 0x09 && !(d.pipeDown (1 - d.swc.pipe)) then
          (d.setSwc (fun s => { s with pipe := 1 - s.pipe })).serviceEvent 4 (i - 0x09)
        else d).settlePipe
      else d)

/-- A hang, clock fault or supply fault of an island (F4, F10). -/
def Dev.islandFault (d : Dev) (i cls cause : Nat) : Dev :=
  let d := d.faultWakes
  if i == 0x01 || i == 0x02 then d.compositorFault cls i
  else if 0x30 ≤ i then d.engineFault (i - 0x30) cls cause
  else if (d.island i).st == 0 || (d.island i).st == 1 || i == 0x00 then d
  else match islandFunc i with
    | some fid =>
      if (d.func fid).st == 0 || (d.func fid).st == 5 then d.bareFault i cls cause
      else (d.setIsland i (fun x => { x with recovering := true })).funcFaultAt fid i cls cause 0 0 false
    | none => d.bareFault i cls cause

/-- The islands of each bank of Table 22.3, one of each pair. -/
def bankIslands (b : Nat) : List Nat :=
  match b with
  | 0 => [0x10, 0x11, 0x12]
  | 1 => [0x13, 0x14, 0x15]
  | 2 => [0x04, 0x05]
  | _ => [0x03, 0x0F, 0x20, 0x21, 0x22, 0x23, 0x24, 0x25, 0x26, 0x27]

/-- The supply of a bank that an island uses is off. -/
def Dev.unsupplied (d : Dev) (i : Nat) : Bool :=
  (List.range 4).any (fun b => d.start.supplyBad.getD b false && (pairOf i).any (fun j => (bankIslands b).contains j))

/-- ISLAND_RESET (R39): a fenced island, or its pair, is reset for 64 cycles and released by the Compositor; its function starts
again, and a shared island's crossings open. -/
def Dev.islandReset (d : Dev) (i : Nat) : Dev :=
  let is := pairOf i
  let fid := islandFunc i
  let failed := match fid with
    | some f => (d.func f).st == 5
    | none => false
  if (d.island i).st != 4 || is.any (fun j => (d.island j).stuck) || d.cmp.restarting || failed || d.unsupplied i || 0x30 ≤ i then d
  else
    let one := is.any (fun j => (d.island j).recovering)
    let bare := match fid with
      | some f => (d.func f).st != 4
      | none => true
    let x0 := d.island i
    let d := (forEach is d Dev.resetHalves).setIslands is (fun x => { x with
      st := if i == 0x0F && d.start.trstLow then 1 else 2, gen := (x.gen + 1) % 4096,
      cause := if one && !x.recovering then 3 else 2, recovering := false })
    if bare then
      let d := forEach is d (fun d j => d.openCrossings j)
      let d := if i == 0x09 || i == 0x0A then d.setSwc (fun s => { s with reload := upd s.reload (i - 0x09) (fun _ => true) }) else d
      let d := if i == 0x06 then d.typAdvance 8 else d
      d.episodeOf x0.ep (fun d => d.logFault x0.cls i 5 x0.why 0 0)
    else match fid with
      | some f => d.restart f
      | none => d

/-! ## Compositor restart (R61, R62, R73 to R76) -/

/-- A command that was committed before the restart completes RECOVERED (R110). -/
def Waiting.mark (w : Waiting) : Waiting := { w with recov := true }

/-- Every command that waits for its completion is marked (R110). -/
def Dev.markWaiting (d : Dev) : Dev :=
  let m (w : Option Waiting) : Option Waiting := w.map Waiting.mark
  let m2 (x : Nat × Waiting) : Nat × Waiting := (x.1, x.2.mark)
  { d with
    funcs := d.funcs.map (fun f => { f with starter := m f.starter, joined := f.joined.map Waiting.mark, queued := m f.queued }),
    alm := { d.alm with
      ops := d.alm.ops.map (fun o => { o with cmd := m o.cmd }), compactCmd := m d.alm.compactCmd,
      resil := d.alm.resil.map (fun x => (x.1, x.2.1, m x.2.2)) },
    typ := { d.typ with
      writing := d.typ.writing.map (fun w => { w with cmd := m w.cmd }),
      jobs := d.typ.jobs.map (fun j => { j with cmd := m j.cmd }) },
    svc := { d.svc with tests := d.svc.tests.map (fun t => { t with cmds := t.cmds.map Waiting.mark }) },
    swc := { d.swc with bankCmds := d.swc.bankCmds.map m2, switchover := d.swc.switchover.map m2 },
    eng := { d.eng with les := d.eng.les.map (fun l => { l with
      migrate := l.migrate.map (fun x => (x.1.mark, x.2)), armCmd := m l.armCmd }) },
    doms := d.doms.map (fun x => { x with pendCmd := m x.pendCmd }),
    mbs := d.mbs.map (fun b => { b with detect := b.detect.map (fun t => { t with cmd := t.cmd.mark }) }),
    orr := { d.orr with step := d.orr.step.map (fun s => { s with cmd := m s.cmd }) } }

/-- Held commands taken for execution before the restart succeed with RECOVERED (R61). -/
def Dev.markHeld (d : Dev) : Dev :=
  d.setVerind (fun v => { v with chans := v.chans.map (fun c => { c with
    held := c.held.map (fun h => if h.taken then { h with recov := true } else h) }) })

/-- One event for each function whose state differs from the one last reported (R76), with cause 0x04 of Table 4.5. -/
def Dev.reportFuncs (d : Dev) : Dev :=
  forEach d.funcs d (fun d f =>
    if f.st == f.reported then d
    else
      let d := d.setFunc f.fid (fun x => { x with reported := x.st })
      d.emit 0xF002 f.fid ([BitVec.ofNat 8 f.reported, BitVec.ofNat 8 f.st] ++ leb 2 f.gen ++ [4#8] ++ zeros 3))

/-- The events that waited go out, a command's completion with RECOVERED (R110). -/
def Dev.sendHeld (d : Dev) : Dev :=
  let xs := d.cmp.events
  forEach xs { d with cmp := { d.cmp with events := [] } } (fun d x => match x with
    | .event op fid body => d.emit op fid body
    | .completion w st b => d.sendCompletion w.mark st b)

/-- COMPOSITOR_RESTART (R75): the rebuild ends, quoins of the Compositor pass to new generations, the record of the restart
follows it, and waiting recoveries go on (R74). -/
def Dev.compositorRestart (d : Dev) : Dev :=
  if !d.cmp.restarting then d
  else
    let us := (d.tick - d.cmp.since) / 1000
    let (cls, isl) := d.cmp.latched.headD (5, 1)
    let d := d.markWaiting.markHeld
    let d := (d.resetHalves 0x01).setIslands [1, 2] (fun x => { x with gen := (x.gen + 1) % 4096, cause := 4 })
    let d := { d with cmp := { d.cmp with restarting := false, latched := [] } }
    let d := d.openCrossings 0x01
    let d := { d with quoins := d.quoins.map (fun (q : Quoin) =>
      if q.owner == some (Owner.island 1) then { q with gen := (q.gen + 1) % 65536 } else q) }
    let d := d.reportFuncs.sendHeld
    let d := { d with svc := { d.svc with cmpRestarts := wrap32 (d.svc.cmpRestarts + 1) } }
    let d := d.episodeOf (some (d.svc.nextRec, d.cmp.since)) (fun d => d.logFault cls isl 7 (if cls == 10 then 1 else 0) 0 us)
    forEach ((d.funcs.filter (fun f => f.st == 4 && f.recovering && !ownIslands f.fid)).map (·.fid)) d Dev.restart

/-! ## FUNC_ENABLE, FUNC_DISABLE, REPAIR, ENGINE_RETURN (Table 4.3, R526, R527) -/

/-- A queued command is cancelled (R106). -/
def Dev.cancelQueued (d : Dev) (fid : Nat) : Dev :=
  match (d.func fid).queued with
  | some w => (d.complete w stBadState (errDetail 0xFFFF 1)).setFunc fid (fun f => { f with queued := none })
  | none => d

/-- Joins the passage in progress. -/
def Dev.joinPassage (d : Dev) (fid : Nat) (w : Waiting) : Dev :=
  (d.setFunc fid (fun f => { f with joined := f.joined ++ [w] })).cancelQueued fid

/-- FUNC_ENABLE (Table 4.3). -/
def opFuncEnable (h : Held) (d : Dev) : OpResult :=
  let fid := h.cmd.fid
  let f := d.func fid
  match f.st with
  | 0 => opAccept h d (fun w d =>
      ((d.setFunc fid (fun f => { f with starter := some w, joined := [] })).startFunc fid 2 0))
  | 1 => if f.queued.isNone then opErr d stDuplicate 0xFFFF 3 else opAccept h d (fun w d => d.joinPassage fid w)
  | 2 => opDone d
  | 3 => if f.queued.isNone then opAccept h d (fun w d => d.setFunc fid (fun f => { f with queued := some w })) stDeferred
         else opErr d stDuplicate 0xFFFF 3
  | 4 => opErr d stFenced 0xFFFF 0
  | _ => opErr d stBadState 0xFFFF 0x0101

/-- FUNC_DISABLE (Table 4.3, R105). -/
def opFuncDisable (h : Held) (d : Dev) : OpResult :=
  let fid := h.cmd.fid
  let f := d.func fid
  match f.st with
  | 0 => opDone d
  | 1 => if f.queued.isNone then opAccept h d (fun w d => d.setFunc fid (fun f => { f with queued := some w })) stDeferred
         else opErr d stDuplicate 0xFFFF 3
  | 2 => opAccept h d (fun w d => d.toDraining fid 0 (some w))
  | 3 => if f.queued.isNone then opErr d stDuplicate 0xFFFF 3 else opAccept h d (fun w d => d.joinPassage fid w)
  | 4 => opAccept h d (fun w d =>
      let old := (d.func fid).starter
      let others := (d.func fid).joined
      let q := (d.func fid).queued
      let d := d.setFunc fid (fun f => { f with starter := none, joined := [], queued := none })
      let d := d.reachOff fid 0
      d.completeAll (old.toList ++ others ++ q.toList ++ [w]) (fun x =>
        if x == w || q == some x then (stDone, []) else (stBadState, errDetail 0xFFFF 1)))
  | _ => opErr d stBadState 0xFFFF 0x0101

/-- REPAIR (R527): the self-test begins, or is joined; a function of SWC or HST is repaired at once. -/
def opRepair (h : Held) (d : Dev) : OpResult :=
  let fid := h.cmd.fid
  if (d.func fid).st != 5 then opErr d stBadState 0xFFFF 0
  else opAccept h d (fun w d =>
    if d.svc.tests.any (fun t => t.pe == none && t.fid == fid) then
      let ts := updFirst d.svc.tests (fun t => t.pe == none && t.fid == fid) (fun t => { t with cmds := t.cmds ++ [w] })
      { d with svc := { d.svc with tests := ts } }
    else
      let d := { d with svc := { d.svc with tests := d.svc.tests ++ [{ fid := fid, cmds := [w] }] } }
      if ownIslands fid then d else d.selfTestDone none fid true)

/-- ENGINE_RETURN (R526): a fenced physical engine is reset and tested; joined where its test runs. -/
def opEngineReturn (h : Held) (d : Dev) : OpResult :=
  let p := byteAt h.cmd.params 0
  if (d.pe p).status != 4 then opErr d stBadState 16 0
  else opAccept h d (fun w d =>
    if d.svc.tests.any (fun t => t.pe == some p) then
      let ts := updFirst d.svc.tests (fun t => t.pe == some p) (fun t => { t with cmds := t.cmds ++ [w] })
      { d with svc := { d.svc with tests := ts } }
    else { d with svc := { d.svc with tests := d.svc.tests ++ [{ pe := some p, cmds := [w] }] } })

end Sys2Proof.Machine
end

