-- ==== Sys2Proof/Machine/EngineMem.lean ====
section
/-! DEFINITION. What an engine instruction does outside its registers (09, 10): when it runs, loads and stores over the address map, the atomics,
the cache operations, and whole items between DRAM and a host ring. -/

namespace Sys2Proof.Machine

/-! ## Running an instruction -/

/-- One instruction of physical engine `p`, as R274 and R279 frame it. An engine that is not running, or that stands in a wait, does
nothing. A cut that is due falls first (R285). Execution that runs on past 0x0000_FFFC is F3 with cause 0x03, charged to that
address, before anything changes; an instruction whose wait stood there faults as the next one is due. -/
def Dev.issue (p : Nat) (f : Dev → Dev) (d : Dev) : Dev :=
  let d := (d.setPe p (Pe.endWait d.tick)).cutIfDue p
  let e := d.pe p
  if !e.running || e.stall != .none then d
  else if 0x10000 ≤ e.regs.pc then (d.setRegs p (fun g => { g with pc := 0xFFFC })).engineFault p 3 0x03
  else
    let r := f d
    if (r.pe p).running && (r.pe p).stall == .none && (r.pe p).regs.pc == 0x10000 then d.engineFault p 3 0x03 else r

/-- An instruction that changes registers alone. -/
def Dev.regOp (p : Nat) (f : Regs → Regs) (d : Dev) : Dev := d.issue p (fun d => d.setRegs p f)

/-- The island of an engine runs and its crossing to island `i` is open: an access does not end in poison (R40). -/
def Dev.peReach (d : Dev) (p i : Nat) : Bool := d.xOpen (peIsland p) i

/-- The logical engine that runs on a physical engine. -/
def Dev.leOf (d : Dev) (p : Nat) : Nat := ((d.pe p).le).getD 0

/-! ## The address map (R231, Table 9.2) -/

def inDram (a n : Nat) : Bool := decide (0x10000 ≤ a) && decide (a + n ≤ 0x18000)
def inPim (a : Nat) : Bool := decide (0x10000000 ≤ a) && decide (a < 0x10080000)
def inTypecase (a : Nat) : Bool := decide (0x20000000 ≤ a) && decide (a < 0x20800000)
def mapped (a : Nat) : Bool := decide (a < 0x18000) || inPim a || inTypecase a

/-- What a load answers: data; a word that is not data (R228); or the cause of an F3. -/
inductive Load where
  | data (v : Nat)
  | notData (w : Word)
  | fault (cause : Nat)
  deriving DecidableEq, Repr, Inhabited

/-- What a PIM offset reaches for engine `p` (R233): the PIM byte behind it and the plate whose view it lies in, if any, or `none`
for the bytes behind a view. An access by the holder of a writer slot renews its lease (R64). -/
def Dev.pimTarget (d : Dev) (p off : Nat) : Option (Nat × Option Nat) × Dev :=
  match d.pimArea off with
  | .hidden => (none, d)
  | .static => (some (off, none), d)
  | .view q =>
    let w := d.peWrites p q
    (some ((d.plate q).phys off w, some q), if w then d.renew 4 q else d)

/-- Bytes of shadow log for bringing a line in (R288): one fill entry where the line is not in the cache. -/
def Dev.fillLog (d : Dev) (p a : Nat) : Nat := if ((d.pe p).cached (a / 64)).isSome then 0 else 80

/-- A load from PIM through the cache. -/
def Dev.pimLoad (d : Dev) (p off n : Nat) : Load × Dev :=
  if !d.peReach p 7 then (.notData (poisonWord 7), d)
  else match d.pimTarget p off with
    | (none, d) => (.notData (poisonWord 7), d)
    | (some (a, _), d) =>
      let k := d.fillLog p a
      let d := d.needShared p (a / 64)
      (.data (d.cacheRead p a n), d.peLog p (16 + k))

/-- A load of `n` bytes by engine `p` (R231, R268). -/
def Dev.engLoad (d : Dev) (p a n : Nat) : Load × Dev :=
  if !mapped a then (.fault 0x04, d)
  else if a % n != 0 then (.fault 0x05, d)
  else if a < 0x10000 then (.data (leVal (Mem.getBytes 0 (d.pe p).iram a n)), d)
  else if a < 0x18000 then (.data (leVal (Mem.getBytes 0 (d.pe p).dram (dramOff a) n)), d)
  else if inPim a then d.pimLoad p (pimOff a) n
  else if !d.peReach p 6 then (.notData (poisonWord 6), d)
  else
    let (ok, w, d) := d.typRead (typOff a) n
    (if ok then .data w.toNat else .notData w, d.peLog p 16)

/-- Bytes of DRAM are written. -/
def Dev.dramWrite (d : Dev) (p o : Nat) (bs : List Byte) : Dev := d.setPe p (fun e => { e with dram := Mem.setBytes 0 e.dram o bs })

/-- The writer stores into its plate (R235, R238): READY falls, and the line is taken Owned. -/
def Dev.plateStore (d : Dev) (p q a : Nat) (bs : List Byte) : Dev :=
  let k := d.fillLog p a
  let d := (d.storeClearsReady q).needOwned p (a / 64)
  (d.cacheWrite p a bs).peLog p k

/-- A store of `n` bytes by engine `p` (R229, R231, R233): the cause of an F3, or 0, and the effect. -/
def Dev.engStore (d : Dev) (p a n v : Nat) : Nat × Dev :=
  if !mapped a then (0x04, d)
  else if a % n != 0 then (0x05, d)
  else if a < 0x10000 || inTypecase a then (0x04, d)
  else if a < 0x18000 then (0, d.dramWrite p (dramOff a) (leb n v))
  else
    let off := pimOff a
    match d.pimArea off with
    | .static => (0x04, d)
    | .hidden => (0, d.poisonWrite p)
    | .view q =>
      if !d.peReach p 7 || !d.peWrites p q then (0, d.poisonWrite p)
      else
        let at_ := (d.plate q).phys off true
        (0, (d.renew 4 q).plateStore p q at_ (leb n v))

/-! ## LD, LDS, ST (R268) -/

/-- The address of formats M: base plus offset, in 32 bits. -/
def Dev.engAddr (d : Dev) (p base : Nat) (imm : BitVec 16) : Nat := ((d.pe p).regs.get base + simm imm).toNat

/-- The end of a load: the value, extended as the instruction says, or the word that is not data. -/
def Dev.loadEnds (p rd n : Nat) (signed : Bool) (x : Load × Dev) : Dev :=
  match x.1 with
  | .data v => x.2.setRegs p (fun g => g.loaded rd (extend signed n v) false)
  | .notData w => x.2.setRegs p (fun g => g.loaded rd w true)
  | .fault c => x.2.engineFault p 3 c

/-- Bytes that the size field selects. -/
def sizeBytes (size : BitVec 2) : Nat := 2 ^ size.toNat

def Dev.ld (p rd base : Nat) (size : BitVec 2) (imm : BitVec 16) (signed : Bool) (d : Dev) : Dev :=
  d.issue p (fun d =>
    if (if signed then 1 else 2) < size.toNat then d.engineFault p 3 0x02
    else Dev.loadEnds p rd (sizeBytes size) signed (d.engLoad p (d.engAddr p base imm) (sizeBytes size)))

def Dev.st (p rd base : Nat) (size : BitVec 2) (imm : BitVec 16) (d : Dev) : Dev :=
  d.issue p (fun d =>
    if 2 < size.toNat then d.engineFault p 3 0x02
    else
      let (c, d1) := d.engStore p (d.engAddr p base imm) (sizeBytes size) ((d.pe p).regs.get rd).toNat
      if c != 0 then d.engineFault p 3 c else d1.setRegs p Regs.step)

/-! ## CWB and PREF (R270) -/

/-- The line that a cache operation acts on; outside PIM, and behind a view, there is none. -/
def Dev.cacheLine (d : Dev) (p base : Nat) (imm : BitVec 16) : Option Nat × Dev :=
  let a := d.engAddr p base imm
  if !inPim a then (none, d)
  else match d.pimTarget p (pimOff a) with
    | (some (x, _), d) => (some (x / 64), d)
    | (none, d) => (none, d)

def Dev.cwbOp (p base : Nat) (imm : BitVec 16) (d : Dev) : Dev :=
  d.issue p (fun d =>
    let d := match d.cacheLine p base imm with
      | (some n, d) => d.cwb p n
      | (none, d) => d
    d.setRegs p Regs.step)

def Dev.prefOp (p base : Nat) (imm : BitVec 16) (d : Dev) : Dev :=
  d.issue p (fun d =>
    let d := match d.cacheLine p base imm with
      | (some n, d) => if ((d.pe p).cached n).isSome || !d.peReach p 7 then d else (d.needShared p n).peLog p 80
      | (none, d) => d
    d.setRegs p Regs.step)

/-! ## Atomics (R269, Table 10.8) -/

/-- The end of an atomic: the old value in rd; for CAS, Z says whether it stored. -/
def Regs.atomEnds (g : Regs) (rd : Nat) (old : Word) (notData cas stored : Bool) : Regs :=
  ((if cas then { g with z := stored } else g).loaded rd old notData)

/-- An atomic on the word at the address in rs1. `new` gives the word written from the old value and rs2, or nothing. -/
def Dev.atom (p rd rs1 rs2 : Nat) (cas : Bool) (new : Word → Word → Word → Option Word) (d : Dev) : Dev :=
  d.issue p (fun d =>
    let g := (d.pe p).regs
    let a := (g.get rs1).toNat
    let off := pimOff a
    let want (old : Word) : Option Word := new old (g.get rs2) (g.get rd)
    if a % 4 == 0 && inDram a 4 then
      let old := BitVec.ofNat 32 (leVal (Mem.getBytes 0 (d.pe p).dram (dramOff a) 4))
      let d := match want old with
        | some w => d.dramWrite p (dramOff a) (leb 4 w.toNat)
        | none => d
      (d.peLog p 16).setRegs p (fun g => g.atomEnds rd old false cas (want old).isSome)
    else if a % 4 == 0 && inPim a then
      match d.pimArea off with
      | .view q =>
        if !d.peReach p 7 || !d.peWrites p q then
          ((d.poisonWrite p).peLog p 16).setRegs p (fun g => g.atomEnds rd (poisonWord 7) true cas false)
        else
          let x := (d.plate q).phys off true
          let k := d.fillLog p x
          let d := ((d.renew 4 q).storeClearsReady q).needOwned p (x / 64)
          let old := BitVec.ofNat 32 (d.cacheRead p x 4)
          let d := match want old with
            | some w => d.cacheWrite p x (leb 4 w.toNat)
            | none => d
          (d.peLog p (16 + k)).setRegs p (fun g => g.atomEnds rd old false cas (want old).isSome)
      | _ => d.engineFault p 3 0x04
    else d.engineFault p 3 0x04)

/-! ## QPUT and QGET (R272, R273) -/

/-- The fields of rs2: a length, the ring, and whether they are in range. -/
def queueArg (w : Word) : Nat × Nat × Bool :=
  (bits w.toNat 16 16, bits w.toNat 0 5, bits w.toNat 5 11 == 0 && decide (bits w.toNat 16 16 ≤ 16384))

/-- A range of DRAM; an empty one leaves nothing. -/
def dramRange (a n : Nat) : Bool := n == 0 || inDram a n

/-- The end of a queue instruction: its result, with T. -/
def Dev.queueEnds (d : Dev) (p rd : Nat) (v : Word) (notData : Bool) (bytes : Nat) : Dev :=
  (d.peLog p (16 + bytes)).setRegs p (fun g => g.loaded rd v notData)

def Dev.qput (p rd rs1 rs2 : Nat) (d : Dev) : Dev :=
  d.issue p (fun d =>
    let g := (d.pe p).regs
    let a := (g.get rs1).toNat
    let (n, r, ok) := queueArg (g.get rs2)
    if !ok then d.queueEnds p rd 2#32 false 0
    else if !dramRange a n then d.engineFault p 3 0x04
    else if !d.peReach p 4 || !d.isOn (ringFid r) || (d.ringCfg r).dir != 1 then d.queueEnds p rd (poisonWord 4) true 0
    else
      let (put, d) := d.ringPut r (.le (d.leOf p)) 1 (d.leOf p) (Mem.getBytes 0 (d.pe p).dram (dramOff a) n)
      d.queueEnds p rd (if put then 0#32 else 1#32) false 0)

/-- CI moves past the skip entries that lie at it, and past heads that are no items, which count as one skip entry each (R273). -/
def Dev.passSkips (r : Nat) : Nat → Dev → Dev
  | 0, d => d
  | k + 1, d =>
    let c := d.ringCfg r
    let x := d.ring r
    if x.count == 0 then d
    else
      let b := Mem.getBytes 0 d.hst.mem (c.at x.ci) 4
      let pass (n : Nat) (bad : Bool) : Dev := d.setRing r (fun x => { x with
        ci := (x.ci + n) % 65536, skips := if bad then wrap32 (x.skips + 1) else x.skips })
      if byteAt b 0 == 0 then
        (if x.count < max 1 (fld b 2 2) then d else Dev.passSkips r k (pass (max 1 (fld b 2 2)) false))
      else if byteAt b 0 != 1 || 16384 < fld b 2 2 then Dev.passSkips r k (pass 1 true)
      else d

/-- The bytes of an item whose head lies at CI: 16 in the head and the rest in continuation entries. -/
def Dev.ringItem (d : Dev) (r n : Nat) : List Byte :=
  let c := d.ringCfg r
  let x := d.ring r
  (Mem.getBytes 0 d.hst.mem (c.at x.ci + 16) 16 ++
    (List.range (itemEntries n - 1)).flatMap (fun i => Mem.getBytes 0 d.hst.mem (c.at (x.ci + 1 + i)) 32)).take n

def Dev.qget (p rd rs1 rs2 : Nat) (d : Dev) : Dev :=
  d.issue p (fun d =>
    let g := (d.pe p).regs
    let a := (g.get rs1).toNat
    let (room, r, ok) := queueArg (g.get rs2)
    let l := d.leOf p
    if !ok then d.queueEnds p rd 0x20000000#32 false 0
    else if !dramRange a room then d.engineFault p 3 0x04
    else if !d.peReach p 4 || !d.isOn (ringFid r) || (d.ringCfg r).dir != 2 ||
        ((d.ring r).bound.isSome && (d.ring r).bound != some l) then d.queueEnds p rd (poisonWord 4) true 0
    else
      let d := d.setRing r (fun x => { x with bound := some l })
      let d := Dev.passSkips r ((d.ring r).count) d
      let n := fld (Mem.getBytes 0 d.hst.mem ((d.ringCfg r).at (d.ring r).ci) 4) 2 2
      if (d.ring r).count == 0 || (d.ring r).count < itemEntries n then d.queueEnds p rd 0#32 false 0
      else if byteAt (Mem.getBytes 0 d.hst.mem ((d.ringCfg r).at (d.ring r).ci) 4) 0 != 1 then d.queueEnds p rd 0#32 false 0
      else if room < n then d.queueEnds p rd (0x40000000#32 + BitVec.ofNat 32 n) false 0
      else
        let d := d.dramWrite p (dramOff a) (d.ringItem r n)
        let d := d.setRing r (fun x => { x with ci := (x.ci + itemEntries n) % 65536 })
        d.queueEnds p rd (0x80000000#32 + BitVec.ofNat 32 n) false n)

/-! ## Control transfer and waits (R274 to R276) -/

/-- A jump to a target: misaligned or outside IRAM it is F3, charged to the jump. `g` is what it does to the registers. -/
def Dev.jump_ (p : Nat) (target : Int) (g : Regs → Regs) (d : Dev) : Dev :=
  if target % 4 != 0 then d.engineFault p 3 0x05
  else if target < 0 || 0xFFFC < target then d.engineFault p 3 0x03
  else d.setRegs p (fun r => { g r with pc := target.toNat })

def Dev.branch (p cond : Nat) (imm : BitVec 22) (d : Dev) : Dev :=
  d.issue p (fun d =>
    let g := (d.pe p).regs
    if g.cond cond then d.jump_ p (g.pc + 4 * imm.toInt) id else d.setRegs p Regs.step)

def Dev.jal (p rd : Nat) (imm : BitVec 22) (d : Dev) : Dev :=
  d.issue p (fun d =>
    let g := (d.pe p).regs
    d.jump_ p (g.pc + 4 * imm.toInt) (fun r => r.set rd (BitVec.ofNat 32 (g.pc + 4))))

def Dev.jalr (p rd rs1 : Nat) (imm : BitVec 18) (d : Dev) : Dev :=
  d.issue p (fun d =>
    let g := (d.pe p).regs
    d.jump_ p ((g.get rs1 + simm imm).toNat : Nat) (fun r => r.set rd (BitVec.ofNat 32 (g.pc + 4))))

/-- WAIT: the stall ends at once where an enabled event is pending. -/
def Dev.waitOp (p : Nat) (d : Dev) : Dev :=
  d.issue p (fun d => (d.setPe p (fun e => ({ e with stall := .wait } : Pe).endWait d.tick)).peLog p 16)

/-- WAITU: compared with the time that the engine island has accepted (R29). -/
def Dev.waituOp (p rs1 scale : Nat) (d : Dev) : Dev :=
  d.issue p (fun d =>
    if 16 < scale then d.engineFault p 3 0x02
    else
      let (now, d) := d.accepted p
      (d.setPe p (fun e =>
        ({ e with stall := .waitu (e.regs.get rs1).toNat scale } : Pe).endWait now)).peLog p 16)

end Sys2Proof.Machine
end

