-- ==== Sys2Proof/Machine/ConfigOps.lean ====
section
/-! DEFINITION. The opcodes of families 0x05 to 0x0B and RING_CONFIG (Tables 5.10 to 5.16, 5.20): what configures, queries and commands the
switch, the MACs, mirrors and proofs, the multidrop controllers, the serial lines, time, the forme rings and the host rings. -/

namespace Sys2Proof.Machine

/-- A reserved field. -/
def rsv (off size : Nat) : Fld := { off := off, size := size }
/-- A field from 0 to `hi`. -/
def upTo (off size hi : Nat) : Fld := { off := off, size := size, hi := hi }
/-- A field from `lo` to `hi`. -/
def between (off size lo hi : Nat) : Fld := { off := off, size := size, lo := lo, hi := hi }

/-- A parameter check of a configuring opcode: `none`, or the offset of the field within the parameters. -/
def ifOk (d : Dev) (bad : Option Nat) (k : OpResult) : OpResult :=
  match bad with
  | some o => opErr d stBadParam (16 + o) 0x010A
  | none => k

/-! ## Switch (Table 5.10) -/

/-- PORT_CONFIG (R306). -/
def opPortConfig (h : Held) (d : Dev) : OpResult :=
  let p := h.cmd.params
  let fl := byteAt p 1
  let x : PortCfg := { learning := bit fl 0, filtering := bit fl 1, untagged := bit fl 2, pvid := fld p 2 2,
                       cls := byteAt p 4, limit := fld p 8 2 }
  opFixed h d fidDev 12 [upTo 0 1 7, upTo 1 1 7, between 2 2 1 4094, upTo 4 1 6, rsv 5 3, upTo 8 2 8192, rsv 10 2] <|
  cfgChange h d 3 (fun c => { c with ports := upd c.ports (byteAt p 0) (fun _ => x) })

/-- Puts a VLAN in the table. -/
def setVlan (v : VlanCfg) : List VlanCfg → List VlanCfg
  | [] => [v]
  | x :: xs => if x.vid == v.vid then v :: xs else x :: setVlan v xs

/-- VLAN_SET (R306). -/
def opVlanSet (h : Held) (d : Dev) : OpResult :=
  let p := h.cmd.params
  opFixed h d fidDev 4 [between 0 2 1 4094] <|
  cfgChange h d 4 (fun c =>
    { c with vlans := setVlan { vid := fld p 0 2, members := byteAt p 2, untagged := byteAt p 3 } c.vlans })

/-- Static entries of the configuration without one address and VID. -/
def dropStatic (mac vid : Nat) (xs : List StaticFdb) : List StaticFdb :=
  xs.filter (fun x => !(x.mac == mac && x.vid == vid))

/-- FDB_ADD (R310): static, or dynamic like a learned entry. It changes the running configuration where a static entry comes
or goes. -/
def opFdbAdd (h : Held) (d : Dev) : OpResult :=
  let p := h.cmd.params
  let mac := slice p 0 6
  let m := leVal mac
  let vid := fld p 6 2
  let static := bit (byteAt p 9) 0
  let was := d.swc.findFdb mac vid
  let e : FdbEnt := { mac := m, vid := vid, mask := byteAt p 8, static := static, since := d.tick }
  opFixed h d fidDev 12 [between 6 2 1 4094, upTo 9 1 1, rsv 10 2] <|
  match (was.map (·.1)).or (d.swc.placeFdb mac vid) with
  | none => opErr d stNoResource 0xFFFF 0x010B
  | some i =>
    let put (d : Dev) : Dev := d.setSwc (fun s => s.setWay i (some e))
    if static then
      cfgChange h d 5 (fun c => { c with fdb := dropStatic m vid c.fdb ++ [{ mac := m, vid := vid, mask := byteAt p 8 }] }) put
    else if (was.map (·.2.static)).getD false then
      cfgChange h d 5 (fun c => { c with fdb := dropStatic m vid c.fdb }) put
    else opDone (put d)

/-- FDB_DELETE: an absent entry replies DONE (R310). -/
def opFdbDelete (h : Held) (d : Dev) : OpResult :=
  let p := h.cmd.params
  let mac := slice p 0 6
  opFixed h d fidDev 8 [between 6 2 1 4094] <|
  match d.swc.findFdb mac (fld p 6 2) with
  | none => opDone d
  | some (i, e) =>
    let cut (d : Dev) : Dev := d.setSwc (fun s => s.setWay i none)
    if e.static then cfgChange h d 5 (fun c => { c with fdb := dropStatic (leVal mac) (fld p 6 2) c.fdb }) cut
    else opDone (cut d)

/-- One entry of FDB_READ: an empty way reads as 0 (R307). -/
def Dev.fdbBytes (d : Dev) (i : Nat) : List Byte :=
  match d.swc.way i with
  | none => zeros 12
  | some e => leb 6 e.mac ++ leb 2 e.vid ++ leb 1 e.mask ++ leb 1 (b2n e.static) ++
      leb 1 (if e.static then 0 else min 255 ((d.tick - e.since) / secNs)) ++ zeros 1

/-- FDB_READ: entries up to index 2,047. -/
def opFdbRead (h : Held) (d : Dev) : OpResult :=
  let p := h.cmd.params
  let first := fld p 0 2
  opFixed h d fidDev 4 [upTo 0 2 2047, between 2 2 1 2048] <|
  opFragments d [] 12 (((List.range (min (fld p 2 2) (2048 - first))).map (· + first)).map d.fdbBytes)

/-- GALLEY_CONFIG (R322, R323): a gated galley's change waits for the meridian while a forme ring is ON; the index of a galley
is port × 8 + class. -/
def opGalleyConfig (h : Held) (d : Dev) : OpResult :=
  let p := h.cmd.params
  let g := byteAt p 0
  let x : GalleyCfg := { sched := byteAt p 1, weight := byteAt p 2, gated := bit (byteAt p 3) 0, limit := fld p 4 2 }
  opFixed h d fidDev 8 [upTo 0 1 63, upTo 1 1 1, between 2 1 1 255, upTo 3 1 1,
    upTo 4 2 (if g % 8 == 7 then 0 else 8192), rsv 6 2] <|
  cfgChange h d 6 (fun c => { c with galleys := upd c.galleys g (fun _ => x) })
    (fun d => if x.gated && d.gateDomain.isSome then d
      else d.setSwc (fun s => { s with gal := upd s.gal g (fun _ => x) }))

/-- FILTER_SET's own checks (R355): the offset of the field at fault within the parameters. -/
def filterBad (p : List Byte) : Option Nat :=
  let m := byteAt p 20
  let a := byteAt p 21
  let t := byteAt p 23
  let tOk := match a with
    | 2 => decide (t < 12)
    | 3 => decide (t < 32)
    | 4 => decide (0 < t) && decide (t < 64)
    | _ => t == 0
  if bit (fld p 18 2) 12 then some 18
  else if bit m 7 || (bit m 4 && bit m 5) then some 20
  else if 5 < a then some 21
  else if 15 < byteAt p 22 then some 22
  else if !tOk then some 23
  else if 1 < byteAt p 24 || (bit (byteAt p 24) 0 && a != 2 && a != 3) then some 24
  else if fld p 25 3 != 0 then some 25
  else none

/-- FILTER_SET (R351, R355). -/
def opFilterSet (h : Held) (d : Dev) : OpResult :=
  let p := h.cmd.params
  let x : FilterCfg := { macMask := byteAt p 1, body := slice p 4 24 }
  opFixed h d fidDev 28 [upTo 0 1 47, upTo 1 1 63, rsv 2 2] <| ifOk d (filterBad p) <|
  cfgChange h d 7 (fun c => { c with filters := upd c.filters (byteAt p 0) (fun _ => x) })

/-- SWITCH_COUNTERS (Table 12.3). -/
def opSwitchCounters (h : Held) (d : Dev) : OpResult :=
  let q := byteAt h.cmd.params 0
  opFixed h d fidDev 4 [upTo 0 1 7, rsv 1 3] <|
  opDone d ((List.range 8).flatMap (fun c =>
    let i := q * 8 + c
    leb 8 (d.swc.fwd.getD i 0) ++ leb 8 (d.swc.adm.getD i 0) ++ leb 8 (d.swc.full.getD i 0)))

/-! ## Ethernet MACs (Table 5.11) -/

/-- MAC_CONFIG (R339): clearing the send-pause flag while pause is asserted cancels it (R347). -/
def opMacConfig (h : Held) (d : Dev) : OpResult :=
  let p := h.cmd.params
  let n := finst h.cmd.fid
  let x : MacCfg := { mode := byteAt p 0, speed := byteAt p 1, maxFrame := fld p 2 2, station := fld p 4 6, flags := byteAt p 10 }
  let old := d.cfg.macs.getD n {}
  opFixed h d (fidClass 1) 12 [] <|
  match x.bad (d.start.bankClass.getD (n / 3) 0) with
  | some (o, det) => opErr d stBadParam (16 + o) det
  | none =>
    if byteAt p 11 != 0 then opErr d stBadParam 27 0x010A
    else opConfig h d (firstDiff [(0, x.mode != old.mode), (1, x.speed != old.speed)]) <|
      cfgChange h d (0x10 + n) (fun c => { c with macs := upd c.macs n (fun _ => x) }) (fun d => d.pauseEval n)

/-- MAC_COUNTERS (R361, Table 13.6): the time under a pause hold counts up to now. -/
def opMacCounters (h : Held) (d : Dev) : OpResult :=
  let n := finst h.cmd.fid
  opFixed h d (fidClass 1) 0 [] <|
  opDone d (((d.accountHold n).mac n).counters.flatMap (fun c => leb 8 c))

/-- The check of an MDIO address (Table 5.11): a Clause 22 register has 5 bits, as IEEE 802.3 gives (PRESUMED). -/
def mdioBad (p : List Byte) : Option Nat :=
  let c := byteAt p 0
  if c != 22 && c != 45 then some 0
  else if 31 < byteAt p 1 then some 1
  else if (if c == 45 then 31 else 0) < byteAt p 2 then some 2
  else if byteAt p 3 != 0 then some 3
  else if c == 22 && 31 < fld p 4 2 then some 4
  else none

/-- A command that takes a quoin for itself alone (R124): BUSY where another owner holds it; released when it completes, unless
the channel held it before. -/
def withQuoin (h : Held) (d : Dev) (kind inst off : Nat) (k : Dev → Dev × List Byte) : OpResult :=
  let free := (d.quoin kind inst).owner.isNone
  let (ok, d1) := d.acquire kind inst h.cmd.channel 0
  if !ok then opErr d stBusy off 0x0103
  else
    let (d2, b) := k d1
    opDone (if free then d2.release kind inst else d2) b

/-- MDIO_READ (R359, R360): what the PHY answers is open. -/
def opMdioRead (h : Held) (d : Dev) : OpResult :=
  let p := h.cmd.params
  opFixed h d fidDev 6 [] <| ifOk d (mdioBad p) <|
  withQuoin h d 2 0 0xFFFF (fun d =>
    let n := d.free
    ({ d with free := n + 1 },
     leb 2 (Config.mdioRead n (byteAt p 0) (byteAt p 1) (byteAt p 2) (fld p 4 2)).toNat ++ zeros 2))

/-- MDIO_WRITE: it acts on a PHY outside the part. -/
def opMdioWrite (h : Held) (d : Dev) : OpResult :=
  opFixed h d fidDev 8 [] <| ifOk d (mdioBad h.cmd.params) <| withQuoin h d 2 0 0xFFFF (fun d => (d, []))

/-! ## Proof and mirror (Table 5.12) -/

/-- PROOF_CONFIG. -/
def opProofConfig (h : Held) (d : Dev) : OpResult :=
  let p := h.cmd.params
  let n := finst h.cmd.fid
  let x : ProofCfg := { n := fld p 0 2, trunc := byteAt p 2, dir := byteAt p 3, ring := byteAt p 4 }
  opFixed h d (fidClass 8) 8 [] <| ifOk d x.bad <|
  if fld p 5 3 != 0 then opErr d stBadParam 21 0x010A
  else opConfig h d none <| cfgChange h d (0x38 + n) (fun c => { c with proofs := upd c.proofs n (fun _ => x) })

/-- MIRROR_CONFIG (R328). -/
def opMirrorConfig (h : Held) (d : Dev) : OpResult :=
  let p := h.cmd.params
  let n := finst h.cmd.fid
  let x : MirrorCfg := { ingress := byteAt p 0, egress := byteAt p 1, dest := byteAt p 2, cls := byteAt p 3 }
  opFixed h d (fidClass 7) 4 [] <| ifOk d x.bad <| opConfig h d none <|
  cfgChange h d (0x30 + n) (fun c => { c with mirrors := upd c.mirrors n (fun _ => x) })

/-- MIRROR_COUNTERS, of a mirror session or a proof sampler. -/
def opMirrorCounters (h : Held) (d : Dev) : OpResult :=
  let n := finst h.cmd.fid
  opFixed h d (fun f => fidClass 7 f || fidClass 8 f) 0 [] <|
  if fclass h.cmd.fid == 7 then
    let m := d.swc.mirrors.getD n {}
    opDone d (leb 8 m.sent ++ leb 8 m.dropped)
  else
    let m := d.swc.proofs.getD n {}
    opDone d (leb 8 m.sent ++ leb 8 m.dropped)

/-! ## Multidrop (Table 5.13) -/

/-- MB_CONFIG (R368, R369): every field is OFF-only. -/
def opMbConfig (h : Held) (d : Dev) : OpResult :=
  let p := h.cmd.params
  let n := finst h.cmd.fid
  let old := d.mbCfg n
  let x : MbCfg := { old with nbrp := fld p 0 2, ntseg1 := byteAt p 2, ntseg2 := byteAt p 3, nsjw := byteAt p 4,
                              dbrp := byteAt p 5, dtseg1 := byteAt p 6, dtseg2 := byteAt p 7, dsjw := byteAt p 8, flags := byteAt p 9 }
  opFixed h d (fidClass 2) 12 [] <| ifOk d x.bad <|
  if fld p 10 2 != 0 then opErr d stBadParam 26 0x010A
  else opConfig h d (firstDiff [(0, x.nbrp != old.nbrp), (2, x.ntseg1 != old.ntseg1), (3, x.ntseg2 != old.ntseg2),
      (4, x.nsjw != old.nsjw), (5, x.dbrp != old.dbrp), (6, x.dtseg1 != old.dtseg1), (7, x.dtseg2 != old.dtseg2),
      (8, x.dsjw != old.dsjw), (9, x.flags != old.flags)]) <|
    cfgChange h d (0x18 + n) (fun c => { c with mbs := upd c.mbs n (fun _ => x) })

/-- MB_RATE_DETECT (R379): only while OFF, one at a time. -/
def opMbRateDetect (h : Held) (d : Dev) : OpResult :=
  let n := finst h.cmd.fid
  let ms := fld h.cmd.params 0 4
  opFixed h d (fidClass 2) 4 [between 0 4 100 60000] <|
  if (d.func h.cmd.fid).st != 0 then opErr d stBadState 0xFFFF 0
  else if (d.mb n).detect.isSome then opErr d stBusy 12 0x0103
  else opAccept h d (fun w d =>
    d.setMb n (fun m => { m with detect := some { cmd := w, start := d.tick, stop := d.tick + msNs ms } }))

/-- Identifiers of 11 or 29 bits, as ISO 11898-1 gives (PRESUMED). -/
def identMax (ext : Bool) : Nat := if ext then 0x1FFFFFFF else 0x7FF

/-- MB_OBJECT_CONFIG (R408). -/
def opMbObjectConfig (h : Held) (d : Dev) : OpResult :=
  let p := h.cmd.params
  let n := finst h.cmd.fid
  let k := byteAt p 0
  let ext := bit (byteAt p 3) 0
  let x : MbObjCfg := { use := byteAt p 1, prio := byteAt p 2, ext := ext, ident := fld p 4 4, mask := fld p 8 4 }
  opFixed h d (fidClass 2) 12 [upTo 0 1 127, upTo 1 1 2, upTo 2 1 7, upTo 3 1 1, upTo 4 4 (identMax ext)] <|
  opConfig h d none <|
  cfgChange h d (0x18 + n) (fun c => { c with mbs := upd c.mbs n (fun m => { m with objs := upd m.objs k (fun _ => x) }) })
    (fun d => d.mbObjReset n k)

/-- MB_RING_CONFIG (R391): the number of entries is OFF-only. -/
def opMbRingConfig (h : Held) (d : Dev) : OpResult :=
  let p := h.cmd.params
  let n := finst h.cmd.fid
  let e := fld p 0 2
  opFixed h d (fidClass 2) 4 [] <|
  if !ringEntriesOk e then opErr d stBadParam 16 0x010A
  else if fld p 2 2 != 0 then opErr d stBadParam 18 0x010A
  else opConfig h d (firstDiff [(0, e != (d.mbCfg n).entries)]) <|
    cfgChange h d (0x18 + n) (fun c => { c with mbs := upd c.mbs n (fun m => { m with entries := e }) })

/-- MB_TRANSMIT (R402): the data follow the fixed part and fill what the DLC gives. -/
def opMbTransmit (h : Held) (d : Dev) : OpResult :=
  let p := h.cmd.params
  let n := finst h.cmd.fid
  let k := byteAt p 0
  let fl := byteAt p 8
  let dlc := byteAt p 9
  let len := dlcLen true dlc
  if !(fidClass 2 h.cmd.fid) then opErr d stBadParam 12 0
  else if p.length < 12 then opErr d stBadLength 16 0
  else match firstBad p [upTo 0 1 127, rsv 1 3, upTo 8 1 7, rsv 10 2] with
    | some o => opErr d stBadParam (16 + o) 0x010A
    | none =>
      match d.txFault n k (fld p 4 4) fl dlc (if p.length == roundUp (12 + len) 4 then len else 65) with
      | some o => opErr d stBadParam o 0x010A
      | none =>
        match firstBad p (padFields (12 + len) (roundUp (12 + len) 4)) with
        | some o => opErr d stBadParam (16 + o) 0x010A
        | none =>
          needsOn h d <|
          if (d.mbCfg n).listen then opErr d stBadState 0xFFFF 0
          else withQuoin h d 5 (n * 128 + k) 16 (fun d =>
            let c := txContent (d.mbObj n k).content (fld p 4 4) fl dlc (slice p 12 len)
            ((d.setObj n k (fun o => { o with content := c })).newRequest n k c, []))

/-- MB_WAKE_CONFIG (R383, R384). -/
def opMbWakeConfig (h : Held) (d : Dev) : OpResult :=
  let p := h.cmd.params
  let n := finst h.cmd.fid
  let x : MbCfg := { d.mbCfg n with wakeMode := byteAt p 0, wakeFlags := byteAt p 1, wakeId := fld p 4 4,
                                    wakeIdMask := fld p 8 4, wakeDlc := byteAt p 12, wakeData := slice p 16 8, wakeDataMask := slice p 24 8 }
  opFixed h d (fidClass 2) 32 [upTo 0 1 3, upTo 1 1 1, rsv 2 2, upTo 4 4 (identMax (bit (byteAt p 1) 0)), upTo 12 1 8, rsv 13 3] <|
  opConfig h d none <|
  cfgChange h d (0x18 + n) (fun c => { c with mbs := upd c.mbs n (fun _ => x) })

/-- MB_STATUS (R387). -/
def opMbStatus (h : Held) (d : Dev) : OpResult :=
  opFixed h d (fidClass 2) 0 [] <| opDone d (d.mbStatusBody (finst h.cmd.fid))

/-! ## Serial lines (Table 5.14) -/

/-- SL_CONFIG (R418): lead and lag are no OFF-only fields. -/
def opSlConfig (h : Held) (d : Dev) : OpResult :=
  let p := h.cmd.params
  let n := finst h.cmd.fid
  let old := d.slCfg n
  let x : SlCfg := { rate := fld p 0 4, dataBits := byteAt p 4, parity := byteAt p 5, stop := byteAt p 6, lead := fld p 8 2,
                     lag := fld p 10 2 }
  opFixed h d (fidClass 3) 12 [] <| ifOk d x.bad <|
  if byteAt p 7 != 0 then opErr d stBadParam 23 0x010A
  else opConfig h d (firstDiff [(0, x.rate != old.rate), (4, x.dataBits != old.dataBits), (5, x.parity != old.parity),
      (6, x.stop != old.stop)]) <|
    cfgChange h d (0x1C + n) (fun c => { c with sls := upd c.sls n (fun _ => x) })

/-- SL_STATUS. -/
def opSlStatus (h : Held) (d : Dev) : OpResult :=
  opFixed h d (fidClass 3) 0 [] <| opDone d (d.slStatusBody (finst h.cmd.fid))

/-! ## Time (Table 5.15) -/

/-- TIME_GET (R434). -/
def opTimeGet (h : Held) (d : Dev) : OpResult :=
  opFixed h d (fun f => f == 0 || f == 0x0600) 0 [] <| opDone d d.timeGetBody

/-- TIME_CONFIG (R451). -/
def opTimeConfig (h : Held) (d : Dev) : OpResult :=
  let p := h.cmd.params
  let old := d.cfg.time
  let x : TimeCfg := { old with profile := byteAt p 0, clockType := byteAt p 1, portMask := fld p 2 2, domain := byteAt p 4,
                                prio1 := byteAt p 5, prio2 := byteAt p 6, slewWindow := fld p 8 4, slewLimit := fld p 12 2 }
  opFixed h d (fidClass 6) 16 [] <| ifOk d x.bad <|
  if byteAt p 7 != 0 then opErr d stBadParam 23 0x010A
  else if fld p 14 2 != 0 then opErr d stBadParam 30 0x010A
  else opConfig h d (firstDiff [(0, x.profile != old.profile), (1, x.clockType != old.clockType)]) <|
    cfgChange h d 0x2E (fun c => { c with time := x })

/-- TIME_STEP (R443, R444). -/
def opTimeStep (h : Held) (d : Dev) : OpResult :=
  let p := h.cmd.params
  opFixed h d (fidClass 6) 12 [rsv 6 2, upTo 8 4 999999999] <| needsOn h d <|
  if d.timeState == 3 || d.timeState == 4 then opErr d stBadState 0xFFFF 0x0112
  else if ((d.orr.step.bind (·.cmd)).isSome) then opErr d stBusy 0xFFFF 0x0103
  else opAccept h d (fun w d => d.setOrr (fun o =>
    { o with step := some { at_ := d.stepInstant, target := some (fld p 0 6 * secNs + fld p 8 4), cmd := some w } }))

/-- PULSE_CONFIG (R446, R447). -/
def opPulseConfig (h : Held) (d : Dev) : OpResult :=
  let p := h.cmd.params
  let i := byteAt p 0
  let x : PulseCfg := { flags := byteAt p 1, period := fld p 4 4, width := fld p 8 4, phase := fld p 12 4 }
  opFixed h d (fidClass 6) 16 [upTo 0 1 1, upTo 1 1 3, rsv 2 2] <| ifOk d x.bad <| opConfig h d none <|
  cfgChange h d 0x2E (fun c => { c with time := { c.time with pulse := upd c.time.pulse i (fun _ => x) } })
    (fun d => d.pulseConfig i x)

/-- CAPTURE_CONFIG (R449). -/
def opCaptureConfig (h : Held) (d : Dev) : OpResult :=
  let p := h.cmd.params
  let y : CapCfg := { edge := byteAt p 1, ring := byteAt p 2 }
  let x : TimeCfg := { d.cfg.time with capture := upd d.cfg.time.capture (byteAt p 0) (fun _ => y) }
  opFixed h d (fidClass 6) 4 [upTo 0 1 3, upTo 1 1 3, upTo 2 1 31, rsv 3 1] <| opConfig h d none <|
  cfgChange h d 0x2E (fun c => { c with time := x })

/-- TIME_STATUS (R464). -/
def opTimeStatus (h : Held) (d : Dev) : OpResult := opFixed h d (fidClass 6) 0 [] <| opDone d d.timeStatusBody

/-! ## Forme rings and imposition (Table 5.16) -/

/-- FORME_RING_CONFIG: every field is OFF-only. -/
def opFormeRingConfig (h : Held) (d : Dev) : OpResult :=
  let p := h.cmd.params
  let n := finst h.cmd.fid
  let old := d.frCfg n
  let x : FrCfg := { role := byteAt p 0, rank := byteAt p 1, etherType := fld p 2 2, cycle := fld p 4 4, claim := fld p 8 4 }
  opFixed h d (fidClass 5) 12 [] <| ifOk d x.bad <|
  opConfig h d (firstDiff [(0, x.role != old.role), (1, x.rank != old.rank), (2, x.etherType != old.etherType),
      (4, x.cycle != old.cycle), (8, x.claim != old.claim)]) <|
    cfgChange h d (0x2C + n) (fun c => { c with frs := upd c.frs n (fun _ => x) })

/-- The time-triggered domain that a function ID names (Table 3.4). -/
def domOf (fid : Nat) : Nat := if fclass fid == 5 then finst fid else 2 + finst fid

def fidDomain (f : Nat) : Bool := fidClass 5 f || fidClass 2 f

def Dev.dom (d : Dev) (i : Nat) : Domain := d.doms.getD i {}
def Dev.setDom (d : Dev) (i : Nat) (f : Domain → Domain) : Dev := { d with doms := upd d.doms i f }

/-- The offset, within the entries of IMPOSITION_WRITE, of the first byte that breaks Tables 18.7 and 18.8. -/
def entriesBad (dom first : Nat) (b : List Byte) : Nat → Option Nat
  | 0 => none
  | n + 1 =>
    match entriesBad dom first b n with
    | some o => some o
    | none => (entryFault dom (first + n) (slice b (16 * n) 16)).map (· + 16 * n)

/-- IMPOSITION_WRITE (R491): to the standby table, under quoin 0x09, which stays held. -/
def opImpositionWrite (h : Held) (d : Dev) : OpResult :=
  let p := h.cmd.params
  let first := fld p 0 2
  let n := fld p 2 2
  let dom := domOf h.cmd.fid
  opVar h d fidDomain 4 2 16 [upTo 0 2 255, between 2 2 1 254] <|
  if 256 < first + n then opErr d stBadParam 18 0x010A
  else match entriesBad dom first (p.drop 4) n with
    | some o => opErr d stBadParam (20 + o) 0x010A
    | none =>
      let (ok, d1) := d.acquire 9 dom h.cmd.channel 0
      if !ok then opErr d stBusy 12 0x0103
      else
        let t := Mem.setBytes 0 (d.dom dom).standby (16 * first) (slice p 4 (16 * n))
        opDone (d1.setDom dom (fun x => { x with standby := t, committed := t }))

/-- IMPOSITION_SWITCH (R492): the standby table is checked; the switch waits for its meridian. Another owner's quoin 0x09 is
BUSY, as another pending switch is. -/
def opImpositionSwitch (h : Held) (d : Dev) : OpResult :=
  let p := h.cmd.params
  let dom := domOf h.cmd.fid
  let q := (d.quoin 9 dom).owner
  opFixed h d fidDomain 4 [between 0 2 1 65535, rsv 2 2] <| needsOn h d <|
  if (d.dom dom).pendN.isSome || (q.isSome && q != some (.channel h.cmd.channel)) then opErr d stBusy 12 0x0103
  else if !(d.tableOk dom (d.dom dom).standby) then opErr d stBadParam 0xFFFF 0x010A
  else opAccept h d (fun w d => d.setDom dom (fun x => { x with pendN := some (fld p 0 2), pendCmd := some w, pendLe := none }))

/-- FORME_STATUS. -/
def opFormeStatus (h : Held) (d : Dev) : OpResult :=
  opFixed h d (fidClass 5) 0 [] <| opDone d (d.formeStatusBody (finst h.cmd.fid))

/-! ## Host rings (Table 5.20) -/

/-- RING_CONFIG (R149): entries, direction and base are OFF-only. -/
def opRingConfig (h : Held) (d : Dev) : OpResult :=
  let p := h.cmd.params
  let n := finst h.cmd.fid
  let old := d.ringCfg n
  let x : RingCfg := { entries := fld p 0 2, dir := byteAt p 2, attn := byteAt p 3, base := fld p 4 4, thr := fld p 8 2 }
  opFixed h d (fidClass 9) 12 [] <| ifOk d (x.bad n d.cfg.rings) <|
  if fld p 10 2 != 0 then opErr d stBadParam 26 0x010A
  else opConfig h d (firstDiff [(0, x.entries != old.entries), (2, x.dir != old.dir), (4, x.base != old.base)]) <|
    cfgChange h d (0x40 + n) (fun c => { c with rings := upd c.rings n (fun _ => x) })

/-- RING_STATUS. -/
def opRingStatus (h : Held) (d : Dev) : OpResult :=
  let r := d.ring (finst h.cmd.fid)
  opFixed h d (fidClass 9) 0 [] <| opDone d (leb 2 r.pi ++ leb 2 r.ci ++ leb 4 r.skips ++ leb 4 r.discards)

end Sys2Proof.Machine
end

