-- ==== Sys2Proof/Machine/Windows.lean ====
section
/-! DEFINITION. Windows (05, 06): opening, staging, commit and close, and the words read and written through them. -/

namespace Sys2Proof.Machine

def Dev.window (d : Dev) (w : Nat) : Window := d.hst.windows.getD w {}
def Dev.setWindow (d : Dev) (w : Nat) (f : Window → Window) : Dev :=
  d.setHst (fun h => { h with windows := upd h.windows w f })

/-- Counts `n` window access errors on a host port (R146). -/
def Dev.winError (d : Dev) (port n : Nat) : Dev := d.setPort port (fun q => { q with winerr := wrap32 (q.winerr + n) })

/-- The size of a window memory (Tables 9.2, 15.2, R149). -/
def winMemSize : Nat → Nat
  | 1 => 0x80000
  | 2 => 0x40000
  | _ => 0x16840

/-- The window and window offset of a word, or `none` for an access error (R146). -/
def Dev.winLoc (d : Dev) (port addr : Nat) (write : Bool) : Option (Nat × Nat) :=
  let w := addr / 65536
  let x := d.window w
  if addr % 4 == 0 && decide (w < 16) && x.isOpen && (d.chan x.ch).peer.port == port && decide (addr % 65536 + 4 ≤ x.len) &&
      (!write || x.rw) then some (w, addr % 65536)
  else none

/-- One word read through a window (R147): a staged word, or the memory; the access renews the window's quoin. -/
def Dev.winRead (d : Dev) (port addr : Nat) : Option Nat × Dev :=
  match d.winLoc port addr false with
  | none => (none, d)
  | some (w, off) =>
    let d := d.renew 8 w
    let x := d.window w
    match x.staged.find? (fun s => s.1 == off) with
    | some s => (some s.2, d)
    | none =>
      match x.mem with
      | 1 => d.agentRead (x.off + off)
      | 2 => (some (d.hostMemWord (x.off + off)), d)
      | _ => let (v, d) := d.mbMemRead x.ctl (x.off + off) (16 + w)
             (some v, d)

/-- Words read in address order (R401), each error as 0xFFFF_FFFF and counted (R146); the number of errors. -/
def Dev.winReads (port : Nat) : Nat → Nat → Dev → List Nat × Nat × Dev
  | 0, _, d => ([], 0, d)
  | n + 1, addr, d =>
    match d.winRead port addr with
    | (some v, d) =>
      let (vs, e, d) := Dev.winReads port n (addr + 4) d
      (v :: vs, e, d)
    | (none, d) =>
      let (vs, e, d) := Dev.winReads port n (addr + 4) (d.winError port 1)
      (0xFFFFFFFF :: vs, e + 1, d)

/-- One word written through a window is staged (R127, R148); an error is discarded and counted. The Bool says that it was
staged. -/
def Dev.winWrite (d : Dev) (port addr v : Nat) : Bool × Dev :=
  match d.winLoc port addr true with
  | none => (false, d.winError port 1)
  | some (w, off) =>
    (true, (d.renew 8 w).setWindow w (fun x => { x with staged := x.staged.filter (fun s => s.1 != off) ++ [(off, v)] }))

/-- Words written in address order, and the number of errors. -/
def Dev.winWrites (port : Nat) : List Nat → Nat → Dev → Nat × Dev
  | [], _, d => (0, d)
  | v :: vs, addr, d =>
    let (ok, d) := d.winWrite port addr v
    let (e, d) := Dev.winWrites port vs (addr + 4) d
    (e + b2n (!ok), d)

/-! ## Commit (R127, R148, R152, R394, R404) -/

/-- A committed word of PIM: a word of a view waits for the plate's commit, a static word takes effect at once, and one behind
a view is an access error. -/
def Dev.commitPimWord (d : Dev) (port a v : Nat) : Dev :=
  match d.pimArea a with
  | .view _ => d.setHst (fun h => { h with pimPend := h.pimPend.filter (fun w => w.1 != a) ++ [(a, v)] })
  | .static => d.ncWrite a (leb 4 v)
  | .hidden => d.winError port 1

/-- A transmit request through a window (R404): the content with the staged words is judged as MB_TRANSMIT judges it; a
request that fails leaves the object's content as it was. -/
def Dev.windowRequest (d : Dev) (port ch n k : Nat) (ws : List (Nat × Nat)) : Dev :=
  let d1 := forEach ws d (fun d w => d.objWrite n k (w.1 % 80 / 4) w.2)
  let c := (d1.mbObj n k).content
  let (id, fl, dlc, len) := txFields c
  let key := n * 128 + k
  let free := (d.quoin 5 key).owner.isNone
  let (got, d2) := d1.acquire 5 key ch 0
  if !got || (d.txFault n k id fl dlc (if bit fl 1 then len else min len 8)).isSome || !(d.isOn (mbFid n)) ||
      (d.mbCfg n).listen then
    (d.setWdrn n k).winError port 1
  else
    let d := d2.newRequest n k c
    if free then d.release 5 key else d

/-- The staged words of one message object take effect (R404). -/
def Dev.commitObject (d : Dev) (port ch n k : Nat) (ws : List (Nat × Nat)) : Dev :=
  let low := ws.filter (fun w => w.1 % 80 < 8)
  let data := ws.filter (fun w => 8 ≤ w.1 % 80)
  if (d.objCfg n k).use != 2 then d.winError port ws.length
  else
    let req := low.any (fun w => w.1 % 80 == 0 && bit w.2 22)
    let bad := (low.filter (fun w => !(w.1 % 80 == 0 && bit w.2 22))).length
    let d := if bad == 0 then d else d.winError port bad
    if req then d.windowRequest port ch n k data
    else forEach data d (fun d w => d.objWrite n k (w.1 % 80 / 4) w.2)

/-- The staged words of multidrop memory (R394, R404). Offsets are those of Table 15.2. -/
def Dev.commitMb (d : Dev) (port ch n : Nat) (ws : List (Nat × Nat)) : Dev :=
  let d := forN 128 d (fun d k =>
    let mine := ws.filter (fun w => w.1 / 80 == k && decide (w.1 < 0x2800))
    if mine.isEmpty then d else d.commitObject port ch n k mine)
  forEach (ws.filter (fun w => 0x2800 ≤ w.1)) d (fun d w =>
    if w.1 == 0x2800 then
      let (ok, d) := d.mbSetCi n (w.2 / 65536)
      if ok then d else d.winError port 1
    else d.winError port 1)

/-- Words in order of address. -/
def insertWord (w : Nat × Nat) : List (Nat × Nat) → List (Nat × Nat)
  | [] => [w]
  | x :: xs => if w.1 < x.1 then w :: x :: xs else x :: insertWord w xs

/-- The staged writes of a window take effect in order of address (R127), and nothing stays staged. -/
def Dev.commitWindow (d : Dev) (w : Nat) : Dev :=
  let x := d.window w
  let port := (d.chan x.ch).peer.port
  let ws := (x.staged.foldl (fun a s => insertWord s a) []).map (fun s => (x.off + s.1, s.2))
  let d := d.setWindow w (fun y => { y with staged := [] })
  match x.mem with
  | 1 => forEach ws d (fun d s => d.commitPimWord port s.1 s.2)
  | 2 => forEach ws d (fun d s => d.writeHostWord port s.1 s.2)
  | _ => d.commitMb port x.ch x.ctl ws

/-! ## Opening and closing -/

/-- Closes a window and releases its quoin. -/
def Dev.shutWindow (d : Dev) (w : Nat) : Dev :=
  if (d.window w).isOpen then ((d.closeWindow w).2).release 8 w else d

/-- Closes every window of a channel (R127, R160). -/
def Dev.shutChannelWindows (d : Dev) (ch : Nat) : Dev :=
  forN 16 d (fun d w => if (d.window w).isOpen && (d.window w).ch == ch then d.shutWindow w else d)

/-- What ends with a channel (R127, R512): its windows and its host deadline. -/
def Dev.endChannel (d : Dev) (ch : Nat) : Dev :=
  (d.shutChannelWindows ch).setPwr (fun p => { p with deadlines := upd p.deadlines ch (fun _ => none) })

/-- The open read-write windows together span this many bytes (R147). -/
def Dev.stagedSpan (d : Dev) : Nat := ((d.hst.windows.filter (fun x => x.isOpen && x.rw)).map (·.len)).sum

/-- WINDOW_OPEN (R127, R147). A WINDOW_OPEN of either access that overlaps an open read-write window is refused. -/
def opWindowOpen (h : Held) (d : Dev) : OpResult :=
  let p := h.cmd.params
  let mem := byteAt p 0
  let ctl := finst h.cmd.fid
  let off := fld p 4 4
  let len := fld p 8 4
  let lease := fld p 12 4
  let isMb := fclass h.cmd.fid == 2
  opFixed h d (fun f => f == 0 || fidClass 2 f) 16 [{ off := 0, lo := 1, hi := 3 }] <|
  if !(byteAt p 1 == 1 || byteAt p 1 == 3) then opErr d stBadParam 17 0x010A
  else if fld p 2 2 != 0 then opErr d stBadParam 18 0x010A
  else if off % 64 != 0 then opErr d stBadParam 20 0x010A
  else if len < 64 || 65536 < len || len % 64 != 0 then opErr d stBadParam 24 0x010A
  else if lease != 0 && (lease < 10000 || 10000000 < lease) then opErr d stBadParam 28 0x010A
  else if (mem == 3) != isMb then opErr d stBadParam 16 0x010A
  else if winMemSize mem < off + len then opErr d stBadParam 20 0x010A
  else if d.hst.windows.any (fun x => x.isOpen && x.rw && x.mem == mem && (mem != 3 || x.ctl == ctl) &&
      decide (off < x.off + x.len) && decide (x.off < off + len)) then opErr d stBusy 20 0x010C
  else
    match (List.range 16).find? (fun w => !(d.window w).isOpen) with
    | none => opErr d stNoResource 0xFFFF 0x010B
    | some w =>
      let rw := byteAt p 1 == 3
      if rw && 131072 < d.stagedSpan + len then opErr d stNoResource 0xFFFF 0x010B
      else
        let d := d.setWindow w (fun _ =>
          { isOpen := true, ch := h.cmd.channel, mem := mem, ctl := ctl, rw := rw, off := off, len := len })
        opDone (d.grant 8 w (.channel h.cmd.channel) lease 0) (leb 4 w ++ leb 4 (w * 65536))

/-- WINDOW_COMMIT: refused on a closed window. -/
def opWindowCommit (h : Held) (d : Dev) : OpResult :=
  let w := byteAt h.cmd.params 0
  opFixed h d fidDev 4 [{ off := 0, hi := 15 }, { off := 1, size := 3 }] <|
  if (d.window w).isOpen then opDone (d.commitWindow w) else opErr d stBadState 16 0

/-- WINDOW_CLOSE: a window that is closed stays closed. -/
def opWindowClose (h : Held) (d : Dev) : OpResult :=
  opFixed h d fidDev 4 [{ off := 0, hi := 15 }, { off := 1, size := 3 }] <|
  opDone (d.shutWindow (byteAt h.cmd.params 0))

end Sys2Proof.Machine
end

