-- ==== Sys2Proof/Machine/DeviceOps.lean ====
section
/-! DEFINITION. The opcodes of families 0x00, 0x01, 0x04, 0x0C, 0x0D and 0x0E, with CHANNEL_BIND, ATTN_CONFIG and ALMANAC_SAVE: channels and events,
islands, quoins and settings, engines and spares, power, service and security. -/

namespace Sys2Proof.Machine

/-! ## Device and channels (Table 5.5) -/

/-- DEVICE_INFO. -/
def opDeviceInfo (h : Held) (d : Dev) : OpResult :=
  opFixed h d fidDev 0 [] <|
  opDone d (leb 2 Config.partCode ++ leb 1 Config.grade ++ leb 1 Config.stepping ++ leb 4 Config.romVersion ++
    leb 4 d.alm.patchVersion ++ leb 8 Config.serial.toNat ++ leb 1 d.start.cause ++ zeros 3)

/-- CHANNEL_OPEN (R89, R98): a channel that is open closes first, with its windows and deadline. -/
def opChannelOpen (h : Held) (d : Dev) : OpResult :=
  let c := h.cmd
  opFixed h d fidDev 4 [upTo 0 1 1, rsv 1 3] <|
    let d := if (d.chan c.channel).st == 2 then d.endChannel c.channel else d
    let d := d.openChannel c (bit (byteAt c.params 0) 0)
    some { dev := d, after := Dev.presentWaiting,
           reply := .done (leb 1 c.src.port ++ leb 1 ((d.verind.eventChannel).getD 0xFF) ++ leb 2 ((c.seq + 1) % 65536)) }

/-- CHANNEL_CLOSE (R90): the channel closes after its reply. -/
def opChannelClose (h : Held) (d : Dev) : OpResult :=
  opFixed h d fidDev 0 [] <| some { dev := d, reply := .done [], after := fun d => d.endChannel h.cmd.channel }

/-- A slot that frees lets one overflow event carry the count of events not queued (R101). -/
def Dev.overflowEvent (d : Dev) : Dev :=
  if d.verind.unsent == 0 || d.verind.freeSlots == 0 then d
  else (d.setVerind (fun v => { v with unsent := 0 })).pushEvent 0xF004 0 (leb 4 d.verind.unsent) false

/-- The oldest event not acknowledged, and one more than the newest event sent (R99). -/
def Verind.ackFrom (v : Verind) : Nat := (v.events.head?.map (·.seq)).getD v.evSeq
def Verind.sentTo (v : Verind) : Nat := ((v.events.find? (fun e => e.shown == 0)).map (·.seq)).getD v.evSeq

/-- EVENT_ACK (R99). -/
def opEventAck (h : Held) (d : Dev) : OpResult :=
  let v := d.verind
  let n := (fld h.cmd.params 0 2 + 65537 - v.ackFrom) % 65536
  let k := (v.sentTo + 65536 - v.ackFrom) % 65536
  opFixed h d fidDev 4 [rsv 2 2] <|
  if n == 0 || 32768 < n then opDone d
  else if k < n then opErr d stBadParam 16 0x010A
  else some { dev := d.setVerind (fun v => { v with events := v.events.drop n }), reply := .done [], after := Dev.overflowEvent }

/-- STATE of an island as the query shows it: an engine that waits in DOZE is clock-gated (Table 19.3). -/
def Dev.islandState (d : Dev) (x : Island) : Nat :=
  if d.pwr.st == 1 && x.st == 2 && decide (0x30 ≤ x.id) && (d.pe (x.id - 0x30)).stall != .none then 3 else x.st

/-- The two status words of an island (Tables 2.7, 2.8). The clock of an island runs in reset and while it runs; the rate measured on
TCK is open. -/
def Dev.islandWords (d : Dev) (x : Island) : List Byte :=
  let st := d.islandState x
  let f := if x.id == 0x0F then d.draw.1 % 2 ^ 20
    else if st == 1 || st == 2 then nominalKHz x.id (d.pe (x.id - 0x30)).div else 0
  leb 4 (x.id * 2 ^ 24 + st * 2 ^ 20 + d.opp x.id * 2 ^ 16 + x.cause * 2 ^ 12 + b2n x.ovr * 2048 + b2n (d.staleAt x.id) * 1024 +
    b2n x.clkf * 512 + b2n x.hang * 256 + x.ovc) ++
  leb 4 (f * 4096 + x.gen)

/-- ISLAND_STATUS (R45). -/
def opIslandStatus (h : Held) (d : Dev) : OpResult :=
  let p := h.cmd.params
  let a := byteAt p 0
  let inRange (x : Island) : Bool := decide (a ≤ x.id) && decide (x.id < a + byteAt p 1)
  opFixed h d fidDev 4 [between 1 1 1 64, rsv 2 2] <|
  opDone (if d.islands.any (fun x => inRange x && x.id == 0x0F) then d.draw.2 else d)
    ((d.islands.filter inRange).flatMap d.islandWords)

/-- Clears OVR with OVC (R590). -/
def Dev.clearOvr (d : Dev) (is : List Nat) : Dev := d.setIslands is (fun x => { x with ovr := false, ovc := 0 })

/-- ISLAND_CLEAR. -/
def opIslandClear (h : Held) (d : Dev) : OpResult :=
  let p := h.cmd.params
  let i := byteAt p 0
  let m := byteAt p 1
  opFixed h d fidDev 4 [] <|
  if !d.hasIsland i then opErr d stBadParam 16 0x010A
  else if 7 < m then opErr d stBadParam 17 0x010A
  else if fld p 2 2 != 0 then opErr d stBadParam 18 0x010A
  else
    let d := if bit m 0 then d.clearOvr [i] else d
    opDone (d.setIsland i (fun x => { x with clkf := x.clkf && !(bit m 1), hang := x.hang && !(bit m 2) }))

/-- What is left of a quoin's lease in µs (Table 3.7, R68). -/
def Dev.leaseLeft (d : Dev) (q : Quoin) : Nat :=
  let stop := if d.cycleLease q.kind q.inst then
      let dom := ((d.plate q.inst).dom).getD 0
      (d.dom dom).last + q.cycles * d.domCycle dom (d.dom dom).active
    else q.expiry
  min 16777215 ((stop - d.tick) / 1000)

/-- A quoin descriptor (Tables 3.6, 3.7). -/
def quoinBytes (kind gen left : Nat) (o : Option Owner) : List Byte :=
  let (t, i) := match o with
    | some (.island i) => (1, i)
    | some (.le l) => (2, l)
    | some (.channel c) => (3, c)
    | none => (0xFF, 0xFF)
  leb 2 gen ++ leb 1 i ++ leb 1 t ++ leb 3 (if o.isSome then left else 0) ++ leb 1 kind

/-- The descriptors of one kind; those of kind 0x07 show the oldest reservation of each ring (R154). -/
def Dev.quoinKind (d : Dev) (kind : Nat) : List (List Byte) :=
  if kind == 7 then
    (List.range 32).map (fun r => match d.openResv r with
      | some v => quoinBytes 7 v.gen (min 16777215 ((v.expiry - d.tick) / 1000)) (some v.owner)
      | none => quoinBytes 7 (d.ring r).gen 0 none)
  else (d.quoins.filter (fun q => q.kind == kind)).map (fun q => quoinBytes kind q.gen (d.leaseLeft q) q.owner)

/-- QUOIN_QUERY. -/
def opQuoinQuery (h : Held) (d : Dev) : OpResult :=
  let k := byteAt h.cmd.params 0
  opFixed h d fidDev 4 [upTo 0 1 10, rsv 1 3] <|
  opFragments d [] 8 (if k == 0 then ((List.range 10).map (· + 1)).flatMap d.quoinKind else d.quoinKind k)

/-! ## Settings (Table 5.4) -/

/-- The range and step of a setting, `none` for a key that is not there. -/
def settingRange (key : Nat) : Option (Nat × Nat × Nat) :=
  let i := key % 256
  match key / 256 with
  | 0 => match i with
    | 1 => some (16, 1024, 16)
    | 2 => some (0, 1000, 1)
    | 3 => some (10, 10000, 1)
    | 4 => some (1, 168, 1)
    | 5 => some (250, 10000, 1)
    | _ => none
  | 1 => if 1 ≤ i && i ≤ 9 then some (1, 10000, 1) else none
  | 2 => if 1 ≤ i && i ≤ 9 then some (1, 10000, 1) else none
  | 3 => if 1 ≤ i && i ≤ 10 then some ((leaseRange i).1, (leaseRange i).2, 1) else none
  | _ => none

def DevCfg.setting (c : DevCfg) (key : Nat) : Nat :=
  let i := key % 256
  match key / 256 with
  | 0 => match i with
    | 1 => c.hangUs
    | 2 => c.linkHoldMs
    | 3 => c.evRetryMs
    | 4 => c.scrubH
    | _ => c.typMinUs
  | 1 => c.drain.getD (i - 1) 0
  | 2 => c.start.getD (i - 1) 0
  | _ => c.lease.getD (i - 1) 0

def DevCfg.withSetting (c : DevCfg) (key v : Nat) : DevCfg :=
  let i := key % 256
  match key / 256 with
  | 0 => match i with
    | 1 => { c with hangUs := v }
    | 2 => { c with linkHoldMs := v }
    | 3 => { c with evRetryMs := v }
    | 4 => { c with scrubH := v }
    | _ => { c with typMinUs := v }
  | 1 => { c with drain := upd c.drain (i - 1) (fun _ => v) }
  | 2 => { c with start := upd c.start (i - 1) (fun _ => v) }
  | _ => { c with lease := upd c.lease (i - 1) (fun _ => v) }

/-- SETTING_GET (R131). -/
def opSettingGet (h : Held) (d : Dev) : OpResult :=
  let k := fld h.cmd.params 0 2
  opFixed h d fidDev 4 [] <|
  if (settingRange k).isNone then opErr d stBadParam 16 0x010A
  else if fld h.cmd.params 2 2 != 0 then opErr d stBadParam 18 0x010A
  else opDone d (leb 4 (d.cfg.dev.setting k))

/-- SETTING_SET (R131, R67). -/
def opSettingSet (h : Held) (d : Dev) : OpResult :=
  let k := fld h.cmd.params 0 2
  let v := fld h.cmd.params 4 4
  opFixed h d fidDev 8 [] <|
  match settingRange k with
  | none => opErr d stBadParam 16 0x010A
  | some (lo, hi, step) =>
    if fld h.cmd.params 2 2 != 0 then opErr d stBadParam 18 0x010A
    else if v < lo || hi < v || v % step != 0 then opErr d stBadParam 20 0x010A
    else cfgChange h d 2 (fun c => { c with dev := c.dev.withSetting k v })

/-- DEVICE_RESET (R125): from its commit nothing more executes; the reset itself is a start. -/
def opDeviceReset (h : Held) (d : Dev) : OpResult :=
  opFixed h d fidDev 4 [between 0 1 1 1, rsv 1 3] <|
  opDone (d.setVerind (fun v => { v with resetReq := some d.tick }))

/-! ## Functions (Table 5.6) -/

/-- The status words of a function (Tables 4.5, 4.6, R590). -/
def Dev.funcWords (d : Dev) (f : Func) : List Byte :=
  let q := f.queued
  let en := (q.map (fun w => w.op == 0x0100)).getD false
  let dis := (q.map (fun w => w.op == 0x0101)).getD false
  let ovr := (d.funcIslands f.fid).any (fun i => (d.island i).ovr)
  leb 4 (f.st * 2 ^ 28 + b2n en * 2 ^ 27 + b2n dis * 2 ^ 26 + b2n ovr * 2 ^ 25 + f.cause * 65536 + f.gen) ++
  leb 4 ((q.map (fun w => w.seq * 65536 + w.ch * 256)).getD 0)

/-- FUNC_STATUS. -/
def opFuncStatus (h : Held) (d : Dev) : OpResult := opFixed h d fidAny 0 [] <| opDone d (d.funcWords (d.func h.cmd.fid))

/-- FUNC_CLEAR (R590). -/
def opFuncClear (h : Held) (d : Dev) : OpResult :=
  opFixed h d fidAny 4 [upTo 0 1 1, rsv 1 3] <|
  opDone (if bit (byteAt h.cmd.params 0) 0 then d.clearOvr (d.funcIslands h.cmd.fid) else d)

/-- FUNC_LIST. -/
def opFuncList (h : Held) (d : Dev) : OpResult :=
  opFixed h d fidDev 0 [] <| opDone d (d.funcs.flatMap (fun f => leb 2 f.fid ++ zeros 2 ++ d.funcWords f))

/-! ## ALMANAC_SAVE (R186, R215) -/

/-- Functions recorded as enabled: those in STARTING or ON (R193). -/
def Dev.enabledFuncs (d : Dev) : List Nat := (d.funcs.filter (fun f => f.st == 1 || f.st == 2)).map (·.fid)

/-- A change of the running configuration that a command brings about under a reservation: the backlog slot is taken at the commit
(R120), and `g` follows the reply. -/
def cfgAccept (h : Held) (d : Dev) (key : Nat) (f : RunCfg → RunCfg) (g : Waiting → Dev → Dev) : OpResult :=
  if !d.verind.canReserve then opErr d stNoResource 0xFFFF 0
  else match d.verind.freeBacklog with
    | none => opErr d stNoResource 0xFFFF 0x0100
    | some s =>
      let d := d.setVerind (fun v => { v with backlog := v.backlog ++ [(s, d.tick, h.op)] })
      let ps := if d.cfg.present.contains key then d.cfg.present else d.cfg.present ++ [key]
      opAccept h { d with cfg := f { d.cfg with present := ps } } g

/-- The 4,096 bytes of an imposition table. -/
def tableBytes (t : Mem) : List Byte := Mem.getBytes 0 t 0 4096

/-- ALMANAC_SAVE: the running configuration as it stands is saved; the active imposition tables go first into the set that the saved
configuration does not name (R215). -/
def opAlmanacSave (h : Held) (d : Dev) : OpResult :=
  opFixed h d fidDev 0 [] <|
  if !d.verind.canReserve then opErr d stNoResource 0xFFFF 0
  else
    let (ok, d1) := d.acquire 1 0 h.cmd.channel 0
    if !ok then opErr d stBusy 0xFFFF 0x0103
    else opAccept h d1 (fun w d =>
      let o : AlmOp := { kind := .save, cmd := some w, cfg := d.cfg, on := d.enabledFuncs, sgen := 0 }
      if !d.alm.anyValid then d.almEnd o stFailed [] 0x010E
      else
        let named := (List.range 2).find? (fun i => let e := d.typ.sets.getD i {}
          e.st != 0 && e.sgen == d.alm.savedSgen)
        let i := if named == some 0 then 1 else 0
        let tables := d.doms.map (fun x => tableBytes x.active)
        let g := wrap32 (max d.alm.savedSgen ((d.typ.sets.map (·.sgen)).foldl max 0) + 1)
        let e : DirSet := { st := 1, mask := 63, sgen := g, crcs := tables.map (fun t => (crc32c t).toNat) }
        let d := d.setAlm (fun a => { a with ops := a.ops ++ [o] })
        let d := (d.pushJob { goal := .impos 0 i tables e }).pushJob { goal := .impos 1 i tables e }
        (d.pushJob { goal := .dir (.set i e) }).typRun)

/-! ## Engines and spares (Table 5.9) -/

def peOrAll (n : Nat) : Bool := n < 14 || n == 0xFF

/-- ENGINE_CONFIG: it applies at the next entry to STARTING. -/
def opEngineConfig (h : Held) (d : Dev) : OpResult :=
  let p := h.cmd.params
  let l := finst h.cmd.fid
  opFixed h d (fidClass 4) 4 [upTo 0 1 63] <|
  if (d.typ.slots.getD (byteAt p 0) {}).st != 2 then opErr d stBadParam 16 0x010A
  else if !peOrAll (byteAt p 1) then opErr d stBadParam 17 0x010A
  else if byteAt p 2 < 2 || 16 < byteAt p 2 then opErr d stBadParam 18 0x010A
  else if byteAt p 3 != 0 then opErr d stBadParam 19 0x010A
  else opConfig h d none <|
    cfgChange h d (0x20 + l) (fun c => { c with les := upd c.les l (fun x =>
      { x with bound := true, slot := byteAt p 0, pref := byteAt p 1, div := byteAt p 2 }) })

/-- One entry of ENGINE_STATUS. -/
def Dev.engineWords (d : Dev) (p : Nat) : List Byte :=
  let e := d.pe p
  leb 1 e.status ++ leb 1 (e.le.getD 0xFF) ++ leb 1 e.div ++ leb 1 (d.opp (peIsland p)) ++ leb 4 e.faults

/-- ENGINE_STATUS. -/
def opEngineStatus (h : Held) (d : Dev) : OpResult :=
  let n := byteAt h.cmd.params 0
  opFixed h d fidDev 4 [] <|
  if !peOrAll n then opErr d stBadParam 16 0x010A
  else if fld h.cmd.params 1 3 != 0 then opErr d stBadParam 17 0x010A
  else opDone d (if n == 0xFF then (List.range 14).flatMap d.engineWords else d.engineWords n)

/-- SPARE_ARM (R286): the spare is loaded now while the logical engine is ON, else at its next start; the completion waits until it
is in step (R291). -/
def opSpareArm (h : Held) (d : Dev) : OpResult :=
  let p := byteAt h.cmd.params 0
  let l := finst h.cmd.fid
  opFixed h d (fidClass 4) 4 [upTo 0 1 13, rsv 1 3] <| opConfig h d none <|
  if (d.le l).spare.isSome then opErr d stBadState 0xFFFF 0x0108
  else if (d.pe p).status != 0 then opErr d stNoResource 16 0x0107
  else
    let d1 := d.setPe p (fun e => { e with status := 2, le := some l, div := (d.leCfg l).div })
    let d1 := d1.setLe l (fun x => { x with spare := some p, joining := if d.isOn h.cmd.fid then 1 else 0 })
    let d1 := if d.isOn h.cmd.fid then d1.powerOn (peIsland p) else d1
    match cfgAccept h d1 (0x20 + l) (fun c => { c with les := upd c.les l (fun x => { x with spare := some p }) })
        (fun w d => d.setLe l (fun x => { x with armCmd := some w })) with
    | some o => if o.reply.status == stAccepted then some o else some { o with dev := d }
    | none => none

/-- SPARE_DISARM (R286): the spare stops and is free; a SPARE_ARM that waits for it ends. -/
def opSpareDisarm (h : Held) (d : Dev) : OpResult :=
  let l := finst h.cmd.fid
  opFixed h d (fidClass 4) 0 [] <| opConfig h d none <|
  match cfgChange h d (0x20 + l) (fun c => { c with les := upd c.les l (fun x => { x with spare := none }) })
      (fun d => d.dropSpare l) with
  | some o => some { o with after := if o.reply.status == stDone then fun d => (d.failArm l).failMigrate l else fun d => d }
  | none => none

/-- ENGINE_MIGRATE (R129, R294): a target that is not the armed spare fails at once, as one that no meridian can serve does. -/
def opEngineMigrate (h : Held) (d : Dev) : OpResult :=
  let t := byteAt h.cmd.params 0
  let l := finst h.cmd.fid
  opFixed h d (fidClass 4) 4 [] <|
  if !peOrAll t then opErr d stBadParam 16 0x010A
  else if fld h.cmd.params 1 3 != 0 then opErr d stBadParam 17 0x010A
  else opAccept h d (fun w d =>
    match (d.le l).spare with
    | none => d.completeFailed w 0x0108
    | some q =>
      if (t != 0xFF && t != q) || !(d.isOn h.cmd.fid) || (d.le l).migrate.isSome then d.completeFailed w 0x0108
      else d.setLe l (fun x => { x with migrate := some (w, q) }))

/-- PERSONALITY_PARAM (R248): staged for the next meridian of a logical engine that is ON, else for its next start (R117). -/
def opPersonalityParam (h : Held) (d : Dev) : OpResult :=
  let p := h.cmd.params
  let l := finst h.cmd.fid
  let off := fld p 0 2
  let len := fld p 2 2
  opVar h d (fidClass 4) 4 2 1 [upTo 0 2 4095, between 2 2 1 2048] <|
  if 4096 < off + len then opErr d stBadParam 18 0x010A
  else opConfig h d none <|
    cfgChange h d (0x20 + l) (fun c => { c with les := upd c.les l (fun x =>
        { x with params := Mem.setBytes 0 x.params off (slice p 4 len) }) })
      (fun d => if d.isOn h.cmd.fid then d.setLe l (fun x => { x with stagedParam := true }) else d)

/-! ## Power (Table 5.17) -/

/-- POWER_POLICY (R506): a present state deeper than the new limit is left at once. -/
def opPowerPolicy (h : Held) (d : Dev) : OpResult :=
  let p := h.cmd.params
  opFixed h d fidDev 8 [upTo 0 1 4, rsv 1 3, upTo 4 4 1000000] <|
  cfgChange h d 2 (fun c => { c with dev := { c.dev with policy := byteAt p 0, guardUs := fld p 4 4 } })
    (fun d => if byteAt p 0 < d.pwr.st then d.beginLeave else d)

/-- DEADLINE (R512): one at or before the present tick sets nothing. -/
def opDeadline (h : Held) (d : Dev) : OpResult :=
  let p := h.cmd.params
  let t := fld p 0 8
  let set (v : Option Nat) : Dev := d.setPwr (fun x => { x with deadlines := upd x.deadlines h.cmd.channel (fun _ => v) })
  opFixed h d fidDev 12 [upTo 8 1 1, rsv 9 3] <|
  opDone (if bit (byteAt p 8) 0 then set none else if t ≤ d.tick then d else set (some t))

/-- ALARM_SET (R513): an alarm already due fires after the reply. -/
def opAlarmSet (h : Held) (d : Dev) : OpResult :=
  let p := h.cmd.params
  let fl := byteAt p 0
  let ns := fld p 4 6 * secNs + fld p 12 4
  let a : Alarm := if bit fl 0 then { absolute := true, at_ := ns, epoch := fld p 10 2 } else { at_ := d.tick + ns }
  opFixed h d fidDev 16 [upTo 0 1 3, rsv 1 3] <|
  if bit fl 0 && !(bit fl 1) && fld p 10 2 != d.orr.epoch then opErr d stBadParam 26 0x010A
  else if 999999999 < fld p 12 4 then opErr d stBadParam 28 0x010A
  else if bit fl 1 then opDone (d.setPwr (fun x => { x with alarm := none }))
  else
    let due := if bit fl 0 then decide (ns ≤ d.orr.nsAt d.tick) else ns == 0
    some { dev := d.setPwr (fun x => { x with alarm := some a }), reply := .done [],
           after := if due then fun d => d.fireAlarm 0 else fun d => d }

/-- WAKE_CONFIG (R515): the masks name WAKE0 to WAKE3. -/
def opWakeConfig (h : Held) (d : Dev) : OpResult :=
  let p := h.cmd.params
  opFixed h d fidDev 4 [upTo 0 1 15, upTo 1 1 15, upTo 2 1 15, rsv 3 1] <|
  cfgChange h d 2 (fun c => { c with dev := { c.dev with wakeEnable := byteAt p 0, wakeEdge := byteAt p 1, wakeLow := byteAt p 2 } })

/-- POWER_STATUS (R523). -/
def opPowerStatus (h : Held) (d : Dev) : OpResult :=
  let d1 := d.accountPwr
  opFixed h d fidDev 0 [] <|
  opDone d1 (leb 1 d.pwr.st ++ leb 1 d.pwr.lastWake ++ zeros 2 ++ d1.pwr.times.flatMap (fun t => leb 4 (t / 1000000)))

/-! ## Service (Table 5.18) -/

/-- A fault log record (Table 20.3). -/
def FaultRec.bytes (r : FaultRec) : List Byte :=
  let b := leb 4 r.recno ++ leb 8 r.tick ++ leb 1 r.cls ++ leb 1 r.island ++ leb 1 r.action ++ leb 1 r.cause ++ leb 2 r.func ++
    leb 2 r.gen ++ leb 4 r.detail ++ leb 4 r.episode
  b ++ leb 4 (crc32c b).toNat

/-- The log header of FAULT_LOG_READ (Table 20.5). An empty log has no oldest record: OLDEST is then the number of the next one. -/
def Svc.header (v : Svc) : List Byte :=
  leb 4 ((v.log.head?.map (·.recno)).getD v.nextRec) ++ leb 2 v.log.length ++ zeros 2 ++ leb 4 v.overwrites

/-- FAULT_LOG_READ (R532). -/
def opFaultLogRead (h : Held) (d : Dev) : OpResult :=
  let p := h.cmd.params
  opFixed h d fidDev 4 [between 2 2 1 1024] <|
  opFragments d d.svc.header 32 (((d.svc.log.drop (fld p 0 2)).take (fld p 2 2)).map FaultRec.bytes)

/-- SERVICE_COUNTERS (R533, Table 20.6). -/
def opServiceCounters (h : Held) (d : Dev) : OpResult :=
  let v := d.svc
  opFixed h d fidDev 0 [] <|
  opDone d (([v.discards, v.corrected, v.uncorrectable, v.migrations, v.retirements, v.revocations, v.cmpRestarts]).flatMap (leb 4))

/-- BANK_RETIRE (R327): the bank drains; it joins a retirement in progress, and for a retired bank it is DONE (R118). -/
def opBankRetire (h : Held) (d : Dev) : OpResult :=
  let b := byteAt h.cmd.params 0
  opFixed h d fidDev 4 [upTo 0 1 7, rsv 1 3] <|
  if bit d.cfg.retired b then opDone d
  else if bit d.swc.draining b then opAccept h d (fun w d => d.setSwc (fun s => { s with bankCmds := s.bankCmds ++ [(b, w)] }))
  else if 4 ≤ d.banksOut then opErr d stNoResource 0xFFFF 0
  else cfgAccept h d 3 (fun c => c) (fun w d =>
    (d.setSwc (fun s => { s with draining := s.draining + 2 ^ b, bankCmds := s.bankCmds ++ [(b, w)] })).pauseAll)

/-- PIPE_SWITCHOVER (R326): it completes with the next lookup; where the pipe is active it is DONE (R118). -/
def opPipeSwitchover (h : Held) (d : Dev) : OpResult :=
  let k := byteAt h.cmd.params 0
  opFixed h d fidDev 4 [upTo 0 1 1, rsv 1 3] <|
  if d.pipeDown k then opErr d stBadState 16 0
  else if d.swc.pipe == k && d.swc.switchover.isNone then opDone d
  else opAccept h d (fun w d =>
    let d := match d.swc.switchover with
      | some (_, w0) => d.completeDone w0
      | none => d
    d.setSwc (fun s => { s with switchover := some (k, w) }))

/-- PORT_REMAP (R528): the two switch ports swap MACs. -/
def opPortRemap (h : Held) (d : Dev) : OpResult :=
  let p := byteAt h.cmd.params 0
  let m := byteAt h.cmd.params 1
  let n := d.portMac p
  let q := d.macPort m
  let free (x : Nat) : Bool := (d.func (macFid x)).st == 0 && !(d.inRing x)
  opFixed h d fidDev 4 [upTo 0 1 5, upTo 1 1 5, rsv 2 2] <|
  if m == n then opDone d
  else if !(free m && free n) then opErr d stBadState 0xFFFF 0
  else cfgAccept h d 3 (fun c => { c with portMap := upd (upd c.portMap p (fun _ => m)) q (fun _ => n) }) (fun w d => d.completeDone w)

/-! ## Security (Table 5.19) -/

/-- KEY_INFO (R537). -/
def opKeyInfo (h : Held) (d : Dev) : OpResult :=
  opFixed h d fidDev 0 [] <|
  opDone d ((List.range 8).flatMap (fun k => leb 1 (d.keyState k) ++ leb 1 (keyUseOf k) ++ zeros 2))

/-- KEY_REVOKE (R538): refused DENIED where the signature does not verify. -/
def opKeyRevoke (h : Held) (d : Dev) : OpResult :=
  let p := h.cmd.params
  opFixed h d fidDev 68 [upTo 0 1 7, rsv 1 3] <|
  if d.revokeOk (byteAt p 0) (slice p 4 64) then opDone (d.revoke (byteAt p 0)) else opErr d stDenied 0xFFFF 0

/-- DEBUG_CHALLENGE (R546). -/
def opDebugChallenge (h : Held) (d : Dev) : OpResult :=
  opFixed h d fidDev 0 [] <|
  let (c, d1) := d.newChallenge
  opDone d1 c

/-- DEBUG_RESPONSE (R547). -/
def opDebugResponse (h : Held) (d : Dev) : OpResult :=
  opFixed h d fidDev 64 [] <|
  let (ok, d1) := d.debugResponse (h.cmd.params.take 64)
  if ok then opDone d1 else opErr d1 stDenied 0xFFFF 0x010D

/-! ## Channels and attention lines (Table 5.20) -/

/-- CHANNEL_BIND (R128, R145, R161): the named channel takes the port and peer of the channel that carries the command; its packets
not yet begun leave there. Its windows stay open (R127). -/
def opChannelBind (h : Held) (d : Dev) : OpResult :=
  let c := byteAt h.cmd.params 0
  opFixed h d fidDev 4 [upTo 0 1 7, rsv 1 3] <|
  if (d.chan c).st != 2 then opErr d stBadState 16 0
  else
    let old := (d.chan c).peer.port
    let src := h.cmd.src
    let d := if old == src.port then d else
      let q := d.port old
      let stays (o : OutItem) : Bool := o.ch != some c || o.frames.isSome || (q.rd != 0 && q.out.head?.map (·.id) == some o.id)
      let mine := (q.out.filter (fun o => !(stays o))).map (fun o => { o with dst := src })
      let rest := q.out.filter stays
      let same := rest.head?.map (·.id) == q.out.head?.map (·.id)
      let d := d.setPort old (fun q => { q with out := rest, headSince := if same then q.headSince else d.tick })
      d.setPort src.port (fun q => { q with out := q.out ++ mine, headSince := if q.out.isEmpty then d.tick else q.headSince })
    opDone (d.setChan c (fun x => { x with peer := src }))

/-- ATTN_CONFIG (R158). -/
def opAttnConfig (h : Held) (d : Dev) : OpResult :=
  let p := h.cmd.params
  opFixed h d fidDev 4 [upTo 0 1 1, upTo 1 1 3, rsv 2 2] <|
  cfgChange h d 2 (fun c => { c with dev := { c.dev with attn := upd c.dev.attn (byteAt p 0) (fun _ => byteAt p 1) } })

end Sys2Proof.Machine
end

