-- ==== Sys2Proof/Machine/Opcodes.lean ====
section
/-! DEFINITION. The opcode table of the part (R113): what each command opcode executes, and BAD_OPCODE for every other one. -/

namespace Sys2Proof.Machine

/-- Step 9 alone, for an opcode that checks its own length. -/
def opDev (h : Held) (d : Dev) (k : OpResult) : OpResult := if fidDev h.cmd.fid then k else opErr d stBadParam 12 0

/-- Opcodes of families 0x00 to 0x05. -/
def execLow (h : Held) (d : Dev) : Option OpResult :=
  match h.op with
  | 0x0000 => some (opDeviceInfo h d)
  | 0x0001 => some (opChannelOpen h d)
  | 0x0002 => some (opChannelClose h d)
  | 0x0003 => some (opEventAck h d)
  | 0x0004 => some (opIslandStatus h d)
  | 0x0005 => some (opIslandClear h d)
  | 0x0006 => some (opQuoinQuery h d)
  | 0x0007 => some (opSettingGet h d)
  | 0x0008 => some (opSettingSet h d)
  | 0x0009 => some (opDeviceReset h d)
  | 0x0100 => some (opFixed h d fidAny 0 [] (opFuncEnable h d))
  | 0x0101 => some (opFixed h d fidAny 0 [] (opFuncDisable h d))
  | 0x0102 => some (opFuncStatus h d)
  | 0x0103 => some (opFuncClear h d)
  | 0x0104 => some (opFuncList h d)
  | 0x0200 => some (opFixed h d fidDev 0 [] (opAlmanacInfo h d))
  | 0x0201 => some (opAlmanacSave h d)
  | 0x0202 => some (opFixed h d fidDev 4 [] (opAlmanacRead h d))
  | 0x0203 => some (opDev h d (opAlmanacWrite h d))
  | 0x0204 => some (opFixed h d fidDev 0 [] (opAlmanacCompact h d))
  | 0x0300 => some (opFixed h d fidDev 0 [] (opTypecaseInfo h d))
  | 0x0301 => some (opFixed h d fidDev 0 [] (opImageList h d))
  | 0x0302 => some (opFixed h d fidDev 8 [] (opImageBegin h d))
  | 0x0303 => some (opDev h d (opImageData h d))
  | 0x0304 => some (opFixed h d fidDev 4 [] (opImageEnd h d))
  | 0x0305 => some (opFixed h d fidDev 4 [] (opImageDelete h d))
  | 0x0400 => some (opEngineConfig h d)
  | 0x0401 => some (opEngineStatus h d)
  | 0x0402 => some (opSpareArm h d)
  | 0x0403 => some (opSpareDisarm h d)
  | 0x0404 => some (opEngineMigrate h d)
  | 0x0405 => some (opPersonalityParam h d)
  | 0x0500 => some (opPortConfig h d)
  | 0x0501 => some (opVlanSet h d)
  | 0x0502 => some (opFdbAdd h d)
  | 0x0503 => some (opFdbDelete h d)
  | 0x0504 => some (opFdbRead h d)
  | 0x0505 => some (opGalleyConfig h d)
  | 0x0506 => some (opFilterSet h d)
  | 0x0507 => some (opSwitchCounters h d)
  | _ => none

/-- Opcodes of families 0x06 to 0x0F. -/
def execHigh (h : Held) (d : Dev) : Option OpResult :=
  match h.op with
  | 0x0600 => some (opMacConfig h d)
  | 0x0601 => some (opMacCounters h d)
  | 0x0602 => some (opMdioRead h d)
  | 0x0603 => some (opMdioWrite h d)
  | 0x0700 => some (opProofConfig h d)
  | 0x0701 => some (opMirrorConfig h d)
  | 0x0702 => some (opMirrorCounters h d)
  | 0x0800 => some (opMbConfig h d)
  | 0x0801 => some (opMbRateDetect h d)
  | 0x0802 => some (opMbObjectConfig h d)
  | 0x0803 => some (opMbRingConfig h d)
  | 0x0804 => some (opMbTransmit h d)
  | 0x0805 => some (opMbWakeConfig h d)
  | 0x0806 => some (opMbStatus h d)
  | 0x0900 => some (opSlConfig h d)
  | 0x0901 => some (opSlStatus h d)
  | 0x0A00 => some (opTimeGet h d)
  | 0x0A01 => some (opTimeConfig h d)
  | 0x0A02 => some (opTimeStep h d)
  | 0x0A03 => some (opPulseConfig h d)
  | 0x0A04 => some (opCaptureConfig h d)
  | 0x0A05 => some (opTimeStatus h d)
  | 0x0B00 => some (opFormeRingConfig h d)
  | 0x0B01 => some (opImpositionWrite h d)
  | 0x0B02 => some (opImpositionSwitch h d)
  | 0x0B03 => some (opFormeStatus h d)
  | 0x0C00 => some (opPowerPolicy h d)
  | 0x0C01 => some (opDeadline h d)
  | 0x0C02 => some (opAlarmSet h d)
  | 0x0C03 => some (opWakeConfig h d)
  | 0x0C04 => some (opPowerStatus h d)
  | 0x0D00 => some (opFaultLogRead h d)
  | 0x0D01 => some (opServiceCounters h d)
  | 0x0D02 => some (opFixed h d fidAny 0 [] (opRepair h d))
  | 0x0D03 => some (opFixed h d fidDev 4 [upTo 0 1 13, rsv 1 3] (opEngineReturn h d))
  | 0x0D04 => some (opBankRetire h d)
  | 0x0D05 => some (opFixed h d fidDev 4 [] (opSectorRetire h d))
  | 0x0D06 => some (opPipeSwitchover h d)
  | 0x0D07 => some (opPortRemap h d)
  | 0x0D08 => some (opFixed h d fidDev 4 [] (opSmRemove h d))
  | 0x0D09 => some (opFixed h d fidDev 4 [] (opSmInsert h d))
  | 0x0E00 => some (opKeyInfo h d)
  | 0x0E01 => some (opKeyRevoke h d)
  | 0x0E02 => some (opDebugChallenge h d)
  | 0x0E03 => some (opDebugResponse h d)
  | 0x0F00 => some (opRingConfig h d)
  | 0x0F01 => some (opRingStatus h d)
  | 0x0F02 => some (opWindowOpen h d)
  | 0x0F03 => some (opWindowCommit h d)
  | 0x0F04 => some (opWindowClose h d)
  | 0x0F05 => some (opChannelBind h d)
  | 0x0F06 => some (opAttnConfig h d)
  | _ => none

/-- Step 8 of Table 4.8 and the execution of a command (R113). -/
def execOpcode : OpExec := fun h d =>
  match execLow h d with
  | some r => r
  | none => (execHigh h d).getD (opErr d stBadOpcode 6 0)

end Sys2Proof.Machine
end

