-- ==== Sys2Proof/Machine/Host.lean ====
section
/-! DEFINITION. The transports (06): the QSPI target, the parallel host bus, the UDP host channel with its datagrams, window datagrams
and ARP, and host channel loss. -/

namespace Sys2Proof.Machine

/-! ## Ports -/

/-- A host port is enabled (Table 6.2). -/
def Dev.portEnabled (d : Dev) (p : Nat) : Bool :=
  match p with
  | 1 => d.start.hostSel == 0 || d.start.hostSel == 2
  | 2 => d.start.hostSel == 1 || d.start.hostSel == 2
  | _ => true

def Dev.ready (d : Dev) : Bool := d.start.phase == .ready

/-- The part drives these bytes on a wired port. -/
def Dev.drive (d : Dev) (p : Nat) (bs : List Byte) : Dev := d.setPort p (fun q => { q with driven := bs })

/-- A transaction on a wired port: one on a port that is not enabled, or before a start, does nothing; one that reaches the part
in SLUMBER only wakes it (R516), and a read returns what `asleep` gives. -/
def Dev.wired (d : Dev) (p : Nat) (asleep : List Byte) (f : Dev → Dev) : Dev :=
  if !(d.portEnabled p) || d.start.phase == .aonOff || d.start.phase == .porstLow then d
  else
    let (take, d) := d.hostWakes
    if take then f d else d.drive p asleep

/-- Free input space in bytes: 0 until READY (R168). -/
def Dev.inFree (d : Dev) (p : Nat) : Nat := if d.ready then 8192 - (d.port p).frame.length else 0

def Dev.outLen (d : Dev) (p : Nat) : Nat := ((d.port p).out.head?.map (·.bytes.length)).getD 0

/-- STATUS byte 3 (Table 6.9). -/
def Dev.portFlags (d : Dev) (p : Nat) : Nat := b2n (d.attnLine 0) + 2 * b2n (d.attnLine 1) + 4 * b2n (d.port p).lost

/-- The head packet is delivered and leaves the queue (R137, R140). -/
def Dev.delivered (d : Dev) (p : Nat) : Dev := d.setPort p (fun q => { q with out := q.out.drop 1, rd := 0, headSince := d.tick })

/-- A packet framed on a wired port (R136): too long for the free input space, it is discarded and counted. -/
def Dev.framed (d : Dev) (p : Nat) (bs : List Byte) : Dev :=
  if !d.ready || 8192 < bs.length then d.setPort p (fun q => { q with overrun := wrap32 (q.overrun + 1) })
  else d.receiveBytes execOpcode { port := p } none bs

/-! ## QSPI (R135 to R137) -/

/-- The wait byte, the marker and the data of a read with exactly one wait byte. -/
def marked (bs : List Byte) : List Byte := [0xFF#8, 0xA5#8] ++ bs

def idBytes : List Byte := leb 2 Config.partCode ++ leb 1 Config.grade ++ leb 1 Config.stepping

/-- STATUS of Table 6.9, or a word of Table 6.4 that reports flags, lengths, free space or the window address. -/
def Dev.statusRead (r : StatusRead) (d : Dev) : Dev :=
  match r with
  | .qspi _ => d.wired 1 [] (fun d =>
      d.drive 1 (marked (leb 2 (d.outLen 1) ++ leb 1 (d.inFree 1 / 64) ++ leb 1 (d.portFlags 1))))
  | .parallel w => d.wired 2 [0xFF#8, 0xFF#8] (fun d =>
      d.drive 2 (leb 2 (match w with
        | 0x003 => d.outLen 2
        | 0x004 => d.inFree 2 / 64
        | 0x005 => d.portFlags 2
        | 0x008 => d.hst.winAddr % 65536 / 4 * 4
        | 0x009 => d.hst.winAddr / 65536
        | _ => 0)))

/-- ID (R2): of the QSPI target, or word 0x00F of the parallel bus. -/
def Dev.idRead (r : IdRead) (d : Dev) : Dev :=
  match r with
  | .qspi _ => d.wired 1 [] (fun d => d.drive 1 (marked idBytes))
  | .parallel => d.wired 2 [0xFF#8, 0xFF#8] (fun d => d.drive 2 (leb 2 Config.partCode))

/-- PKT_WRITE (R136). -/
def Dev.pktWrite (bs : List Byte) (d : Dev) : Dev := d.wired 1 [] (fun d => (d.drive 1 []).framed 1 bs)

/-- PKT_READ of `n` bytes (R137): the head packet from byte 0, zeros past its end; whole, it is delivered. -/
def Dev.pktRead (n : Nat) (d : Dev) : Dev :=
  d.wired 1 [] (fun d =>
    let b := ((d.port 1).out.head?.map (·.bytes)).getD []
    let d := d.drive 1 (marked (b.take n ++ zeros (n - b.length)))
    if !b.isEmpty && decide (b.length ≤ n) then d.delivered 1 else d)

/-- Whole little-endian words of data; a part of a word at the end is none. -/
def wordsOf (bs : List Byte) : List Nat := (List.range (bs.length / 4)).map (fun i => fld bs (4 * i) 4)

/-- WIN_WRITE (R146). -/
def Dev.winWriteRow (addr : Nat) (data : List Byte) (d : Dev) : Dev :=
  d.wired 1 [] (fun d => (Dev.winWrites 1 (wordsOf data) addr (d.drive 1 [])).2)

/-- WIN_READ of `n` bytes (R135, R146): 1 to 64 wait bytes, which the spec leaves open, and the data; on an access error 0x5A in
place of the marker after 64 wait bytes. -/
def Dev.winReadRow (addr n : Nat) (d : Dev) : Dev :=
  d.wired 1 [] (fun d =>
    let (vs, e, d) := Dev.winReads 1 ((n + 3) / 4) addr d
    if e == 0 then
      let (w, d) := d.draw
      d.drive 1 (List.replicate (1 + w % 64) 0xFF#8 ++ [0xA5#8] ++ (vs.flatMap (leb 4)).take n)
    else d.drive 1 (List.replicate 64 0xFF#8 ++ [0x5A#8]))

/-- The instruction bytes of Table 6.3. -/
def qspiInstructions : List Nat := [0x05, 0x45, 0x9F, 0xDF, 0x02, 0x42, 0x0B, 0x4B, 0x12, 0x52, 0x1B, 0x5B]

/-- An instruction byte not in Table 6.3 is a framing error, and the part drives nothing (R135). -/
def Dev.unknownInstruction (b : Byte) (d : Dev) : Dev :=
  if qspiInstructions.contains b.toNat then d
  else d.wired 1 [] (fun d => (d.drive 1 []).setPort 1 (fun q => { q with framing := wrap32 (q.framing + 1) }))

/-! ## Parallel bus (R138 to R140) -/

/-- PKT_IN: two more bytes of the packet being framed; more than the input buffer holds is an overrun at PKT_END. -/
def Dev.pktIn (w : BitVec 16) (d : Dev) : Dev :=
  d.wired 2 [] (fun d => d.setPort 2 (fun q =>
    { q with frame := if 8192 < q.frame.length then q.frame else q.frame ++ leb 2 w.toNat }))

/-- PKT_END closes the frame (R138, R136). -/
def Dev.pktEnd (d : Dev) : Dev :=
  d.wired 2 [] (fun d =>
    let bs := (d.port 2).frame
    (d.setPort 2 (fun q => { q with frame := [] })).framed 2 bs)

/-- PKT_OUT (R140): two bytes of the head packet; the read of its last two delivers it. -/
def Dev.pktOut (d : Dev) : Dev :=
  d.wired 2 [0xFF#8, 0xFF#8] (fun d =>
    let b := ((d.port 2).out.head?.map (·.bytes)).getD []
    let o := (d.port 2).rd
    let two := slice b o 2
    let d := d.drive 2 (two ++ zeros (2 - two.length))
    if b.isEmpty then d
    else if b.length ≤ o + 2 then d.delivered 2
    else d.setPort 2 (fun q => { q with rd := o + 2 }))

/-- WIN_ADDR moves on by 2 (Table 6.4). -/
def Dev.stepWinAddr (d : Dev) : Dev := d.setHst (fun h => { h with winAddr := (h.winAddr + 2) % 4294967296 })

/-- A write of WIN_ADDR_L or WIN_ADDR_H (Table 6.4): bits 1:0 ignore writes. Every other word address of these rows ignores them. -/
def Dev.winAddrWrite (word v : Nat) (d : Dev) : Dev :=
  d.wired 2 [] (fun d => d.setHst (fun h => match word with
    | 0x008 => { h with winAddr := h.winAddr / 65536 * 65536 + v % 65536 / 4 * 4 }
    | 0x009 => { h with winAddr := v % 65536 * 65536 + h.winAddr % 65536 }
    | _ => h))

/-- WIN_DATA written (R139): the high half completes a word with the low half written just before at the same word; without one,
what the low half is is open. -/
def Dev.winDataWrite (w : BitVec 16) (d : Dev) : Dev :=
  d.wired 2 [] (fun d =>
    let a := d.hst.winAddr
    let word := a / 4 * 4
    if a / 2 % 2 == 0 then (d.setHst (fun h => { h with wrLatch := some (word, w.toNat) })).stepWinAddr
    else
      let (lo, d) := match d.hst.wrLatch with
        | some (x, v) => if x == word then (v, d) else let (r, d) := d.draw
                                                       (r % 65536, d)
        | none => let (r, d) := d.draw
                  (r % 65536, d)
      ((d.winWrite 2 word (lo + w.toNat * 65536)).2.setHst (fun h => { h with wrLatch := none })).stepWinAddr)

/-- WIN_DATA read (R139): the low half fetches the word, and the next read returns its high half; without a fetch at that word the
value is open. -/
def Dev.winDataRead (d : Dev) : Dev :=
  d.wired 2 [0xFF#8, 0xFF#8] (fun d =>
    let a := d.hst.winAddr
    let word := a / 4 * 4
    if a / 2 % 2 == 0 then
      let (r, d) := d.winRead 2 word
      let d := if r.isNone then d.winError 2 1 else d
      let v := r.getD 0xFFFFFFFF
      ((d.setHst (fun h => { h with rdLatch := some (word, v / 65536) })).drive 2 (leb 2 v)).stepWinAddr
    else
      let (hi, d) := match d.hst.rdLatch with
        | some (x, v) => if x == word then (v, d) else let (r, d) := d.draw
                                                       (r % 65536, d)
        | none => let (r, d) := d.draw
                  (r % 65536, d)
      ((d.setHst (fun h => { h with rdLatch := none })).drive 2 (leb 2 hi)).stepWinAddr)

/-! ## UDP output (R143) -/

/-- The IPv4 packets of a datagram in fragments of at most `room` bytes (RFC 791, RFC 768). -/
def ipPackets (src dst sport dport ident ttl room : Nat) (payload : List Byte) : List (List Byte) :=
  let seg0 := beb 2 sport ++ beb 2 dport ++ beb 2 (8 + payload.length) ++ [0#8, 0#8] ++ payload
  let sum := inetChecksum (beb 4 src ++ beb 4 dst ++ [0#8, 17#8] ++ beb 2 seg0.length ++ seg0)
  let seg := seg0.take 6 ++ beb 2 (if sum == 0 then 0xFFFF else sum) ++ payload
  let per := if 20 + seg.length ≤ room then seg.length else max 8 ((room - 20) / 8 * 8)
  let n := (seg.length + per - 1) / per
  (List.range n).map (fun i =>
    let b := slice seg (i * per) per
    let more := if i + 1 < n then 0x2000 else 0
    let h := [0x45#8, 0#8] ++ beb 2 (20 + b.length) ++ beb 2 (ident % 65536) ++ beb 2 (more + i * per / 8) ++ leb 1 ttl ++ [17#8]
    let h := h ++ beb 2 (inetChecksum (h ++ [0#8, 0#8] ++ beb 4 src ++ beb 4 dst)) ++ beb 4 src ++ beb 4 dst
    h ++ b)

/-- IPv4 bytes that fit the maximum frame of the egress MAC (R143): of the MAC through which peers were last reached, with the tag that
R311 gives the VID there. -/
def Dev.udpRoom (d : Dev) (vid : Nat) : Nat :=
  match d.hst.lastUdpMac with
  | some m => (d.cfg.macs.getD m {}).maxFrame - (if bit (d.vlan vid).untagged (d.macPort m) then 18 else 22)
  | none => 1500

/-- A frame from the host station address, tagged with a VID, with its FCS. -/
def hostFrame (mac vid type : Nat) (payload : List Byte) : List Byte :=
  let b := leb 6 mac ++ hostStation ++ beb 2 0x8100 ++ beb 2 vid ++ beb 2 type ++ payload
  withFcs (b ++ zeros (60 - b.length))

/-- Hands the packets that wait on the UDP port to the switch through SP7, class 0 (R302, R143). A packet without a host address or
a known peer is lost. The IPv4 identification and time to live are open. -/
def Dev.udpFlush (d : Dev) : Dev :=
  let wait := (d.port 3).out.filter (fun o => o.frames.isNone)
  forEach wait d (fun d o =>
    let keep (fs : Option (List Nat)) (d : Dev) : Dev :=
      d.setPort 3 (fun q => { q with out := q.out.map (fun x => if x.id == o.id then { x with frames := fs } else x) })
    match d.cfg.dev.hostAddr with
    | none => keep (some []) d
    | some (ip, port) =>
      let (r, d) := d.draw
      let ps := ipPackets ip o.dst.ip port o.dst.udp (r % 65536) (1 + r / 65536 % 255) (d.udpRoom o.dst.vid) o.bytes
      let (ids, d) := ps.foldl (fun (a : List Nat × Dev) b =>
        let (i, _, d) := a.2.inject 7 (hostFrame o.dst.mac o.dst.vid 0x0800 b) 0 none
        (a.1 ++ [i], d)) ([], d)
      keep (some ids) d)

/-- A datagram is delivered when its last fragment has left (R143); one that the switch dropped is gone as well. -/
def Dev.udpReap (d : Dev) : Dev :=
  d.setPort 3 (fun q => { q with out := q.out.filter (fun o => match o.frames with
    | some fs => fs.any d.heldAny
    | none => true) })

/-- Packets on the UDP port enter the switch, and those that have left are done. -/
def Dev.udpOut (d : Dev) : Dev := if (d.port 3).out.isEmpty then d else d.udpFlush.udpReap

/-! ## Window datagrams (R163, Table 6.10) -/

/-- The Ethernet address and VID of a peer are those of its last valid datagram (R143). -/
def Dev.touchPeer (d : Dev) (p : Peer) : Dev :=
  d.setVerind (fun v => { v with chans := v.chans.map (fun c =>
    if c.st != 0 && c.peer.port == 3 && c.peer.ip == p.ip && c.peer.udp == p.udp then
      { c with peer := { c.peer with mac := p.mac, vid := p.vid } } else c) })

def Dev.udpFraming (d : Dev) : Dev := d.setPort 3 (fun q => { q with framing := wrap32 (q.framing + 1) })

/-- A window datagram is valid: its length, CRC and data length. -/
def winDatagramOk (type : Nat) (b : List Byte) : Bool :=
  let dl := fld b 6 2
  decide (20 ≤ b.length) && byteAt b 0 == type && fld b 2 2 == b.length && (crc32c (b.take (b.length - 4))).toNat == fld b (b.length - 4) 4 &&
  byteAt b 1 == 0 && fld b 12 4 == 0 && decide (4 ≤ dl) && decide (dl ≤ 1024) && dl % 4 == 0 &&
  b.length == 20 + (if type == 0xB6 then dl else 0)

/-- A response with the request's tag; STATUS says whether a word met an access error. -/
def winResponse (type : Nat) (req : List Byte) (errs : Nat) (data : List Byte) : List Byte :=
  let b := leb 1 type ++ [0#8] ++ leb 2 (20 + data.length) ++ slice req 4 2 ++ slice req 6 2 ++ slice req 8 4 ++ leb 2 (b2n (errs != 0)) ++
    [0#8, 0#8] ++ data
  b ++ leb 4 (crc32c b).toNat

/-- WINDOW_READ_REQUEST: answered with the words read; one that is not valid is a framing error. -/
def Dev.windowReadRequest (p : Peer) (b : List Byte) (d : Dev) : Dev :=
  if !d.ready then d
  else if !(winDatagramOk 0xB5 b) then d.udpFraming
  else
    let (vs, e, d) := Dev.winReads 3 (fld b 6 2 / 4) (fld b 8 4) (d.touchPeer p)
    d.send none p (winResponse 0xB7 b e (vs.flatMap (leb 4)))

/-- WINDOW_WRITE_REQUEST: the words are staged. -/
def Dev.windowWriteRequest (p : Peer) (b : List Byte) (d : Dev) : Dev :=
  if !d.ready then d
  else if !(winDatagramOk 0xB6 b) then d.udpFraming
  else
    let (e, d) := Dev.winWrites 3 (wordsOf (slice b 16 (fld b 6 2))) (fld b 8 4) (d.touchPeer p)
    d.send none p (winResponse 0xB8 b e [])

/-! ## UDP input (R141, R142, R144) -/

/-- A CHANNEL_OPEN that passes steps 1 to 5 of Table 4.8 (R144). -/
def isAdopting (b : List Byte) : Bool :=
  let (op, c) := parseCmd {} none b
  op == 0x0001 && decide (16 ≤ c.framed) && c.sync == 0xA7#8 && decide (c.channel ≤ 7) && (VCmd.check35 op c).isNone

/-- A UDP payload (R142). -/
def Dev.udpPayload (p : Peer) (dst : Option (Nat × Nat)) (b : List Byte) (d : Dev) : Dev :=
  match byteAt b 0 with
  | 0xA7 => (d.touchPeer p).receiveBytes execOpcode p dst b
  | 0xB5 => d.windowReadRequest p b
  | 0xB6 => d.windowWriteRequest p b
  | _ => d.udpFraming

/-- A whole IPv4 payload to the host: its UDP checksum, its ports, and adoption (R141, R144). -/
def Dev.udpSegment (d : Dev) (mac vid src dst : Nat) (station : Bool) (seg : List Byte) : Dev :=
  let sport := beVal (slice seg 0 2)
  let dport := beVal (slice seg 2 2)
  let len := beVal (slice seg 4 2)
  let body := slice seg 8 (len - 8)
  let sum := beVal (slice seg 6 2)
  let good := sum == 0 || inetChecksum (beb 4 src ++ beb 4 dst ++ [0#8, 17#8] ++ beb 2 len ++ seg.take len) == 0
  let p : Peer := { port := 3, ip := src, udp := sport, mac := mac, vid := vid }
  let mine := d.cfg.dev.hostAddr == some (dst, dport)
  if len < 8 || seg.length < len || !good then d
  else if mine || (station && decide (1024 ≤ dport) && isAdopting body) then
    d.udpPayload p (if station then some (dst, dport) else none) body
  else d

/-- Fragments that cover a datagram of `total` bytes, in order. -/
def assemble (parts : List (Nat × List Byte)) : Nat → Nat → List Byte → Option (List Byte)
  | 0, _, _ => none
  | n + 1, total, acc =>
    if total ≤ acc.length then some (acc.take total)
    else match parts.find? (fun p => decide (p.1 ≤ acc.length) && decide (acc.length < p.1 + p.2.length)) with
      | some p => assemble parts n total (acc ++ p.2.drop (acc.length - p.1))
      | none => none

/-- An IPv4 fragment (R141): one reassembly per peer; a datagram above 4,124 bytes is discarded. -/
def Dev.udpFragment (d : Dev) (src ident off : Nat) (more : Bool) (b : List Byte) : Option (List Byte) × Dev :=
  let old := (d.hst.reasm.find? (fun r => r.ip == src)).getD { ip := src, ident := ident, start := d.tick }
  let r : Reasm := if old.ident == ident then old else { ip := src, ident := ident, start := d.tick }
  let r : Reasm := { r with parts := r.parts ++ [(off, b)], total := if more then r.total else some (off + b.length) }
  let others := d.hst.reasm.filter (fun x => x.ip != src)
  let drop := d.setHst (fun h => { h with reasm := others })
  if 4104 < off + b.length then (none, drop)
  else match r.total.bind (fun t => assemble r.parts (r.parts.length + 1) t []) with
    | some seg => (some seg, drop)
    | none => (none, d.setHst (fun h => { h with reasm := others ++ [r] }))

/-- ARP_REQUEST (R141): a request for the host IPv4 address is answered through SP7. -/
def Dev.arpRequest (mac vid ip target : Nat) (d : Dev) : Dev :=
  match d.cfg.dev.hostAddr with
  | some (host, _) =>
    if d.ready && host == target then
      let arp := beb 2 1 ++ beb 2 0x0800 ++ [6#8, 4#8] ++ beb 2 2 ++ hostStation ++ beb 4 host ++ leb 6 mac ++ beb 4 ip
      (d.inject 7 (hostFrame mac vid 0x0806 arp) 0 none).2.2
    else d
  | none => d

/-- A frame that reaches the host channel at SP7 (R141): an ARP request is answered, a UDP datagram for the host is
taken, and every other frame is discarded. -/
def Dev.hostFrameIn (d : Dev) (m : Nat) (f : HostFrame) : Dev :=
  let b := f.1
  let ip := (noFcs b).drop (frPay b)
  let len := beVal (slice ip 2 2)
  let src := beVal (slice ip 12 4)
  let dst := beVal (slice ip 16 4)
  let fr := beVal (slice ip 6 2)
  let station := frDa b == hostStation
  let mine := (d.cfg.dev.hostAddr.map (·.1)) == some dst
  if frType b == 0x0806 && slice ip 0 8 == beb 2 1 ++ beb 2 0x0800 ++ [6#8, 4#8] ++ beb 2 1 then
    d.arpRequest (leVal (slice ip 8 6)) f.2 (beVal (slice ip 14 4)) (beVal (slice ip 24 4))
  else if !d.ready || frType b != 0x0800 || byteAt ip 0 != 0x45 || byteAt ip 9 != 17 || len < 20 || ip.length < len ||
      inetChecksum (ip.take 20) != 0 || !(mine || station) then d
  else
    let body := slice ip 20 (len - 20)
    let mac := leVal (frSa b)
    let d := d.setHst (fun h => { h with lastUdpMac := some m })
    let (whole, d) := if fr % 0x4000 == 0 then (some body, d)
      else d.udpFragment src (beVal (slice ip 4 2)) (fr % 0x2000 * 8) (bit fr 13) body
    match whole with
    | some seg => d.udpSegment mac f.2 src dst station seg
    | none => d

/-- REASSEMBLY_TIMEOUT (R141): 100 ms after its first fragment. -/
def Dev.reassemblyTimeout (ip : Nat) (d : Dev) : Dev :=
  match d.hst.reasm.find? (fun r => r.ip == ip) with
  | some r => (d.advanceTo (r.start + msNs 100)).setHst (fun h => { h with reasm := h.reasm.filter (fun x => x.ip != ip) })
  | none => d

/-! ## Host channel loss (R159, R160) -/

/-- F8 on a host port (R160). -/
def Dev.hostChannelLoss (d : Dev) (p : Nat) : Dev :=
  if (d.port p).lost then d
  else
    let d := forN 8 d (fun d ch => if (d.chan ch).st != 0 && (d.chan ch).peer.port == p then d.shutChannelWindows ch else d)
    (d.setPort p (fun q => { q with lost := true })).inEpisode (fun d => d.logFault 8 0x04 2 0 0 0)

/-- OUTPUT_QUEUE_TIMEOUT: the head of a wired port's queue has waited 1 s. -/
def Dev.outputQueueTimeout (p : Nat) (d : Dev) : Dev :=
  if (p != 1 && p != 2) || (d.port p).out.isEmpty || (d.port p).lost then d
  else (d.advanceTo ((d.port p).headSince + msNs 1000)).hostChannelLoss p

/-- EVENT_RETRY (R99): the event is presented again after the retry interval; by UDP the eighth presentation without
acknowledgement is F8 (R159). -/
def Dev.eventRetry (seq : Nat) (d : Dev) : Dev :=
  match d.verind.events.find? (fun e => e.seq == seq && e.shown != 0), d.verind.eventChannel with
  | some e, some ch =>
    let d := (d.advanceTo (e.last + msNs d.cfg.dev.evRetryMs)).present e
    if (d.chan ch).peer.port == 3 && 8 ≤ e.shown + 1 then d.hostChannelLoss 3 else d
  | _, _ => d

/-- UDP_LINK_LOSS_TIMEOUT: the MAC through which the peers were last reached has been down for 1 s. -/
def Dev.udpLinkLoss (d : Dev) : Dev :=
  match d.hst.lastUdpMac with
  | some m =>
    if d.macUp m || (d.port 3).lost then d else (d.advanceTo ((d.mac m).downAt + msNs 1000)).hostChannelLoss 3
  | none => d

end Sys2Proof.Machine
end

