-- ==== Sys2Proof/Machine/EnginePorts.lean ====
section
/-! DEFINITION. The ports of an engine (Table 9.5): the map with its access kinds, the ports of the engine island, quoins, plates, frames,
Typecase, Almanac, and the unit groups; one read and one write, on which PIN, POUT and the port rows are built. -/

namespace Sys2Proof.Machine

/-! ## The map -/

/-- How a port may be used: read only, write only, or both. -/
inductive Access where
  | ro
  | wo
  | rw
  deriving DecidableEq, Repr, Inhabited

def Access.reads (a : Access) : Bool := a != .wo
def Access.writes (a : Access) : Bool := a != .ro

/-- The access of a port (Tables 9.5, 15.5, 16.3, 18.9, 18.10); `none` for one that is reserved. -/
def portAccess (p : Nat) : Option Access :=
  if [0x00, 0x04, 0x05, 0x06, 0x07, 0x08, 0x09, 0x0B, 0x32, 0x38, 0x3C, 0x3E, 0x3F, 0x42, 0x45, 0x49, 0x4A, 0x4B, 0x64, 0x80, 0x96, 0x97,
      0xA0, 0xA5, 0xA9, 0xAA, 0xAB, 0xAC, 0xB0, 0xB1, 0xB2, 0xB3, 0xC0, 0xC4, 0xCA, 0xCB, 0xD4].contains p then some .ro
  else if [0x31, 0x34, 0x35, 0x3B, 0x41, 0x44, 0xA8, 0xC5, 0xC6, 0xD3].contains p then some .wo
  else if [0x01, 0x02, 0x03, 0x0A, 0x30, 0x36, 0x37, 0x3A, 0x3D, 0x40, 0x43, 0x48, 0x60, 0x61, 0x62, 0x63, 0x98,
      0xA1, 0xA2, 0xA3, 0xA4, 0xA6, 0xA7, 0xC1, 0xC2, 0xC3, 0xC7, 0xC8, 0xC9, 0xD0, 0xD1, 0xD2].contains p then some .rw
  else if 0x10 ≤ p && p ≤ 0x2F then some (if 4 ≤ p % 8 && p % 8 ≤ 5 then .ro else .rw)
  else if 0x50 ≤ p && p ≤ 0x5F then some .rw
  else if 0x81 ≤ p && p ≤ 0x95 then some .rw
  else none

/-- What a port write does: it takes effect, it completes with poison (R229), or it is an F3 of a cause. -/
inductive Wrote where
  | ok (d : Dev)
  | poison
  | fault (cause : Nat)

/-- A write whose effect may be refused with poison. -/
def Wrote.orPoison : Option Dev → Wrote
  | some d => .ok d
  | none => .poison

/-! ## Selectors of the unit groups -/

/-- A selector of engine `p`: FR_SLSEL, FR_CHSEL, FR_LSEL, FR_XSEL, MB_RADDR, MB_OADDR, IMP_DOM, IMP_IDX, REFUSED by domain. -/
def Dev.sel (d : Dev) (p i : Nat) : Nat := (d.pe p).sel.sel.getD i 0
def Dev.setSel (d : Dev) (p i v : Nat) : Dev := d.setPe p (fun e => { e with sel := { e.sel with sel := upd e.sel.sel i (fun _ => v) } })

/-- The unit of a class that a logical engine is bound to: the lowest instance from `lo` on whose binding it holds. -/
def Dev.unitOf (d : Dev) (l lo n : Nat) : Option Nat := (List.range n).find? (fun i => d.holds 0x0A (lo + i) (.le l))

/-! ## Quoins (R252, R253, Table 9.4) -/

/-- An instance that Table 9.4 names for a kind. -/
def reqInstance (kind inst : Nat) : Bool :=
  match kind with
  | 1 => inst == 0
  | 2 => inst == 0
  | 4 => decide (inst < 64)
  | 5 => decide (inst < 512)
  | 6 => decide (inst < 4)
  | 7 => decide (inst < 32)
  | 9 => decide (inst < 6)
  | 10 => decide (inst < 2) || (decide (0x10 ≤ inst) && decide (inst < 0x14)) || (decide (0x20 ≤ inst) && decide (inst < 0x24))
  | _ => false

/-- A lease that a request may name (R67). -/
def reqLease (kind lease : Nat) : Bool :=
  lease == 0 || (decide ((leaseRange kind).1 ≤ lease) && decide (lease ≤ (leaseRange kind).2))

/-- A request for a held quoin of these kinds is queued. -/
def queues (kind : Nat) : Bool := kind == 1 || kind == 2 || kind == 5

/-- The lowest quoin slot that neither holds nor queues. -/
def Le.freeSlot (x : Le) : Option Nat := (List.range 16).find? (fun i => let s := (x.qslots.getD i {}).st; s == 0 || s == 3)

/-- QREQ. -/
def Dev.qreq (l kind inst lease : Nat) (d : Dev) : Dev :=
  match (d.le l).slotOf kind inst with
  | some i => if ((d.le l).qslots.getD i {}).st == 1 && kind != 7 then d.renew kind inst else d
  | none =>
    match (d.le l).freeSlot with
    | none => d
    | some i =>
      let gen := (d.quoin kind inst).gen
      let put (d : Dev) (st : Nat) : Dev := d.setSlot l i (fun _ => { st := st, kind := kind, inst := inst, gen := gen })
      let waits := (d.le l).qslots.any (fun s => s.st == 2)
      if !reqInstance kind inst || !reqLease kind lease || waits then put d 3
      else if kind == 7 then
        if !d.isOn (ringFid inst) || (d.ringCfg inst).dir != 1 then put d 3
        else match d.ringReserve inst (.le l) 1 1 l lease i with
          | some (_, d) =>
            (d.setSlot l i (fun _ => { st := 1, kind := 7, inst := inst, gen := (d.ring inst).gen })).raiseLe 0x04 l 11
          | none => put d 3
      else if (d.quoin kind inst).owner.isNone then
        (d.grant kind inst (.le l) lease i).tellGrant (.le l) kind inst i
      else if queues kind then
        (put d 2).setQuoin kind inst (fun q => { q with queue := q.queue ++ [{ owner := .le l, lease := lease, slot := i }] })
      else put d 3

/-- QREL: the quoin is free under its next generation (Table 3.6), and a queued request is withdrawn. A standby table written under
quoin 0x09 is committed; a reservation not published is abandoned (R154). -/
def Dev.qrel (l kind inst : Nat) (d : Dev) : Dev :=
  match (d.le l).slotOf kind inst with
  | none => d
  | some i =>
    let s := (d.le l).qslots.getD i {}
    if s.st == 2 then
      (d.setSlot l i (fun _ => {})).setQuoin kind inst (fun q => { q with queue := q.queue.filter (fun w => w.owner != .le l) })
    else
      let d := d.setSlot l i (fun s => { s with st := 0, gen := (s.gen + 1) % 65536 })
      if kind == 7 then
        match (d.ring inst).resv.find? (fun v => v.owner == .le l && v.slot == i && !v.done) with
        | some v => d.ringSkip inst v.id
        | none => d
      else
        let d := if kind == 9 then { d with doms := upd d.doms inst (fun x => { x with committed := x.standby }) } else d
        d.release kind inst

/-! ## Frames through SP6 (R249) -/

/-- RX_POST: a buffer of `n` bytes at RX_ADDR, or poison. -/
def Dev.rxPost (p n : Nat) (d : Dev) : Wrote :=
  let q := (d.pe p).ports
  if 16 ≤ q.rxPosted.length || n < 64 || 9216 < n || q.rxAddr % 4 != 0 || !inDram q.rxAddr n then .poison
  else .ok (d.setPorts p (fun q => { q with
    rxPosted := q.rxPosted ++ [(q.rxNext, dramOff q.rxAddr, n)], rxNext := (q.rxNext + 1) % 16 }))

/-- RX_DONE: the oldest completion, whose frame bytes the shadow log takes (R288). -/
def Dev.rxDone (p : Nat) (d : Dev) : Nat × Dev :=
  match (d.pe p).ports.rxDone with
  | [] => (0xFFFFFFFF, d)
  | (n, i) :: rest => (n * 65536 + i, (d.setPorts p (fun q => { q with rxDone := rest })).peLog p n)

/-- Frames that reach the host channel at SP7, and what the host port sends back. -/
def Dev.toHost (d : Dev) (m : Nat) (fs : List HostFrame) : Dev := (forEach fs d (fun d f => d.hostFrameIn m f)).udpOut

/-- TX_CTL: a frame from DRAM enters the switch at SP6 (R249, R302), or poison. Its buffer is free again when it has left. -/
def Dev.txCtl (p v : Nat) (d : Dev) : Wrote :=
  let q := (d.pe p).ports
  let n := bits v 16 16
  let mask := bits v 0 8
  if 8 ≤ q.txOut.length || q.txAddr % 4 != 0 || !inDram q.txAddr n || !d.peReach p 8 then .poison
  else
    let b := withFcs (Mem.getBytes 0 (d.pe p).dram (dramOff q.txAddr) n)
    let (id, hf, d) := d.inject 6 b (bits v 13 3) (if mask == 0 then none else some mask)
    let d := (d.setPorts p (fun q => { q with txOut := q.txOut ++ [id] })).collect
    .ok (d.toHost ((d.hst.lastUdpMac).getD 0) hf)

/-! ## Typecase and Almanac (R250, R251) -/

/-- TYP_SUSP: a bit that becomes 1 requests, one that becomes 0 releases. -/
def Dev.typSuspWrite (p v : Nat) (d : Dev) : Dev :=
  let l := d.leOf p
  let d := d.setPorts p (fun q => { q with typSusp := v % 4 })
  forN 2 d (fun d b => if bit v b then d.typRequest b l else d.typRelease b l)

/-- An Almanac operation of an engine ends at once without effect. -/
def Dev.almRefused (p l detail : Nat) (d : Dev) : Dev :=
  (d.setPorts p (fun q => { q with almStat := 0xC0000000 + detail })).raiseLe 0x01 l 17

/-- ALM_CTL READ: the committed value of a key goes to DRAM, as far as ALM_LEN reaches. -/
def Dev.almRead (p : Nat) (d : Dev) : Dev :=
  let q := (d.pe p).ports
  let l := d.leOf p
  match d.alm.value q.almKey with
  | none => d.almRefused p l 0
  | some b =>
    let n := min b.length q.almLen
    if q.almKey < 0x8000 || !dramRange q.almAddr n then d.almRefused p l 0x010A
    else (((d.dramWrite p (dramOff q.almAddr) (b.take n)).setPorts p (fun q => { q with almStat := 0x80000000 })).raiseLe
      0x01 l 17).peLog p n

/-- ALM_CTL WRITE: one group of the record (R251); without quoin 0x01, or while an operation runs, poison. -/
def Dev.almWrite (p : Nat) (d : Dev) : Wrote :=
  let q := (d.pe p).ports
  let l := d.leOf p
  if !d.holds 1 0 (.le l) || bits q.almStat 30 2 == 1 then .poison
  else
    let d := d.renew 1 0
    if q.almKey < 0x8000 || 2048 < q.almLen || !dramRange q.almAddr q.almLen then .ok (d.almRefused p l 0x010A)
    else if !d.alm.anyValid then .ok (d.almRefused p l 0x010E)
    else
      let data := Mem.getBytes 0 (d.pe p).dram (dramOff q.almAddr) q.almLen
      .ok ((d.setPorts p (fun q => { q with almStat := 0x40000000 })).setAlm (fun a =>
        { a with ops := a.ops ++ [{ kind := .write q.almKey data, le := some l }] }))

/-! ## Plates (R235, R236) -/

/-- PLATE_CTL: by the writer alone; COMMIT of a plate with an explicit commit alone. Other values do nothing. -/
def Dev.plateCtl (p v : Nat) (d : Dev) : Wrote :=
  let q := (d.pe p).ports.plateSel
  if !d.peReach p 7 || !d.peWrites p q then .poison
  else if v == 1 then .ok ((d.renew 4 q).plateDone q)
  else if v == 2 then (if (d.plate q).declared && (d.plate q).dom.isNone then .ok ((d.renew 4 q).plateCommit q) else .poison)
  else .ok d

/-- PLATE_STAT. -/
def Dev.plateStat (p : Nat) (d : Dev) : Nat :=
  let n := (d.pe p).ports.plateSel
  let q := d.plate n
  b2n q.ready * 2 ^ 31 + b2n (d.peWrites p n) * 2 ^ 30 + q.miss * 65536 + q.ccount

/-! ## The engine island's own ports -/

/-- TICK_LO: one publication of the time bus (R246). -/
def Dev.tickLo (p : Nat) (d : Dev) : Nat × Dev :=
  let (v, d) := d.accepted p
  let t := max v d.orr.at_
  let s := d.orr.reading t
  (t % 4294967296, d.setPorts p (fun q => { q with snap := s, lastTick := t }))

/-- A word of the parameter block at PARAM_ADDR, which moves on by 4 (R248). -/
def Dev.paramData (p : Nat) (d : Dev) : Nat × Dev :=
  let a := (d.pe p).ports.paramAddr
  (leVal (Mem.getBytes 0 (d.le (d.leOf p)).params a 4), d.setPorts p (fun q => { q with paramAddr := (a + 4) % 4096 }))

/-- The engine address of the image's copy in a bank. -/
def Dev.imgBase (p b : Nat) (d : Dev) : Nat :=
  0x20000000 + b * 0x400000 + ((d.typ.slots.getD (d.le (d.leOf p)).image {}).first b) * 4096

def tmrRead (t : Timer) (o : Nat) : Word :=
  match o with
  | 0 => t.ctl
  | 1 => t.cmpLo
  | 2 => t.cmpHi
  | 3 => t.cmpEp
  | 4 => t.capLo
  | 5 => t.capHi
  | 6 => t.stat
  | _ => t.period

def tmrWrite (t : Timer) (o : Nat) (v : Word) : Timer :=
  match o with
  | 0 => t.arm v
  | 1 => { t with cmpLo := v }
  | 2 => { t with cmpHi := v }
  | 3 => { t with cmpEp := v }
  | 6 => { t with stat := t.stat &&& ~~~v }
  | 7 => { t with period := v }
  | _ => t

/-- QSTAT. -/
def QSlot.stat (s : QSlot) : Nat := s.st * 2 ^ 30 + s.kind * 65536 + s.gen

/-- A read of a port of the engine island, or of the services at 0x48 to 0x64. -/
def Dev.islandRead (p n : Nat) (d : Dev) : Load × Dev :=
  let q := (d.pe p).ports
  let l := d.leOf p
  let val (v : Nat) : Load × Dev := (.data v, d)
  let of (x : Nat × Dev) : Load × Dev := (.data x.1, x.2)
  if 0x10 ≤ n && n ≤ 0x2F then val (tmrRead (d.tmr p ((n - 0x10) / 8)) (n % 8)).toNat
  else if 0x50 ≤ n && n ≤ 0x5F then
    (if d.peReach p 4 then of d.draw else (.notData (poisonWord 4), d))
  else match n with
    | 0x00 => val (l * 2 ^ 24 + (d.func (leFid l)).gen)
    | 0x01 => val (b2n q.psn + 2 * b2n q.ovr)
    | 0x02 => val q.pend.toNat
    | 0x03 => val q.mask.toNat
    | 0x04 => of (d.tickLo p)
    | 0x05 => val (q.snap.tick / 4294967296)
    | 0x06 => val q.snap.ns
    | 0x07 => val (q.snap.sec % 4294967296)
    | 0x08 => val (q.snap.epoch * 65536 + q.snap.sec / 4294967296 % 65536)
    | 0x09 => val q.snap.quality
    | 0x0A => val q.domSel
    | 0x0B => if q.domSel < 6 then val (d.doms.getD q.domSel {}).mcount else of d.draw
    | 0x30 => val q.wdPeriod
    | 0x32 => val ((q.wdKick + usNs q.wdPeriod - d.tick) / 1000)
    | 0x36 => val q.qlease
    | 0x37 => val q.qsel
    | 0x38 => val ((d.le l).qslots.getD q.qsel {}).stat
    | 0x3A => val q.plateSel
    | 0x3C => if d.peReach p 7 then val (d.plateStat p) else (.notData (poisonWord 7), d)
    | 0x3D => val q.paramAddr
    | 0x3E => of (d.paramData p)
    | 0x3F => val (d.le l).pgen
    | 0x40 => val q.rxAddr
    | 0x42 => of (d.rxDone p)
    | 0x43 => val q.txAddr
    | 0x45 => of d.draw
    | 0x48 => val q.typSusp
    | 0x49 => if d.peReach p 6 then val (b2n (d.typSuspended 0) + 2 * b2n (d.typSuspended 1)) else (.notData (poisonWord 6), d)
    | 0x4A => val (d.imgBase p 0)
    | 0x4B => val (d.imgBase p 1)
    | 0x60 => val q.almKey
    | 0x61 => val q.almAddr
    | 0x62 => val q.almLen
    | 0x63 => val q.almCtl
    | 0x64 => val q.almStat
    | _ => val 0

/-- A write of a port of the engine island, or of the services at 0x48 to 0x63. -/
def Dev.islandWrite (p n : Nat) (v : Word) (d : Dev) : Wrote :=
  let l := d.leOf p
  let x := v.toNat
  let set (f : EPorts → EPorts) : Wrote := .ok (d.setPorts p f)
  if 0x10 ≤ n && n ≤ 0x2F then .ok (d.setTmr p ((n - 0x10) / 8) (fun t => tmrWrite t (n % 8) v))
  else if 0x50 ≤ n && n ≤ 0x5F then (if d.peReach p 4 then .ok d else .poison)
  else match n with
    | 0x01 => set (fun q => { q with psn := q.psn && !bit x 0, ovr := q.ovr && !bit x 1 })
    | 0x02 => set (fun q => { q with pend := q.pend &&& ~~~v })
    | 0x03 => set (fun q => { q with mask := v &&& 0xFFFFFF#32 })
    | 0x0A => set (fun q => { q with domSel := x % 8 })
    | 0x30 => if x < 10 || 1000000 < x then .fault 0x01 else set (fun q => { q with wdPeriod := x })
    | 0x31 => if x != 0xC3A5 then .fault 0x01 else set (fun q => { q with wdKick := d.tick, wdHalf := false })
    | 0x34 => .ok (d.qreq l (bits x 24 8) (bits x 8 16) (d.pe p).ports.qlease)
    | 0x35 => .ok (d.qrel l (bits x 24 8) (bits x 8 16))
    | 0x36 => set (fun q => { q with qlease := x })
    | 0x37 => set (fun q => { q with qsel := x % 16 })
    | 0x3A => set (fun q => { q with plateSel := x % 64 })
    | 0x3B => d.plateCtl p x
    | 0x3D => set (fun q => { q with paramAddr := bits x 2 10 * 4 })
    | 0x40 => set (fun q => { q with rxAddr := x })
    | 0x41 => d.rxPost p x
    | 0x43 => set (fun q => { q with txAddr := x })
    | 0x44 => d.txCtl p x
    | 0x48 => if d.peReach p 6 then .ok (d.typSuspWrite p x) else .poison
    | 0x60 => set (fun q => { q with almKey := x % 65536 })
    | 0x61 => set (fun q => { q with almAddr := x })
    | 0x62 => set (fun q => { q with almLen := x })
    | 0x63 =>
      if !d.peReach p 1 then .poison
      else
        let d := d.setPorts p (fun q => { q with almCtl := x })
        if x == 1 then .ok (d.almRead p) else if x == 2 then d.almWrite p else .ok d
    | _ => .ok d

/-! ## The forme unit group (Table 18.9) -/

def Dev.frRead (p r o : Nat) (d : Dev) : Nat :=
  let f := d.fr r
  match o with
  | 0x00 => d.frStat r
  | 0x01 => f.evt
  | 0x02 => f.emask
  | 0x03 => f.tmpl.getD 0 0
  | 0x04 => f.tmpl.getD 1 0
  | 0x05 => f.tmpl.getD 2 0
  | 0x06 => f.tmpl.getD 3 0
  | 0x07 => b2n f.run + 2 * b2n f.lock
  | 0x08 => d.sel p 0
  | 0x09 => (f.slices.getD (d.sel p 0) {}).addr
  | 0x0A => (f.slices.getD (d.sel p 0) {}).ctl
  | 0x0B => (f.slices.getD (d.sel p 0) {}).ofs
  | 0x0C => d.sel p 1
  | 0x0D => (f.chase.getD (d.sel p 1) (1, 0)).1
  | 0x0E => (f.chase.getD (d.sel p 1) (1, 0)).2
  | 0x0F => f.tplate
  | 0x10 => d.sel p 2
  | 0x11 => (f.launch.getD (d.sel p 2) {}).lent
  | 0x12 => f.lcnt
  | 0x13 => d.sel p 3
  | 0x14 => f.xwkc.getD (d.sel p 3) 0xFFFF
  | 0x15 => f.mdly
  | 0x16 => f.missed
  | 0x17 => f.rttE * 65536 + f.rttO
  | 0x18 => (f.launch.getD (d.sel p 2) {}).lofs
  | _ => 0

/-- A slice is written: F3 with cause 0x07 where a put slice then lies outside every chase window (R478). -/
def Dev.sliceWrite (p r : Nat) (f : Slice → Slice) (d : Dev) : Wrote :=
  let d := d.setFr r (fun x => { x with slices := upd x.slices (d.sel p 0) f })
  if (d.fr r).slicesInside then .ok d else .fault 0x07

/-- A bound of a chase window is written: after LOCK another value is F3 with cause 0x07 (R478). -/
def Dev.chaseWrite (p r : Nat) (f : Nat × Nat → Nat × Nat) (d : Dev) : Wrote :=
  let old := (d.fr r).chase.getD (d.sel p 1) (1, 0)
  if (d.fr r).lock && f old != old then .fault 0x07
  else .ok (d.setFr r (fun x => { x with chase := upd x.chase (d.sel p 1) f }))

def Dev.frWrite (p r o : Nat) (v : Word) (d : Dev) : Wrote :=
  let x := v.toNat
  let set (f : Fr → Fr) : Wrote := .ok (d.setFr r f)
  match o with
  | 0x01 => set (fun f => { f with evt := f.evt &&& (0x7F ^^^ (x % 128)) })
  | 0x02 => set (fun f => { f with emask := x % 128 })
  | 0x03 => if (d.fr r).run then .poison else set (fun f => { f with tmpl := upd f.tmpl 0 (fun _ => x) })
  | 0x04 => if (d.fr r).run then .poison else set (fun f => { f with tmpl := upd f.tmpl 1 (fun _ => x) })
  | 0x05 => if (d.fr r).run then .poison else set (fun f => { f with tmpl := upd f.tmpl 2 (fun _ => x) })
  | 0x06 => if (d.fr r).run then .poison else set (fun f => { f with tmpl := upd f.tmpl 3 (fun _ => x) })
  | 0x07 => match d.frCtl r x with
    | some d => .ok d
    | none => .fault 0x07
  | 0x08 => .ok (d.setSel p 0 (x % 32))
  | 0x09 => d.sliceWrite p r (fun s => { s with addr := x })
  | 0x0A => d.sliceWrite p r (fun s => { s with ctl := (v &&& 0xC03F07FF#32).toNat })
  | 0x0B => d.sliceWrite p r (fun s => { s with ofs := x % 65536 })
  | 0x0C => .ok (d.setSel p 1 (x % 8))
  | 0x0D => d.chaseWrite p r (fun w => (x, w.2))
  | 0x0E => d.chaseWrite p r (fun w => (w.1, x))
  | 0x0F => Wrote.orPoison (d.setTakePlate r x)
  | 0x10 => .ok (d.setSel p 2 (x % 32))
  | 0x11 => set (fun f => { f with launch := upd f.launch (d.sel p 2) (fun e => { e with lent := (v &&& 0xFC0007FF#32).toNat }) })
  | 0x12 => set (fun f => { f with lcnt := x % 64 })
  | 0x13 => .ok (d.setSel p 3 (x % 32))
  | 0x14 => set (fun f => { f with xwkc := upd f.xwkc (d.sel p 3) (fun _ => x % 65536) })
  | 0x15 => set (fun f => { f with mdly := x % 65536 })
  | 0x18 => set (fun f => { f with launch := upd f.launch (d.sel p 2) (fun e => { e with lofs := x % 65536 }) })
  | _ => .ok d

/-! ## The multidrop unit group (Tables 15.5, 18.10) -/

/-- The next word of MB_RADDR and MB_OADDR: from word 19 to word 0 of the next of `n`. -/
def nextWord (a n : Nat) : Nat :=
  let s := a / 65536
  if a % 32 < 19 then a + 1 else (s + 1) % (max 1 n) * 65536

/-- MB_RDATA: the ring word at MB_RADDR; a slot or word that the ring does not have reads an open value. -/
def Dev.mbRdata (p n : Nat) (d : Dev) : Nat × Dev :=
  let a := d.sel p 4
  let e := (d.mbCfg n).entries
  let w := a % 32
  let (v, d) := if w < 20 && a / 65536 < e then (leVal (Mem.getBytes 0 (d.mb n).ring (a / 65536 * 80 + w * 4) 4), d) else d.draw
  (v, d.setSel p 4 (nextWord a e))

/-- MB_ODATA read: the object word at MB_OADDR, which locks and releases (R396). -/
def Dev.mbOdata (p n : Nat) (d : Dev) : Nat × Dev :=
  let a := d.sel p 5
  let (v, d) := if a % 32 < 20 then d.objRead n (a / 65536) (a % 32) (d.leOf p) else d.draw
  (v, d.setSel p 5 (nextWord a 128))

/-- MB_ODATA written (R403): words 2 to 19 of a transmit object, under quoin 0x05. -/
def Dev.mbOdataWrite (p n v : Nat) (d : Dev) : Wrote :=
  let a := d.sel p 5
  let k := a / 65536
  if !d.holds 5 (128 * n + k) (.le (d.leOf p)) then .poison
  else
    let d := d.renew 5 (128 * n + k)
    let d := if (d.objCfg n k).use == 2 then d.objWrite n k (a % 32) v else d
    .ok (d.setSel p 5 (nextWord a 128))

/-- MB_TXREQ (R403, R407). -/
def Dev.mbTxreqWrite (p n v : Nat) (d : Dev) : Wrote :=
  let k := v % 128
  if !d.holds 5 (128 * n + k) (.le (d.leOf p)) then .poison
  else
    let d := d.renew 5 (128 * n + k)
    .ok (if bit v 8 then (d.mbWithdraw n k).2 else d.mbTxreq n k)

def Dev.mbRead (p n o : Nat) (d : Dev) : Nat × Dev :=
  let m := d.mb n
  match o with
  | 0x00 => (d.mbStat n, d)
  | 0x01 => (m.evt, d)
  | 0x02 => (m.emask, d)
  | 0x03 => (m.ci * 65536 + m.pi, d)
  | 0x04 => (d.sel p 4, d)
  | 0x05 => d.mbRdata p n
  | 0x06 => (d.sel p 5, d)
  | 0x07 => d.mbOdata p n
  | 0x09 => d.mbStampRead n
  | 0x0A => (m.xtick, d)
  | 0x0B => (m.rxcnt, d)
  | 0x0C => (m.txcnt, d)
  | 0x10 => (d.ttStat n, d)
  | 0x11 => ((d.tt n).ccount, d)
  | 0x12 => ((d.tt n).miss, d)
  | 0x13 => ((d.tt n).gviol, d)
  | _ => (0, d)

def Dev.mbWrite (p n o v : Nat) (d : Dev) : Wrote :=
  match o with
  | 0x01 => .ok (d.setMb n (fun m => { m with evt := m.evt &&& (0x3FF ^^^ (v % 1024)) }))
  | 0x02 => .ok (d.setMb n (fun m => { m with emask := v % 1024 }))
  | 0x03 => let (ok, d) := d.mbSetCi n (v / 65536)
            if ok then .ok d else .poison
  | 0x04 => .ok (d.setSel p 4 (bits v 16 10 * 65536 + v % 32))
  | 0x06 => .ok (d.setSel p 5 (bits v 16 7 * 65536 + v % 32))
  | 0x07 => d.mbOdataWrite p n v
  | 0x08 => d.mbTxreqWrite p n v
  | _ => .ok d

/-! ## The imposition group (R491, R492, Table 18.10) -/

def impHeld (d : Dev) (p : Nat) : Bool := d.holds 9 (d.sel p 6) (.le (d.leOf p))

/-- The island of a domain: its forme processor or controller. -/
def domIsland (dom : Nat) : Nat := if dom < 2 then 0x0B + dom else 0x1E + dom

/-- IMP_IDX moves on by one word. -/
def Dev.impNext (p : Nat) (d : Dev) : Dev := d.setSel p 7 ((d.sel p 7 + 1) % 1024)

/-- IMP_DATA is written: a word of the standby table. -/
def Dev.impData (p : Nat) (v : Word) (d : Dev) : Wrote :=
  if !impHeld d p then .poison
  else
    let dom := d.sel p 6
    let i := d.sel p 7
    let d := d.renew 9 dom
    .ok (({ d with doms := upd d.doms dom (fun x => { x with standby := Mem.setBytes 0 x.standby (4 * i) (leb 4 v.toNat) }) } : Dev).impNext p)

/-- REFUSED of IMP_STAT for the selected domain. -/
def Dev.setRefused (p : Nat) (b : Bool) (d : Dev) : Dev :=
  let dom := d.sel p 6
  let m := d.sel p 8
  d.setSel p 8 (if b then m ||| 2 ^ dom else m - (if bit m dom then 2 ^ dom else 0))

/-- IMP_SWITCH is written with `n` (R492). -/
def Dev.impSwitch (p n : Nat) (d : Dev) : Wrote :=
  if !impHeld d p then .poison
  else
    let dom := d.sel p 6
    let d := d.renew 9 dom
    let x := d.doms.getD dom {}
    if n == 0 || 65535 < n || x.pendN.isSome || !d.tableOk dom x.standby then .ok (d.setRefused p true)
    else .ok (({ d with doms := upd d.doms dom (fun x =>
      { x with pendN := some n, pendCmd := none, pendLe := some (d.leOf p) }) } : Dev).setRefused p false)

def Dev.impRead (p o : Nat) (d : Dev) : Load × Dev :=
  let dom := d.sel p 6
  let bad : Load × Dev := (.notData (poisonWord (domIsland dom)), d)
  match o with
  | 0 => (.data dom, d)
  | 1 => if impHeld d p then (.data (d.sel p 7), d.renew 9 dom) else bad
  | 2 => if impHeld d p then
      (.data (leVal (Mem.getBytes 0 (d.doms.getD dom {}).standby (4 * d.sel p 7) 4)), (d.renew 9 dom).impNext p) else bad
  | 4 => (.data (b2n (d.doms.getD dom {}).pendN.isSome * 2 ^ 31 + b2n (bit (d.sel p 8) dom) * 2 ^ 30 + b2n (impHeld d p) * 2 ^ 29), d)
  | _ => (.data 0, d)

def Dev.impWrite (p o : Nat) (v : Word) (d : Dev) : Wrote :=
  match o with
  | 0 => .ok (d.setSel p 6 (v.toNat % 8))
  | 1 => if impHeld d p then .ok ((d.renew 9 (d.sel p 6)).setSel p 7 (v.toNat % 1024)) else .poison
  | 2 => d.impData p v
  | 3 => d.impSwitch p v.toNat
  | _ => .ok d

/-! ## One read and one write (R244, R245) -/

/-- The unit group of a port: first binding instance, number of instances, first island. -/
def portGroup (n : Nat) : Option (Nat × Nat × Nat) :=
  if 0x80 ≤ n && n ≤ 0x9F then some (0x00, 2, 0x0B)
  else if 0xA0 ≤ n && n ≤ 0xBF then some (0x10, 4, 0x20)
  else if 0xC0 ≤ n && n ≤ 0xCF then some (0x20, 4, 0x24)
  else none

/-- The unit that an engine reaches through a port of a group: bound, with its island reachable (R245). The access renews the
binding (R64). -/
def Dev.unitReach (d : Dev) (p : Nat) (g : Nat × Nat × Nat) : Option (Nat × Dev) :=
  match d.unitOf (d.leOf p) g.1 g.2.1 with
  | some i => if d.peReach p (g.2.2 + i) then some (i, d.renew 0x0A (g.1 + i)) else none
  | none => none

/-- A read of port `n` by engine `p`: a write-only port reads 0, a reserved one is F3 with cause 0x06. -/
def Dev.portRead (p n : Nat) (d : Dev) : Load × Dev :=
  match portAccess n with
  | none => (.fault 0x06, d)
  | some .wo => (.data 0, d)
  | some _ =>
    match portGroup n with
    | some g =>
      (match d.unitReach p g with
       | none => (.notData (poisonWord (g.2.2 + ((d.unitOf (d.leOf p) g.1 g.2.1).getD 0))), d)
       | some (i, d) =>
         if n < 0xA0 then (.data (d.frRead p i (n - 0x80)), d)
         else
           let (v, d) := if n < 0xC0 then d.mbRead p i (n - 0xA0) else d.slPortRead i (n - 0xC0)
           (.data v, d))
    | none => if 0xD0 ≤ n then d.impRead p (n - 0xD0) else d.islandRead p n

/-- A write of port `n` by engine `p`: a reserved or read-only one is F3 with cause 0x06. -/
def Dev.portWrite (p n : Nat) (v : Word) (d : Dev) : Wrote :=
  match portAccess n with
  | none => .fault 0x06
  | some .ro => .fault 0x06
  | some _ =>
    match portGroup n with
    | some g =>
      (match d.unitReach p g with
       | none => .poison
       | some (i, d) =>
         if n < 0xA0 then d.frWrite p i (n - 0x80) v
         else if n < 0xC0 then d.mbWrite p i (n - 0xA0) v.toNat
         else Wrote.orPoison (d.slPortWrite i (d.leOf p) (n - 0xC0) v.toNat))
    | none => if 0xD0 ≤ n then d.impWrite p (n - 0xD0) v else d.islandWrite p n v

/-! ## PIN and POUT (R271), and the port rows -/

/-- A read of port `n` into rd by an instruction of engine `p`. -/
def Dev.pinTo (p rd n : Nat) (d : Dev) : Dev :=
  d.issue p (fun d =>
    match d.portRead p n with
    | (.data v, d) => (d.peLog p 16).setRegs p (fun g => g.loaded rd (BitVec.ofNat 32 v) false)
    | (.notData w, d) => (d.peLog p 16).setRegs p (fun g => g.loaded rd w true)
    | (.fault c, d) => d.engineFault p 3 c)

/-- A write of port `n` by an instruction of engine `p`. -/
def Dev.poutTo (p n : Nat) (v : Word) (d : Dev) : Dev :=
  d.issue p (fun d =>
    match d.portWrite p n v with
    | .ok d => d.setRegs p Regs.step
    | .poison => (d.poisonWrite p).setRegs p Regs.step
    | .fault c => d.engineFault p 3 c)

/-- The port that PIN and POUT name; above 255 it is F3 with cause 0x06. -/
def Dev.portOf (d : Dev) (p rs1 : Nat) (imm : BitVec 8) : Nat := ((d.pe p).regs.get rs1 + uimm imm).toNat

def Dev.pin (p rd rs1 : Nat) (imm : BitVec 8) (d : Dev) : Dev := d.pinTo p rd (d.portOf p rs1 imm)
def Dev.pout (p rd rs1 : Nat) (imm : BitVec 8) (d : Dev) : Dev := d.poutTo p (d.portOf p rs1 imm) ((d.pe p).regs.get rd)

end Sys2Proof.Machine
end

