-- ==== Sys2Proof/Machine/Meridian.lean ====
section
/-! DEFINITION. What happens at a meridian (R68, R237, R285, R323, R476, R477, R479, R485, R487, R490, R492, R494, R495): a forme ring's
own meridians and substitutes, those of a time-triggered bus, and the entries of imposition tables. -/

namespace Sys2Proof.Machine

/-- A pending switch at a meridian (R492): with the meridians ahead run out, it waits for basic cycle 0 of the new table. The tables
exchange roles, quoin 0x09 is released, and the command completes or the engine's IMP event is raised. -/
def Dev.impSwitchAt (d : Dev) (dom tick : Nat) : Dev :=
  match (d.dom dom).pendN with
  | none => d
  | some n =>
    let x := d.dom dom
    let count := if dom < 2 then x.mcount else (d.tts.getD (dom - 2) {}).cycle
    if 1 < n || count % 2 ^ tblMatrix x.standby != 0 then d.setDom dom (fun x => { x with pendN := some (n - 1) })
    else
      let d := d.setDom dom (fun x => { x with
        active := x.standby, standby := x.active, committed := x.active, pendN := none, pendCmd := none, pendLe := none })
      let d := d.release 9 dom
      let d := d.completeOpt x.pendCmd stDone (leb 8 tick)
      match x.pendLe with
      | some l => d.raiseLe (domIsland dom) l 22
      | none => d

/-- One meridian of a domain, at `tick`. `counts` says that it counts in MCOUNT, and `but` names a take plate that does not commit
here. -/
def Dev.meridianEffects (d : Dev) (dom tick : Nat) (counts : Bool) (but : Option Nat) : Dev :=
  let d := (d.commitDomain dom but).leaseCycles dom
  let d := d.setDom dom (fun x => { x with mcount := if counts && x.started then wrap32 (x.mcount + 1) else x.mcount, last := tick,
                                           next := 1 })
  let d := d.impSwitchAt dom tick
  let d := if d.gateDomain == some dom then
      d.setSwc (fun s => { s with gates := List.replicate 8 255, shut := false, gal := d.cfg.galleys })
    else d
  let d := forN 12 d (fun d l => d.raiseLe (domIsland dom) l dom)
  let d := forN 14 d (fun d p => if (d.pe p).running && (d.pe p).status == 1 then d.capture p (1 + dom) else d)
  forN 12 d (fun d l => if (d.le l).dom == dom then d.leMeridian l else d)

/-- A ring whose take plate commits with each forme: that of a slave or monitor (R474). -/
def Dev.slaveTake (d : Dev) (r : Nat) : Option Nat :=
  if (d.fr r).isMaster || !(d.frTakes r) then none else some (d.fr r).tpNum

/-- The meridian of a master or claiming node (R476): P reaches its train. A claiming node whose claim has come back three times
running is master from here on (R487); else it sends its claims (R485), late where an equal claim has been seen (R486). -/
def Dev.ownMeridian (d : Dev) (r : Nat) : Dev :=
  let f := d.fr r
  let d := d.advanceTo (d.orr.pReach f.master0)
  let t := d.tick
  let wins := f.start == 1 && f.claimBack && 3 ≤ f.claimReturns
  let d := d.setFr r (fun f => { f with master0 := f.master0 + (d.frCfg r).cycle, lastMer := t, claimBack := false,
                                        claimReturns := if f.claimBack then f.claimReturns else 0 })
  let d := if wins then
      ((d.setFr r (fun f => { f with isMaster := true, isActive := true, start := 0 })).frEvent r 6).startImposition r
    else d
  let d := d.meridianEffects r t (!wins) (d.slaveTake r)
  if (d.fr r).isMaster then d.launch r
  else if (d.fr r).start == 1 then
    (if f.clmEq then d.advanceTo (t + 8000 * (d.frCfg r).rank) else d).sendClaims r
  else d

/-- The meridian of a slave or monitor, MDLY after the SFD of the forme (R477). -/
def Dev.slaveMeridian (d : Dev) (r : Nat) : Dev :=
  match (d.fr r).merDue with
  | none => d
  | some t =>
    let d := (d.advanceTo t).setFr r (fun f => { f with merDue := none, lastMer := t })
    d.meridianEffects r t true (d.slaveTake r)

/-- SUBSTITUTE_MERIDIAN (R477): it stands one cycle after the last meridian, and the fourth in a row ends the node's activity
(R488). -/
def Dev.substitute (r : Nat) (d : Dev) : Dev :=
  let f := d.fr r
  let cyc := (d.frCfg r).cycle
  if !(d.isOn (frFid r)) || f.isMaster || f.start == 1 || f.merDue.isSome || f.processed.isNone || 4 ≤ f.substitutes then d
  else
    let d := d.advanceTo (f.lastMer + cyc + cyc / 2)
    let t := f.lastMer + cyc
    let n := f.substitutes + 1
    let d := (d.setFr r (fun f => { f with lastMer := t, substitutes := n })).frMissed r
    let d := d.meridianEffects r t true (d.slaveTake r)
    if n == 4 then
      d.setFr r (fun f => { f with isActive := false, start := 2, lastForme := none,
                                   listening := if (d.frCfg r).role == 1 then some (d.tick + 4 * cyc) else none })
    else d

/-- A meridian of a time-triggered bus: the reference mark (R496). -/
def Dev.busMeridian (d : Dev) (n mark : Nat) : Dev := d.meridianEffects (2 + n) mark true none

/-- MERIDIAN: of a ring (master, claiming node, slave), or of a bus whose time master this controller is, which sends its reference
message (R494, R497). -/
def Dev.meridian (dom : Nat) (d : Dev) : Dev :=
  if dom < 2 then
    let st := (d.func (frFid dom)).st
    if (st != 2 && st != 3) || !(d.islandUp (frIsland dom)) then d
    else if (d.fr dom).isMaster || (d.fr dom).start == 1 then d.ownMeridian dom
    else d.slaveMeridian dom
  else if dom < 6 then
    let n := dom - 2
    if d.ttLevel n == 0 || !(d.isOn (mbFid n)) || (d.tt n).st != 3 then d
    else (d.advanceTo ((d.tt n).lastRef + tblCycle (d.dom dom).active)).sendReference n
  else d

/-- The tick at which an entry acts: its offset after the meridian; a window at the first bit boundary from there on (R490, R496). -/
def Dev.entryTick (d : Dev) (dom : Nat) (e : List Byte) : Nat :=
  let bt := if dom < 2 then 1 else max 1 (d.mbCfg (dom - 2)).bitNs
  let o := enOffset e
  (d.dom dom).last + (if 4 ≤ enKind e then (o + bt - 1) / bt * bt else o)

/-- IMPOSITION_ENTRY: the next entry that applies in this basic cycle acts (R490, R494, R495, R499). -/
def Dev.impositionEntry (dom : Nat) (d : Dev) : Dev :=
  let x := d.dom dom
  let runs := if dom < 2 then d.isOn (frFid dom) else decide (dom < 6) && d.ttLevel (dom - 2) != 0 && d.isOn (mbFid (dom - 2))
  let due := (tblEntries x.active).find? (fun e => decide (x.next ≤ e.1) && enApplies e.2 (d.basicCount dom))
  match runs, due with
  | true, some (i, e) =>
    let d := (d.advanceTo (d.entryTick dom e)).setDom dom (fun x => { x with next := i + 1 })
    (match enKind e with
     | 1 => if d.gateDomain == some dom then
         d.setSwc (fun s => { s with gates := (List.range 8).map (fun p => byteAt e (8 + p)) }) else d
     | 2 => forN 12 d (fun d l => if (d.le l).dom == dom then d.raiseLe (domIsland dom) l 22 else d)
     | _ => d.windowStart (dom - 2) e)
  | _, _ => d

/-- GUARDIAN_VIOLATION (R500): F9 on the controller. -/
def Dev.guardian (n : Nat) (d : Dev) : Dev :=
  if d.ttLevel n == 0 || !(d.isOn (mbFid n)) then d
  else (d.setTt n (fun t => { t with gviol := wrap32 (t.gviol + 1) })).funcFault (mbFid n) 9 0 0 0 false

/-- MB_FRAME_SENT (R407): the frame that has begun is sent. The reference message of a time master makes the meridian (R497). -/
def Dev.mbSent (n : Nat) (d : Dev) : Dev :=
  match d.begunObj n with
  | none => d
  | some k =>
    let mark := ((d.mbObj n k).req.map (·.sof)).getD d.tick
    let d := d.mbSentObj n k
    if d.ttLevel n != 0 && tblRefObj (d.dom (2 + n)).active == k then
      let d := if d.timeOn && d.cfg.time.profile == 0x10 && bit d.cfg.time.portMask (8 + n) then
          d.deselect.setOrr (fun o => { o with grand := true }) else d
      ((d.referenceSent n mark).busMeridian n mark).mbStart n
    else d.mbStart n

/-- REFERENCE_MESSAGE (R498): the meridian is its mark. With profile 0x10 its sender is the master, and at level 2 it yields a
measurement (R457, R459). -/
def Dev.reference (n : Nat) (m : RefMsg) (d : Dev) : Dev :=
  if d.ttLevel n == 0 || !(d.mbHears n) || !(d.isOn (mbFid n)) || (d.mb n).asleep then d
  else
    let mark := d.tick - m.sofAgo
    let d := (d.referenceHeard n m.count mark).busMeridian n mark
    if d.timeOn && d.cfg.time.profile == 0x10 && bit d.cfg.time.portMask (8 + n) && d.ttLevel n == 2 then
      let d := d.follow { ident := m.ident, loss := 3 * tblCycle (d.dom (2 + n)).active, port := 8 + n }
      match m.offset with
      | some o => d.measure o true
      | none => d
    else d

/-- CYCLE_FORME (R473): a put that would pass the chase windows is F9 on the ring (R478). -/
def Dev.formeIn (r : Nat) (odd : Bool) (b : List Byte) (d : Dev) : Dev :=
  if 1 < r then d else d.cycleForme (fun d r => d.funcFault (frFid r) 9 0 0 0 false) r odd b

end Sys2Proof.Machine
end

