-- ==== Sys2Proof/Machine/RowsBus.lean ====
section
/-! DEFINITION. The rows of the multidrop controllers and the serial lines (14, 15, 16) and of their imposition (18): one meaning per
row. There are four of each unit. -/

namespace Sys2Proof.Machine

/-- A row of a unit that the part has. -/
def unitRow (n : Nat) (s : State) (f : Dev → Dev) : Host.Outcome State Fault Refusal := s.run (fun d => if 3 < n then d else f d)

def execMbFrameReceived (n : Nat) (f : MbRx) (s : State) := unitRow n s (fun d => d.mbReceived n f)
def execMbFrameSent (n : Nat) (s : State) := unitRow n s (Dev.mbSent n)
def execMbBusError (n : Nat) (e : MbErr) (s : State) := unitRow n s (fun d => d.mbError n e)
def execBusOffRecovery (n : Nat) (s : State) := unitRow n s (fun d => d.mbRecover n)
def execIntegration (n : Nat) (s : State) := unitRow n s (fun d => d.mbIntegrated n)
def execStuckDominant (n : Nat) (s : State) := unitRow n s (fun d => d.mbStuck n)
def execLockExpiry (n obj : Nat) (s : State) := unitRow n s (fun d => d.lockExpiry n obj)
def execRateDetectTimeout (n : Nat) (s : State) := unitRow n s (fun d => d.detectTimeout n)
def execDominantEdgeWake (n : Nat) (s : State) := unitRow n s (fun d => d.mbEdge n)
def execReferenceMessage (n : Nat) (m : RefMsg) (s : State) := unitRow n s (Dev.reference n m)
def execReferenceMessageMissed (n : Nat) (s : State) := unitRow n s (fun d => d.referenceMissed n)
def execPotentialMasterTimeout (n : Nat) (s : State) := unitRow n s (fun d => d.masterTimeout n)
def execGuardianViolation (n : Nat) (s : State) := unitRow n s (Dev.guardian n)
def execImpositionEntry (dom : Nat) (s : State) := s.run (Dev.impositionEntry dom)

def execSlCharacterReceived (n ch : Nat) (pe fe brk : Bool) (ago : Nat) (s : State) :=
  unitRow n s (fun d => d.slReceived n ch pe fe brk ago)
def execSlCharacterSent (n : Nat) (s : State) := unitRow n s (fun d => d.slSent n)
def execDeLagExpiry (n : Nat) (s : State) := unitRow n s (fun d => d.slLagEnds n)
def execGapThreshold (n : Nat) (s : State) := unitRow n s (fun d => d.slThreshold n)
def execMinimumGapExpiry (n : Nat) (s : State) := unitRow n s (fun d => d.slGapEnds n)
def execRxdHighCharacterTime (n : Nat) (s : State) := unitRow n s (fun d => d.slHigh n)

end Sys2Proof.Machine
end

