-- ==== Sys2Proof/Machine/Start.lean ====
section
/-! DEFINITION. Resets and the start of the part: power-on, PORST#, the full reset, the steps of Table 7.3 to READY, and the warm
restore. -/

namespace Sys2Proof.Machine

/-! ## The full reset (R43, R52, R125, R429, R430, R505, R523) -/

/-- Islands that are in use always (Table 19.1), and TAP. -/
def alwaysInUse (i : Nat) : Bool := decide (i ≤ 0x0A) || i == 0x0F

/-- The counter section of ORR, which a DEVICE_RESET and HIBERNATE leave running: time, its rate, quality and P, and how long
ago a measurement was accepted. -/
def Orr.counters (o : Orr) : Orr :=
  { at_ := o.at_, ns := o.ns, epoch := o.epoch, quality := o.quality, rate := o.rate, pAt := o.pAt, pns := o.pns, walk := o.walk,
    lastAcc := o.lastAcc }

/-- What the two serial memories hold after a reset: a group that was being written may leave bytes past the journal end. -/
def Alm.afterReset (a : Alm) (torn : Bool) : Alm :=
  { sm := a.sm.map (fun c => { c with valid := false, dirty := c.dirty || (torn && c.valid) }),
    aonGen := a.aonGen, restore := a.restore, changed := a.changed }

/-- Everything the islands held is gone; what lies in the flash, the serial memories and the one-time memory stays, and AON and the
counter section of ORR as far as `keepTime` and `keepAlarm` say. Every island is in reset with `cause`. -/
def Dev.fullReset (d : Dev) (cause : Nat) (keepTime keepAlarm : Bool) : Dev :=
  let d := ((if d.timeOn then d.timeStops else d).orrReset).accountPwr.typCutOff
  let (x, d) := d.draw
  let t := d.typ
  let p := d.pwr
  { free := d.free
    tick := if keepTime then d.tick else 0
    islands := islandTable.map (fun (i : Island) =>
      if (i.id == 0x0F || i.id == 0) && keepTime then d.island i.id
      else { i with cause := cause, st := if i.id == 0 then 2 else if alwaysInUse i.id then 1 else 0 })
    start := { phase := .released, bootSel := d.start.bootSel, hostSel := d.start.hostSel, cause := d.start.cause,
               porstHigh := d.start.porstHigh, since := if keepTime then d.tick else 0, osc32k := d.start.osc32k,
               bankClass := d.start.bankClass, trstLow := d.start.trstLow }
    alm := d.alm.afterReset (!d.alm.ops.isEmpty && x % 2 == 1)
    typ := { banks := t.banks.map (fun b => { b with op := none, requests := [] }), dgen := t.dgen, dirCur := t.dirCur,
             patches := t.patches, slots := t.slots, sets := t.sets, restoreHalf := t.restoreHalf }
    sec := { revoked := d.sec.revoked }
    orr := if keepTime then d.orr.counters else {}
    pwr := { times := p.times, since := if keepTime then p.since else 0, alarm := if keepAlarm then p.alarm else none, wakePins := p.wakePins,
             pwrEn := p.pwrEn, enSince := p.enSince, lastWake := p.lastWake, attempts := p.attempts } }

/-- PORST# is high, and VDD_AON and VDD_CORE are there: the TAP has its supply and no reset but TRST#. -/
def Dev.tapOn (d : Dev) : Bool :=
  d.start.phase != .aonOff && d.start.phase != .porstLow && d.start.phase != .railBad

/-- The STATE that TAP reads (R588). Its crossing closes while it is in reset (R37), and a reset by TRST# counts in its GEN. -/
def Dev.tapLevel (d : Dev) : Dev :=
  let low := d.start.trstLow || !d.tapOn
  let was := (d.island 0x0F).st
  if low && was == 2 then
    ((d.closeCrossings 0x0F).resetHalves 0x0F).setIsland 0x0F (fun i => { i with
      st := 1, gen := if d.tapOn then (i.gen + 1) % 4096 else i.gen })
  else if !low && was == 1 then
    let d := d.setIsland 0x0F (fun i => { i with st := 2 })
    if d.islandUp 0x01 then d.openCrossings 0x0F else d
  else d

/-- The state while PORST# is low or VDD_AON comes up: the counts of R523 and the alarm go as well (R514, R523, R560). -/
def Dev.coldReset (d : Dev) : Dev :=
  let d := d.fullReset 0 false false
  { d with pwr := { wakePins := d.pwr.wakePins, pwrEn := d.pwr.pwrEn, enSince := 0 } }

/-- VDD_AON_POWER_ON: 1 ms after VDD_AON is within tolerance the straps are latched if PORST# is high, and PWR_EN rises
(R16, R164, R578). -/
def Dev.vddAonOn (boot host : Nat) (porstHigh : Bool) (d : Dev) : Dev :=
  if d.start.phase != .aonOff then d
  else
    let d := d.coldReset
    let d := { d with pwr := { d.pwr with pwrEn := true } }
    let s := d.start
    ({ d with start := if porstHigh
      then { s with phase := .released, bootSel := boot % 4, hostSel := host % 4, cause := 0, porstHigh := true }
      else { s with phase := .porstLow, porstHigh := false } } : Dev).tapLevel

/-- PORST# low for at least 10 µs (R560). AON itself is reset, which ends a HIBERNATE: PWR_EN is low only there (R16). -/
def Dev.porstAssert (d : Dev) : Dev :=
  if d.start.phase == .aonOff then d
  else
    let d := d.coldReset
    ({ d with start := { d.start with phase := .porstLow, porstHigh := false }, pwr := { d.pwr with pwrEn := true } } : Dev).tapLevel

/-- PORST_RELEASE: the straps are latched bit by bit, and a start begins (R164). -/
def Dev.porstRelease (boot host : Nat) (d : Dev) : Dev :=
  if d.start.phase != .porstLow then d
  else
    ({ d with start := { d.start with phase := .released, bootSel := boot % 4, hostSel := host % 4, cause := 0, porstHigh := true,
                                      since := d.tick } } : Dev).tapLevel

/-- LOSS_OF_POWER: VDD_AON leaves tolerance (R52). -/
def Dev.powerLost (d : Dev) : Dev :=
  let d := d.coldReset
  ({ d with start := { d.start with phase := .aonOff, osc32k := false, porstHigh := false, bootSel := 0, hostSel := 0 },
            pwr := { d.pwr with pwrEn := false } } : Dev).tapLevel

/-- OSCILLATOR_START (R577): an alarm due by now fires. -/
def Dev.oscStart (d : Dev) : Dev :=
  if d.start.phase == .aonOff then d
  else
    let d := { d with start := { d.start with osc32k := true } }
    match d.alarmTick with
    | some t => if t ≤ d.tick then d.alarmDue else d
    | none => d

/-- SUPPLY_FAULT of VDD_CORE or VDD_FL (R53): no further commit; every island except AON is held in reset. What is left of the time
to the alarm goes on in AON (R514). -/
def Dev.coreRailFault (d : Dev) : Dev :=
  let left := d.alarmTick.map (fun t => t - d.tick)
  let d := d.fullReset 0 false true
  { d with start := { d.start with phase := .railBad },
           pwr := { d.pwr with alarm := left.map (fun t => { at_ := t }) } }

/-- CORE_RAIL_RESTART (R53): the start cause is 0x03. -/
def Dev.coreRailRestart (d : Dev) : Dev :=
  if d.start.phase != .railBad then d
  else ({ d with start := { d.start with phase := .released, cause := 3, since := d.tick } } : Dev).tapLevel

/-! ## Steps 1 to 3 -/

/-- The class of a bank's supply in mV (Table 23.4): 1 for 1.8 V, 2 for 2.5 V, 3 for 3.3 V, 0 for none. -/
def bankClassOf (bank mv : Nat) : Nat :=
  if 1620 ≤ mv && mv ≤ 2100 then 1
  else if 2200 ≤ mv && mv ≤ 2800 then (if bank == 3 then 0 else 2)
  else if 2950 ≤ mv && mv ≤ 3650 then 3
  else 0

/-- The first island of each bank, which the fault event of a bank without a class names. -/
def bankFirst (b : Nat) : Nat := [0x10, 0x13, 0x04, 0x20].getD b 0

/-- Step 1 (R42, R561, R569): the log and the counters are cleared first (R533). -/
def Dev.startStep1 (x : StartIn) (d : Dev) : Dev :=
  let d := { d with svc := {} }
  let d := { d with start := { d.start with
    refXtal := decide (x.edges < 16), refPresent := true,
    bankClass := (List.range 4).map (fun b => bankClassOf b (x.supplies.getD b 0)) } }
  let d := if x.refLate != 0 then d.episode (fun d => d.logFault 10 0x00 0x09 1 0 0) else d
  forN 4 d (fun d b =>
    if d.start.bankClass.getD b 0 == 0 then d.episode (fun d => d.logFault 10 (bankFirst b) 0x09 2 0 0) else d)

/-- Step 2: SRAM and self-test, the key slots (R537), the release of the islands (R554). A self-test that fails is F5. -/
def Dev.startStep2 (x : StartIn) (gen cause : Nat) (d : Dev) : Dev :=
  let d := forN (min x.testFails 2) d (fun d _ => d.episode (fun d => d.logFault 5 0x01 0x07 0 0 0))
  if 2 ≤ x.testFails then { d with start := { d.start with phase := .dead } }
  else
    let d := { d with islands := d.islands.map (fun (i : Island) => if i.st == 1 && i.id != 0x0F then
        { i with st := 2, gen := gen, cause := cause } else i) }
    let d := forEach islandIds d (fun d i => if d.islandUp i then d.openCrossings i else d)
    let d := { d with start := { d.start with resetOutHigh := true }, sec := { d.sec with bad := x.badKeys } }
    forEach x.badEngines d (fun d p => d.setPe p (fun e => { e with status := 5 }))

/-- The bytes of a patch area: bank 0's, or bank 1's where a word of it cannot be read. -/
def Dev.patchBytes (d : Dev) (a : Nat) : List Byte :=
  let e := d.typ.patches.getD a {}
  let bad := (List.range (sectorsOf e.length)).any (fun i => (d.bank 0).sectorBad (46 + 32 * a + i))
  (d.bank (b2n bad)).bytes (46 + 32 * a) 0 e.length

/-- A patch passes its check (R170); a warm restore checks the CRC-32C alone (R173). -/
def Dev.patchOk (d : Dev) (warm : Bool) (a : Nat) : Bool :=
  let b := d.patchBytes a
  if warm then decide (260 ≤ b.length) && (crc32c (b.take (b.length - 4))).toNat == fld b (b.length - 4) 4
  else (d.imageCheck b b.length).isNone

/-- Step 3 (R170): the patch of the higher version first; one that fails is skipped and recorded. -/
def Dev.startStep3 (warm : Bool) (d : Dev) : Dev :=
  if d.start.bootSel == 2 then d
  else
    let p := d.typ.patches
    let order := (if (p.getD 0 {}).version < (p.getD 1 {}).version then [1, 0] else [0, 1]).filter (fun a => (p.getD a {}).st == 2)
    let pick := order.find? (d.patchOk warm)
    let skipped := order.takeWhile (fun a => !(d.patchOk warm a))
    let d := forEach skipped d (fun d a => d.episode (fun d => d.logFault 6 0x06 0x01 3 0 (46 + 32 * a)))
    match pick with
    | some a => { d with alm := { d.alm with patchVersion := (p.getD a {}).version } }
    | none => d

/-! ## Steps 4 and 5: the serial memories (R174, R175, R180, R189, Table 7.11) -/

/-- The records up to the last commit record. -/
def toCommit (js : List Rec) : List Rec := (js.reverse.dropWhile (fun r => r.type != 2)).reverse

/-- What a memory is found to be: 0 absent, 1 unusable, 2 blank, 3 foreign, 4 broken, 5 valid. -/
def SmCopy.see (c : SmCopy) : SmSeen → Nat × SmCopy
  | .asLeft => (if !c.fitted then 0 else if !c.usable then 1 else if c.blank then 2 else 5, c)
  | .absent => (0, { fitted := false, capacity := 0 })
  | .unusable => (1, { usable := false })
  | .blank f n => (2, { fram := f, capacity := if f then 262144 else min n 67108864 })
  | .foreign f n => (3, { fram := f, capacity := if f then 262144 else min n 67108864 })
  | .readable n broken =>
    if !c.fitted then (0, c) else if !c.usable then (1, c) else if c.blank then (2, c)
    else
      let j := toCommit (c.journal.take n)
      (if broken then 4 else 5, { c with journal := j, dirty := c.dirty || broken || decide (j.length < min n c.journal.length) })

/-- SEQ of the last commit record that is no compaction's. -/
def SmCopy.high (c : SmCopy) : Nat := c.journal.foldl (fun a r => if r.type == 2 && r.flags / 2 % 2 == 0 then r.seq else a) 0
def SmCopy.last (c : SmCopy) : Nat := c.journal.foldl (fun a r => max a r.seq) 0

/-- The first SEQ at which both journals have a record and the records differ. -/
def SmCopy.differs (a b : SmCopy) : Option Nat :=
  (a.journal.find? (fun r => b.journal.any (fun q => q.seq == r.seq && q != r))).map (·.seq)

/-- Table 7.11: the copy chosen, and the repairs after READY (copy, full or catch-up). -/
def chooseCopy (k0 k1 : Nat) (c0 c1 : SmCopy) : Option Nat × List (Nat × Bool) :=
  let repair (i k : Nat) : List (Nat × Bool) := if 2 ≤ k && k ≤ 4 then [(i, true)] else []
  if k0 == 5 && k1 == 5 then
    if c0.high < c1.high then (some 1, [(0, false)])
    else if c1.high < c0.high then (some 0, [(1, false)])
    else (some 0, if (SmCopy.differs c0 c1).isSome then [(1, true)] else [])
  else if k0 == 5 then (some 0, repair 1 k1)
  else if k1 == 5 then (some 1, repair 0 k0)
  else if k0 == 4 && k1 == 4 then (if c0.high < c1.high then (some 1, [(0, true)]) else (some 0, [(1, true)]))
  else if k0 == 4 then (some 0, repair 1 k1)
  else if k1 == 4 then (some 1, repair 0 k0)
  else (none, repair 0 k0 ++ repair 1 k1)

/-- The last save of a journal: count, imposition set, configuration and enabled functions. -/
def lastSave (js : List Rec) : Option (Nat × Nat × RunCfg × List Nat) :=
  js.foldl (fun a r => match r.body with
    | .save n _ g c on => some (n, g, c, on)
    | _ => a) none

/-- An F6 of a serial memory found at the start. -/
def Dev.smStartFault (d : Dev) (i seq : Nat) : Dev := d.episode (fun d => d.logFault 6 0x05 0x01 (i + 1) 0 seq)

/-- Steps 4 and 5. Answers the copies found valid and the repairs after READY. -/
def Dev.startStep5 (x : StartIn) (d : Dev) : Nat × List (Nat × Bool) × Dev :=
  let (k0, c0) := (d.alm.copy 0).see (x.sm.getD 0 .asLeft)
  let (k1, c1) := (d.alm.copy 1).see (x.sm.getD 1 .asLeft)
  let (chosen, after) := chooseCopy k0 k1 c0 c1
  let bad (d : Dev) (i k : Nat) (c : SmCopy) : Dev := if k == 1 then d.smStartFault i 0 else if k == 4 then d.smStartFault i c.high else d
  let d := bad (bad d 0 k0 c0) 1 k1 c1
  let d := match k0 == 5 && k1 == 5 && c0.high == c1.high, SmCopy.differs c0 c1 with
    | true, some q => d.smStartFault 1 q
    | _, _ => d
  let valid (i k : Nat) : Bool := (k == 5 || chosen == some i) && !(after.any (fun r => r.1 == i))
  let cs := [{ c0 with valid := valid 0 k0 }, { c1 with valid := valid 1 k1 }]
  let top := max (if 4 ≤ k0 then c0.last else 0) (if 4 ≤ k1 then c1.last else 0)
  let a := { d.alm with sm := cs, primary := chosen, nextSeq := if top == 0 then 0 else top + 1 }
  let a := match lastSave a.journal with
    | some (n, g, c, on) => { a with saveCount := n, savedSgen := g, saved := c, savedOn := on }
    | none => a
  (b2n (k0 == 5) + 2 * b2n (k1 == 5), after, { d with alm := a })

/-! ## Step 6: the saved configuration (R119, R215, R493) -/

/-- The table of a domain as an imposition set holds it: bank 0's copy, else bank 1's, if its CRC-32C verifies. -/
def Dev.savedTable (d : Dev) (set : Nat) (e : DirSet) (dom : Nat) : Option Mem :=
  let try_ (b : Nat) : Option Mem :=
    let bs := (d.bank b).bytes (34 + 6 * set + dom) 0 4096
    if (crc32c bs).toNat == e.crcs.getD dom 0 && !((d.bank b).sectorBad (34 + 6 * set + dom)) then some (Mem.setBytes 0 [] 0 bs)
    else none
  (try_ 0).or (try_ 1)

/-- Both tables of every domain hold the set that the saved configuration names; where a copy cannot be read from either bank
they are empty, with a fault event of class 6 (08, After a fault). -/
def Dev.stageSet (d : Dev) : Dev :=
  match (List.range 2).find? (fun i => (d.typ.sets.getD i {}).st != 0 && (d.typ.sets.getD i {}).sgen == d.alm.savedSgen) with
  | none => d
  | some i =>
    let tabs := (List.range 6).map (d.savedTable i (d.typ.sets.getD i {}))
    let d := if tabs.any (·.isNone) then d.episode (fun d => d.logFault 6 0x06 0x01 3 0 (34 + 6 * i)) else d
    { d with doms := tabs.map (fun t => let m := t.getD tblEmpty
                                        { active := m, standby := m, committed := m }) }

/-- A section that holds a value its opcode would refuse is replaced by the defaults of its class (R592): a MAC whose mode the
bank's class of this start does not allow. -/
def Dev.checkSections (d : Dev) : Dev :=
  forN 6 d (fun d n =>
    let m := d.cfg.macs.getD n {}
    let k := d.start.bankClass.getD (n / 3) 0
    if d.cfg.present.contains (0x10 + n) && m.mode != 0 && k != 0 && (m.bad k).isSome then
      let d := { d with cfg := { d.cfg with macs := upd d.cfg.macs n (fun _ => {}), present := d.cfg.present.filter (· != 0x10 + n) },
                        alm := { d.alm with savedOn := d.alm.savedOn.filter (· != macFid n) } }
      d.episode (fun d => d.logFault 6 0x05 0x09 ((d.alm.primary.getD 0) + 1) (macFid n) 0)
    else d)

/-- Step 6: the configuration is committed in every island: the switch's static entries and galleys, and the transit pulses. In
Safe mode the defaults stand. -/
def Dev.startStep6 (warm : Bool) (d : Dev) : Dev :=
  if d.start.bootSel == 2 then d
  else
    let (c, on) := match warm, d.alm.restore with
      | true, some (c, on, _) => (c, on)
      | _, _ => (d.alm.saved, d.alm.savedOn)
    let d := { d with cfg := c, alm := { d.alm with savedOn := on } }
    let d := d.checkSections.stageSet
    let d := forEach c.fdb d (fun d e => match d.swc.placeFdb (leb 6 e.mac) e.vid with
      | some i => d.setSwc (fun s => s.setWay i (some { mac := e.mac, vid := e.vid, mask := e.mask, static := true }))
      | none => d)
    let d := d.setSwc (fun s => { s with gal := c.galleys })
    forN 2 d (fun d i => d.pulseConfig i (c.time.pulse.getD i {}))

/-! ## Steps 7 and 8 -/

/-- Step 7 (R171): armed spares are put aside, and every bound logical engine is placed and loaded. Answers how many loaded. -/
def Dev.startStep7 (d : Dev) : Nat × Dev :=
  let d := forN 12 d (fun d l => match (d.leCfg l).spare with
    | some q =>
      if (d.pe q).status == 0 then
        ((d.powerOn (peIsland q)).setPe q (fun e => { e with status := 2, le := some l })).setLe l (fun x => { x with spare := some q })
      else d
    | none => d)
  forN 12 (0, d) (fun (n, d) l =>
    if !(d.leCfg l).bound then (n, d)
    else
      let (bad, d1) := d.leBegin l
      if bad != 0 then (n, d)
      else match (d1.le l).pe with
        | some p => (n + 1, ((d1.openCrossings (peIsland p)).loadPe l p).setLe l (fun x => { x with loading := false }))
        | none => (n, d))

/-- Step 8: READY is event 0; after it the wake event, the faults of the start in order, and the functions that the saved
configuration enables (R167, R169, R517, R520, R533); then the repairs of the copies and of the directory (R189, R210). -/
def Dev.startStep8 (x : StartIn) (copies loaded : Nat) (after : List (Nat × Bool)) (d : Dev) : Dev :=
  let us := x.elapsed / 1000
  let d := d.advanceTo (d.start.since + (x.elapsed - x.refLate))
  let d := { d with start := { d.start with phase := .ready } }
  let d := d.pushEvent 0xF000 0 (leb 1 d.start.cause ++ leb 1 copies ++ leb 1 loaded ++ [0#8] ++ leb 4 us) false
  let d := match d.pwr.wakeEvent with
    | some (src, left, result) =>
      (d.setPwr (fun p => { p with wakeEvent := none, lastWake := src })).emit 0xF007 0 (leb 1 src ++ leb 1 left ++ leb 2 result)
    | none => d
  let d := d.sendLate
  let d := if d.pwr.attempts != 0 then
      (d.episode (fun d => d.logFault 10 0x00 0x09 2 0 d.pwr.attempts)).setPwr (fun p => { p with attempts := 0 })
    else d
  let on := if d.start.bootSel == 2 then [] else funcIds.filter (fun f => d.alm.savedOn.contains f)
  let d := forEach on d (fun d f => d.startFunc f 2 6)
  let d := forEach after d (fun d r => d.beginResilver r.1 r.2 none)
  let d := if d.typ.dgen != 0 && (d.bank 1).bytes (d.typ.dirCur.getD 1 0) 0 4096 != d.typ.dirBytes d.typ.dgen then
      d.pushJob { goal := .dirCopy } else d
  d.typRun

/-- The start sequence (R166, Table 7.3) from a part in reset. `warm` is the warm restore of R173. -/
def Dev.startSeq (x : StartIn) (warm : Bool) (gen cause : Nat) (d : Dev) : Dev :=
  let d := d.startStep1 x
  if d.start.bootSel == 3 then { d with start := { d.start with phase := .hold } }
  else
    let d := d.startStep2 x gen cause
    if d.start.phase == .dead then d
    else
      let (copies, after, d) := (d.startStep3 warm).startStep5 x
      let (loaded, d) := (d.startStep6 warm).startStep7
      d.startStep8 x copies loaded after

/-- START: after PORST# or a core-rail restart, or 1 ms after the reply of a DEVICE_RESET (R125), which acts as PORST# but for
AON and the counter section of ORR. -/
def Dev.startRow (x : StartIn) (d : Dev) : Dev :=
  match d.start.phase, d.verind.resetReq with
  | .released, _ => d.startSeq x false 0 0
  | .ready, some t =>
    let d := (d.advanceTo (t + 1000000)).fullReset 1 true true
    ({ d with start := { d.start with cause := 1 } } : Dev).startSeq x false 0 1
  | _, _ => d

/-! ## HIBERNATE (R172, R173, R505, R518 to R520) -/

/-- The restore block matches the generation that AON retains, and both copies stand as it says (R173). -/
def Dev.warmOk (x : StartIn) (d : Dev) : Bool :=
  match d.alm.restore with
  | some (_, _, g) => g == d.alm.aonGen && (x.sm.getD 0 .asLeft) == .asLeft && (x.sm.getD 1 .asLeft) == .asLeft
  | none => false

/-- The point of no return (R519 steps 3 and 4): every island but AON is in reset. What the islands held is lost as by a
DEVICE_RESET (R505); AON keeps the alarm, the earliest deadline, the wake configuration and the restore generation. -/
def Dev.hibernate (d : Dev) : Dev :=
  let c := d.cfg.dev
  let first := minList d.hostDeadlines
  let d := (d.orrCarry).fullReset 5 true true
  let d := { d with
    start := { d.start with phase := .hibernate }
    cfg := { d.cfg with dev := { d.cfg.dev with guardUs := c.guardUs, wakeEnable := c.wakeEnable, wakeEdge := c.wakeEdge,
                                                wakeLow := c.wakeLow } }
    islands := d.islands.map (fun (i : Island) => if i.id == 0 || i.id == 0x0F then i else { i with st := 0 })
    pwr := { d.pwr with deadlines := upd d.pwr.deadlines 0 (fun _ => first) } }
  d.pwrTo 4

/-- The switched rails fall (R519 step 5). -/
def Dev.railsFall (d : Dev) : Dev := d.setPwr (fun p => { p with pwrEn := false, enSince := d.tick, raiseAt := none })

/-- A HIBERNATE exit (R173, R520): time goes on from the snapshot (R462), and the part starts with cause 0x02. -/
def Dev.warmStart (x : StartIn) (since : Nat) (d : Dev) : Dev :=
  let warm := d.warmOk x
  let d := (d.pwrTo 0).orrResume
  let d := { d with
    start := { d.start with phase := .released, cause := 2, since := since }
    cfg := {}
    islands := d.islands.map (fun (i : Island) => if i.id == 0 || i.id == 0x0F then i else { i with st := if alwaysInUse i.id then 1 else 0 })
    pwr := { d.pwr with deadlines := List.replicate 8 none } }
  d.startSeq x warm 1 5

end Sys2Proof.Machine
end

