-- ==== Sys2Proof/Machine/Faults.lean ====
section
/-! DEFINITION. Detected faults and what ends their recovery (03, 20): memory errors, hangs, clocks, supplies, heartbeats, drains and
starts that complete or run out of time. -/

namespace Sys2Proof.Machine

/-! ## Memory errors (R49, R57, R71, R184, R216, R232, Table 3.5) -/

/-- F1: corrected in place and counted; no record and no event (R530). -/
def Dev.corrected (n : Nat) (d : Dev) : Dev := { d with svc := { d.svc with corrected := wrap32 (d.svc.corrected + n) } }

/-- F2 is counted (Table 20.6). -/
def Dev.countF2 (d : Dev) : Dev := { d with svc := { d.svc with uncorrectable := wrap32 (d.svc.uncorrectable + 1) } }

/-- The function that writes a plate, for a fault record. -/
def Dev.plateFid (d : Dev) (p : Nat) : Nat :=
  match d.plateWriter p with
  | some l => leFid l
  | none => 0

/-- A rollback of class 2, recorded where it discarded or cut short something (R77). -/
def Dev.rollbackF2 (island kind inst fid : Nat) (x : Bool × Dev) : Dev :=
  if x.1 then x.2.episode (fun d => d.logFault 2 island 2 0 fid (resDetail kind inst)) else x.2

/-- The head entry at index `idx` of a ring becomes a skip entry that spans its item, which is a fault discard; a reservation that
is not published is abandoned (Table 3.5). -/
def Dev.ringEntryF2 (d : Dev) (r idx : Nat) : Bool × Dev :=
  let c := d.ringCfg r
  let x := d.ring r
  match x.resv.find? (fun v => v.idx == idx && !v.done) with
  | some v => (true, d.ringSkip r v.id)
  | none =>
    let off := (idx + 65536 - x.ci) % 65536
    let b := Mem.getBytes 0 d.hst.mem (c.at idx) 4
    if c.entries == 0 || x.count ≤ off || byteAt b 0 != 1 then (false, d)
    else
      let m := writeEntries c d.hst.mem idx (skipBytes (itemEntries (fld b 2 2)) d.tick)
      (true, (d.setHst (fun h => { h with mem := m })).discard 1)

/-- A message object: the shadow copy if it holds a whole frame, otherwise the content at the object's configuration commit with
LOST set. -/
def Dev.objectF2 (d : Dev) (n k : Nat) : Dev :=
  if (d.mbObj n k).shadow.isSome then d.unshadow n k false
  else d.setObj n k (fun o => { o with content := zeros 76, new := false, lost := true })

/-- An entry of an open ring becomes VOID, and its bytes past FLAGS are 0 (15, After a fault). -/
def Dev.openRingF2 (d : Dev) (n i : Nat) : Bool × Dev :=
  let e := (d.mbCfg n).entries
  let m := d.mb n
  if e == 0 || d.mbCount n ≤ (i + 64 * e - m.ci) % (64 * e) then (false, d)
  else
    let a := (i % e) * 80
    let flags := (Mem.get 0 m.ring (a + 9)).toNat % 128 + 128
    let ring := Mem.setBytes 0 (Mem.clear m.ring (a + 10) 70) (a + 9) [BitVec.ofNat 8 flags]
    (true, (d.setMb n (fun m => { m with ring := ring })).discard 1)

/-- An uncorrectable SECDED read (R71): the item rolls back per Table 3.5. -/
def Dev.uncorrectable (x : MemItem) (d0 : Dev) : Dev :=
  let d := d0.faultWakes.countF2
  match x with
  | .plateWrite p => Dev.rollbackF2 0x07 4 p (d.plateFid p) (d.discardWrite p)
  | .plateCommitted p =>
    if (d.plate p).declared then Dev.rollbackF2 0x07 4 p (d.plateFid p) (true, d.restorePlate p) else d
  | .plateBoth p =>
    if !(d.plate p).declared then d
    else
      let fid := d.plateFid p
      let d := Dev.rollbackF2 0x07 4 p fid (true, ((d.restorePlate p).discardWrite p).2)
      if fid == 0 then d else (d.setFunc fid (fun f => { f with recovering := true })).funcFault fid 2 0 0 0 false
  | .frame id => Dev.rollbackF2 0x08 0 0 0 (d.frameF2 id)
  | .ringEntry r idx => Dev.rollbackF2 0x04 7 r (ringFid r) (d.ringEntryF2 r idx)
  | .object n k => Dev.rollbackF2 (mbIsland n) 5 (128 * n + k) (mbFid n) (true, d.objectF2 n k)
  | .openRing n i => Dev.rollbackF2 (mbIsland n) 0 0 (mbFid n) (d.openRingF2 n i)
  | .standby k =>
    Dev.rollbackF2 (if k < 2 then frIsland k else mbIsland (k - 2)) 9 k (if k < 2 then frFid k else mbFid (k - 2))
      (true, { d with doms := upd d.doms k (fun x => { x with standby := x.committed }) })
  | .journalCache => d.episode (fun d => d.logFault 2 0x05 1 0 0 0)
  | .engine p => if (d.pe p).running then d.engineFault p 3 0x08 else d
  | .flashWord b w =>
    let k := d.bank b
    let s := ((List.range 992).find? (fun s => k.phys s == w / 256)).getD (w / 256)
    (d.setBank b (fun k => { k with bad := k.bad.filter (· != w) ++ [w] })).episode
      (fun d => d.logFault 6 0x06 1 3 0 (b * 0x400 + s))
  | .copied => d

/-- Committed content of a bank (R203): a sector of the directory in force, of the restore half in force, of an imposition set, a
patch or an image that the directory names. -/
def Dev.committedSector (d : Dev) (b s : Nat) : Bool :=
  let t := d.typ
  s == t.dirCur.getD b 0 ||
  (d.alm.restore.isSome && decide (2 + 16 * t.restoreHalf ≤ s) && decide (s < 18 + 16 * t.restoreHalf)) ||
  (List.range 2).any (fun i => (t.sets.getD i {}).st != 0 && decide (34 + 6 * i ≤ s) && decide (s < 40 + 6 * i)) ||
  (List.range 2).any (fun a => (t.patches.getD a {}).st == 2 && decide (46 + 32 * a ≤ s) &&
    decide (s < 46 + 32 * a + sectorsOf (t.patches.getD a {}).length)) ||
  t.slots.any (fun e => e.st == 2 && decide (e.first b ≤ s) && decide (s < e.first b + sectorsOf e.length))

/-- PATROL_READ of a sector (R216): words found uncorrectable, by their number in the sector, and words corrected. The sector is
refreshed from the other bank's copy where that reads whole. An image slot whose copies differ in place is copied by page. -/
def Dev.patrol (b s : Nat) (bad : List Nat) (n : Nat) (d : Dev) : Dev :=
  let k := d.bank b
  if 2 ≤ b || k.op.isSome || !(d.committedSector b s) then d
  else
    let d := forEach bad (d.corrected n) (fun d w => d.uncorrectable (.flashWord b (k.phys s * 256 + w % 256)))
    if (!bad.isEmpty || 8 < n) && !((d.bank (1 - b)).sectorBad (d.otherSector b s)) then
      (d.pushJob { goal := .refresh b s }).typRun
    else d

/-- SRAM_SCRUB: words corrected, and words that cannot be. -/
def Dev.scrub (n : Nat) (bad : List MemItem) (d : Dev) : Dev := forEach bad (d.corrected n) (fun d x => d.uncorrectable x)

/-! ## Hangs, clocks, the reference, supplies (R35, R36, R41, R42, R53, R73) -/

/-- A hang of an island (F4): its HANG flag, its fence. -/
def Dev.hang (i : Nat) (d : Dev) : Dev :=
  if (d.island i).st == 2 || (d.island i).st == 3 then (d.setIsland i (fun x => { x with hang := true })).islandFault i 4 0 else d

/-- The probes run: in RUN and DOZE, after READY, while the Compositor does not restart (R44, R522). -/
def Dev.probing (d : Dev) : Bool := d.start.phase == .ready && !d.cmp.restarting && decide (d.pwr.st ≤ 1)

/-- LIVENESS_PROBE: an island that answers neither probe in two hang timeouts is in hang (R36). -/
def Dev.probe (silent : List Nat) (d : Dev) : Dev :=
  if !d.probing then d
  else
    let t := d.tick + 2 * usNs d.cfg.dev.hangUs
    forEach (silent.filter (fun i => d.islandUp i && i != 0x00)) d (fun d i => (d.advanceTo t).hang i)

/-- A PLL that loses lock, or runs off by more than 2 % (R41). -/
def Dev.clockFault (i : Nat) (d : Dev) : Dev :=
  if (d.island i).st == 2 || (d.island i).st == 3 then (d.setIsland i (fun x => { x with clkf := true })).islandFault i 10 1 else d

/-- The time service measures against the reference: it is ON under a profile, and no transparent clock alone (R460, R463). -/
def Dev.measuresTime (d : Dev) : Bool := d.timeOn && d.cfg.time.profile != 0 && d.cfg.time.clockType != 3

/-- F10 on the 25 MHz reference (R42, R460); no frequency error is declared before the oscillator has started (R577). -/
def Dev.referenceFault (d : Dev) : Dev :=
  if !d.start.refPresent || !d.start.osc32k || d.pwr.st == 4 || d.start.phase == .aonOff || d.start.phase == .porstLow then d
  else
    let d := { d.faultWakes with start := { d.start with refPresent := false } }
    let d := d.episode (fun d => d.logFault 10 0x00 9 1 0 0)
    if d.start.phase != .ready then d
    else
      let d := d.setOrr (fun o => { o with refLost := true })
      if d.measuresTime then d.enterOcc else d

/-- The reference returns: measurements of time go on (R42). -/
def Dev.referenceReturn (d : Dev) : Dev :=
  { d with start := { d.start with refPresent := true }, orr := { d.orr with refLost := false } }

/-- F10 of a supply (R53, R552): a core rail stops all commits; a bank fences its islands. -/
def Dev.supplyFault (r : Rail) (d : Dev) : Dev :=
  match r with
  | .core =>
    if d.pwr.st == 4 || d.start.phase == .aonOff || d.start.phase == .porstLow then d else d.coreRailFault
  | .bank b =>
    if 4 ≤ b || d.start.phase != .ready || d.start.supplyBad.getD b false || d.start.bankClass.getD b 0 == 0 then d
    else
      let d := { d with start := { d.start with supplyBad := upd d.start.supplyBad b (fun _ => true) } }
      forEach (bankIslands b) d (fun d i =>
        if (d.island i).st == 2 || (d.island i).st == 3 then d.islandFault i 10 2 else d)

/-- A bank's supply returns: its fenced islands are reset and their functions restart (R70, R552). -/
def Dev.supplyReturn (b : Nat) (d : Dev) : Dev :=
  if 4 ≤ b || !(d.start.supplyBad.getD b false) then d
  else
    let d := { d with start := { d.start with supplyBad := upd d.start.supplyBad b (fun _ => false) } }
    forEach (bankIslands b) d Dev.islandReset

/-- LOCKSTEP_MISMATCH (F5). -/
def Dev.lockstep (d : Dev) : Dev := if d.start.phase == .ready then d.compositorFault 5 0x01 else d

/-- HEARTBEAT (R73): AON declares F5 at the fourth in a row that it misses. -/
def Dev.heartbeat (missed : Bool) (d : Dev) : Dev :=
  if !d.probing then d
  else if !missed then { d with cmp := { d.cmp with missed := 0 } }
  else
    let d := { d with cmp := { d.cmp with missed := d.cmp.missed + 1 } }
    if 4 ≤ d.cmp.missed then d.compositorFault 5 0x01 else d

/-! ## Ends of starts and drains (R107, R108) -/

/-- Frames that wait for a forme ring's two switch ports after 2 ms are discarded, counted as galley-full drops (R467). -/
def Dev.frClears (d : Dev) (r : Nat) : Dev :=
  let ports := [d.macPort (2 * r), d.macPort (2 * r + 1)]
  let d := forEach (ports.flatMap (fun p => (List.range 8).map (fun c => (p, c)))) d (fun d pc =>
    let n := ((d.swc.galley (pc.1 * 8 + pc.2)).filter (fun e => e.mirror.isNone)).length
    let d := forN n d (fun d _ => d.countFull pc.1 pc.2)
    d.setSwc (fun s => s.setGalley (pc.1 * 8 + pc.2) (fun _ => [])))
  d.collect.pauseAll

/-- FUNCTION_START_COMPLETE: a function in STARTING, but for a logical engine, whose load ends it, reaches ON. -/
def Dev.startComplete (fid : Nat) (d : Dev) : Dev :=
  if (d.func fid).st != 1 || fclass fid == 4 then d
  else (if fclass fid == 5 then d.frClears (finst fid) else d).reachOn fid

/-- A MAC whose drain ends with pause asserted and its link up sends pause with quanta 0 (R342). -/
def Dev.lastPause (d : Dev) (m : Nat) : Dev :=
  if (d.mac m).asserted && (d.mac m).linkUp then
    (d.setMac m (fun x => { x with asserted := false, pausePend := none, sent := d.pauseFrame m 0 })).countMac m 10 1
  else d

/-- DRAIN_COMPLETE: the work of a function in DRAINING has ended. -/
def Dev.drainComplete (fid : Nat) (d : Dev) : Dev :=
  if (d.func fid).st != 3 || !(d.drained fid) then d
  else (if fclass fid == 1 then d.lastPause (finst fid) else d).reachOff fid 0

/-- DRAIN_LIMIT_EXPIRY: a commanded fence ends the drain, without record or fault event, with CAUSE 0x02 (R108). -/
def Dev.drainExpiry (fid : Nat) (d : Dev) : Dev :=
  let f := d.func fid
  if f.st != 3 then d
  else
    let d := d.advanceTo f.limit
    (d.fenceBody fid 4 (d.funcIsland fid) 0 0 false false).reachOff fid 2

/-- START_LIMIT_EXPIRY: F4 on the function's island, or on island 0xFF (R108, R591). -/
def Dev.startExpiry (fid : Nat) (d : Dev) : Dev :=
  let f := d.func fid
  if f.st != 1 then d else (d.advanceTo f.limit).funcFault fid 4 0 0 0 false

end Sys2Proof.Machine
end

