-- ==== Sys2Proof/Machine/Tap.lean ====
section
/-! DEFINITION. The TAP (21, 22): the public instructions, the debug lock's private ones, and Test-Logic-Reset. -/

namespace Sys2Proof.Machine

/-- Test-Logic-Reset (R564; Table 21.9): IDCODE is selected, and DBG_FLOG begins again at the oldest record. -/
def Tap.reset (t : Tap) : Tap := { t with ir := 2, dr := [], flogIndex := 0 }

/-- An instruction is selected, and its data register captures. -/
def Tap.select (t : Tap) (ir : Nat) (dr : List Byte) : Tap := { t with ir := ir, dr := dr }

/-- Cells as the shift register holds them, the first in bit 0. -/
def cellBytes (cells : List Bool) : List Byte := leb 38 (cells.foldr (fun b a => 2 * a + b2n b) 0)

/-- The boundary register takes 300 cells. -/
def Tap.load (t : Tap) (cells : List Bool) : Tap := { t with boundary := (cells ++ List.replicate 300 false).take 300 }

/-- The TAP takes instructions while it has its supply, which a HIBERNATE takes away, and PORST# is high. An instruction comes with
TRST# high. -/
def tapRun (f : Tap → Dev → Tap × Dev) (t : Tap) (d : Dev) : Tap × Dev :=
  if !d.tapOn || (d.start.phase == .hibernate && !d.pwr.pwrEn) then (t, d)
  else f t (({ d with start := { d.start with trstLow := false } } : Dev).tapLevel)

/-- An instruction that captures fixed bytes. -/
def tapFixed (ir : Nat) (dr : List Byte) (t : Tap) (d : Dev) : Tap × Dev := (t.select ir dr, d)

/-- SAMPLE/PRELOAD: the balls are sampled, and the cells loaded (R565). -/
def samplePreload (pins cells : List Bool) (t : Tap) (d : Dev) : Tap × Dev :=
  ((t.select 1 (cellBytes (pins.take 300))).load cells, d)

/-- EXTEST acts in Hold mode, and is BYPASS elsewhere (R565). -/
def extest (pins cells : List Bool) (t : Tap) (d : Dev) : Tap × Dev :=
  if d.start.phase == .hold then ((t.select 0 (cellBytes (pins.take 300))).load cells, d) else (t.select 0 [0#8], d)

/-- TEST_LOGIC_RESET: by TRST# low, or by TMS (R564). -/
def testLogicReset (low : Bool) (t : Tap) (d : Dev) : Tap × Dev :=
  if d.start.phase == .aonOff then (t, d)
  else (t.reset, ({ d with start := { d.start with trstLow := low } } : Dev).tapLevel)

/-! ## The private instructions (R545 to R548, Table 21.9) -/

/-- The Compositor answers the TAP. -/
def Dev.dbgReach (d : Dev) : Bool := d.start.phase == .ready && !d.cmp.restarting

def ones (n : Nat) : List Byte := List.replicate n 0xFF#8

/-- Bytes that the spec leaves open. -/
def Dev.openBytes (d : Dev) (n : Nat) : List Byte × Dev :=
  ((List.range n).map (fun i => (Config.freeValue (d.free + i)).setWidth 8), { d with free := d.free + n })

/-- DBG_CHAL: the current challenge, which the read does not replace. -/
def dbgChal (t : Tap) (d : Dev) : Tap × Dev :=
  match d.sec.challenge with
  | some (c, _) => (t.select 0x40 ((c ++ zeros 32).take 32), d)
  | none => (t.select 0x40 (d.openBytes 32).1, (d.openBytes 32).2)

/-- DBG_RESP: the response of R547. What the register reads before it is written is open while unlocked. -/
def dbgResp (sig : List Byte) (t : Tap) (d : Dev) : Tap × Dev :=
  let (b, d) := if d.sec.unlocked then d.openBytes 64 else (ones 64, d)
  (t.select 0x41 b, if d.dbgReach then (d.debugResponse ((sig ++ zeros 64).take 64)).2 else d)

/-- A private read of `n` bytes, all ones while locked, and open where the Compositor does not answer. `f` reads the island and byte
address of DBG_ADDR. -/
def dbgRead (ir n : Nat) (f : Dev → Nat → Nat → List Byte × Dev) (t : Tap) (d : Dev) : Tap × Dev :=
  if !d.sec.unlocked then (t.select ir (ones n), d)
  else
    let (b, d) := if d.dbgReach then f d (t.dbgAddr / 2 ^ 32) (t.dbgAddr % 2 ^ 32) else d.openBytes n
    (t.select ir ((b ++ zeros n).take n), d)

/-- A word of the shared buffer; a byte that no frame holds is open. -/
def Dev.dbgSwc (d : Dev) (a : Nat) : List Byte × Dev :=
  let s := a / 256
  match d.swc.frames.find? (fun f => f.slugs.contains s) with
  | some f =>
    let o := (f.slugs.takeWhile (· != s)).length * 256 + a % 256
    if o + 4 ≤ f.bytes.length then (slice f.bytes o 4, d) else d.openBytes 4
  | none => d.openBytes 4

/-- A word of the Typecase, or the status word that an engine read would return. The read records nothing. -/
def Dev.dbgTyp (d : Dev) (a : Nat) : List Byte × Dev :=
  (leb 4 (d.typRead a 4).2.1.toNat, { d with free := max d.free (d.typRead a 4).2.2.free })

/-- The word at an address of an island's readable space (R548). -/
def Dev.dbgWord (d : Dev) (i a : Nat) : List Byte × Dev :=
  let words (m : Mem) (o : Nat) : List Byte × Dev :=
    if d.islandUp i then (Mem.getBytes 0 m o 4, d) else d.openBytes 4
  if 0x30 ≤ i && i ≤ 0x3D && a < 0x18000 then
    if a < 0x10000 then words (d.pe (i - 0x30)).iram a else words (d.pe (i - 0x30)).dram (dramOff a)
  else if i == 0x07 && a < 0x80000 then words d.eng.pim a
  else if i == 0x04 && a < 0x40000 then (leb 4 (d.hostMemWord a), d)
  else if 0x20 ≤ i && i ≤ 0x23 && a < 0x16840 then
    if d.islandUp i then (leb 4 (d.mbMemRead (i - 0x20) a 99).1, d) else d.openBytes 4
  else if i == 0x08 && a < 0x200000 then d.dbgSwc a
  else if i == 0x06 && 0x20000000 ≤ a && a < 0x20800000 then d.dbgTyp (typOff a)
  else (ones 4, d)

/-- DBG_ADDR: the old value is captured, and the new one written. -/
def dbgAddr (v : BitVec 40) (t : Tap) (d : Dev) : Tap × Dev :=
  ({ t.select 0x43 (if d.sec.unlocked then leb 5 t.dbgAddr else ones 5) with dbgAddr := v.toNat / 4 * 4 }, d)

/-- DBG_DATA: the word; after it, where it was read, the address moves on by 4. -/
def dbgData (t : Tap) (d : Dev) : Tap × Dev :=
  let r := dbgRead 0x44 4 Dev.dbgWord t d
  if d.sec.unlocked then
    ({ r.1 with dbgAddr := t.dbgAddr / 2 ^ 32 * 2 ^ 32 + (t.dbgAddr + 4) % 2 ^ 32 }, r.2)
  else r

/-- DBG_ISTAT: status words 0 and 1. -/
def Dev.dbgIstat (d : Dev) (i _ : Nat) : List Byte × Dev :=
  if d.hasIsland i then (d.islandWords (d.island i), if i == 0x0F then d.draw.2 else d) else (ones 8, d)

/-- DBG_FLOG: records in turn from the oldest; all ones after the newest. -/
def dbgFlog (t : Tap) (d : Dev) : Tap × Dev :=
  let r := dbgRead 0x46 32 (fun d _ _ => (((d.svc.log[t.flogIndex]?).map FaultRec.bytes).getD (ones 32), d)) t d
  if d.sec.unlocked && decide (t.flogIndex < d.svc.log.length) then ({ r.1 with flogIndex := t.flogIndex + 1 }, r.2) else r

/-- DBG_XSTAT: whether a crossing of the island is closed, whether a value crossing into it is stale, GEN, and no transaction
outstanding between steps. -/
def Dev.dbgXstat (d : Dev) (i _ : Nat) : List Byte × Dev :=
  if d.hasIsland i then
    let closed := d.crossings.any (fun c => (c.a == xId i || c.b == xId i) && !(d.xOpen c.a c.b))
    (leb 4 (b2n closed * 2 ^ 31 + b2n (d.staleAt i) * 2 ^ 30 + (d.island i).gen % 4096 * 4096), d)
  else (ones 4, d)

end Sys2Proof.Machine
end

