-- ==== Sys2Proof/Machine/RowsStart.lean ====
section
/-! DEFINITION. The rows of power-on, PORST#, the start, the Almanac's memories and the Typecase (1, 7, 8): one meaning per row. -/

namespace Sys2Proof.Machine

/-- Commands that wait for something that has come about go on, and their answers leave. -/
def Dev.resume (d : Dev) : Dev := (Dev.pumpAll execOpcode d).udpOut

/-- START, and what the host sees of it. -/
def Dev.startDone (x : StartIn) (d : Dev) : Dev := (d.startRow x).resume

/-- RESILVERING_END (R189 to R191): discovery (R174) finds an inserted memory's kind and capacity, or that it is unusable (R175). -/
def Dev.resilverRow (i : Nat) (ok fram : Bool) (capacity : Nat) (d : Dev) : Dev :=
  match d.alm.resil.find? (fun r => r.1 == i) with
  | some (_, true, some _) =>
    let usable := fram || decide (262144 ≤ capacity)
    let d := if ok && usable then d.setCopy i (fun c => { c with
        fram := fram, capacity := if fram then 262144 else min capacity 67108864 }) else d
    (d.resilverEnd (ok && usable) i).resume
  | some _ => (d.resilverEnd ok i).resume
  | none => d

/-- PORST_ASSERT: from 10 µs on it resets the part, and below 1 µs it is ignored; what lies between is not specified (R578). -/
def execPorstAssert (ns : Nat) (s : State) : Host.Outcome State Fault Refusal :=
  if ns < 1000 then .next s
  else if ns < 10000 then .fault .porstWidth
  else s.runTap (fun t d => (if d.start.phase == .aonOff then t else t.reset, d.porstAssert))

/-- AON comes up, and with it the TAP (R16, R564). -/
def execVddAonPowerOn (boot host : Nat) (porstHigh : Bool) (s : State) : Host.Outcome State Fault Refusal :=
  s.runTap (fun t d => (if d.start.phase == .aonOff then {} else t, d.vddAonOn boot host porstHigh))
/-- AON goes down, and with it the TAP (R52). -/
def execLossOfPower (s : State) : Host.Outcome State Fault Refusal := s.runTap (fun _ d => ({}, d.powerLost))
def execPorstRelease (boot host : Nat) (s : State) := s.run (Dev.porstRelease boot host)
def execStart (x : StartIn) (s : State) := s.run (Dev.startDone x)
def execOscillatorStart (s : State) := s.run Dev.oscStart
def execCoreRailRestart (s : State) := s.run Dev.coreRailRestart

def execResilveringEnd (sm : Nat) (ok fram : Bool) (capacity : Nat) (s : State) := s.run (Dev.resilverRow sm ok fram capacity)
def execAlmanacGroupCommit (s : State) := s.run (fun d => d.groupCommit.resume)
def execJournalling (s : State) := s.run (fun d => d.journalling.resume)
def execCompactionComplete (s : State) := s.run (fun d => d.compactionDone.resume)
def execSerialMemoryFault (sm : Nat) (s : State) := s.run (fun d => if 1 < sm then d else d.smFault sm)

def execPageProgramComplete (ok : Bool) (s : State) := s.run (fun d => (d.pageDone ok).resume)
def execSectorEraseComplete (ok hot : Bool) (s : State) := s.run (fun d => (d.eraseDone ok hot).resume)
def execStreamedReadComplete (s : State) := s.run (fun d => d.streamDone.resume)
def execTypecaseSuspend (bank : Nat) (s : State) := s.run (fun d => if 1 < bank then d else d.typSuspend bank)
def execTypecaseSuspendLimit (bank : Nat) (s : State) := s.run (fun d => if 1 < bank then d else d.typSuspendLimit bank)
def execPatrolRead (bank sector : Nat) (bad : List Nat) (corrected : Nat) (s : State) := s.run (Dev.patrol bank sector bad corrected)

end Sys2Proof.Machine
end

