-- ==== Sys2Proof/Machine/RowsFault.lean ====
section
/-! DEFINITION. The rows of faults, recovery, lifecycle and the engines' own events (3, 9, 11): one meaning per row. -/

namespace Sys2Proof.Machine

/-- ENGINE_FAULT: F3 of a running engine with a cause of Table 9.9. -/
def Dev.engineRow (p cause : Nat) (d : Dev) : Dev :=
  if (d.pe p).running && 1 ≤ cause && cause ≤ 8 then d.engineFault p 3 cause else d

/-- IMAGE_LOAD_COMPLETE (R284, R287): a primary's load ends in ON, a spare's in waiting for its join cut. -/
def Dev.loadRow (p : Nat) (d : Dev) : Dev :=
  match (d.pe p).le with
  | none => d
  | some l =>
    if (d.le l).pe == some p then
      (if (d.le l).loading && (d.func (leFid l)).st == 1 then (d.leLoaded l p).reachOn (leFid l) else d)
    else if (d.le l).spare == some p && (d.le l).joining == 1 then d.spareLoaded l p
    else d

/-- CUT (R285): where one is due; for a logical engine without a domain the cut tick comes first. -/
def Dev.cutRow (l : Nat) (d : Dev) : Dev :=
  if 11 < l then d
  else if (d.le l).dom == 0xFF && (d.isOn (leFid l)) && !(d.le l).cutDue then
    ((d.advanceTo ((d.tick / 1000000 + 1) * 1000000)).leMeridian l).cut l
  else if (d.le l).cutDue then d.cut l
  else d

/-- TAKEOVER at a handover cut (R294); after a fault it falls at a meridian (R295). -/
def Dev.takeoverRow (l : Nat) (d : Dev) : Dev := if (d.le l).takeover.map (·.1) == some 1 then d.takeover l else d

/-- WATCHDOG_HALF (R258). -/
def Dev.wdHalf (p : Nat) (d : Dev) : Dev :=
  let e := d.pe p
  if !e.running || e.ports.wdHalf then d
  else
    let d := d.advanceTo (e.ports.wdKick + usNs e.ports.wdPeriod / 2)
    (d.setPorts p (fun q => { q with wdHalf := true })).raiseLocal p 10

/-- WATCHDOG_EXPIRY (R258). -/
def Dev.wdExpiry (p : Nat) (d : Dev) : Dev :=
  let e := d.pe p
  if !e.running then d else (d.advanceTo (e.ports.wdKick + usNs e.ports.wdPeriod)).engineFault p 3 1

/-- A line that engine `p` may read: of the static area, of a plate's committed buffer, or of the write buffer of its own plate. -/
def Dev.mayRead (d : Dev) (p line : Nat) : Bool :=
  let a := line * 64
  decide (line < 8192) && (match (List.range 64).find? (fun n =>
      (d.plate n).declared && decide ((d.plate n).base ≤ a) && decide (a < (d.plate n).base + 3 * (d.plate n).size)) with
    | none => true
    | some n =>
      let q := d.plate n
      (a - q.base) / q.size == q.com || (d.peWrites p n && (a - q.base) / q.size == q.wr))

/-- A line that engine `p` may write: of the write buffer of its own plate. -/
def Dev.mayOwn (d : Dev) (p line : Nat) : Bool :=
  let a := line * 64
  (List.range 64).any (fun n =>
    let q := d.plate n
    q.declared && d.peWrites p n && decide (q.base + q.wr * q.size ≤ a) && decide (a < q.base + (q.wr + 1) * q.size))

/-- DIRECTORY_SHARED_REQUEST, DIRECTORY_OWNED_REQUEST (R240): the request of a running engine whose crossing to PIM is open. -/
def Dev.lineRow (p line : Nat) (owned : Bool) (d : Dev) : Dev :=
  if !(d.pe p).running || !(d.peReach p 7) then d
  else if owned then (if d.mayOwn p line then d.needOwned p line else d)
  else if d.mayRead p line then d.needShared p line
  else d

/-- NONCACHING_WRITE (R240): bytes of one line. -/
def Dev.ncWriteRow (a : Nat) (bs : List Byte) (d : Dev) : Dev :=
  if a < 524288 && !bs.isEmpty then d.ncWrite a (bs.take (64 - a % 64)) else d

def execCorrectedMemoryError (s : State) := s.run (Dev.corrected 1)
def execUncorrectableMemoryError (x : MemItem) (s : State) := s.run (Dev.uncorrectable x)
def execSramScrub (corrected : Nat) (bad : List MemItem) (s : State) := s.run (Dev.scrub corrected bad)
def execEngineFault (pe : Fin 14) (cause : Nat) (s : State) := s.run (Dev.engineRow pe cause)
def execHangTimeout (island : Nat) (s : State) := s.run (Dev.hang island)
def execLivenessProbe (silent : List Nat) (s : State) := s.run (Dev.probe silent)
def execLockstepMismatch (s : State) := s.run Dev.lockstep
def execHeartbeat (missed : Bool) (s : State) := s.run (Dev.heartbeat missed)
def execCompositorRestart (s : State) := s.run (fun d => d.compositorRestart.resume)
def execClockFault (island : Nat) (s : State) := s.run (Dev.clockFault island)
def execReferenceFault (s : State) := s.run Dev.referenceFault
def execReferenceClockReturn (s : State) := s.run Dev.referenceReturn
def execSupplyFault (rail : Rail) (s : State) := s.run (Dev.supplyFault rail)
def execBankSupplyReturn (bank : Nat) (s : State) := s.run (Dev.supplyReturn bank)
def execIslandReset (island : Nat) (s : State) := s.run (fun d => d.islandReset island)
def execLeaseExpiry (kind inst : Nat) (s : State) := s.run (fun d => d.leaseExpiry kind inst)

def execFunctionStartComplete (fid : Nat) (s : State) := s.run (Dev.startComplete fid)
def execDrainComplete (fid : Nat) (s : State) := s.run (Dev.drainComplete fid)
def execDrainLimitExpiry (fid : Nat) (s : State) := s.run (Dev.drainExpiry fid)
def execStartLimitExpiry (fid : Nat) (s : State) := s.run (Dev.startExpiry fid)
def execSelfTestComplete (pe : Option Nat) (fid : Nat) (pass : Bool) (s : State) := s.run (fun d => d.selfTestDone pe fid pass)

def execImageLoadComplete (pe : Fin 14) (s : State) := s.run (Dev.loadRow pe)
def execPlateReady (plate : Nat) (s : State) := s.run (fun d => if 63 < plate then d else d.plateReady plate)
def execCut (le : Nat) (s : State) := s.run (Dev.cutRow le)
def execJoinCopyComplete (le : Nat) (s : State) := s.run (fun d => d.joinCopied le)
def execReplayComplete (le : Nat) (agrees : Bool) (s : State) := s.run (fun d => d.replayComplete le agrees)
def execTakeover (le : Nat) (s : State) := s.run (Dev.takeoverRow le)
def execWatchdogHalf (pe : Fin 14) (s : State) := s.run (Dev.wdHalf pe)
def execWatchdogExpiry (pe : Fin 14) (s : State) := s.run (Dev.wdExpiry pe)
def execTimerCompare (pe : Fin 14) (n : Fin 4) (s : State) := s.run (fun d => d.timerCompare pe n)

def execDirectorySharedRequest (pe : Fin 14) (line : Nat) (s : State) := s.run (Dev.lineRow pe line false)
def execDirectoryOwnedRequest (pe : Fin 14) (line : Nat) (s : State) := s.run (Dev.lineRow pe line true)
def execWriteBack (pe : Fin 14) (s : State) := s.run (fun d => d.serveWriteBack pe)
def execNoncachingRead (line : Nat) (s : State) := s.run (fun d => if line < 8192 then d.ncRead line else d)
def execNoncachingWrite (a : Nat) (bytes : List Byte) (s : State) := s.run (Dev.ncWriteRow a bytes)

end Sys2Proof.Machine
end

