-- ==== Sys2Proof/Machine/RowsHost.lean ====
section
/-! DEFINITION. The meanings of the transport rows: the QSPI target, the parallel bus, UDP and their timers. -/

namespace Sys2Proof.Machine

def execStatus (r : StatusRead) (s : State) : Host.Outcome State Fault Refusal := s.run (Dev.statusRead r)
def execId (r : IdRead) (s : State) : Host.Outcome State Fault Refusal := s.run (Dev.idRead r)
/-- Quad or not, the transaction carries the same bytes (Table 6.3). -/
def execPktWrite (_quad : Bool) (bytes : List Byte) (s : State) : Host.Outcome State Fault Refusal :=
  s.run (fun d => (d.pktWrite bytes).udpOut)
def execPktRead (_quad : Bool) (n : Nat) (s : State) : Host.Outcome State Fault Refusal := s.run (Dev.pktRead n)
def execWinWrite (_quad : Bool) (addr : Nat) (data : List Byte) (s : State) : Host.Outcome State Fault Refusal :=
  s.run (Dev.winWriteRow addr data)
def execWinRead (_quad : Bool) (addr n : Nat) (s : State) : Host.Outcome State Fault Refusal := s.run (Dev.winReadRow addr n)
def execUnknownInstruction (b : Byte) (s : State) : Host.Outcome State Fault Refusal := s.run (Dev.unknownInstruction b)
def execPktIn (w : BitVec 16) (s : State) : Host.Outcome State Fault Refusal := s.run (Dev.pktIn w)
def execPktEnd (s : State) : Host.Outcome State Fault Refusal := s.run (fun d => d.pktEnd.udpOut)
def execPktOut (s : State) : Host.Outcome State Fault Refusal := s.run Dev.pktOut
def execWinDataWrite (w : BitVec 16) (s : State) : Host.Outcome State Fault Refusal := s.run (Dev.winDataWrite w)
def execWinDataRead (s : State) : Host.Outcome State Fault Refusal := s.run Dev.winDataRead

/-- A datagram of a peer reaches the UDP host port; in SLUMBER it only wakes the part (R516). -/
def Dev.udpRow (f : Dev → Dev) (d : Dev) : Dev :=
  let (take, d) := d.hostWakes
  if take && d.ready && d.verind.resetReq.isNone then (f d).udpOut else d

def execWindowReadRequest (p : Peer) (bytes : List Byte) (s : State) : Host.Outcome State Fault Refusal :=
  s.run (Dev.udpRow (Dev.windowReadRequest p bytes))
def execWindowWriteRequest (p : Peer) (bytes : List Byte) (s : State) : Host.Outcome State Fault Refusal :=
  s.run (Dev.udpRow (Dev.windowWriteRequest p bytes))
def execArpRequest (mac vid ip target : Nat) (s : State) : Host.Outcome State Fault Refusal :=
  s.run (Dev.arpRequest mac vid ip target)
def execReassemblyTimeout (ip : Nat) (s : State) : Host.Outcome State Fault Refusal := s.run (Dev.reassemblyTimeout ip)
def execEventRetry (seq : Nat) (s : State) : Host.Outcome State Fault Refusal := s.run (fun d => (d.eventRetry seq).udpOut)
def execOutputQueueTimeout (port : Nat) (s : State) : Host.Outcome State Fault Refusal := s.run (Dev.outputQueueTimeout port)
def execUdpLinkLossTimeout (s : State) : Host.Outcome State Fault Refusal := s.run Dev.udpLinkLoss

end Sys2Proof.Machine
end

