-- ==== Sys2Proof/Machine/RowsIsa.lean ====
section
/-! DEFINITION. The instructions of the engine (10), one meaning for each row, over the forms of Operands and the accesses of EngineMem and
EnginePorts. The row brings the physical engine and the fields of the instruction word. -/

namespace Sys2Proof.Machine

/-- An instruction whose fields are illegal together is F3 with cause 0x02 (R279). -/
def Dev.bitField (p a b : Nat) (f : Regs → Regs) (d : Dev) : Dev :=
  d.issue p (fun d => if 31 < a + b then d.engineFault p 3 0x02 else d.setRegs p f)

/-! ## ALU, format R (Table 10.5) -/

def execAdd (pe : Fin 14) (rd rs1 rs2 : Fin 16) (s : State) : Host.Outcome State Fault Refusal :=
  s.run (Dev.regOp pe (fun g => g.op4 rd (addC (g.get rs1) (g.get rs2) false)))

def execSub (pe : Fin 14) (rd rs1 rs2 : Fin 16) (s : State) : Host.Outcome State Fault Refusal :=
  s.run (Dev.regOp pe (fun g => g.op4 rd (subB (g.get rs1) (g.get rs2) false)))

def execAdc (pe : Fin 14) (rd rs1 rs2 : Fin 16) (s : State) : Host.Outcome State Fault Refusal :=
  s.run (Dev.regOp pe (fun g => g.op4 rd (addC (g.get rs1) (g.get rs2) g.c)))

def execSbc (pe : Fin 14) (rd rs1 rs2 : Fin 16) (s : State) : Host.Outcome State Fault Refusal :=
  s.run (Dev.regOp pe (fun g => g.op4 rd (subB (g.get rs1) (g.get rs2) (!g.c))))

def execAnd (pe : Fin 14) (rd rs1 rs2 : Fin 16) (s : State) : Host.Outcome State Fault Refusal :=
  s.run (Dev.regOp pe (fun g => g.opNZ rd (g.get rs1 &&& g.get rs2)))

def execOr (pe : Fin 14) (rd rs1 rs2 : Fin 16) (s : State) : Host.Outcome State Fault Refusal :=
  s.run (Dev.regOp pe (fun g => g.opNZ rd (g.get rs1 ||| g.get rs2)))

def execXor (pe : Fin 14) (rd rs1 rs2 : Fin 16) (s : State) : Host.Outcome State Fault Refusal :=
  s.run (Dev.regOp pe (fun g => g.opNZ rd (g.get rs1 ^^^ g.get rs2)))

def execAndn (pe : Fin 14) (rd rs1 rs2 : Fin 16) (s : State) : Host.Outcome State Fault Refusal :=
  s.run (Dev.regOp pe (fun g => g.opNZ rd (g.get rs1 &&& ~~~(g.get rs2))))

def execSll (pe : Fin 14) (rd rs1 rs2 : Fin 16) (s : State) : Host.Outcome State Fault Refusal :=
  s.run (Dev.regOp pe (fun g => g.opNZ rd (sllW (g.get rs1) (shCount (g.get rs2)))))

def execSrl (pe : Fin 14) (rd rs1 rs2 : Fin 16) (s : State) : Host.Outcome State Fault Refusal :=
  s.run (Dev.regOp pe (fun g => g.opNZ rd (srlW (g.get rs1) (shCount (g.get rs2)))))

def execSra (pe : Fin 14) (rd rs1 rs2 : Fin 16) (s : State) : Host.Outcome State Fault Refusal :=
  s.run (Dev.regOp pe (fun g => g.opNZ rd (sraW (g.get rs1) (shCount (g.get rs2)))))

def execRor (pe : Fin 14) (rd rs1 rs2 : Fin 16) (s : State) : Host.Outcome State Fault Refusal :=
  s.run (Dev.regOp pe (fun g => g.opNZ rd (rorW (g.get rs1) (shCount (g.get rs2)))))

def execCmp (pe : Fin 14) (rs1 rs2 : Fin 16) (s : State) : Host.Outcome State Fault Refusal :=
  s.run (Dev.regOp pe (fun g => (g.flags4 (subB (g.get rs1) (g.get rs2) false)).step))

def execTst (pe : Fin 14) (rs1 rs2 : Fin 16) (s : State) : Host.Outcome State Fault Refusal :=
  s.run (Dev.regOp pe (fun g => (g.flagsNZ (g.get rs1 &&& g.get rs2)).step))

def execMul (pe : Fin 14) (rd rs1 rs2 : Fin 16) (s : State) : Host.Outcome State Fault Refusal :=
  s.run (Dev.regOp pe (fun g => g.opNZ rd (g.get rs1 * g.get rs2)))

def execMulhu (pe : Fin 14) (rd rs1 rs2 : Fin 16) (s : State) : Host.Outcome State Fault Refusal :=
  s.run (Dev.regOp pe (fun g => g.opNZ rd (mulHu (g.get rs1) (g.get rs2))))

def execMulhs (pe : Fin 14) (rd rs1 rs2 : Fin 16) (s : State) : Host.Outcome State Fault Refusal :=
  s.run (Dev.regOp pe (fun g => g.opNZ rd (mulHs (g.get rs1) (g.get rs2))))

def execMin (pe : Fin 14) (rd rs1 rs2 : Fin 16) (s : State) : Host.Outcome State Fault Refusal :=
  s.run (Dev.regOp pe (fun g => g.opNZ rd (minS (g.get rs1) (g.get rs2))))

def execMax (pe : Fin 14) (rd rs1 rs2 : Fin 16) (s : State) : Host.Outcome State Fault Refusal :=
  s.run (Dev.regOp pe (fun g => g.opNZ rd (maxS (g.get rs1) (g.get rs2))))

def execMinu (pe : Fin 14) (rd rs1 rs2 : Fin 16) (s : State) : Host.Outcome State Fault Refusal :=
  s.run (Dev.regOp pe (fun g => g.opNZ rd (minU (g.get rs1) (g.get rs2))))

def execMaxu (pe : Fin 14) (rd rs1 rs2 : Fin 16) (s : State) : Host.Outcome State Fault Refusal :=
  s.run (Dev.regOp pe (fun g => g.opNZ rd (maxU (g.get rs1) (g.get rs2))))

/-! ## Immediate forms (Table 10.3) -/

def execAddi (pe : Fin 14) (rd rs1 : Fin 16) (imm : BitVec 18) (s : State) : Host.Outcome State Fault Refusal :=
  s.run (Dev.regOp pe (fun g => g.op4 rd (addC (g.get rs1) (simm imm) false)))

def execAndi (pe : Fin 14) (rd rs1 : Fin 16) (imm : BitVec 18) (s : State) : Host.Outcome State Fault Refusal :=
  s.run (Dev.regOp pe (fun g => g.opNZ rd (g.get rs1 &&& uimm imm)))

def execOri (pe : Fin 14) (rd rs1 : Fin 16) (imm : BitVec 18) (s : State) : Host.Outcome State Fault Refusal :=
  s.run (Dev.regOp pe (fun g => g.opNZ rd (g.get rs1 ||| uimm imm)))

def execXori (pe : Fin 14) (rd rs1 : Fin 16) (imm : BitVec 18) (s : State) : Host.Outcome State Fault Refusal :=
  s.run (Dev.regOp pe (fun g => g.opNZ rd (g.get rs1 ^^^ uimm imm)))

def execLui (pe : Fin 14) (rd : Fin 16) (imm : BitVec 18) (s : State) : Host.Outcome State Fault Refusal :=
  s.run (Dev.regOp pe (fun g => g.opPlain rd (uimm imm <<< 14)))

def execCmpi (pe : Fin 14) (rs1 : Fin 16) (imm : BitVec 18) (s : State) : Host.Outcome State Fault Refusal :=
  s.run (Dev.regOp pe (fun g => (g.flags4 (subB (g.get rs1) (simm imm) false)).step))

/-! ## BIT and CRC, format X (Tables 10.6, 10.7) -/

def execSlli (pe : Fin 14) (rd rs1 : Fin 16) (a : Fin 32) (s : State) : Host.Outcome State Fault Refusal :=
  s.run (Dev.regOp pe (fun g => g.opNZ rd (sllW (g.get rs1) a)))

def execSrli (pe : Fin 14) (rd rs1 : Fin 16) (a : Fin 32) (s : State) : Host.Outcome State Fault Refusal :=
  s.run (Dev.regOp pe (fun g => g.opNZ rd (srlW (g.get rs1) a)))

def execSrai (pe : Fin 14) (rd rs1 : Fin 16) (a : Fin 32) (s : State) : Host.Outcome State Fault Refusal :=
  s.run (Dev.regOp pe (fun g => g.opNZ rd (sraW (g.get rs1) a)))

def execRori (pe : Fin 14) (rd rs1 : Fin 16) (a : Fin 32) (s : State) : Host.Outcome State Fault Refusal :=
  s.run (Dev.regOp pe (fun g => g.opNZ rd (rorW (g.get rs1) a)))

def execBfx (pe : Fin 14) (rd rs1 : Fin 16) (a b : Fin 32) (s : State) : Host.Outcome State Fault Refusal :=
  s.run (Dev.bitField pe a b (fun g => g.opNZ rd (bfx (g.get rs1) a b)))

def execBfxs (pe : Fin 14) (rd rs1 : Fin 16) (a b : Fin 32) (s : State) : Host.Outcome State Fault Refusal :=
  s.run (Dev.bitField pe a b (fun g => g.opNZ rd (bfxs (g.get rs1) a b)))

def execBfi (pe : Fin 14) (rd rs1 rs2 : Fin 16) (a b : Fin 32) (s : State) : Host.Outcome State Fault Refusal :=
  s.run (Dev.bitField pe a b (fun g => g.opNZ rd (bfi (g.get rs1) (g.get rs2) a b)))

def execClz (pe : Fin 14) (rd rs1 : Fin 16) (s : State) : Host.Outcome State Fault Refusal :=
  s.run (Dev.regOp pe (fun g => g.opNZ rd (clz (g.get rs1))))

def execPopc (pe : Fin 14) (rd rs1 : Fin 16) (s : State) : Host.Outcome State Fault Refusal :=
  s.run (Dev.regOp pe (fun g => g.opNZ rd (popc (g.get rs1))))

def execRev (pe : Fin 14) (rd rs1 : Fin 16) (s : State) : Host.Outcome State Fault Refusal :=
  s.run (Dev.regOp pe (fun g => g.opNZ rd (rev (g.get rs1))))

def execBrev (pe : Fin 14) (rd rs1 : Fin 16) (s : State) : Host.Outcome State Fault Refusal :=
  s.run (Dev.regOp pe (fun g => g.opNZ rd (brev (g.get rs1))))

def execCrc (pe : Fin 14) (rd rs1 rs2 : Fin 16) (poly : Fin 4) (width : Fin 3) (s : State) : Host.Outcome State Fault Refusal :=
  s.run (Dev.regOp pe (fun g => g.opPlain rd (crcStep (g.get rs1) (g.get rs2) poly width)))

/-! ## Memory (R268 to R270) -/

def execLd (pe : Fin 14) (rd base : Fin 16) (size : BitVec 2) (imm : BitVec 16) (s : State) : Host.Outcome State Fault Refusal :=
  s.run (Dev.ld pe rd base size imm false)

def execLds (pe : Fin 14) (rd base : Fin 16) (size : BitVec 2) (imm : BitVec 16) (s : State) : Host.Outcome State Fault Refusal :=
  s.run (Dev.ld pe rd base size imm true)

def execSt (pe : Fin 14) (rd base : Fin 16) (size : BitVec 2) (imm : BitVec 16) (s : State) : Host.Outcome State Fault Refusal :=
  s.run (Dev.st pe rd base size imm)

def execCwb (pe : Fin 14) (base : Fin 16) (imm : BitVec 16) (s : State) : Host.Outcome State Fault Refusal :=
  s.run (Dev.cwbOp pe base imm)

def execPref (pe : Fin 14) (base : Fin 16) (imm : BitVec 16) (s : State) : Host.Outcome State Fault Refusal :=
  s.run (Dev.prefOp pe base imm)

def execSwap (pe : Fin 14) (rd rs1 rs2 : Fin 16) (s : State) : Host.Outcome State Fault Refusal :=
  s.run (Dev.atom pe rd rs1 rs2 false (fun _ y _ => some y))

def execAadd (pe : Fin 14) (rd rs1 rs2 : Fin 16) (s : State) : Host.Outcome State Fault Refusal :=
  s.run (Dev.atom pe rd rs1 rs2 false (fun old y _ => some (old + y)))

def execAand (pe : Fin 14) (rd rs1 rs2 : Fin 16) (s : State) : Host.Outcome State Fault Refusal :=
  s.run (Dev.atom pe rd rs1 rs2 false (fun old y _ => some (old &&& y)))

def execAor (pe : Fin 14) (rd rs1 rs2 : Fin 16) (s : State) : Host.Outcome State Fault Refusal :=
  s.run (Dev.atom pe rd rs1 rs2 false (fun old y _ => some (old ||| y)))

def execCas (pe : Fin 14) (rd rs1 rs2 : Fin 16) (s : State) : Host.Outcome State Fault Refusal :=
  s.run (Dev.atom pe rd rs1 rs2 true (fun old y x => if old == x then some y else none))

/-! ## Ports and host rings (R271 to R273) -/

def execPin (pe : Fin 14) (rd rs1 : Fin 16) (imm : BitVec 8) (s : State) : Host.Outcome State Fault Refusal :=
  s.run (Dev.pin pe rd rs1 imm)

def execPout (pe : Fin 14) (rd rs1 : Fin 16) (imm : BitVec 8) (s : State) : Host.Outcome State Fault Refusal :=
  s.run (Dev.pout pe rd rs1 imm)

def execQput (pe : Fin 14) (rd rs1 rs2 : Fin 16) (s : State) : Host.Outcome State Fault Refusal :=
  s.run (Dev.qput pe rd rs1 rs2)

def execQget (pe : Fin 14) (rd rs1 rs2 : Fin 16) (s : State) : Host.Outcome State Fault Refusal :=
  s.run (Dev.qget pe rd rs1 rs2)

/-! ## Control transfer, waits, illegal words (R274 to R276, R279) -/

def execB (pe : Fin 14) (cond : Fin 16) (imm : BitVec 22) (s : State) : Host.Outcome State Fault Refusal :=
  s.run (Dev.branch pe cond imm)

def execJal (pe : Fin 14) (rd : Fin 16) (imm : BitVec 22) (s : State) : Host.Outcome State Fault Refusal :=
  s.run (Dev.jal pe rd imm)

def execJalr (pe : Fin 14) (rd rs1 : Fin 16) (imm : BitVec 18) (s : State) : Host.Outcome State Fault Refusal :=
  s.run (Dev.jalr pe rd rs1 imm)

def execWait (pe : Fin 14) (s : State) : Host.Outcome State Fault Refusal :=
  s.run (Dev.waitOp pe)

def execWaitu (pe : Fin 14) (rs1 : Fin 16) (scale : Fin 32) (s : State) : Host.Outcome State Fault Refusal :=
  s.run (Dev.waituOp pe rs1 scale)

/-- A word that is legal is no illegal instruction: the row then does nothing. -/
def execIllegalInstruction (pe : Fin 14) (word : Word) (s : State) : Host.Outcome State Fault Refusal :=
  s.run (fun d => if legalWord word then d else d.issue pe (fun d => d.engineFault pe 3 0x02))

end Sys2Proof.Machine
end

