-- ==== Sys2Proof/Machine/RowsPorts.lean ====
section
/-! DEFINITION. The rows of the port table: one meaning for each row, a port write or a port read into rd by an instruction of a physical
engine. -/

namespace Sys2Proof.Machine

/-- A write that stores its value or clears bits: of any port, or of WIN_ADDR on the parallel bus (R138, R244). -/
def execRegisterWrite (t : RegTarget) (s : State) : Host.Outcome State Fault Refusal :=
  match t with
  | .port pe n v => s.run (Dev.poutTo pe n v)
  | .winAddr word v => s.run (Dev.winAddrWrite word v.toNat)

def execTickLo (pe : Fin 14) (rd : Fin 16) (s : State) : Host.Outcome State Fault Refusal :=
  s.run (Dev.pinTo pe rd 0x04)

def execParamData (pe : Fin 14) (rd : Fin 16) (s : State) : Host.Outcome State Fault Refusal :=
  s.run (Dev.pinTo pe rd 0x3E)

def execRxDone (pe : Fin 14) (rd : Fin 16) (s : State) : Host.Outcome State Fault Refusal :=
  s.run (Dev.pinTo pe rd 0x42)

def execMbRdata (pe : Fin 14) (rd : Fin 16) (s : State) : Host.Outcome State Fault Refusal :=
  s.run (Dev.pinTo pe rd 0xA5)

def execMbOdataRead (pe : Fin 14) (rd : Fin 16) (s : State) : Host.Outcome State Fault Refusal :=
  s.run (Dev.pinTo pe rd 0xA7)

def execMbStamp (pe : Fin 14) (rd : Fin 16) (s : State) : Host.Outcome State Fault Refusal :=
  s.run (Dev.pinTo pe rd 0xA9)

def execSlRxdata (pe : Fin 14) (rd : Fin 16) (s : State) : Host.Outcome State Fault Refusal :=
  s.run (Dev.pinTo pe rd 0xC4)

def execTmrCtl (pe : Fin 14) (n : Fin 4) (v : Word) (s : State) : Host.Outcome State Fault Refusal :=
  s.run (Dev.poutTo pe (0x10 + 8 * n) v)

def execWdPeriod (pe : Fin 14) (v : Word) (s : State) : Host.Outcome State Fault Refusal :=
  s.run (Dev.poutTo pe 0x30 v)

def execWdKick (pe : Fin 14) (v : Word) (s : State) : Host.Outcome State Fault Refusal :=
  s.run (Dev.poutTo pe 0x31 v)

def execQreq (pe : Fin 14) (v : Word) (s : State) : Host.Outcome State Fault Refusal :=
  s.run (Dev.poutTo pe 0x34 v)

def execQrel (pe : Fin 14) (v : Word) (s : State) : Host.Outcome State Fault Refusal :=
  s.run (Dev.poutTo pe 0x35 v)

def execRxPost (pe : Fin 14) (v : Word) (s : State) : Host.Outcome State Fault Refusal :=
  s.run (Dev.poutTo pe 0x41 v)

def execTxCtl (pe : Fin 14) (v : Word) (s : State) : Host.Outcome State Fault Refusal :=
  s.run (Dev.poutTo pe 0x44 v)

def execMbRidx (pe : Fin 14) (v : Word) (s : State) : Host.Outcome State Fault Refusal :=
  s.run (Dev.poutTo pe 0xA3 v)

def execMbOdataWrite (pe : Fin 14) (v : Word) (s : State) : Host.Outcome State Fault Refusal :=
  s.run (Dev.poutTo pe 0xA7 v)

def execSlTxdata (pe : Fin 14) (v : Word) (s : State) : Host.Outcome State Fault Refusal :=
  s.run (Dev.poutTo pe 0xC5 v)

def execSlTxctl (pe : Fin 14) (v : Word) (s : State) : Host.Outcome State Fault Refusal :=
  s.run (Dev.poutTo pe 0xC6 v)

def execImpData (pe : Fin 14) (v : Word) (s : State) : Host.Outcome State Fault Refusal :=
  s.run (Dev.poutTo pe 0xD2 v)

def execPlateCtlDone (pe : Fin 14) (s : State) : Host.Outcome State Fault Refusal :=
  s.run (Dev.poutTo pe 0x3B 1#32)

def execPlateCtlCommit (pe : Fin 14) (s : State) : Host.Outcome State Fault Refusal :=
  s.run (Dev.poutTo pe 0x3B 2#32)

def execAlmCtlRead (pe : Fin 14) (s : State) : Host.Outcome State Fault Refusal :=
  s.run (Dev.poutTo pe 0x63 1#32)

def execAlmCtlWrite (pe : Fin 14) (s : State) : Host.Outcome State Fault Refusal :=
  s.run (Dev.poutTo pe 0x63 2#32)

def execTypSuspRequest (pe : Fin 14) (bank : Fin 2) (s : State) : Host.Outcome State Fault Refusal :=
  s.run (fun d => d.poutTo pe 0x48 (BitVec.ofNat 32 ((d.pe pe).ports.typSusp ||| 2 ^ bank.val)))

def execTypSuspRelease (pe : Fin 14) (bank : Fin 2) (s : State) : Host.Outcome State Fault Refusal :=
  s.run (fun d => d.poutTo pe 0x48 (BitVec.ofNat 32 ((d.pe pe).ports.typSusp &&& (3 - 2 ^ bank.val))))

def execMbTxreq (pe : Fin 14) (obj : Fin 128) (s : State) : Host.Outcome State Fault Refusal :=
  s.run (Dev.poutTo pe 0xA8 (BitVec.ofNat 32 obj))

def execMbTxreqWithdraw (pe : Fin 14) (obj : Fin 128) (s : State) : Host.Outcome State Fault Refusal :=
  s.run (Dev.poutTo pe 0xA8 (BitVec.ofNat 32 (256 + obj)))

def execFrCtlRun (pe : Fin 14) (lock : Bool) (s : State) : Host.Outcome State Fault Refusal :=
  s.run (Dev.poutTo pe 0x87 (BitVec.ofNat 32 (1 + 2 * b2n lock)))

def execFrCtlLock (pe : Fin 14) (run : Bool) (s : State) : Host.Outcome State Fault Refusal :=
  s.run (Dev.poutTo pe 0x87 (BitVec.ofNat 32 (2 + b2n run)))

def execImpSwitch (pe : Fin 14) (n : BitVec 16) (s : State) : Host.Outcome State Fault Refusal :=
  s.run (Dev.poutTo pe 0xD3 (n.setWidth 32))

end Sys2Proof.Machine
end

