-- ==== Sys2Proof/Machine/PowerOps.lean ====
section
/-! DEFINITION. What the power rows do (19): the selection, the restore block, the entry to HIBERNATE, PWR_EN and the rails, and the
return to RUN. -/

namespace Sys2Proof.Machine

/-! ## Selection and entry (R510, R519) -/

/-- The selection of R510 comes out, in RUN, DOZE and where a state is not being left. -/
def Dev.selectState (d : Dev) : Dev :=
  if d.start.phase != .ready || 2 ≤ d.pwr.st || d.pwr.leaving.isSome then d
  else
    let c := d.choose
    if c == d.pwr.st || c == 4 then d
    else if c == 0 then d.pwrTo 0
    else d.enterState c

/-- An entry under way is abandoned: the part is in RUN, with the wake event of a source that has one (R517, R519). -/
def Dev.abandonEntry (d : Dev) (src : Option Nat) : Dev :=
  let st := d.pwr.st
  let d := match src with
    | some x => (d.setPwr (fun p => { p with alarm := if x == 0 then none else p.alarm })).sendWake x st stDone
    | none => d
  if st == 1 then d.pwrTo 0 else d

/-- POWER_STATE_ENTRY: the state that R510 chooses is entered, or the entry is abandoned by a wake source. -/
def Dev.powerEntry (wake : Option Nat) (d : Dev) : Dev :=
  match wake with
  | none => d.selectState
  | some src =>
    if d.start.phase == .ready && d.pwr.st ≤ 1 && d.pwr.leaving.isNone && 2 ≤ d.choose && d.choose ≤ 3 then d.abandonEntry (some src)
    else d

/-! ## The restore block (R172) -/

/-- One sector of the restore area is written anew: erased, counted, a spent one replaced by a spare (R217), and filled with the
block's bytes, which the spec leaves open. -/
def Dev.restoreSector (d : Dev) (b s : Nat) : Dev :=
  let (x, d) := d.draw
  let d := if 1000000 ≤ (d.bank b).cycles ((d.bank b).phys s) then d.retireSector b s else d
  let p := (d.bank b).phys s
  if (d.bank b).dead.contains s then d
  else
    let d := (d.eraseSector b s).setBank b (fun k => k.addCycles p (if x % 2 == 1 then 4 else 1))
    d.unknownRun b (p * 4096) 4096

/-- A new restore block is written in the other half of the area in both banks, under the next restore generation. -/
def Dev.writeRestore (d : Dev) : Dev :=
  if !(d.alm.changed) && d.alm.restore.isSome then d
  else
    let h := 1 - d.typ.restoreHalf
    let d := forN 32 d (fun d i => d.restoreSector (i / 16) (2 + 16 * h + i % 16))
    let g := wrap32 (d.alm.aonGen + 1)
    (d.setTyp (fun t => { t with restoreHalf := h })).setAlm (fun a =>
      { a with aonGen := g, changed := false, restore := some (a.saved, a.savedOn, g) })

/-! ## HIBERNATE (R518 to R520) -/

/-- HIBERNATE_ENTRY: the steps of R519 to their end, abandoned, or met by a wake source after the point of no return. -/
def Dev.hibernateEntry (e : HibEnd) (d : Dev) : Dev :=
  if d.choose != 4 || 2 ≤ d.pwr.st || d.pwr.leaving.isSome then d
  else
    let d := d.writeRestore
    match e with
    | .completes => d.hibernate.railsFall
    | .abandoned src => d.abandonEntry src
    | .overtaken src x =>
      let d := d.hibernate
      let d := d.setPwr (fun p => { p with wakeEvent := some (src, 4, stDone), alarm := if src == 0 then none else p.alarm })
      d.warmStart x d.tick

/-- RAIL_GOOD: every switched rail has been within tolerance for 200 µs, and AON releases the islands (R520). -/
def Dev.railGood (x : StartIn) (d : Dev) : Dev :=
  if d.start.phase != .hibernate || !d.pwr.pwrEn then d
  else
    let d := d.advanceTo (d.pwr.enSince + 200000)
    d.warmStart x d.start.since

/-- RAIL_TIMEOUT: 20 ms after PWR_EN rose a rail is not good: PWR_EN falls for 1 s, and the attempt is counted (R520). -/
def Dev.railTimeout (d : Dev) : Dev :=
  if d.start.phase != .hibernate || !d.pwr.pwrEn then d
  else
    let d := d.advanceTo (d.pwr.enSince + 20000000)
    d.setPwr (fun p => { p with pwrEn := false, attempts := p.attempts + 1, enSince := d.tick, raiseAt := some (d.tick + 1000000000) })

/-- PWR_EN_RAISE (R520). -/
def Dev.pwrEnRaise (d : Dev) : Dev :=
  match d.start.phase == .hibernate, d.pwr.raiseAt with
  | true, some t =>
    let d := d.advanceTo t
    d.setPwr (fun p => { p with pwrEn := true, enSince := d.tick, raiseAt := none })
  | _, _ => d

/-- RETURN_TO_RUN: the leave completes and the part chooses again (R511). -/
def Dev.returnRow (d : Dev) : Dev := if d.pwr.leaving.isSome then d.returnToRun.selectState else d

/-- ALARM (R514): it fires from READY on and in HIBERNATE. -/
def Dev.alarmRow (d : Dev) : Dev :=
  if d.start.phase == .ready || d.start.phase == .hibernate then d.alarmDue else d

end Sys2Proof.Machine
end

