-- ==== Sys2Proof/Machine/RowsPower.lean ====
section
/-! DEFINITION. The rows of power (19) and of the TAP (21, 22): one meaning per row. -/

namespace Sys2Proof.Machine

def execPowerStateEntry (wake : Option Nat) (s : State) := s.run (Dev.powerEntry wake)
def execHibernateEntry (e : HibEnd) (s : State) := s.run (Dev.hibernateEntry e)
def execDeadlineExit (s : State) := s.run Dev.deadlineExit
def execAlarm (s : State) := s.run Dev.alarmRow
def execWakePin (i : Nat) (high : Bool) (held : Option Nat) (s : State) := s.run (fun d => if 3 < i then d else d.wakePin i high held)
def execRailGood (x : StartIn) (s : State) := s.run (Dev.railGood x)
def execRailTimeout (s : State) := s.run Dev.railTimeout
def execPwrEnRaise (s : State) := s.run Dev.pwrEnRaise
def execReturnToRun (s : State) := s.run Dev.returnRow
def execChallengeExpiry (s : State) := s.run Dev.expireChallenge

def execExtest (pins cells : List Bool) (s : State) := s.runTap (tapRun (extest pins cells))
def execSamplePreload (pins cells : List Bool) (s : State) := s.runTap (tapRun (samplePreload pins cells))
def execIdcode (s : State) := s.runTap (tapRun (tapFixed 2 (leb 4 0x10880B4F)))
def execClamp (s : State) := s.runTap (tapRun (tapFixed 3 [0#8]))
def execHighz (s : State) := s.runTap (tapRun (tapFixed 4 [0#8]))
def execBypass (s : State) := s.runTap (tapRun (tapFixed 0xFF [0#8]))
def execDbgChal (s : State) := s.runTap (tapRun dbgChal)
def execDbgResp (sig : List Byte) (s : State) := s.runTap (tapRun (dbgResp sig))
def execDbgState (s : State) := s.runTap (tapRun (fun t d => (t.select 0x42 (leb 1 (b2n d.sec.unlocked)), d)))
def execDbgAddr (v : BitVec 40) (s : State) := s.runTap (tapRun (dbgAddr v))
def execDbgData (s : State) := s.runTap (tapRun dbgData)
def execDbgIstat (s : State) := s.runTap (tapRun (dbgRead 0x45 8 Dev.dbgIstat))
def execDbgFlog (s : State) := s.runTap (tapRun dbgFlog)
def execDbgXstat (s : State) := s.runTap (tapRun (dbgRead 0x47 4 Dev.dbgXstat))
def execTestLogicReset (trstLow : Bool) (s : State) := s.runTap (testLogicReset trstLow)

end Sys2Proof.Machine
end

