-- ==== Sys2Proof/Machine/Ptp.lean ====
section
/-! DEFINITION. PTP messages (17): what the time service makes of a message that it receives, and the messages that it sends. Message
layouts are those of IEEE 1588-2019 and IEEE 802.1AS-2020. -/

namespace Sys2Proof.Machine

/-! ## Messages that the part sends (R452, R455, Table 17.4) -/

/-- The message header: type, length, flags, sequence number, control field and log interval. -/
def Dev.ptpHead (d : Dev) (m ty len flags seq control logIv : Nat) : List Byte :=
  leb 1 ((if d.cfg.time.profile == 4 then 16 else 0) + ty) ++ [0x12#8] ++ beb 2 len ++ leb 1 d.cfg.time.domain ++ [0#8] ++
  beb 2 flags ++ zeros 12 ++ clockIdent ++ beb 2 (m + 1) ++ beb 2 seq ++ leb 1 control ++ leb 1 logIv

/-- The next sequence number of a message type on a port. -/
def Dev.ptpNext (d : Dev) (m ty : Nat) : Nat × Dev :=
  let k := m * 16 + ty
  let n := ((d.orr.ptpSeq.find? (fun x => x.1 == k)).map (·.2)).getD 0
  (n, d.setOrr (fun o => { o with ptpSeq := o.ptpSeq.filter (fun x => x.1 != k) ++ [(k, (n + 1) % 65536)] }))

/-- The destination addresses of Table 17.4, and that of profile 0x02's group. -/
def Dev.ptpDest (d : Dev) (peer : Bool) : List Byte :=
  if d.cfg.time.profile == 2 then [0x01#8, 0x00#8, 0x5E#8, 0x00#8, 0x01#8, 0x81#8]
  else if peer || d.cfg.time.profile == 4 then [0x01#8, 0x80#8, 0xC2#8, 0x00#8, 0x00#8, 0x0E#8]
  else [0x01#8, 0x1B#8, 0x19#8, 0x00#8, 0x00#8, 0x00#8]

/-- A message leaves through SP7 in class 6 to one MAC (R452); with profile 0x02 an unaddressed part sends nothing. -/
def Dev.ptpSend (d : Dev) (m : Nat) (event peer : Bool) (msg : List Byte) : Dev :=
  let eth (type : Nat) (pay : List Byte) : List Byte :=
    let b := d.ptpDest peer ++ leb 6 (d.cfg.macs.getD m {}).station ++ beb 2 type ++ pay
    withFcs (b ++ zeros (60 - b.length))
  if d.cfg.time.profile == 2 then
    match d.cfg.dev.hostAddr with
    | none => d
    | some (ip, _) =>
      let port := if event then 319 else 320
      let seg := beb 2 port ++ beb 2 port ++ beb 2 (8 + msg.length) ++ zeros 2 ++ msg
      let h := [0x45#8, 0#8] ++ beb 2 (20 + seg.length) ++ zeros 4 ++ [1#8, 17#8]
      let a := beb 4 ip ++ beb 4 0xE0000181
      (d.injectTo m 6 (eth 0x0800 (h ++ beb 2 (inetChecksum (h ++ zeros 2 ++ a)) ++ a ++ seg))).2
  else (d.injectTo m 6 (eth 0x88F7 msg)).2

/-- The time service is a PTP port on MAC `m`, whose link is up. -/
def Dev.ptpPort (d : Dev) (m : Nat) : Bool :=
  d.timeOn && decide (m < 6) && bit d.cfg.time.portMask m && d.macUp m && decide (1 ≤ d.cfg.time.profile) && decide (d.cfg.time.profile ≤ 4)

/-- The port may act as a master (R454): the part is grandmaster, or passes on a master that it follows elsewhere. -/
def Dev.ptpMaster (d : Dev) (m : Nat) : Bool :=
  d.ptpPort m && d.cfg.time.clockType != 3 &&
  (match d.orr.master with
   | some x => d.cfg.time.clockType == 2 && x.port != m
   | none => d.cfg.time.prio1 != 255)

/-- clockClass of a quality code (Table 17.6) where no master is followed. -/
def clockClass (q : Nat) : Nat := if q < 0x20 then 248 else if 0x30 ≤ q && q ≤ 0x32 then 7 else if 0x33 ≤ q then 187 else 248

/-- The 20 bytes of an Announce on the grandmaster: the part's own dataset (R454), or that of the master followed, one step on. -/
def Dev.announceBody (d : Dev) : List Byte :=
  match d.orr.master with
  | some x =>
    let b := slice (x.announce ++ zeros 20) 0 20
    b.take 17 ++ beb 2 (beVal (slice b 17 2) + 1) ++ b.drop 19
  | none =>
    zeros 3 ++ leb 1 d.cfg.time.prio1 ++ leb 1 (clockClass d.orr.quality) ++ [0xFE#8, 0xFF#8, 0xFF#8] ++ leb 1 d.cfg.time.prio2 ++
    clockIdent ++ zeros 2 ++ [0xA0#8]

/-- PTP_MESSAGE_TRANSMIT (R455): Sync and Announce from a master port, delay requests from the port of a master followed, peer delay
requests from every port. A part that sends as a master without following one is grandmaster. -/
def Dev.ptpTransmit (m : Nat) (k : PtpKind) (d : Dev) : Dev :=
  let pf := d.cfg.time.profile
  let grand (d : Dev) : Dev := if d.orr.master.isNone then d.setOrr (fun o => { o with grand := true }) else d
  match k with
  | .sync =>
    if !(d.ptpMaster m) then d
    else
      let (n, d) := (grand d).ptpNext m 0
      let two := pf == 4
      d.ptpSend m true false (d.ptpHead m 0 44 (if two then 0x0208 else 0) n 0 (if two then 0xFD else 0) ++
        (if two then zeros 10 else ptpStamp (d.orr.nsAt d.tick)))
  | .announce =>
    if !(d.ptpMaster m) then d
    else
      let (n, d) := (grand d).ptpNext m 11
      let path := if pf == 4 then
          (let p := ((d.orr.master.map (fun x => x.announce.drop 20)).getD []) ++ clockIdent
           beb 2 8 ++ beb 2 p.length ++ p) else []
      let body := zeros 10 ++ d.announceBody ++ path
      d.ptpSend m false false (d.ptpHead m 11 (34 + body.length) (if pf == 4 then 8 else 0) n 5 (if pf == 4 then 0 else 1) ++ body)
  | .delayReq =>
    if pf ≤ 2 then
      (match d.orr.master with
       | some x =>
         if d.ptpPort m && x.port == m then
           let (n, d) := d.ptpNext m 1
           d.ptpSend m true false (d.ptpHead m 1 44 0 n 1 0x7F ++ zeros 10)
         else d
       | none => d)
    else if d.ptpPort m then
      let (n, d) := d.ptpNext m 2
      d.ptpSend m true true (d.ptpHead m 2 54 (if pf == 4 then 8 else 0) n 5 (if pf == 4 then 0 else 0x7F) ++ zeros 20)
    else d

/-- After a two-step message has left, its follow-up carries the time at its SFD (R455). `b` is the frame sent and `sfd` that tick. -/
def Dev.ptpFollowUp (d : Dev) (m ing sfd : Nat) (b : List Byte) : Dev :=
  match d.ptpAt b 319 with
  | none => d
  | some h =>
    let ty := byteAt b h % 16
    if ing != 7 || slice b (h + 20) 8 != clockIdent || !(bit (byteAt b (h + 6)) 1) || !(d.ptpPort m) then d
    else
      let seq := beVal (slice b (h + 30) 2)
      let t := ptpStamp (d.orr.nsAt sfd)
      if ty == 0 then
        d.ptpSend m false false (d.ptpHead m 8 76 8 seq 2 0xFD ++ t ++
          (beb 2 3 ++ beb 2 28 ++ [0x00#8, 0x80#8, 0xC2#8, 0#8, 0#8, 1#8] ++ zeros 22))
      else if ty == 3 then d.ptpSend m false true (d.ptpHead m 10 54 8 seq 5 0x7F ++ t ++ slice b (h + 44) 10)
      else d

/-! ## Messages received (R439, R452 to R455, R458, R459) -/

/-- 2 to a log interval, in ns. -/
def logNs (l : Int) : Nat := if 0 ≤ l then secNs * 2 ^ l.toNat else secNs / 2 ^ l.natAbs

/-- The answer to a delay request (end to end, from a master port) or a peer delay request. -/
def Dev.ptpAnswer (d : Dev) (m ago h : Nat) (b : List Byte) : Dev :=
  let pf := d.cfg.time.profile
  let ty := byteAt b h % 16
  let seq := beVal (slice b (h + 30) 2)
  let from_ := slice b (h + 20) 10
  let got := ptpStamp (d.orr.nsAt (d.tick - ago))
  let withCf (x cf : List Byte) : List Byte := x.take 8 ++ cf ++ x.drop 16
  if ty == 1 && pf ≤ 2 && d.ptpMaster m then
    d.ptpSend m false false (withCf (d.ptpHead m 9 54 0 seq 3 0) (slice b (h + 8) 8) ++ got ++ from_)
  else if ty == 2 && 3 ≤ pf then
    (if pf == 4 then d.ptpSend m true true (d.ptpHead m 3 54 0x0208 seq 5 0x7F ++ got ++ from_)
     else d.ptpSend m true true (withCf (d.ptpHead m 3 54 0 seq 5 0x7F)
       (beb 8 ((beVal (slice b (h + 8) 8) + ago * 65536) % 2 ^ 64)) ++ zeros 10 ++ from_))
  else d

/-- The outcome of best-master selection (R454, R458, R459). -/
def Dev.ptpChoose (d : Dev) (x : PtpRx) (h : Nat) : Dev :=
  match x.choice with
  | .keep => d
  | .own =>
    if d.cfg.time.prio1 == 255 || d.cfg.time.clockType == 3 then d else d.deselect.setOrr (fun o => { o with grand := true })
  | .nobody => d.deselect
  | .master ident ann syn =>
    if d.cfg.time.clockType == 3 || ann < -3 || 4 < ann || syn < -7 || 1 < syn then d
    else
      let old := (d.orr.master.map (·.announce)).getD []
      let body := if byteAt x.bytes h % 16 == 11 then
          slice x.bytes (h + 44) 20 ++ (if beVal (slice x.bytes (h + 64) 2) == 8 then slice x.bytes (h + 68) (beVal (slice x.bytes (h + 66) 2)) else [])
        else old
      d.follow { ident := ident, loss := max (3 * logNs ann) (3 * logNs syn), port := x.mac, announce := body }

/-- PTP_MESSAGE_RECEIVED: a message of the profile and domain on a MAC of the mask; up to 128 Sync a second on each port. -/
def Dev.ptpReceived (x : PtpRx) (d : Dev) : Dev :=
  let at_ := match d.ptpAt x.bytes 319 with
    | some h => some h
    | none => d.ptpAt x.bytes 320
  match at_ with
  | none => d
  | some h =>
    let b := x.bytes
    let ty := byteAt b h % 16
    if !(d.ptpPort x.mac) || byteAt b (h + 4) != d.cfg.time.domain || byteAt b (h + 1) % 16 != 2 ||
        !([0, 1, 2, 3, 8, 9, 10, 11].contains ty) then d
    else
      let syncs := d.orr.syncs.filter (fun s => decide (d.tick < s.2 + secNs))
      if ty == 0 && 128 ≤ (syncs.filter (fun s => s.1 == x.mac)).length then d
      else
        let d := d.setOrr (fun o => { o with syncs := if ty == 0 then syncs ++ [(x.mac, d.tick)] else syncs })
        let d := (d.ptpAnswer x.mac x.ago h b).ptpChoose x h
        let d := if x.signal && d.orr.master.isSome then d.setOrr (fun o => { o with lastSignal := d.tick }) else d
        let d := match x.delay with
          | some n =>
            let mine := (d.orr.master.map (·.port)) == some x.mac
            d.setOrr (fun o => { o with peerDelay := if 3 ≤ d.cfg.time.profile then upd o.peerDelay x.mac (fun _ => n) else o.peerDelay,
                                        pathDelay := if mine then n else o.pathDelay })
          | none => d
        match x.offset with
        | some o => if d.orr.master.isSome then d.measure o false else d
        | none => d

/-- FRAME_TRANSMITTED, with the follow-up of a two-step message of the part's own. -/
def Dev.frameSent (m : Nat) (d : Dev) : Dev :=
  match (d.mac m).tx with
  | none => d
  | some t =>
    let sfd := t.start + 8 * d.byteNs m
    let d := d.frameTransmitted m
    if (d.mac m).tx.isSome || t.kind == 2 || t.aborted || t.mirror.isSome then d else d.ptpFollowUp m t.ing sfd t.bytes

end Sys2Proof.Machine
end

