-- ==== Sys2Proof/Machine/RowsSwitch.lean ====
section
/-! DEFINITION. The rows of the switch core and the MACs (12, 13): one meaning per row. -/

namespace Sys2Proof.Machine

/-- A whole frame is received (R344); what it delivers to the host port is taken in, and replies leave. -/
def Dev.frameRow (m : Nat) (bytes : List Byte) (err : Bool) (d : Dev) : Dev :=
  if 5 < m then d
  else
    let (fs, d) := d.frameReceive m bytes err
    d.toHost m fs

/-- A MAC control frame is received (R350). -/
def Dev.pauseRow (m : Nat) (bytes : List Byte) (d : Dev) : Dev := if frType bytes == 0x8808 then d.frameRow m bytes false else d

/-- A free egress MAC picks a frame (R322); packets that wait for the UDP port enter the switch first. -/
def Dev.egressRow (m : Nat) (d : Dev) : Dev := if 5 < m then d else (d.udpOut).egress m

/-- A frame leaves whole; a datagram whose last fragment has left is done (R143). -/
def Dev.sentRow (m : Nat) (d : Dev) : Dev := if 5 < m then d else (d.frameSent m).udpOut

/-- LINK_DOWN: a ring port loops with it (R483). -/
def Dev.linkDownRow (m : Nat) (d : Dev) : Dev :=
  if 5 < m then d
  else
    let d := d.linkDown m
    if d.inRing m && !(d.mac m).linkUp then d.portLoop (m / 2) (m % 2 == 1) else d

/-- LINK_UP: a ring port unloops (R483). -/
def Dev.linkUpRow (m : Nat) (d : Dev) : Dev :=
  if 5 < m then d
  else
    let d := d.linkUp m
    if d.inRing m && (d.mac m).linkUp then d.portUnloop (m / 2) (m % 2 == 1) else d

/-- A pipe is found faulty (R325): service event 0x04, and its fence. -/
def Dev.pipeFault (k : Nat) (d : Dev) : Dev :=
  let d := if d.swc.pipe == k && !(d.pipeDown (1 - k)) then d.setSwc (fun s => { s with pipe := 1 - k }) else d
  (d.serviceEvent 4 k).bareFault (0x09 + k) 2 0

/-- PIPE_DISAGREEMENT (R325): which working copies differ from the table of record; if neither does, the active pipe is deemed
faulty. Both pipes have to be checking. -/
def Dev.pipeDisagree (a b : Bool) (d : Dev) : Dev :=
  if d.pipeDown 0 || d.pipeDown 1 then d
  else
    let d := d.faultWakes
    let act := d.swc.pipe
    let bad0 := a || (!b && act == 0)
    let bad1 := b || (!a && act == 1)
    d.episode (fun d =>
      let d := if bad0 then d.pipeFault 0 else d
      if bad1 then d.pipeFault 1 else d)

/-- PIPE_RELOAD_COMPLETE (R325): the pipe checks again. -/
def Dev.pipeReloaded (k : Nat) (d : Dev) : Dev :=
  if d.islandUp (0x09 + k) then d.setSwc (fun s => { s with reload := upd s.reload k (fun _ => false) }) else d

def execFrameReceive (mac : Nat) (bytes : List Byte) (rxErr : Bool) (s : State) := s.run (Dev.frameRow mac bytes rxErr)
def execClassificationPoint (mac : Nat) (head : List Byte) (s : State) := s.run (fun d => if 5 < mac then d else d.classificationPoint mac head)
def execEgressScheduling (mac : Nat) (s : State) := s.run (Dev.egressRow mac)
def execFrameTransmitted (mac : Nat) (s : State) := s.run (Dev.sentRow mac)
def execAddressAgeExpiry (way : Nat) (s : State) := s.run (fun d => d.fdbAge way)
def execPipeDisagreement (aWrong bWrong : Bool) (s : State) := s.run (Dev.pipeDisagree aWrong bWrong)
def execPipeReloadComplete (pipe : Nat) (s : State) := s.run (Dev.pipeReloaded (pipe % 2))
def execBankRetired (bank : Nat) (s : State) := s.run (fun d => d.bankRetired bank)
def execLinkDownHoldExpiry (port : Nat) (s : State) := s.run (fun d => if 5 < port then d else d.holdExpiry port)
def execLinkDown (mac : Nat) (s : State) := s.run (Dev.linkDownRow mac)
def execLinkUp (mac : Nat) (s : State) := s.run (Dev.linkUpRow mac)
def execPauseRefresh (mac : Nat) (s : State) := s.run (fun d => if 5 < mac then d else d.pauseRefresh mac)
def execPauseFrameReceive (mac : Nat) (bytes : List Byte) (s : State) := s.run (Dev.pauseRow mac bytes)
def execPauseHoldExpiry (mac : Nat) (s : State) := s.run (fun d => if 5 < mac then d else d.pauseHoldEnd mac)

end Sys2Proof.Machine
end

