-- ==== Sys2Proof/Machine/RowsTime.lean ====
section
/-! DEFINITION. The rows of the Orrery (17), the forme rings (18) and the meridians: one meaning per row. -/

namespace Sys2Proof.Machine

/-- STEP_INSTANT (R443): compares that the step ends fire (R256), and an absolute alarm meets it (R514). -/
def Dev.stepRow (d : Dev) : Dev := if d.orr.step.isSome then d.stepInstantEffect.alarmAtStep else d

/-- A row of a ring that the part has. -/
def ringRow (r : Nat) (s : State) (f : Dev → Dev) : Host.Outcome State Fault Refusal := s.run (fun d => if 1 < r then d else f d)

def execPtpMessageReceived (m : PtpRx) (s : State) := s.run (Dev.ptpReceived m)
def execPtpMessageTransmit (mac : Nat) (kind : PtpKind) (s : State) := s.run (Dev.ptpTransmit mac kind)
def execStepInstant (s : State) := s.run Dev.stepRow
def execLossTimeExpiry (s : State) := s.run Dev.lossExpiry
def execHoldoverQualityStep (s : State) := s.run Dev.holdoverStep
def execWalkStop (s : State) := s.run Dev.walkStop
def execPulseEdge (i : Nat) (s : State) := s.run (fun d => d.pulseEdge i)
def execEventCapture (input : Nat) (rising : Bool) (s : State) := s.run (fun d => if 3 < input then d else d.eventEdge input rising)

def execMeridian (dom : Nat) (s : State) := s.run (Dev.meridian dom)
def execSubstituteMeridian (ring : Nat) (s : State) := ringRow ring s (Dev.substitute ring)
def execCycleForme (ring : Nat) (odd : Bool) (bytes : List Byte) (s : State) := s.run (Dev.formeIn ring odd bytes)
def execReturnedCopy (ring : Nat) (sentOdd retOdd : Bool) (bytes : List Byte) (s : State) :=
  ringRow ring s (fun d => d.returnedCopy ring sentOdd retOdd bytes)
def execReturnLimit (ring : Nat) (s : State) := ringRow ring s (fun d => d.returnLimit ring)
def execClaimForme (ring : Nat) (odd : Bool) (bytes : List Byte) (s : State) := ringRow ring s (fun d => d.claimForme ring odd bytes)
def execClaimListenExpiry (ring : Nat) (s : State) := ringRow ring s (fun d => d.claimListen ring)
def execPortLoop (ring : Nat) (odd : Bool) (s : State) := ringRow ring s (fun d => d.portLoop ring odd)

end Sys2Proof.Machine
end

