-- ==== Sys2Proof/Machine/RowsVerind.lean ====
section
/-! DEFINITION. The meanings of the Verind opcodes: each row is a packet that carries its opcode and reaches a host port. -/

namespace Sys2Proof.Machine

/-- A packet of opcode `op` reaches a host port (R86, R113): on an enabled port, in RUN to NAP, it is checked, classified, executed
in its turn and answered; in SLUMBER it only wakes the part (R516). The answers by UDP enter the switch. -/
def Dev.verindRow (op : Nat) (c : VCmd) (d : Dev) : Dev :=
  if !(d.portEnabled c.src.port) then d
  else
    let (take, d) := d.hostWakes
    if take then ((if c.src.port == 3 then d.touchPeer c.src else d).receive execOpcode op c).udpOut else d

def execDeviceInfo (c : VCmd) (s : State) : Host.Outcome State Fault Refusal := s.run (Dev.verindRow 0x0000 c)
def execChannelOpen (c : VCmd) (s : State) : Host.Outcome State Fault Refusal := s.run (Dev.verindRow 0x0001 c)
def execChannelClose (c : VCmd) (s : State) : Host.Outcome State Fault Refusal := s.run (Dev.verindRow 0x0002 c)
def execEventAck (c : VCmd) (s : State) : Host.Outcome State Fault Refusal := s.run (Dev.verindRow 0x0003 c)
def execIslandStatus (c : VCmd) (s : State) : Host.Outcome State Fault Refusal := s.run (Dev.verindRow 0x0004 c)
def execIslandClear (c : VCmd) (s : State) : Host.Outcome State Fault Refusal := s.run (Dev.verindRow 0x0005 c)
def execQuoinQuery (c : VCmd) (s : State) : Host.Outcome State Fault Refusal := s.run (Dev.verindRow 0x0006 c)
def execSettingGet (c : VCmd) (s : State) : Host.Outcome State Fault Refusal := s.run (Dev.verindRow 0x0007 c)
def execSettingSet (c : VCmd) (s : State) : Host.Outcome State Fault Refusal := s.run (Dev.verindRow 0x0008 c)
def execDeviceReset (c : VCmd) (s : State) : Host.Outcome State Fault Refusal := s.run (Dev.verindRow 0x0009 c)
def execFuncEnable (c : VCmd) (s : State) : Host.Outcome State Fault Refusal := s.run (Dev.verindRow 0x0100 c)
def execFuncDisable (c : VCmd) (s : State) : Host.Outcome State Fault Refusal := s.run (Dev.verindRow 0x0101 c)
def execFuncStatus (c : VCmd) (s : State) : Host.Outcome State Fault Refusal := s.run (Dev.verindRow 0x0102 c)
def execFuncClear (c : VCmd) (s : State) : Host.Outcome State Fault Refusal := s.run (Dev.verindRow 0x0103 c)
def execFuncList (c : VCmd) (s : State) : Host.Outcome State Fault Refusal := s.run (Dev.verindRow 0x0104 c)
def execAlmanacInfo (c : VCmd) (s : State) : Host.Outcome State Fault Refusal := s.run (Dev.verindRow 0x0200 c)
def execAlmanacSave (c : VCmd) (s : State) : Host.Outcome State Fault Refusal := s.run (Dev.verindRow 0x0201 c)
def execAlmanacRead (c : VCmd) (s : State) : Host.Outcome State Fault Refusal := s.run (Dev.verindRow 0x0202 c)
def execAlmanacWrite (c : VCmd) (s : State) : Host.Outcome State Fault Refusal := s.run (Dev.verindRow 0x0203 c)
def execAlmanacCompact (c : VCmd) (s : State) : Host.Outcome State Fault Refusal := s.run (Dev.verindRow 0x0204 c)
def execTypecaseInfo (c : VCmd) (s : State) : Host.Outcome State Fault Refusal := s.run (Dev.verindRow 0x0300 c)
def execImageList (c : VCmd) (s : State) : Host.Outcome State Fault Refusal := s.run (Dev.verindRow 0x0301 c)
def execImageBegin (c : VCmd) (s : State) : Host.Outcome State Fault Refusal := s.run (Dev.verindRow 0x0302 c)
def execImageData (c : VCmd) (s : State) : Host.Outcome State Fault Refusal := s.run (Dev.verindRow 0x0303 c)
def execImageEnd (c : VCmd) (s : State) : Host.Outcome State Fault Refusal := s.run (Dev.verindRow 0x0304 c)
def execImageDelete (c : VCmd) (s : State) : Host.Outcome State Fault Refusal := s.run (Dev.verindRow 0x0305 c)
def execEngineConfig (c : VCmd) (s : State) : Host.Outcome State Fault Refusal := s.run (Dev.verindRow 0x0400 c)
def execEngineStatus (c : VCmd) (s : State) : Host.Outcome State Fault Refusal := s.run (Dev.verindRow 0x0401 c)
def execSpareArm (c : VCmd) (s : State) : Host.Outcome State Fault Refusal := s.run (Dev.verindRow 0x0402 c)
def execSpareDisarm (c : VCmd) (s : State) : Host.Outcome State Fault Refusal := s.run (Dev.verindRow 0x0403 c)
def execEngineMigrate (c : VCmd) (s : State) : Host.Outcome State Fault Refusal := s.run (Dev.verindRow 0x0404 c)
def execPersonalityParam (c : VCmd) (s : State) : Host.Outcome State Fault Refusal := s.run (Dev.verindRow 0x0405 c)
def execPortConfig (c : VCmd) (s : State) : Host.Outcome State Fault Refusal := s.run (Dev.verindRow 0x0500 c)
def execVlanSet (c : VCmd) (s : State) : Host.Outcome State Fault Refusal := s.run (Dev.verindRow 0x0501 c)
def execFdbAdd (c : VCmd) (s : State) : Host.Outcome State Fault Refusal := s.run (Dev.verindRow 0x0502 c)
def execFdbDelete (c : VCmd) (s : State) : Host.Outcome State Fault Refusal := s.run (Dev.verindRow 0x0503 c)
def execFdbRead (c : VCmd) (s : State) : Host.Outcome State Fault Refusal := s.run (Dev.verindRow 0x0504 c)
def execGalleyConfig (c : VCmd) (s : State) : Host.Outcome State Fault Refusal := s.run (Dev.verindRow 0x0505 c)
def execFilterSet (c : VCmd) (s : State) : Host.Outcome State Fault Refusal := s.run (Dev.verindRow 0x0506 c)
def execSwitchCounters (c : VCmd) (s : State) : Host.Outcome State Fault Refusal := s.run (Dev.verindRow 0x0507 c)
def execMacConfig (c : VCmd) (s : State) : Host.Outcome State Fault Refusal := s.run (Dev.verindRow 0x0600 c)
def execMacCounters (c : VCmd) (s : State) : Host.Outcome State Fault Refusal := s.run (Dev.verindRow 0x0601 c)
def execMdioRead (c : VCmd) (s : State) : Host.Outcome State Fault Refusal := s.run (Dev.verindRow 0x0602 c)
def execMdioWrite (c : VCmd) (s : State) : Host.Outcome State Fault Refusal := s.run (Dev.verindRow 0x0603 c)
def execProofConfig (c : VCmd) (s : State) : Host.Outcome State Fault Refusal := s.run (Dev.verindRow 0x0700 c)
def execMirrorConfig (c : VCmd) (s : State) : Host.Outcome State Fault Refusal := s.run (Dev.verindRow 0x0701 c)
def execMirrorCounters (c : VCmd) (s : State) : Host.Outcome State Fault Refusal := s.run (Dev.verindRow 0x0702 c)
def execMbConfig (c : VCmd) (s : State) : Host.Outcome State Fault Refusal := s.run (Dev.verindRow 0x0800 c)
def execMbRateDetect (c : VCmd) (s : State) : Host.Outcome State Fault Refusal := s.run (Dev.verindRow 0x0801 c)
def execMbObjectConfig (c : VCmd) (s : State) : Host.Outcome State Fault Refusal := s.run (Dev.verindRow 0x0802 c)
def execMbRingConfig (c : VCmd) (s : State) : Host.Outcome State Fault Refusal := s.run (Dev.verindRow 0x0803 c)
def execMbTransmit (c : VCmd) (s : State) : Host.Outcome State Fault Refusal := s.run (Dev.verindRow 0x0804 c)
def execMbWakeConfig (c : VCmd) (s : State) : Host.Outcome State Fault Refusal := s.run (Dev.verindRow 0x0805 c)
def execMbStatus (c : VCmd) (s : State) : Host.Outcome State Fault Refusal := s.run (Dev.verindRow 0x0806 c)
def execSlConfig (c : VCmd) (s : State) : Host.Outcome State Fault Refusal := s.run (Dev.verindRow 0x0900 c)
def execSlStatus (c : VCmd) (s : State) : Host.Outcome State Fault Refusal := s.run (Dev.verindRow 0x0901 c)
def execTimeGet (c : VCmd) (s : State) : Host.Outcome State Fault Refusal := s.run (Dev.verindRow 0x0A00 c)
def execTimeConfig (c : VCmd) (s : State) : Host.Outcome State Fault Refusal := s.run (Dev.verindRow 0x0A01 c)
def execTimeStep (c : VCmd) (s : State) : Host.Outcome State Fault Refusal := s.run (Dev.verindRow 0x0A02 c)
def execPulseConfig (c : VCmd) (s : State) : Host.Outcome State Fault Refusal := s.run (Dev.verindRow 0x0A03 c)
def execCaptureConfig (c : VCmd) (s : State) : Host.Outcome State Fault Refusal := s.run (Dev.verindRow 0x0A04 c)
def execTimeStatus (c : VCmd) (s : State) : Host.Outcome State Fault Refusal := s.run (Dev.verindRow 0x0A05 c)
def execFormeRingConfig (c : VCmd) (s : State) : Host.Outcome State Fault Refusal := s.run (Dev.verindRow 0x0B00 c)
def execImpositionWrite (c : VCmd) (s : State) : Host.Outcome State Fault Refusal := s.run (Dev.verindRow 0x0B01 c)
def execImpositionSwitch (c : VCmd) (s : State) : Host.Outcome State Fault Refusal := s.run (Dev.verindRow 0x0B02 c)
def execFormeStatus (c : VCmd) (s : State) : Host.Outcome State Fault Refusal := s.run (Dev.verindRow 0x0B03 c)
def execPowerPolicy (c : VCmd) (s : State) : Host.Outcome State Fault Refusal := s.run (Dev.verindRow 0x0C00 c)
def execDeadline (c : VCmd) (s : State) : Host.Outcome State Fault Refusal := s.run (Dev.verindRow 0x0C01 c)
def execAlarmSet (c : VCmd) (s : State) : Host.Outcome State Fault Refusal := s.run (Dev.verindRow 0x0C02 c)
def execWakeConfig (c : VCmd) (s : State) : Host.Outcome State Fault Refusal := s.run (Dev.verindRow 0x0C03 c)
def execPowerStatus (c : VCmd) (s : State) : Host.Outcome State Fault Refusal := s.run (Dev.verindRow 0x0C04 c)
def execFaultLogRead (c : VCmd) (s : State) : Host.Outcome State Fault Refusal := s.run (Dev.verindRow 0x0D00 c)
def execServiceCounters (c : VCmd) (s : State) : Host.Outcome State Fault Refusal := s.run (Dev.verindRow 0x0D01 c)
def execRepair (c : VCmd) (s : State) : Host.Outcome State Fault Refusal := s.run (Dev.verindRow 0x0D02 c)
def execEngineReturn (c : VCmd) (s : State) : Host.Outcome State Fault Refusal := s.run (Dev.verindRow 0x0D03 c)
def execBankRetire (c : VCmd) (s : State) : Host.Outcome State Fault Refusal := s.run (Dev.verindRow 0x0D04 c)
def execSectorRetire (c : VCmd) (s : State) : Host.Outcome State Fault Refusal := s.run (Dev.verindRow 0x0D05 c)
def execPipeSwitchover (c : VCmd) (s : State) : Host.Outcome State Fault Refusal := s.run (Dev.verindRow 0x0D06 c)
def execPortRemap (c : VCmd) (s : State) : Host.Outcome State Fault Refusal := s.run (Dev.verindRow 0x0D07 c)
def execSmRemove (c : VCmd) (s : State) : Host.Outcome State Fault Refusal := s.run (Dev.verindRow 0x0D08 c)
def execSmInsert (c : VCmd) (s : State) : Host.Outcome State Fault Refusal := s.run (Dev.verindRow 0x0D09 c)
def execKeyInfo (c : VCmd) (s : State) : Host.Outcome State Fault Refusal := s.run (Dev.verindRow 0x0E00 c)
def execKeyRevoke (c : VCmd) (s : State) : Host.Outcome State Fault Refusal := s.run (Dev.verindRow 0x0E01 c)
def execDebugChallenge (c : VCmd) (s : State) : Host.Outcome State Fault Refusal := s.run (Dev.verindRow 0x0E02 c)
def execDebugResponse (c : VCmd) (s : State) : Host.Outcome State Fault Refusal := s.run (Dev.verindRow 0x0E03 c)
def execRingConfig (c : VCmd) (s : State) : Host.Outcome State Fault Refusal := s.run (Dev.verindRow 0x0F00 c)
def execRingStatus (c : VCmd) (s : State) : Host.Outcome State Fault Refusal := s.run (Dev.verindRow 0x0F01 c)
def execWindowOpen (c : VCmd) (s : State) : Host.Outcome State Fault Refusal := s.run (Dev.verindRow 0x0F02 c)
def execWindowCommit (c : VCmd) (s : State) : Host.Outcome State Fault Refusal := s.run (Dev.verindRow 0x0F03 c)
def execWindowClose (c : VCmd) (s : State) : Host.Outcome State Fault Refusal := s.run (Dev.verindRow 0x0F04 c)
def execChannelBind (c : VCmd) (s : State) : Host.Outcome State Fault Refusal := s.run (Dev.verindRow 0x0F05 c)
def execAttnConfig (c : VCmd) (s : State) : Host.Outcome State Fault Refusal := s.run (Dev.verindRow 0x0F06 c)

end Sys2Proof.Machine
end

