-- ==== Sys2Proof/Machine/Dispatch.lean ====
section
/-! DEFINITION. The meaning of every command, by one arm for each constructor. -/

namespace Sys2Proof.Machine

def exec (i : Instr) (s : State) : Host.Outcome State Fault Refusal :=
  match i with
  | .deviceInfo c => Sys2Proof.Machine.execDeviceInfo c s
  | .channelOpen c => Sys2Proof.Machine.execChannelOpen c s
  | .channelClose c => Sys2Proof.Machine.execChannelClose c s
  | .eventAck c => Sys2Proof.Machine.execEventAck c s
  | .islandStatus c => Sys2Proof.Machine.execIslandStatus c s
  | .islandClear c => Sys2Proof.Machine.execIslandClear c s
  | .quoinQuery c => Sys2Proof.Machine.execQuoinQuery c s
  | .settingGet c => Sys2Proof.Machine.execSettingGet c s
  | .settingSet c => Sys2Proof.Machine.execSettingSet c s
  | .deviceReset c => Sys2Proof.Machine.execDeviceReset c s
  | .funcEnable c => Sys2Proof.Machine.execFuncEnable c s
  | .funcDisable c => Sys2Proof.Machine.execFuncDisable c s
  | .funcStatus c => Sys2Proof.Machine.execFuncStatus c s
  | .funcClear c => Sys2Proof.Machine.execFuncClear c s
  | .funcList c => Sys2Proof.Machine.execFuncList c s
  | .almanacInfo c => Sys2Proof.Machine.execAlmanacInfo c s
  | .almanacSave c => Sys2Proof.Machine.execAlmanacSave c s
  | .almanacRead c => Sys2Proof.Machine.execAlmanacRead c s
  | .almanacWrite c => Sys2Proof.Machine.execAlmanacWrite c s
  | .almanacCompact c => Sys2Proof.Machine.execAlmanacCompact c s
  | .typecaseInfo c => Sys2Proof.Machine.execTypecaseInfo c s
  | .imageList c => Sys2Proof.Machine.execImageList c s
  | .imageBegin c => Sys2Proof.Machine.execImageBegin c s
  | .imageData c => Sys2Proof.Machine.execImageData c s
  | .imageEnd c => Sys2Proof.Machine.execImageEnd c s
  | .imageDelete c => Sys2Proof.Machine.execImageDelete c s
  | .engineConfig c => Sys2Proof.Machine.execEngineConfig c s
  | .engineStatus c => Sys2Proof.Machine.execEngineStatus c s
  | .spareArm c => Sys2Proof.Machine.execSpareArm c s
  | .spareDisarm c => Sys2Proof.Machine.execSpareDisarm c s
  | .engineMigrate c => Sys2Proof.Machine.execEngineMigrate c s
  | .personalityParam c => Sys2Proof.Machine.execPersonalityParam c s
  | .portConfig c => Sys2Proof.Machine.execPortConfig c s
  | .vlanSet c => Sys2Proof.Machine.execVlanSet c s
  | .fdbAdd c => Sys2Proof.Machine.execFdbAdd c s
  | .fdbDelete c => Sys2Proof.Machine.execFdbDelete c s
  | .fdbRead c => Sys2Proof.Machine.execFdbRead c s
  | .galleyConfig c => Sys2Proof.Machine.execGalleyConfig c s
  | .filterSet c => Sys2Proof.Machine.execFilterSet c s
  | .switchCounters c => Sys2Proof.Machine.execSwitchCounters c s
  | .macConfig c => Sys2Proof.Machine.execMacConfig c s
  | .macCounters c => Sys2Proof.Machine.execMacCounters c s
  | .mdioRead c => Sys2Proof.Machine.execMdioRead c s
  | .mdioWrite c => Sys2Proof.Machine.execMdioWrite c s
  | .proofConfig c => Sys2Proof.Machine.execProofConfig c s
  | .mirrorConfig c => Sys2Proof.Machine.execMirrorConfig c s
  | .mirrorCounters c => Sys2Proof.Machine.execMirrorCounters c s
  | .mbConfig c => Sys2Proof.Machine.execMbConfig c s
  | .mbRateDetect c => Sys2Proof.Machine.execMbRateDetect c s
  | .mbObjectConfig c => Sys2Proof.Machine.execMbObjectConfig c s
  | .mbRingConfig c => Sys2Proof.Machine.execMbRingConfig c s
  | .mbTransmit c => Sys2Proof.Machine.execMbTransmit c s
  | .mbWakeConfig c => Sys2Proof.Machine.execMbWakeConfig c s
  | .mbStatus c => Sys2Proof.Machine.execMbStatus c s
  | .slConfig c => Sys2Proof.Machine.execSlConfig c s
  | .slStatus c => Sys2Proof.Machine.execSlStatus c s
  | .timeGet c => Sys2Proof.Machine.execTimeGet c s
  | .timeConfig c => Sys2Proof.Machine.execTimeConfig c s
  | .timeStep c => Sys2Proof.Machine.execTimeStep c s
  | .pulseConfig c => Sys2Proof.Machine.execPulseConfig c s
  | .captureConfig c => Sys2Proof.Machine.execCaptureConfig c s
  | .timeStatus c => Sys2Proof.Machine.execTimeStatus c s
  | .formeRingConfig c => Sys2Proof.Machine.execFormeRingConfig c s
  | .impositionWrite c => Sys2Proof.Machine.execImpositionWrite c s
  | .impositionSwitch c => Sys2Proof.Machine.execImpositionSwitch c s
  | .formeStatus c => Sys2Proof.Machine.execFormeStatus c s
  | .powerPolicy c => Sys2Proof.Machine.execPowerPolicy c s
  | .deadline c => Sys2Proof.Machine.execDeadline c s
  | .alarmSet c => Sys2Proof.Machine.execAlarmSet c s
  | .wakeConfig c => Sys2Proof.Machine.execWakeConfig c s
  | .powerStatus c => Sys2Proof.Machine.execPowerStatus c s
  | .faultLogRead c => Sys2Proof.Machine.execFaultLogRead c s
  | .serviceCounters c => Sys2Proof.Machine.execServiceCounters c s
  | .repair c => Sys2Proof.Machine.execRepair c s
  | .engineReturn c => Sys2Proof.Machine.execEngineReturn c s
  | .bankRetire c => Sys2Proof.Machine.execBankRetire c s
  | .sectorRetire c => Sys2Proof.Machine.execSectorRetire c s
  | .pipeSwitchover c => Sys2Proof.Machine.execPipeSwitchover c s
  | .portRemap c => Sys2Proof.Machine.execPortRemap c s
  | .smRemove c => Sys2Proof.Machine.execSmRemove c s
  | .smInsert c => Sys2Proof.Machine.execSmInsert c s
  | .keyInfo c => Sys2Proof.Machine.execKeyInfo c s
  | .keyRevoke c => Sys2Proof.Machine.execKeyRevoke c s
  | .debugChallenge c => Sys2Proof.Machine.execDebugChallenge c s
  | .debugResponse c => Sys2Proof.Machine.execDebugResponse c s
  | .ringConfig c => Sys2Proof.Machine.execRingConfig c s
  | .ringStatus c => Sys2Proof.Machine.execRingStatus c s
  | .windowOpen c => Sys2Proof.Machine.execWindowOpen c s
  | .windowCommit c => Sys2Proof.Machine.execWindowCommit c s
  | .windowClose c => Sys2Proof.Machine.execWindowClose c s
  | .channelBind c => Sys2Proof.Machine.execChannelBind c s
  | .attnConfig c => Sys2Proof.Machine.execAttnConfig c s
  | .status r => Sys2Proof.Machine.execStatus r s
  | .id r => Sys2Proof.Machine.execId r s
  | .pktWrite quad bytes => Sys2Proof.Machine.execPktWrite quad bytes s
  | .pktRead quad n => Sys2Proof.Machine.execPktRead quad n s
  | .winWrite quad addr data => Sys2Proof.Machine.execWinWrite quad addr data s
  | .winRead quad addr n => Sys2Proof.Machine.execWinRead quad addr n s
  | .unknownInstruction b => Sys2Proof.Machine.execUnknownInstruction b s
  | .pktIn w => Sys2Proof.Machine.execPktIn w s
  | .pktEnd => Sys2Proof.Machine.execPktEnd s
  | .pktOut => Sys2Proof.Machine.execPktOut s
  | .winDataWrite w => Sys2Proof.Machine.execWinDataWrite w s
  | .winDataRead => Sys2Proof.Machine.execWinDataRead s
  | .windowReadRequest p bytes => Sys2Proof.Machine.execWindowReadRequest p bytes s
  | .windowWriteRequest p bytes => Sys2Proof.Machine.execWindowWriteRequest p bytes s
  | .arpRequest mac vid ip target => Sys2Proof.Machine.execArpRequest mac vid ip target s
  | .reassemblyTimeout ip => Sys2Proof.Machine.execReassemblyTimeout ip s
  | .eventRetry seq => Sys2Proof.Machine.execEventRetry seq s
  | .outputQueueTimeout port => Sys2Proof.Machine.execOutputQueueTimeout port s
  | .udpLinkLossTimeout => Sys2Proof.Machine.execUdpLinkLossTimeout s
  | .vddAonPowerOn boot host porstHigh => Sys2Proof.Machine.execVddAonPowerOn boot host porstHigh s
  | .porstAssert ns => Sys2Proof.Machine.execPorstAssert ns s
  | .porstRelease boot host => Sys2Proof.Machine.execPorstRelease boot host s
  | .start x => Sys2Proof.Machine.execStart x s
  | .oscillatorStart => Sys2Proof.Machine.execOscillatorStart s
  | .resilveringEnd sm ok fram capacity => Sys2Proof.Machine.execResilveringEnd sm ok fram capacity s
  | .almanacGroupCommit => Sys2Proof.Machine.execAlmanacGroupCommit s
  | .journalling => Sys2Proof.Machine.execJournalling s
  | .serialMemoryFault sm => Sys2Proof.Machine.execSerialMemoryFault sm s
  | .pageProgramComplete ok => Sys2Proof.Machine.execPageProgramComplete ok s
  | .sectorEraseComplete ok hot => Sys2Proof.Machine.execSectorEraseComplete ok hot s
  | .typecaseSuspend bank => Sys2Proof.Machine.execTypecaseSuspend bank s
  | .typecaseSuspendLimit bank => Sys2Proof.Machine.execTypecaseSuspendLimit bank s
  | .patrolRead bank sector bad corrected => Sys2Proof.Machine.execPatrolRead bank sector bad corrected s
  | .sramScrub corrected bad => Sys2Proof.Machine.execSramScrub corrected bad s
  | .correctedMemoryError => Sys2Proof.Machine.execCorrectedMemoryError s
  | .uncorrectableMemoryError x => Sys2Proof.Machine.execUncorrectableMemoryError x s
  | .engineFault pe cause => Sys2Proof.Machine.execEngineFault pe cause s
  | .hangTimeout island => Sys2Proof.Machine.execHangTimeout island s
  | .livenessProbe silent => Sys2Proof.Machine.execLivenessProbe silent s
  | .lockstepMismatch => Sys2Proof.Machine.execLockstepMismatch s
  | .heartbeat missed => Sys2Proof.Machine.execHeartbeat missed s
  | .compositorRestart => Sys2Proof.Machine.execCompositorRestart s
  | .clockFault island => Sys2Proof.Machine.execClockFault island s
  | .referenceFault => Sys2Proof.Machine.execReferenceFault s
  | .supplyFault rail => Sys2Proof.Machine.execSupplyFault rail s
  | .coreRailRestart => Sys2Proof.Machine.execCoreRailRestart s
  | .islandReset island => Sys2Proof.Machine.execIslandReset island s
  | .leaseExpiry kind inst => Sys2Proof.Machine.execLeaseExpiry kind inst s
  | .functionStartComplete fid => Sys2Proof.Machine.execFunctionStartComplete fid s
  | .drainComplete fid => Sys2Proof.Machine.execDrainComplete fid s
  | .drainLimitExpiry fid => Sys2Proof.Machine.execDrainLimitExpiry fid s
  | .startLimitExpiry fid => Sys2Proof.Machine.execStartLimitExpiry fid s
  | .selfTestComplete pe fid pass => Sys2Proof.Machine.execSelfTestComplete pe fid pass s
  | .imageLoadComplete pe => Sys2Proof.Machine.execImageLoadComplete pe s
  | .meridian dom => Sys2Proof.Machine.execMeridian dom s
  | .plateReady plate => Sys2Proof.Machine.execPlateReady plate s
  | .cut le => Sys2Proof.Machine.execCut le s
  | .replayComplete le agrees => Sys2Proof.Machine.execReplayComplete le agrees s
  | .takeover le => Sys2Proof.Machine.execTakeover le s
  | .watchdogHalf pe => Sys2Proof.Machine.execWatchdogHalf pe s
  | .watchdogExpiry pe => Sys2Proof.Machine.execWatchdogExpiry pe s
  | .timerCompare pe n => Sys2Proof.Machine.execTimerCompare pe n s
  | .directorySharedRequest pe line => Sys2Proof.Machine.execDirectorySharedRequest pe line s
  | .directoryOwnedRequest pe line => Sys2Proof.Machine.execDirectoryOwnedRequest pe line s
  | .writeBack pe => Sys2Proof.Machine.execWriteBack pe s
  | .noncachingRead line => Sys2Proof.Machine.execNoncachingRead line s
  | .noncachingWrite a bytes => Sys2Proof.Machine.execNoncachingWrite a bytes s
  | .add pe rd rs1 rs2 => Sys2Proof.Machine.execAdd pe rd rs1 rs2 s
  | .sub pe rd rs1 rs2 => Sys2Proof.Machine.execSub pe rd rs1 rs2 s
  | .adc pe rd rs1 rs2 => Sys2Proof.Machine.execAdc pe rd rs1 rs2 s
  | .sbc pe rd rs1 rs2 => Sys2Proof.Machine.execSbc pe rd rs1 rs2 s
  | .and pe rd rs1 rs2 => Sys2Proof.Machine.execAnd pe rd rs1 rs2 s
  | .or pe rd rs1 rs2 => Sys2Proof.Machine.execOr pe rd rs1 rs2 s
  | .xor pe rd rs1 rs2 => Sys2Proof.Machine.execXor pe rd rs1 rs2 s
  | .andn pe rd rs1 rs2 => Sys2Proof.Machine.execAndn pe rd rs1 rs2 s
  | .sll pe rd rs1 rs2 => Sys2Proof.Machine.execSll pe rd rs1 rs2 s
  | .srl pe rd rs1 rs2 => Sys2Proof.Machine.execSrl pe rd rs1 rs2 s
  | .sra pe rd rs1 rs2 => Sys2Proof.Machine.execSra pe rd rs1 rs2 s
  | .ror pe rd rs1 rs2 => Sys2Proof.Machine.execRor pe rd rs1 rs2 s
  | .cmp pe rs1 rs2 => Sys2Proof.Machine.execCmp pe rs1 rs2 s
  | .tst pe rs1 rs2 => Sys2Proof.Machine.execTst pe rs1 rs2 s
  | .mul pe rd rs1 rs2 => Sys2Proof.Machine.execMul pe rd rs1 rs2 s
  | .mulhu pe rd rs1 rs2 => Sys2Proof.Machine.execMulhu pe rd rs1 rs2 s
  | .mulhs pe rd rs1 rs2 => Sys2Proof.Machine.execMulhs pe rd rs1 rs2 s
  | .min pe rd rs1 rs2 => Sys2Proof.Machine.execMin pe rd rs1 rs2 s
  | .max pe rd rs1 rs2 => Sys2Proof.Machine.execMax pe rd rs1 rs2 s
  | .minu pe rd rs1 rs2 => Sys2Proof.Machine.execMinu pe rd rs1 rs2 s
  | .maxu pe rd rs1 rs2 => Sys2Proof.Machine.execMaxu pe rd rs1 rs2 s
  | .addi pe rd rs1 imm => Sys2Proof.Machine.execAddi pe rd rs1 imm s
  | .andi pe rd rs1 imm => Sys2Proof.Machine.execAndi pe rd rs1 imm s
  | .ori pe rd rs1 imm => Sys2Proof.Machine.execOri pe rd rs1 imm s
  | .xori pe rd rs1 imm => Sys2Proof.Machine.execXori pe rd rs1 imm s
  | .lui pe rd imm => Sys2Proof.Machine.execLui pe rd imm s
  | .cmpi pe rs1 imm => Sys2Proof.Machine.execCmpi pe rs1 imm s
  | .slli pe rd rs1 a => Sys2Proof.Machine.execSlli pe rd rs1 a s
  | .srli pe rd rs1 a => Sys2Proof.Machine.execSrli pe rd rs1 a s
  | .srai pe rd rs1 a => Sys2Proof.Machine.execSrai pe rd rs1 a s
  | .rori pe rd rs1 a => Sys2Proof.Machine.execRori pe rd rs1 a s
  | .bfx pe rd rs1 a b => Sys2Proof.Machine.execBfx pe rd rs1 a b s
  | .bfxs pe rd rs1 a b => Sys2Proof.Machine.execBfxs pe rd rs1 a b s
  | .bfi pe rd rs1 rs2 a b => Sys2Proof.Machine.execBfi pe rd rs1 rs2 a b s
  | .clz pe rd rs1 => Sys2Proof.Machine.execClz pe rd rs1 s
  | .popc pe rd rs1 => Sys2Proof.Machine.execPopc pe rd rs1 s
  | .rev pe rd rs1 => Sys2Proof.Machine.execRev pe rd rs1 s
  | .brev pe rd rs1 => Sys2Proof.Machine.execBrev pe rd rs1 s
  | .crc pe rd rs1 rs2 poly width => Sys2Proof.Machine.execCrc pe rd rs1 rs2 poly width s
  | .ld pe rd base size imm => Sys2Proof.Machine.execLd pe rd base size imm s
  | .lds pe rd base size imm => Sys2Proof.Machine.execLds pe rd base size imm s
  | .st pe rd base size imm => Sys2Proof.Machine.execSt pe rd base size imm s
  | .cwb pe base imm => Sys2Proof.Machine.execCwb pe base imm s
  | .pref pe base imm => Sys2Proof.Machine.execPref pe base imm s
  | .swap pe rd rs1 rs2 => Sys2Proof.Machine.execSwap pe rd rs1 rs2 s
  | .aadd pe rd rs1 rs2 => Sys2Proof.Machine.execAadd pe rd rs1 rs2 s
  | .aand pe rd rs1 rs2 => Sys2Proof.Machine.execAand pe rd rs1 rs2 s
  | .aor pe rd rs1 rs2 => Sys2Proof.Machine.execAor pe rd rs1 rs2 s
  | .cas pe rd rs1 rs2 => Sys2Proof.Machine.execCas pe rd rs1 rs2 s
  | .pin pe rd rs1 imm => Sys2Proof.Machine.execPin pe rd rs1 imm s
  | .pout pe rd rs1 imm => Sys2Proof.Machine.execPout pe rd rs1 imm s
  | .qput pe rd rs1 rs2 => Sys2Proof.Machine.execQput pe rd rs1 rs2 s
  | .qget pe rd rs1 rs2 => Sys2Proof.Machine.execQget pe rd rs1 rs2 s
  | .b pe cond imm => Sys2Proof.Machine.execB pe cond imm s
  | .jal pe rd imm => Sys2Proof.Machine.execJal pe rd imm s
  | .jalr pe rd rs1 imm => Sys2Proof.Machine.execJalr pe rd rs1 imm s
  | .wait pe => Sys2Proof.Machine.execWait pe s
  | .waitu pe rs1 scale => Sys2Proof.Machine.execWaitu pe rs1 scale s
  | .illegalInstruction pe word => Sys2Proof.Machine.execIllegalInstruction pe word s
  | .registerWrite t => Sys2Proof.Machine.execRegisterWrite t s
  | .tickLo pe rd => Sys2Proof.Machine.execTickLo pe rd s
  | .tmrCtl pe n v => Sys2Proof.Machine.execTmrCtl pe n v s
  | .wdPeriod pe v => Sys2Proof.Machine.execWdPeriod pe v s
  | .wdKick pe v => Sys2Proof.Machine.execWdKick pe v s
  | .qreq pe v => Sys2Proof.Machine.execQreq pe v s
  | .qrel pe v => Sys2Proof.Machine.execQrel pe v s
  | .plateCtlDone pe => Sys2Proof.Machine.execPlateCtlDone pe s
  | .plateCtlCommit pe => Sys2Proof.Machine.execPlateCtlCommit pe s
  | .paramData pe rd => Sys2Proof.Machine.execParamData pe rd s
  | .rxPost pe v => Sys2Proof.Machine.execRxPost pe v s
  | .rxDone pe rd => Sys2Proof.Machine.execRxDone pe rd s
  | .txCtl pe v => Sys2Proof.Machine.execTxCtl pe v s
  | .typSuspRequest pe bank => Sys2Proof.Machine.execTypSuspRequest pe bank s
  | .typSuspRelease pe bank => Sys2Proof.Machine.execTypSuspRelease pe bank s
  | .almCtlRead pe => Sys2Proof.Machine.execAlmCtlRead pe s
  | .almCtlWrite pe => Sys2Proof.Machine.execAlmCtlWrite pe s
  | .mbRidx pe v => Sys2Proof.Machine.execMbRidx pe v s
  | .mbRdata pe rd => Sys2Proof.Machine.execMbRdata pe rd s
  | .mbOdataRead pe rd => Sys2Proof.Machine.execMbOdataRead pe rd s
  | .mbOdataWrite pe v => Sys2Proof.Machine.execMbOdataWrite pe v s
  | .mbTxreq pe obj => Sys2Proof.Machine.execMbTxreq pe obj s
  | .mbTxreqWithdraw pe obj => Sys2Proof.Machine.execMbTxreqWithdraw pe obj s
  | .mbStamp pe rd => Sys2Proof.Machine.execMbStamp pe rd s
  | .slRxdata pe rd => Sys2Proof.Machine.execSlRxdata pe rd s
  | .slTxdata pe v => Sys2Proof.Machine.execSlTxdata pe v s
  | .slTxctl pe v => Sys2Proof.Machine.execSlTxctl pe v s
  | .frCtlRun pe lock => Sys2Proof.Machine.execFrCtlRun pe lock s
  | .frCtlLock pe run => Sys2Proof.Machine.execFrCtlLock pe run s
  | .impData pe v => Sys2Proof.Machine.execImpData pe v s
  | .impSwitch pe n => Sys2Proof.Machine.execImpSwitch pe n s
  | .frameReceive mac bytes rxErr => Sys2Proof.Machine.execFrameReceive mac bytes rxErr s
  | .classificationPoint mac head => Sys2Proof.Machine.execClassificationPoint mac head s
  | .egressScheduling mac => Sys2Proof.Machine.execEgressScheduling mac s
  | .frameTransmitted mac => Sys2Proof.Machine.execFrameTransmitted mac s
  | .addressAgeExpiry way => Sys2Proof.Machine.execAddressAgeExpiry way s
  | .pipeDisagreement aWrong bWrong => Sys2Proof.Machine.execPipeDisagreement aWrong bWrong s
  | .pipeReloadComplete pipe => Sys2Proof.Machine.execPipeReloadComplete pipe s
  | .bankRetired bank => Sys2Proof.Machine.execBankRetired bank s
  | .linkDownHoldExpiry port => Sys2Proof.Machine.execLinkDownHoldExpiry port s
  | .linkDown mac => Sys2Proof.Machine.execLinkDown mac s
  | .linkUp mac => Sys2Proof.Machine.execLinkUp mac s
  | .pauseRefresh mac => Sys2Proof.Machine.execPauseRefresh mac s
  | .pauseFrameReceive mac bytes => Sys2Proof.Machine.execPauseFrameReceive mac bytes s
  | .pauseHoldExpiry mac => Sys2Proof.Machine.execPauseHoldExpiry mac s
  | .mbFrameReceived n f => Sys2Proof.Machine.execMbFrameReceived n f s
  | .mbFrameSent n => Sys2Proof.Machine.execMbFrameSent n s
  | .mbBusError n e => Sys2Proof.Machine.execMbBusError n e s
  | .busOffRecovery n => Sys2Proof.Machine.execBusOffRecovery n s
  | .integration n => Sys2Proof.Machine.execIntegration n s
  | .stuckDominant n => Sys2Proof.Machine.execStuckDominant n s
  | .lockExpiry n obj => Sys2Proof.Machine.execLockExpiry n obj s
  | .rateDetectTimeout n => Sys2Proof.Machine.execRateDetectTimeout n s
  | .dominantEdgeWake n => Sys2Proof.Machine.execDominantEdgeWake n s
  | .referenceMessage n m => Sys2Proof.Machine.execReferenceMessage n m s
  | .potentialMasterTimeout n => Sys2Proof.Machine.execPotentialMasterTimeout n s
  | .impositionEntry dom => Sys2Proof.Machine.execImpositionEntry dom s
  | .guardianViolation n => Sys2Proof.Machine.execGuardianViolation n s
  | .slCharacterReceived n ch pe fe brk ago => Sys2Proof.Machine.execSlCharacterReceived n ch pe fe brk ago s
  | .slCharacterSent n => Sys2Proof.Machine.execSlCharacterSent n s
  | .deLagExpiry n => Sys2Proof.Machine.execDeLagExpiry n s
  | .gapThreshold n => Sys2Proof.Machine.execGapThreshold n s
  | .ptpMessageReceived m => Sys2Proof.Machine.execPtpMessageReceived m s
  | .ptpMessageTransmit mac kind => Sys2Proof.Machine.execPtpMessageTransmit mac kind s
  | .stepInstant => Sys2Proof.Machine.execStepInstant s
  | .lossTimeExpiry => Sys2Proof.Machine.execLossTimeExpiry s
  | .holdoverQualityStep => Sys2Proof.Machine.execHoldoverQualityStep s
  | .pulseEdge out => Sys2Proof.Machine.execPulseEdge out s
  | .eventCapture input rising => Sys2Proof.Machine.execEventCapture input rising s
  | .cycleForme ring odd bytes => Sys2Proof.Machine.execCycleForme ring odd bytes s
  | .returnedCopy ring sentOdd retOdd bytes => Sys2Proof.Machine.execReturnedCopy ring sentOdd retOdd bytes s
  | .returnLimit ring => Sys2Proof.Machine.execReturnLimit ring s
  | .claimForme ring odd bytes => Sys2Proof.Machine.execClaimForme ring odd bytes s
  | .claimListenExpiry ring => Sys2Proof.Machine.execClaimListenExpiry ring s
  | .substituteMeridian ring => Sys2Proof.Machine.execSubstituteMeridian ring s
  | .portLoop ring odd => Sys2Proof.Machine.execPortLoop ring odd s
  | .powerStateEntry wake => Sys2Proof.Machine.execPowerStateEntry wake s
  | .hibernateEntry e => Sys2Proof.Machine.execHibernateEntry e s
  | .deadlineExit => Sys2Proof.Machine.execDeadlineExit s
  | .alarm => Sys2Proof.Machine.execAlarm s
  | .wakePin ball high held => Sys2Proof.Machine.execWakePin ball high held s
  | .railGood x => Sys2Proof.Machine.execRailGood x s
  | .railTimeout => Sys2Proof.Machine.execRailTimeout s
  | .challengeExpiry => Sys2Proof.Machine.execChallengeExpiry s
  | .extest pins cells => Sys2Proof.Machine.execExtest pins cells s
  | .samplePreload pins cells => Sys2Proof.Machine.execSamplePreload pins cells s
  | .idcode => Sys2Proof.Machine.execIdcode s
  | .clamp => Sys2Proof.Machine.execClamp s
  | .highz => Sys2Proof.Machine.execHighz s
  | .bypass => Sys2Proof.Machine.execBypass s
  | .dbgChal => Sys2Proof.Machine.execDbgChal s
  | .dbgResp sig => Sys2Proof.Machine.execDbgResp sig s
  | .dbgState => Sys2Proof.Machine.execDbgState s
  | .dbgAddr v => Sys2Proof.Machine.execDbgAddr v s
  | .dbgData => Sys2Proof.Machine.execDbgData s
  | .dbgIstat => Sys2Proof.Machine.execDbgIstat s
  | .dbgFlog => Sys2Proof.Machine.execDbgFlog s
  | .dbgXstat => Sys2Proof.Machine.execDbgXstat s
  | .walkStop => Sys2Proof.Machine.execWalkStop s
  | .pwrEnRaise => Sys2Proof.Machine.execPwrEnRaise s
  | .returnToRun => Sys2Proof.Machine.execReturnToRun s
  | .compactionComplete => Sys2Proof.Machine.execCompactionComplete s
  | .streamedReadComplete => Sys2Proof.Machine.execStreamedReadComplete s
  | .joinCopyComplete le => Sys2Proof.Machine.execJoinCopyComplete le s
  | .referenceClockReturn => Sys2Proof.Machine.execReferenceClockReturn s
  | .bankSupplyReturn bank => Sys2Proof.Machine.execBankSupplyReturn bank s
  | .lossOfPower => Sys2Proof.Machine.execLossOfPower s
  | .testLogicReset trstLow => Sys2Proof.Machine.execTestLogicReset trstLow s
  | .referenceMessageMissed n => Sys2Proof.Machine.execReferenceMessageMissed n s
  | .minimumGapExpiry n => Sys2Proof.Machine.execMinimumGapExpiry n s
  | .rxdHighCharacterTime n => Sys2Proof.Machine.execRxdHighCharacterTime n s

end Sys2Proof.Machine
end

