-- ==== Sys2Proof/Safety.lean ====
section
/-! DEFINITION. What claims are stated in: the well-formed TAP, the states in which an engine executes and a packet is next on its
channel, and the results that several rules share. -/

namespace Sys2Proof.Machine

/-! ## The TAP -/

/-- The bytes that the data register of an instruction captures (Tables 22.8 and 21.9), where they have one length. -/
def tapBytes (ir : Nat) : Option Nat :=
  match ir with
  | 0x01 => some 38
  | 0x03 => some 1
  | 0x04 => some 1
  | 0x40 => some 32
  | 0x41 => some 64
  | 0x42 => some 1
  | 0x43 => some 5
  | 0x44 => some 4
  | 0x45 => some 8
  | 0x46 => some 32
  | 0x47 => some 4
  | 0xFF => some 1
  | _ => none

/-- A TAP of Tables 22.8 and 21.9: a boundary register of 300 cells, an instruction of the tables with a register of its length, and a
word address of 40 bits. IDCODE has captured nothing since Test-Logic-Reset or its 32 bits; EXTEST captures the cells, or acts as
BYPASS. -/
def Tap.wf (t : Tap) : Bool :=
  t.boundary.length == 300 && decide (t.dbgAddr < 2 ^ 40) && t.dbgAddr % 4 == 0 &&
  (match t.ir with
   | 0x02 => t.dr.length == 0 || t.dr.length == 4
   | 0x00 => t.dr.length == 38 || t.dr.length == 1
   | _ => some t.dr.length == tapBytes t.ir)

/-! ## Engines -/

/-- Physical engine `p` executes its next instruction at once: it runs, nothing stalls it, no cut is due before it, and the
instruction is not the last of IRAM. -/
def Dev.executes (d : Dev) (p : Nat) : Bool :=
  decide (p < d.eng.pes.length) && (d.pe p).running && (d.pe p).stall == .none && decide ((d.pe p).regs.pc + 4 < 0x10000) &&
  (match (d.pe p).le with
   | some l => !((d.le l).cutDue && (d.le l).pe == some p)
   | none => true)

/-- The registers of engine `p`. -/
def State.regs (s : State) (p : Nat) : Regs := (s.dev.pe p).regs

/-- The state in which engine `p` alone has changed, and only its registers, to `g`. -/
def State.withRegs (s : State) (p : Nat) (g : Regs) : State := { s with dev := s.dev.setRegs p (fun _ => g) }

/-- Registers after an instruction that writes `r` to rd, sets N and Z from it and goes on (R262). -/
def Regs.resultNZ (g : Regs) (rd : Nat) (r : Word) : Regs :=
  { (if rd = 0 then g else { g with g := upd g.g rd (fun _ => r) }) with n := r.getLsbD 31, z := r == 0#32, pc := g.pc + 4 }

/-- Registers after an instruction that writes `r` to rd and changes no flag. -/
def Regs.result (g : Regs) (rd : Nat) (r : Word) : Regs :=
  { (if rd = 0 then g else { g with g := upd g.g rd (fun _ => r) }) with pc := g.pc + 4 }

/-- The state after a port write of engine `p` whose effect gives the part `d`: the engine goes on. -/
def State.afterPort (s : State) (p : Nat) (d : Dev) : State :=
  { s with dev := d.setRegs p (fun g => { g with pc := g.pc + 4 }) }

/-- The state after a port read of engine `p` that gives `w` and the part `d`: the read is logged, rd takes the value, T clears, and the
engine goes on. -/
def State.afterRead (s : State) (p rd : Nat) (w : Word) (d : Dev) : State :=
  { s with dev := (d.peLog p 16).setRegs p (fun g => { (g.result rd w) with t := false }) }

/-- The state after a port write of engine `p` whose effect gives the part `d`, where the effect may reach other parts of the machine: the
engine goes on unless the effect has stopped it, and past the last word of IRAM it faults (R274). -/
def State.afterEffect (s : State) (p : Nat) (d : Dev) : State :=
  { s with dev := s.dev.burn (s.dev.issue p (fun _ => d.setRegs p (fun g => { g with pc := g.pc + 4 }))) }

/-- The state after a port read of engine `p` that gives `w` and the part `d`, where the read may reach other parts of the machine. -/
def State.afterReadEffect (s : State) (p rd : Nat) (w : Word) (d : Dev) : State :=
  { s with dev := s.dev.burn (s.dev.issue p (fun _ => (d.peLog p 16).setRegs p (fun g => { (g.result rd w) with t := false }))) }

/-- Engine `p` reaches unit `i` of a group of Table 9.5: its logical engine is bound to it, and its crossing to the unit's island is open.
The groups are 0 forme rings, 1 multidrop controllers, 2 serial lines. -/
def Dev.reachesUnit (d : Dev) (p group i : Nat) : Bool :=
  match group with
  | 0 => d.unitOf (d.leOf p) 0x00 2 == some i && d.peReach p (0x0B + i)
  | 1 => d.unitOf (d.leOf p) 0x10 4 == some i && d.peReach p (0x20 + i)
  | _ => d.unitOf (d.leOf p) 0x20 4 == some i && d.peReach p (0x24 + i)

/-! ## Packets -/

/-- The opcode that a row's packet carries (Table 4.11 and the tables of 05), for the rows that are packets. -/
def verindOf : Instr → Option (Nat × VCmd)
  | .deviceInfo c => some (0x0000, c)
  | .channelOpen c => some (0x0001, c)
  | .channelClose c => some (0x0002, c)
  | .eventAck c => some (0x0003, c)
  | .islandStatus c => some (0x0004, c)
  | .islandClear c => some (0x0005, c)
  | .quoinQuery c => some (0x0006, c)
  | .settingGet c => some (0x0007, c)
  | .settingSet c => some (0x0008, c)
  | .deviceReset c => some (0x0009, c)
  | .funcEnable c => some (0x0100, c)
  | .funcDisable c => some (0x0101, c)
  | .funcStatus c => some (0x0102, c)
  | .funcClear c => some (0x0103, c)
  | .funcList c => some (0x0104, c)
  | .almanacInfo c => some (0x0200, c)
  | .almanacSave c => some (0x0201, c)
  | .almanacRead c => some (0x0202, c)
  | .almanacWrite c => some (0x0203, c)
  | .almanacCompact c => some (0x0204, c)
  | .typecaseInfo c => some (0x0300, c)
  | .imageList c => some (0x0301, c)
  | .imageBegin c => some (0x0302, c)
  | .imageData c => some (0x0303, c)
  | .imageEnd c => some (0x0304, c)
  | .imageDelete c => some (0x0305, c)
  | .engineConfig c => some (0x0400, c)
  | .engineStatus c => some (0x0401, c)
  | .spareArm c => some (0x0402, c)
  | .spareDisarm c => some (0x0403, c)
  | .engineMigrate c => some (0x0404, c)
  | .personalityParam c => some (0x0405, c)
  | .portConfig c => some (0x0500, c)
  | .vlanSet c => some (0x0501, c)
  | .fdbAdd c => some (0x0502, c)
  | .fdbDelete c => some (0x0503, c)
  | .fdbRead c => some (0x0504, c)
  | .galleyConfig c => some (0x0505, c)
  | .filterSet c => some (0x0506, c)
  | .switchCounters c => some (0x0507, c)
  | .macConfig c => some (0x0600, c)
  | .macCounters c => some (0x0601, c)
  | .mdioRead c => some (0x0602, c)
  | .mdioWrite c => some (0x0603, c)
  | .proofConfig c => some (0x0700, c)
  | .mirrorConfig c => some (0x0701, c)
  | .mirrorCounters c => some (0x0702, c)
  | .mbConfig c => some (0x0800, c)
  | .mbRateDetect c => some (0x0801, c)
  | .mbObjectConfig c => some (0x0802, c)
  | .mbRingConfig c => some (0x0803, c)
  | .mbTransmit c => some (0x0804, c)
  | .mbWakeConfig c => some (0x0805, c)
  | .mbStatus c => some (0x0806, c)
  | .slConfig c => some (0x0900, c)
  | .slStatus c => some (0x0901, c)
  | .timeGet c => some (0x0A00, c)
  | .timeConfig c => some (0x0A01, c)
  | .timeStep c => some (0x0A02, c)
  | .pulseConfig c => some (0x0A03, c)
  | .captureConfig c => some (0x0A04, c)
  | .timeStatus c => some (0x0A05, c)
  | .formeRingConfig c => some (0x0B00, c)
  | .impositionWrite c => some (0x0B01, c)
  | .impositionSwitch c => some (0x0B02, c)
  | .formeStatus c => some (0x0B03, c)
  | .powerPolicy c => some (0x0C00, c)
  | .deadline c => some (0x0C01, c)
  | .alarmSet c => some (0x0C02, c)
  | .wakeConfig c => some (0x0C03, c)
  | .powerStatus c => some (0x0C04, c)
  | .faultLogRead c => some (0x0D00, c)
  | .serviceCounters c => some (0x0D01, c)
  | .repair c => some (0x0D02, c)
  | .engineReturn c => some (0x0D03, c)
  | .bankRetire c => some (0x0D04, c)
  | .sectorRetire c => some (0x0D05, c)
  | .pipeSwitchover c => some (0x0D06, c)
  | .portRemap c => some (0x0D07, c)
  | .smRemove c => some (0x0D08, c)
  | .smInsert c => some (0x0D09, c)
  | .keyInfo c => some (0x0E00, c)
  | .keyRevoke c => some (0x0E01, c)
  | .debugChallenge c => some (0x0E02, c)
  | .debugResponse c => some (0x0E03, c)
  | .ringConfig c => some (0x0F00, c)
  | .ringStatus c => some (0x0F01, c)
  | .windowOpen c => some (0x0F02, c)
  | .windowCommit c => some (0x0F03, c)
  | .windowClose c => some (0x0F04, c)
  | .channelBind c => some (0x0F05, c)
  | .attnConfig c => some (0x0F06, c)
  | _ => none

/-- A packet of opcode `op` that passes steps 1 to 7 of Table 4.8 and executes at once: the part is READY and awake, its port is enabled,
its header and CRC are right, its channel is open to its source, and it is the next of its channel, with nothing held there. -/
def Dev.takesNext (d : Dev) (op : Nat) (c : VCmd) : Bool :=
  d.portEnabled c.src.port && decide (d.pwr.st ≤ 1) && d.start.phase == .ready && d.verind.resetReq.isNone &&
  !d.cmp.restarting &&
  decide (16 ≤ c.framed) && c.sync == 0xA7#8 && decide (c.channel ≤ 7) && (VCmd.check35 op c).isNone &&
  (d.chan c.channel).st == 2 && Peer.same (d.chan c.channel).peer c.src && (d.chan c.channel).held.isEmpty &&
  c.seq == (d.chan c.channel).base && decide (c.channel < d.verind.chans.length)

/-- The part with such a packet taken in: its port delivers again, its source is the channel's peer, and it is held. -/
def Dev.withPacket (d : Dev) (op : Nat) (c : VCmd) : Dev :=
  let d := if c.src.port == 3 then d.touchPeer c.src else d
  (((d.setPort c.src.port (fun q => { q with lost := false })).setChan c.channel (fun x => { x with peer := c.src })).setVerind
    (fun v => { v with arrivals := v.arrivals + 1 })).setChan c.channel
    (fun x => { x with held := x.held ++ [{ op := op, cmd := c, arr := d.verind.arrivals }] })

/-- Wired port `p` is enabled and answers at once: the part has started and is in RUN or DOZE (R516, Table 6.2). -/
def Dev.hears (d : Dev) (p : Nat) : Bool :=
  d.portEnabled p && d.start.phase != .aonOff && d.start.phase != .porstLow && decide (d.pwr.st ≤ 1)

/-- The state after an effect on the part alone. -/
def State.withDev (s : State) (d : Dev) : State := { s with dev := s.dev.burn d }

/-- The part on which row `i`, a packet, executes in `s`. -/
def State.packet (s : State) (i : Instr) : Dev :=
  match verindOf i with
  | some (op, c) => s.dev.withPacket op c
  | none => s.dev

/-- Row `i` is a packet that executes at once in `s`, for function `fid`, with `n` bytes of parameters. -/
def State.takes (s : State) (i : Instr) (fid n : Nat) : Bool :=
  match verindOf i with
  | some (op, c) => s.dev.takesNext op c && c.fid == fid && c.params.length == n
  | none => false

/-- The state after such a packet has executed with outcome `o`: its reply moves the channel's base past it, is cached and leaves
(R83, R94); then comes what follows the reply, and what the channel holds next. -/
def State.answered (s : State) (i : Instr) (o : OpOut) : State :=
  match verindOf i with
  | some (op, c) =>
    let r := o.after (o.dev.settleReply execOpcode { op := op, cmd := c, arr := s.dev.verind.arrivals } o.reply)
    let d := if r.verind.resetReq.isNone then Dev.pump execOpcode c.channel 16 r else r
    { s with dev := s.dev.burn d.udpOut }
  | none => s

/-- A change of the running configuration has committed (R120, R586): its record is in the lowest free slot of the backlog, and the
section of key `key` holds something. -/
def Dev.configured (d : Dev) (op key : Nat) (f : RunCfg → RunCfg) : Dev :=
  { d with
    verind := { d.verind with backlog := d.verind.backlog ++ [(d.verind.freeBacklog.getD 64, d.tick, op)] },
    cfg := f { d.cfg with present := if d.cfg.present.contains key then d.cfg.present else d.cfg.present ++ [key] } }

/-- The state after row `i` has changed the running configuration by `f` and replied DONE. -/
def State.afterConfig (s : State) (i : Instr) (key : Nat) (f : RunCfg → RunCfg) (g : Dev → Dev := fun d => d) : State :=
  match verindOf i with
  | some (op, _) => s.answered i { reply := .done [], dev := g ((s.packet i).configured op key f) }
  | none => s

/-- A slot of the backlog is free for a command's change (R120). -/
def State.backlogFree (s : State) : Bool := s.dev.verind.freeBacklog.isSome

/-- The reply DONE with payload `b`, of a command that leaves the part as `d`. -/
def doneOut (d : Dev) (b : List Byte) : OpOut := { reply := .done b, dev := d }

/-- The reply DONE in fragments (R85): each with the fixed fields, then whole entries of `size` bytes. -/
def fragOut (d : Dev) (fixed : List Byte) (size : Nat) (entries : List (List Byte)) : OpOut :=
  { reply := { status := stDone, bodies := fragment fixed size entries }, dev := d }

/-- The reply ACCEPTED of a packet whose completion has its slot (R100), and what it begins. -/
def acceptOut (d : Dev) (f : Dev → Dev) : OpOut := { reply := { status := stAccepted }, dev := d.reserve, after := f }

/-- The command that row `i` leaves waiting for its completion in `s`. -/
def State.waiting (s : State) (i : Instr) : Waiting :=
  match verindOf i with
  | some (op, c) => { op := op, seq := c.seq, ch := c.channel, fid := c.fid, arr := s.dev.verind.arrivals }
  | none => { op := 0, seq := 0, ch := 0, fid := 0, arr := 0 }

/-! ## Rows of the part's own -/

/-- No channel holds a command that waits to execute. -/
def State.noHeld (s : State) : Prop := ∀ c ∈ s.dev.verind.chans, c.held = []

/-- Between `s` and `t` the log has taken the record that `s` numbers next, with these fields (Table 20.3). -/
def State.logged (s t : State) (cls island action cause : Nat) : Prop :=
  ∃ r ∈ t.dev.svc.log, r.recno = s.dev.svc.nextRec ∧ r.cls = cls ∧ r.island = island ∧ r.action = action ∧ r.cause = cause

/-- Between `s` and `t` the completion of `w` with `status` has joined the event queue (Table 4.10); while the Compositor restarts
it has joined the events that wait for the end of the restart (R102, R110). -/
def State.completed (s t : State) (w : Waiting) (status : Nat) : Prop :=
  (s.dev.cmp.restarting = false → ∃ e ∈ t.dev.verind.events.drop s.dev.verind.events.length, e.op = 0xF001 ∧ e.fid = w.fid ∧
    e.body.take 8 = leb 2 w.op ++ leb 2 w.seq ++ leb 1 w.ch ++ [0#8] ++ leb 2 status) ∧
  (s.dev.cmp.restarting = true → ∃ b, HeldEvent.completion w status b ∈ t.dev.cmp.events)

end Sys2Proof.Machine
end

