-- ==== Sys2Proof/WellFormed.lean ====
section
/-! DEFINITION. Well-formed commands: the ranges that the spec gives the operands of each row. -/

namespace Sys2Proof

/-- The host ports of R89 and the field widths of Table 4.7. -/
def Peer.wf (p : Peer) : Bool :=
  decide (1 ≤ p.port) && decide (p.port ≤ 3) && decide (p.ip < 2 ^ 32) && decide (p.udp < 65536) && decide (p.mac < 2 ^ 48) &&
  decide (p.vid < 4096)

/-- Header fields within their widths (Table 4.7); parameters within the longest packet (R79). -/
def VCmd.wf (c : VCmd) : Bool :=
  c.src.wf && decide (c.length < 65536) && decide (c.seq < 65536) && decide (c.channel < 256) && decide (c.status < 65536) &&
  decide (c.fid < 65536) && decide (c.crc < 2 ^ 32) && decide (c.params.length ≤ 4076)

/-- What a start meets: four banks, two memories, engines and slots that exist. -/
def StartIn.wf (x : StartIn) : Bool :=
  x.supplies.length == 4 && x.sm.length == 2 && x.badEngines.all (fun p => decide (p < 14)) && x.badKeys.all (fun k => decide (k < 8))

/-- The item exists. -/
def MemItem.wf : MemItem → Bool
  | .plateWrite p => decide (p < 64)
  | .plateCommitted p => decide (p < 64)
  | .plateBoth p => decide (p < 64)
  | .frame _ => true
  | .ringEntry r idx => decide (r < 32) && decide (idx < 65536)
  | .object n k => decide (n < 4) && decide (k < 128)
  | .openRing n i => decide (n < 4) && decide (i < 1024)
  | .standby dom => decide (dom < 6)
  | .journalCache => true
  | .engine pe => decide (pe < 14)
  | .flashWord bank _ => decide (bank < 2)
  | .copied => true

/-- The rail exists. -/
def Rail.wf : Rail → Bool
  | .core => true
  | .bank b => decide (b < 4)

/-- A multidrop frame of ISO 11898-1: an identifier of its format, a DLC of 4 bits, and the data that it announces at most. -/
def MbRx.wf (f : MbRx) : Bool :=
  decide (f.ident < (if f.ide then 2 ^ 29 else 2 ^ 11)) && decide (f.dlc < 16) && decide (f.data.length ≤ 64)

/-- An error code of Table 14.7. -/
def MbErr.wf (e : MbErr) : Bool := decide (1 ≤ e.code) && decide (e.code ≤ 6)

/-- A message on a MAC that exists. -/
def PtpRx.wf (m : PtpRx) : Bool := decide (m.mac < 6)

/-- The operands of a command lie in the ranges of its row. -/
def Instr.wf : Instr → Bool
  | .deviceInfo c => c.wf
  | .channelOpen c => c.wf
  | .channelClose c => c.wf
  | .eventAck c => c.wf
  | .islandStatus c => c.wf
  | .islandClear c => c.wf
  | .quoinQuery c => c.wf
  | .settingGet c => c.wf
  | .settingSet c => c.wf
  | .deviceReset c => c.wf
  | .funcEnable c => c.wf
  | .funcDisable c => c.wf
  | .funcStatus c => c.wf
  | .funcClear c => c.wf
  | .funcList c => c.wf
  | .almanacInfo c => c.wf
  | .almanacSave c => c.wf
  | .almanacRead c => c.wf
  | .almanacWrite c => c.wf
  | .almanacCompact c => c.wf
  | .typecaseInfo c => c.wf
  | .imageList c => c.wf
  | .imageBegin c => c.wf
  | .imageData c => c.wf
  | .imageEnd c => c.wf
  | .imageDelete c => c.wf
  | .engineConfig c => c.wf
  | .engineStatus c => c.wf
  | .spareArm c => c.wf
  | .spareDisarm c => c.wf
  | .engineMigrate c => c.wf
  | .personalityParam c => c.wf
  | .portConfig c => c.wf
  | .vlanSet c => c.wf
  | .fdbAdd c => c.wf
  | .fdbDelete c => c.wf
  | .fdbRead c => c.wf
  | .galleyConfig c => c.wf
  | .filterSet c => c.wf
  | .switchCounters c => c.wf
  | .macConfig c => c.wf
  | .macCounters c => c.wf
  | .mdioRead c => c.wf
  | .mdioWrite c => c.wf
  | .proofConfig c => c.wf
  | .mirrorConfig c => c.wf
  | .mirrorCounters c => c.wf
  | .mbConfig c => c.wf
  | .mbRateDetect c => c.wf
  | .mbObjectConfig c => c.wf
  | .mbRingConfig c => c.wf
  | .mbTransmit c => c.wf
  | .mbWakeConfig c => c.wf
  | .mbStatus c => c.wf
  | .slConfig c => c.wf
  | .slStatus c => c.wf
  | .timeGet c => c.wf
  | .timeConfig c => c.wf
  | .timeStep c => c.wf
  | .pulseConfig c => c.wf
  | .captureConfig c => c.wf
  | .timeStatus c => c.wf
  | .formeRingConfig c => c.wf
  | .impositionWrite c => c.wf
  | .impositionSwitch c => c.wf
  | .formeStatus c => c.wf
  | .powerPolicy c => c.wf
  | .deadline c => c.wf
  | .alarmSet c => c.wf
  | .wakeConfig c => c.wf
  | .powerStatus c => c.wf
  | .faultLogRead c => c.wf
  | .serviceCounters c => c.wf
  | .repair c => c.wf
  | .engineReturn c => c.wf
  | .bankRetire c => c.wf
  | .sectorRetire c => c.wf
  | .pipeSwitchover c => c.wf
  | .portRemap c => c.wf
  | .smRemove c => c.wf
  | .smInsert c => c.wf
  | .keyInfo c => c.wf
  | .keyRevoke c => c.wf
  | .debugChallenge c => c.wf
  | .debugResponse c => c.wf
  | .ringConfig c => c.wf
  | .ringStatus c => c.wf
  | .windowOpen c => c.wf
  | .windowCommit c => c.wf
  | .windowClose c => c.wf
  | .channelBind c => c.wf
  | .attnConfig c => c.wf
  | .status _ => true
  | .id _ => true
  | .pktWrite _ _ => true
  | .pktRead _ n => decide (n ≤ 4096)
  | .winWrite _ addr _ => decide (addr < 2 ^ 32)
  | .winRead _ addr n => decide (addr < 2 ^ 32) && decide (n ≤ 4096)
  | .unknownInstruction _ => true
  | .pktIn _ => true
  | .pktEnd => true
  | .pktOut => true
  | .winDataWrite _ => true
  | .winDataRead => true
  | .windowReadRequest p _ => p.wf
  | .windowWriteRequest p _ => p.wf
  | .arpRequest mac vid ip target => decide (mac < 2 ^ 48) && decide (vid < 4096) && decide (ip < 2 ^ 32) && decide (target < 2 ^ 32)
  | .reassemblyTimeout ip => decide (ip < 2 ^ 32)
  | .eventRetry seq => decide (seq < 65536)
  | .outputQueueTimeout port => decide (1 ≤ port) && decide (port ≤ 3)
  | .udpLinkLossTimeout => true
  | .vddAonPowerOn boot host _ => decide (boot < 4) && decide (host < 4)
  | .porstAssert _ => true
  | .porstRelease boot host => decide (boot < 4) && decide (host < 4)
  | .start x => x.wf
  | .oscillatorStart => true
  | .resilveringEnd sm _ _ _ => decide (sm < 2)
  | .almanacGroupCommit => true
  | .journalling => true
  | .serialMemoryFault sm => decide (sm < 2)
  | .pageProgramComplete _ => true
  | .sectorEraseComplete _ _ => true
  | .typecaseSuspend bank => decide (bank < 2)
  | .typecaseSuspendLimit bank => decide (bank < 2)
  | .patrolRead bank sector _ _ => decide (bank < 2) && decide (sector < 1024)
  | .sramScrub _ _ => true
  | .correctedMemoryError => true
  | .uncorrectableMemoryError x => x.wf
  | .engineFault _ cause => decide (1 ≤ cause) && decide (cause ≤ 8)
  | .hangTimeout island => decide (island < 64)
  | .livenessProbe _ => true
  | .lockstepMismatch => true
  | .heartbeat _ => true
  | .compositorRestart => true
  | .clockFault island => decide (island < 64)
  | .referenceFault => true
  | .supplyFault rail => rail.wf
  | .coreRailRestart => true
  | .islandReset island => decide (island < 64)
  | .leaseExpiry kind inst => decide (1 ≤ kind) && decide (kind ≤ 10) && decide (inst < 512)
  | .functionStartComplete fid => decide (fid < 65536)
  | .drainComplete fid => decide (fid < 65536)
  | .drainLimitExpiry fid => decide (fid < 65536)
  | .startLimitExpiry fid => decide (fid < 65536)
  | .selfTestComplete _ fid _ => decide (fid < 65536)
  | .imageLoadComplete _ => true
  | .meridian dom => decide (dom < 6)
  | .plateReady plate => decide (plate < 64)
  | .cut le => decide (le < 12)
  | .replayComplete le _ => decide (le < 12)
  | .takeover le => decide (le < 12)
  | .watchdogHalf _ => true
  | .watchdogExpiry _ => true
  | .timerCompare _ _ => true
  | .directorySharedRequest _ line => decide (line < 8192)
  | .directoryOwnedRequest _ line => decide (line < 8192)
  | .writeBack _ => true
  | .noncachingRead line => decide (line < 8192)
  | .noncachingWrite a bytes => decide (a < 524288) && decide (1 ≤ bytes.length) && decide (bytes.length ≤ 64)
  | .add _ _ _ _ => true
  | .sub _ _ _ _ => true
  | .adc _ _ _ _ => true
  | .sbc _ _ _ _ => true
  | .and _ _ _ _ => true
  | .or _ _ _ _ => true
  | .xor _ _ _ _ => true
  | .andn _ _ _ _ => true
  | .sll _ _ _ _ => true
  | .srl _ _ _ _ => true
  | .sra _ _ _ _ => true
  | .ror _ _ _ _ => true
  | .cmp _ _ _ => true
  | .tst _ _ _ => true
  | .mul _ _ _ _ => true
  | .mulhu _ _ _ _ => true
  | .mulhs _ _ _ _ => true
  | .min _ _ _ _ => true
  | .max _ _ _ _ => true
  | .minu _ _ _ _ => true
  | .maxu _ _ _ _ => true
  | .addi _ _ _ _ => true
  | .andi _ _ _ _ => true
  | .ori _ _ _ _ => true
  | .xori _ _ _ _ => true
  | .lui _ _ _ => true
  | .cmpi _ _ _ => true
  | .slli _ _ _ _ => true
  | .srli _ _ _ _ => true
  | .srai _ _ _ _ => true
  | .rori _ _ _ _ => true
  | .bfx _ _ _ _ _ => true
  | .bfxs _ _ _ _ _ => true
  | .bfi _ _ _ _ _ _ => true
  | .clz _ _ _ => true
  | .popc _ _ _ => true
  | .rev _ _ _ => true
  | .brev _ _ _ => true
  | .crc _ _ _ _ _ _ => true
  | .ld _ _ _ _ _ => true
  | .lds _ _ _ _ _ => true
  | .st _ _ _ _ _ => true
  | .cwb _ _ _ => true
  | .pref _ _ _ => true
  | .swap _ _ _ _ => true
  | .aadd _ _ _ _ => true
  | .aand _ _ _ _ => true
  | .aor _ _ _ _ => true
  | .cas _ _ _ _ => true
  | .pin _ _ _ _ => true
  | .pout _ _ _ _ => true
  | .qput _ _ _ _ => true
  | .qget _ _ _ _ => true
  | .b _ _ _ => true
  | .jal _ _ _ => true
  | .jalr _ _ _ _ => true
  | .wait _ => true
  | .waitu _ _ _ => true
  | .illegalInstruction _ _ => true
  | .registerWrite _ => true
  | .tickLo _ _ => true
  | .tmrCtl _ _ _ => true
  | .wdPeriod _ _ => true
  | .wdKick _ _ => true
  | .qreq _ _ => true
  | .qrel _ _ => true
  | .plateCtlDone _ => true
  | .plateCtlCommit _ => true
  | .paramData _ _ => true
  | .rxPost _ _ => true
  | .rxDone _ _ => true
  | .txCtl _ _ => true
  | .typSuspRequest _ _ => true
  | .typSuspRelease _ _ => true
  | .almCtlRead _ => true
  | .almCtlWrite _ => true
  | .mbRidx _ _ => true
  | .mbRdata _ _ => true
  | .mbOdataRead _ _ => true
  | .mbOdataWrite _ _ => true
  | .mbTxreq _ _ => true
  | .mbTxreqWithdraw _ _ => true
  | .mbStamp _ _ => true
  | .slRxdata _ _ => true
  | .slTxdata _ _ => true
  | .slTxctl _ _ => true
  | .frCtlRun _ _ => true
  | .frCtlLock _ _ => true
  | .impData _ _ => true
  | .impSwitch _ _ => true
  | .frameReceive mac bytes _ => decide (mac < 6) && decide (bytes.length ≤ 65535)
  | .classificationPoint mac head => decide (mac < 6) && decide (64 ≤ head.length)
  | .egressScheduling mac => decide (mac < 6)
  | .frameTransmitted mac => decide (mac < 6)
  | .addressAgeExpiry way => decide (way < 2048)
  | .pipeDisagreement _ _ => true
  | .pipeReloadComplete pipe => decide (pipe < 2)
  | .bankRetired bank => decide (bank < 8)
  | .linkDownHoldExpiry port => decide (port < 6)
  | .linkDown mac => decide (mac < 6)
  | .linkUp mac => decide (mac < 6)
  | .pauseRefresh mac => decide (mac < 6)
  | .pauseFrameReceive mac _ => decide (mac < 6)
  | .pauseHoldExpiry mac => decide (mac < 6)
  | .mbFrameReceived n f => decide (n < 4) && f.wf
  | .mbFrameSent n => decide (n < 4)
  | .mbBusError n e => decide (n < 4) && e.wf
  | .busOffRecovery n => decide (n < 4)
  | .integration n => decide (n < 4)
  | .stuckDominant n => decide (n < 4)
  | .lockExpiry n obj => decide (n < 4) && decide (obj < 128)
  | .rateDetectTimeout n => decide (n < 4)
  | .dominantEdgeWake n => decide (n < 4)
  | .referenceMessage n _ => decide (n < 4)
  | .potentialMasterTimeout n => decide (n < 4)
  | .impositionEntry dom => decide (dom < 6)
  | .guardianViolation n => decide (n < 4)
  | .slCharacterReceived n ch _ _ _ _ => decide (n < 4) && decide (ch < 512)
  | .slCharacterSent n => decide (n < 4)
  | .deLagExpiry n => decide (n < 4)
  | .gapThreshold n => decide (n < 4)
  | .ptpMessageReceived m => m.wf
  | .ptpMessageTransmit mac _ => decide (mac < 6)
  | .stepInstant => true
  | .lossTimeExpiry => true
  | .holdoverQualityStep => true
  | .pulseEdge out => decide (out < 2)
  | .eventCapture input _ => decide (input < 4)
  | .cycleForme ring _ _ => decide (ring < 2)
  | .returnedCopy ring _ _ _ => decide (ring < 2)
  | .returnLimit ring => decide (ring < 2)
  | .claimForme ring _ _ => decide (ring < 2)
  | .claimListenExpiry ring => decide (ring < 2)
  | .substituteMeridian ring => decide (ring < 2)
  | .portLoop ring _ => decide (ring < 2)
  | .powerStateEntry _ => true
  | .hibernateEntry _ => true
  | .deadlineExit => true
  | .alarm => true
  | .wakePin ball _ _ => decide (ball < 4)
  | .railGood x => x.wf
  | .railTimeout => true
  | .challengeExpiry => true
  | .extest pins cells => pins.length == 300 && cells.length == 300
  | .samplePreload pins cells => pins.length == 300 && cells.length == 300
  | .idcode => true
  | .clamp => true
  | .highz => true
  | .bypass => true
  | .dbgChal => true
  | .dbgResp sig => sig.length == 64
  | .dbgState => true
  | .dbgAddr _ => true
  | .dbgData => true
  | .dbgIstat => true
  | .dbgFlog => true
  | .dbgXstat => true
  | .walkStop => true
  | .pwrEnRaise => true
  | .returnToRun => true
  | .compactionComplete => true
  | .streamedReadComplete => true
  | .joinCopyComplete le => decide (le < 12)
  | .referenceClockReturn => true
  | .bankSupplyReturn bank => decide (bank < 4)
  | .lossOfPower => true
  | .testLogicReset _ => true
  | .referenceMessageMissed n => decide (n < 4)
  | .minimumGapExpiry n => decide (n < 4)
  | .rxdHighCharacterTime n => decide (n < 4)

end Sys2Proof
end

