-- ==== Sys2Proof/Certificates/Slice0/Obligations.lean ====
section
/-! DEFINITION. The statements for the provers. Each says what the machine does under one rule or one group of rules of the spec; what it
names beyond the model's own operations is defined in Safety. -/

open Sys2Proof Sys2Proof.Machine

/-! ## Engine instructions (10) -/

/-- R262 and R264 for the additions: the sum, its carry out of bit 31, and V where the signed sum leaves the range. R262 and R264 for the
subtractions: the difference, C where there is no borrow, and V where the signed difference leaves the range; CMP and CMPI write no
register. R262 and R264 for the logical operations and the shifts by a register: the result, N and Z from it, C and V kept. The immediate
of ANDI, ORI and XORI is extended with zeros. R262, R264 and R265 for the products, minima and maxima. R266 and Table 10.6 for the bit
fields, bit by bit: BFX and BFXS take bits (a + b):a, and BFI puts bits b:0 there, where a + b does not exceed 31; where it does, the
instruction is F3 with cause 0x02 (R279). R266 and Table 10.6 for the immediate shifts, the counts and the reversals; LUI changes no flag
(R262, R264). -/
def Obligations.AluAndBitOperations : Prop :=
  (∀ (s : State) (pe : Fin 14) (rd rs1 rs2 : Fin 16) (imm : BitVec 18), s.dev.executes pe = true →
     let g := s.regs pe
     let sum (x y : Word) (c : Nat) : Regs :=
       let r := BitVec.ofNat 32 (x.toNat + y.toNat + c)
       { (g.result rd r) with n := r.getLsbD 31, z := decide (r = 0#32), c := decide (2 ^ 32 ≤ x.toNat + y.toNat + c),
                              v := decide (r.toInt ≠ x.toInt + y.toInt + c) }
     exec (.add pe rd rs1 rs2) s = .next (s.withRegs pe (sum (g.get rs1) (g.get rs2) 0)) ∧
     exec (.adc pe rd rs1 rs2) s = .next (s.withRegs pe (sum (g.get rs1) (g.get rs2) (if g.c then 1 else 0))) ∧
     exec (.addi pe rd rs1 imm) s = .next (s.withRegs pe (sum (g.get rs1) (imm.signExtend 32) 0))) ∧
  (∀ (s : State) (pe : Fin 14) (rd rs1 rs2 : Fin 16) (imm : BitVec 18), s.dev.executes pe = true →
     let g := s.regs pe
     let difference (rd : Nat) (x y : Word) (b : Nat) : Regs :=
       let r := BitVec.ofInt 32 (x.toInt - y.toInt - b)
       { (g.result rd r) with n := r.getLsbD 31, z := decide (r = 0#32), c := decide (y.toNat + b ≤ x.toNat),
                              v := decide (r.toInt ≠ x.toInt - y.toInt - b) }
     exec (.sub pe rd rs1 rs2) s = .next (s.withRegs pe (difference rd (g.get rs1) (g.get rs2) 0)) ∧
     exec (.sbc pe rd rs1 rs2) s = .next (s.withRegs pe (difference rd (g.get rs1) (g.get rs2) (if g.c then 0 else 1))) ∧
     exec (.cmp pe rs1 rs2) s = .next (s.withRegs pe (difference 0 (g.get rs1) (g.get rs2) 0)) ∧
     exec (.cmpi pe rs1 imm) s = .next (s.withRegs pe (difference 0 (g.get rs1) (imm.signExtend 32) 0))) ∧
  (∀ (s : State) (pe : Fin 14) (rd rs1 rs2 : Fin 16) (imm : BitVec 18), s.dev.executes pe = true →
     let g := s.regs pe
     let x := g.get rs1
     let y := g.get rs2
     let n := y.toNat % 32
     exec (.and pe rd rs1 rs2) s = .next (s.withRegs pe (g.resultNZ rd (x &&& y))) ∧
     exec (.or pe rd rs1 rs2) s = .next (s.withRegs pe (g.resultNZ rd (x ||| y))) ∧
     exec (.xor pe rd rs1 rs2) s = .next (s.withRegs pe (g.resultNZ rd (x ^^^ y))) ∧
     exec (.andn pe rd rs1 rs2) s = .next (s.withRegs pe (g.resultNZ rd (x &&& ~~~y))) ∧
     exec (.tst pe rs1 rs2) s = .next (s.withRegs pe (g.resultNZ 0 (x &&& y))) ∧
     exec (.andi pe rd rs1 imm) s = .next (s.withRegs pe (g.resultNZ rd (x &&& imm.setWidth 32))) ∧
     exec (.ori pe rd rs1 imm) s = .next (s.withRegs pe (g.resultNZ rd (x ||| imm.setWidth 32))) ∧
     exec (.xori pe rd rs1 imm) s = .next (s.withRegs pe (g.resultNZ rd (x ^^^ imm.setWidth 32))) ∧
     exec (.sll pe rd rs1 rs2) s = .next (s.withRegs pe (g.resultNZ rd (BitVec.ofNat 32 (x.toNat * 2 ^ n)))) ∧
     exec (.srl pe rd rs1 rs2) s = .next (s.withRegs pe (g.resultNZ rd (BitVec.ofNat 32 (x.toNat / 2 ^ n)))) ∧
     exec (.sra pe rd rs1 rs2) s = .next (s.withRegs pe (g.resultNZ rd (BitVec.ofInt 32 (x.toInt / 2 ^ n)))) ∧
     exec (.ror pe rd rs1 rs2) s =
       .next (s.withRegs pe (g.resultNZ rd (BitVec.ofNat 32 (x.toNat / 2 ^ n + x.toNat * 2 ^ (32 - n)))))) ∧
  (∀ (s : State) (pe : Fin 14) (rd rs1 rs2 : Fin 16), s.dev.executes pe = true →
     let g := s.regs pe
     let x := g.get rs1
     let y := g.get rs2
     exec (.mul pe rd rs1 rs2) s = .next (s.withRegs pe (g.resultNZ rd (BitVec.ofNat 32 (x.toNat * y.toNat)))) ∧
     exec (.mulhu pe rd rs1 rs2) s = .next (s.withRegs pe (g.resultNZ rd (BitVec.ofNat 32 (x.toNat * y.toNat / 2 ^ 32)))) ∧
     exec (.mulhs pe rd rs1 rs2) s = .next (s.withRegs pe (g.resultNZ rd (BitVec.ofInt 32 (x.toInt * y.toInt / 2 ^ 32)))) ∧
     exec (.min pe rd rs1 rs2) s = .next (s.withRegs pe (g.resultNZ rd (BitVec.ofInt 32 (min x.toInt y.toInt)))) ∧
     exec (.max pe rd rs1 rs2) s = .next (s.withRegs pe (g.resultNZ rd (BitVec.ofInt 32 (max x.toInt y.toInt)))) ∧
     exec (.minu pe rd rs1 rs2) s = .next (s.withRegs pe (g.resultNZ rd (BitVec.ofNat 32 (min x.toNat y.toNat)))) ∧
     exec (.maxu pe rd rs1 rs2) s = .next (s.withRegs pe (g.resultNZ rd (BitVec.ofNat 32 (max x.toNat y.toNat))))) ∧
  (∀ (s : State) (pe : Fin 14) (rd rs1 rs2 : Fin 16) (a b : Fin 32), s.dev.executes pe = true →
     let g := s.regs pe
     let x := g.get rs1
     let y := g.get rs2
     (a.val + b.val ≤ 31 →
       (∃ r : Word, exec (.bfx pe rd rs1 a b) s = .next (s.withRegs pe (g.resultNZ rd r)) ∧
         ∀ i < 32, r.getLsbD i = (decide (i ≤ b.val) && x.getLsbD (a.val + i))) ∧
       (∃ r : Word, exec (.bfxs pe rd rs1 a b) s = .next (s.withRegs pe (g.resultNZ rd r)) ∧
         ∀ i < 32, r.getLsbD i = x.getLsbD (a.val + min i b.val)) ∧
       (∃ r : Word, exec (.bfi pe rd rs1 rs2 a b) s = .next (s.withRegs pe (g.resultNZ rd r)) ∧
         ∀ i < 32, r.getLsbD i = if a.val ≤ i ∧ i ≤ a.val + b.val then x.getLsbD (i - a.val) else y.getLsbD i)) ∧
     (31 < a.val + b.val →
       let e : Host.Outcome State Fault Refusal := s.run (Dev.issue pe (fun d => d.engineFault pe 3 0x02))
       exec (.bfx pe rd rs1 a b) s = e ∧ exec (.bfxs pe rd rs1 a b) s = e ∧ exec (.bfi pe rd rs1 rs2 a b) s = e)) ∧
  (∀ (s : State) (pe : Fin 14) (rd rs1 : Fin 16) (a : Fin 32) (imm : BitVec 18), s.dev.executes pe = true →
     let g := s.regs pe
     let x := g.get rs1
     exec (.lui pe rd imm) s = .next (s.withRegs pe (g.result rd (BitVec.ofNat 32 (imm.toNat * 2 ^ 14)))) ∧
     exec (.slli pe rd rs1 a) s = .next (s.withRegs pe (g.resultNZ rd (BitVec.ofNat 32 (x.toNat * 2 ^ a.val)))) ∧
     exec (.srli pe rd rs1 a) s = .next (s.withRegs pe (g.resultNZ rd (BitVec.ofNat 32 (x.toNat / 2 ^ a.val)))) ∧
     exec (.srai pe rd rs1 a) s = .next (s.withRegs pe (g.resultNZ rd (BitVec.ofInt 32 (x.toInt / 2 ^ a.val)))) ∧
     exec (.rori pe rd rs1 a) s =
       .next (s.withRegs pe (g.resultNZ rd (BitVec.ofNat 32 (x.toNat / 2 ^ a.val + x.toNat * 2 ^ (32 - a.val))))) ∧
     (∃ k : Nat, exec (.clz pe rd rs1) s = .next (s.withRegs pe (g.resultNZ rd (BitVec.ofNat 32 k))) ∧ k ≤ 32 ∧
       x.toNat < 2 ^ (32 - k) ∧ (k < 32 → 2 ^ (31 - k) ≤ x.toNat)) ∧
     exec (.popc pe rd rs1) s =
       .next (s.withRegs pe (g.resultNZ rd (BitVec.ofNat 32 ((Finset.range 32).filter (fun i => x.getLsbD i = true)).card))) ∧
     (∃ r : Word, exec (.rev pe rd rs1) s = .next (s.withRegs pe (g.resultNZ rd r)) ∧
       ∀ i < 32, r.getLsbD i = x.getLsbD (8 * (3 - i / 8) + i % 8)) ∧
     (∃ r : Word, exec (.brev pe rd rs1) s = .next (s.withRegs pe (g.resultNZ rd r)) ∧ ∀ i < 32, r.getLsbD i = x.getLsbD (31 - i)))

/-- R267: the CRC step of both kinds of polynomial, with no flag changed. R267's check value: a byte loop over "123456789" with polynomial
0x0 from 0xFFFF_FFFF. -/
def Obligations.CrcSteps : Prop :=
  (∀ (s : State) (pe : Fin 14) (rd rs1 rs2 : Fin 16) (poly : Fin 4) (width : Fin 3), s.dev.executes pe = true →
     let g := s.regs pe
     let x := g.get rs1
     let y := g.get rs2
     let n := 8 * 2 ^ width.val
     let p : Word := if poly.val = 0 then 0x82F63B78#32 else if poly.val = 1 then 0xEDB88320#32 else 0xA001#32
     (poly.val ≤ 2 → exec (.crc pe rd rs1 rs2 poly width) s = .next (s.withRegs pe (g.result rd
       ((List.range n).foldl (fun c _ => if c.getLsbD 0 then (c >>> 1) ^^^ p else c >>> 1)
         (x ^^^ BitVec.ofNat 32 (y.toNat % 2 ^ n)))))) ∧
     (poly.val = 3 → exec (.crc pe rd rs1 rs2 poly width) s = .next (s.withRegs pe (g.result rd
       ((List.range (n / 8)).foldl (fun c k =>
         (List.range 8).foldl (fun c _ => if c.getLsbD 15 then ((c <<< 1) ^^^ 0x1021#32) &&& 0xFFFF#32 else (c <<< 1) &&& 0xFFFF#32)
           ((c &&& 0xFFFF#32) ^^^ BitVec.ofNat 32 (y.toNat / 256 ^ (n / 8 - 1 - k) % 256 * 256))) x))))) ∧
  (let text := [0x31, 0x32, 0x33, 0x34, 0x35, 0x36, 0x37, 0x38, 0x39]
   text.foldl (fun c b => crcStep c (BitVec.ofNat 32 b) 0 0) 0xFFFFFFFF#32 = 0x1CF96D7C#32 ∧
   crc32c (text.map (BitVec.ofNat 8)) = 0xE3069283#32)

/-- R263 and R274: B, JAL and JALR. A target that is a multiple of 4 inside IRAM is reached, and the link register holds pc + 4; a branch
whose condition fails goes on. No flag changes. -/
def Obligations.ControlTransfers : Prop :=
  ∀ (s : State) (pe : Fin 14) (rd rs1 cond : Fin 16) (rel : BitVec 22) (imm : BitVec 18), s.dev.executes pe = true →
    let g := s.regs pe
    let base := [g.z, g.n, g.c, g.v, g.c && !g.z, g.n != g.v, g.z || (g.n != g.v), g.t].getD (cond.val % 8) false
    let holds := if cond.val < 8 then base else !base
    let target : Int := (g.pc : Int) + 4 * rel.toInt
    let indirect : Word := g.get rs1 + imm.signExtend 32
    let link := BitVec.ofNat 32 (g.pc + 4)
    let inIram (t : Int) : Prop := 0 ≤ t ∧ t ≤ 0xFFFC ∧ t % 4 = 0
    (holds = false → exec (.b pe cond rel) s = .next (s.withRegs pe { g with pc := g.pc + 4 })) ∧
    (holds = true → inIram target → exec (.b pe cond rel) s = .next (s.withRegs pe { g with pc := target.toNat })) ∧
    (inIram target → exec (.jal pe rd rel) s = .next (s.withRegs pe { (g.result rd link) with pc := target.toNat })) ∧
    (inIram indirect.toNat →
      exec (.jalr pe rd rs1 imm) s = .next (s.withRegs pe { (g.result rd link) with pc := indirect.toNat }))

/-- From R228, R231 and R268: a load from IRAM or DRAM gives the little-endian value of 1, 2 or 4 bytes, extended with zeros by LD and
with the sign by LDS, and clears T. -/
def Obligations.LoadsFromOwnMemory : Prop :=
  ∀ (s : State) (pe : Fin 14) (rd base : Fin 16) (size : BitVec 2) (imm : BitVec 16), s.dev.executes pe = true →
    let g := s.regs pe
    let e := s.dev.pe pe
    let a := (g.get base + imm.signExtend 32).toNat
    let n := 2 ^ size.toNat
    let byte (x : Nat) : Nat := if x < 0x10000 then (Mem.get 0 e.iram x).toNat else (Mem.get 0 e.dram (dramOff x)).toNat
    let v := ((List.range n).map (fun i => byte (a + i) * 256 ^ i)).sum
    a % n = 0 → a < 0x18000 →
      (size.toNat ≤ 2 → exec (.ld pe rd base size imm) s =
        .next (s.withRegs pe { (g.result rd (BitVec.ofNat 32 v)) with t := false })) ∧
      (size.toNat = 0 → exec (.lds pe rd base size imm) s =
        .next (s.withRegs pe { (g.result rd ((BitVec.ofNat 8 v).signExtend 32)) with t := false })) ∧
      (size.toNat = 1 → exec (.lds pe rd base size imm) s =
        .next (s.withRegs pe { (g.result rd ((BitVec.ofNat 16 v).signExtend 32)) with t := false }))

/-- From R231 and R268: a store to DRAM writes its 1, 2 or 4 bytes and changes nothing else of the machine but the pc; the memory keeps
its canonical form. -/
def Obligations.StoresToDram : Prop :=
  ∀ (s : State) (pe : Fin 14) (rd base : Fin 16) (size : BitVec 2) (imm : BitVec 16), s.dev.executes pe = true →
    let g := s.regs pe
    let e := s.dev.pe pe
    let a := (g.get base + imm.signExtend 32).toNat
    let n := 2 ^ size.toNat
    size.toNat ≤ 2 → a % n = 0 → 0x10000 ≤ a → a < 0x18000 → Mem.wf 0 e.dram = true →
      ∃ m : Mem,
        exec (.st pe rd base size imm) s =
          .next { s with dev := s.dev.setPe pe (fun e => { e with dram := m, regs := { g with pc := g.pc + 4 } }) } ∧
        Mem.wf 0 m = true ∧
        (∀ i < n, (Mem.get 0 m (dramOff a + i)).toNat = (g.get rd).toNat / 256 ^ i % 256) ∧
        (∀ x, x < dramOff a ∨ dramOff a + n ≤ x → Mem.get 0 m x = Mem.get 0 e.dram x)

/-- From R231: an access outside the mapped ranges is F3 with cause 0x04, and one not aligned to its size is F3 with cause 0x05, as is a
store to IRAM or to the Typecase with cause 0x04; nothing else happens. -/
def Obligations.BadAccessesFault : Prop :=
  ∀ (s : State) (pe : Fin 14) (rd base : Fin 16) (size : BitVec 2) (imm : BitVec 16), s.dev.executes pe = true →
    let a := ((s.regs pe).get base + imm.signExtend 32).toNat
    let n := 2 ^ size.toNat
    let f (cause : Nat) : Host.Outcome State Fault Refusal := s.run (Dev.issue pe (fun d => d.engineFault pe 3 cause))
    let outside := 0x18000 ≤ a ∧ ¬ (0x10000000 ≤ a ∧ a < 0x10080000) ∧ ¬ (0x20000000 ≤ a ∧ a < 0x20800000)
    size.toNat ≤ 2 →
      (outside → exec (.ld pe rd base size imm) s = f 0x04 ∧ exec (.st pe rd base size imm) s = f 0x04) ∧
      (¬ outside → a % n ≠ 0 → exec (.ld pe rd base size imm) s = f 0x05 ∧ exec (.st pe rd base size imm) s = f 0x05) ∧
      (a % n = 0 → a < 0x10000 ∨ (0x20000000 ≤ a ∧ a < 0x20800000) → exec (.st pe rd base size imm) s = f 0x04)

/-- From R269 and Table 10.8 in DRAM: rd takes the old word, T clears, and the word becomes what the operation gives; CAS stores only
where the old word equals rd, and says so in Z. Every other byte stays. R270: outside PIM, CWB and PREF only go on; in the static area of
PIM, CWB drops a line held Shared and moves one held Owned to the eviction buffer where that has room. -/
def Obligations.AtomicsAndCacheOperations : Prop :=
  (∀ (s : State) (pe : Fin 14) (rd rs1 rs2 : Fin 16), s.dev.executes pe = true →
     let g := s.regs pe
     let e := s.dev.pe pe
     let a := (g.get rs1).toNat
     let old := BitVec.ofNat 32 (leVal (Mem.getBytes 0 e.dram (dramOff a) 4))
     let y := g.get rs2
     let after (m : Mem) (z : Bool) : Dev :=
       (((s.dev.setPe pe (fun e => { e with dram := m })).peLog pe 16).setRegs pe
         (fun _ => { (g.result rd old) with t := false, z := z }))
     let stores (c : Instr) (w : Word) (z : Bool) : Prop := ∃ m : Mem,
       exec c s = .next { s with dev := after m z } ∧ Mem.getBytes 0 m (dramOff a) 4 = leb 4 w.toNat ∧
       ∀ x, x < dramOff a ∨ dramOff a + 4 ≤ x → Mem.get 0 m x = Mem.get 0 e.dram x
     a % 4 = 0 → 0x10000 ≤ a → a < 0x18000 → Mem.wf 0 e.dram = true →
       stores (.swap pe rd rs1 rs2) y g.z ∧ stores (.aadd pe rd rs1 rs2) (old + y) g.z ∧
       stores (.aand pe rd rs1 rs2) (old &&& y) g.z ∧ stores (.aor pe rd rs1 rs2) (old ||| y) g.z ∧
       (old = g.get rd → stores (.cas pe rd rs1 rs2) y true) ∧
       (old ≠ g.get rd → exec (.cas pe rd rs1 rs2) s = .next { s with dev := after e.dram false })) ∧
  (∀ (s : State) (pe : Fin 14) (base : Fin 16) (imm : BitVec 16), s.dev.executes pe = true →
     let g := s.regs pe
     let a := (g.get base + imm.signExtend 32).toNat
     let d := s.dev.setRegs pe (fun g => { g with pc := g.pc + 4 })
     (¬ (0x10000000 ≤ a ∧ a < 0x10080000) →
       exec (.cwb pe base imm) s = .next { s with dev := d } ∧ exec (.pref pe base imm) s = .next { s with dev := d }) ∧
     (0x10000000 ≤ a → a < 0x10080000 → s.dev.pimArea (pimOff a) = .static →
       let line := (pimOff a) / 64
       (∀ c, (s.dev.pe pe).cached line = some c → c.owned = false →
         exec (.cwb pe base imm) s = .next { s with dev := (s.dev.dropLine pe line).setRegs pe (fun g => { g with pc := g.pc + 4 }) } ∧
         exec (.pref pe base imm) s = .next { s with dev := d }) ∧
       (∀ c, (s.dev.pe pe).cached line = some c → c.owned = true → (s.dev.pe pe).evb.length < 4 →
         exec (.cwb pe base imm) s = .next { s with dev := ((s.dev.dropLine pe line).setPe pe (fun e =>
           { e with evb := e.evb ++ [{ line := line, gen := c.gen, data := c.data }] })).setRegs pe (fun g => { g with pc := g.pc + 4 }) })))

/-- From R275 and R276: WAIT ends at once where an enabled event is pending, and stalls otherwise; WAITU clears C, and ends at once with Z
= 1 where its target is reached, with Z = 0 where an enabled event is pending, and stalls otherwise. How old the tick is that the engine
has accepted is a free value (R29). -/
def Obligations.Waits : Prop :=
  ∀ (s : State) (pe : Fin 14) (rs1 : Fin 16) (scale : Fin 32), s.dev.executes pe = true →
    let g := s.regs pe
    let q := (s.dev.pe pe).ports
    let hit : Prop := q.pend &&& q.mask ≠ 0#32
    let now := s.dev.accepted pe
    let reached : Prop := 0 ≤ (BitVec.ofNat 32 (now.1 / 2 ^ scale.val) - g.get rs1).toInt
    let ends (d : Dev) (g : Regs) : Host.Outcome State Fault Refusal :=
      .next { s with dev := (d.setRegs pe (fun _ => { g with pc := g.pc + 4 })).peLog pe 16 }
    let stalls (d : Dev) (w : Stall) : Host.Outcome State Fault Refusal :=
      .next { s with dev := (d.setPe pe (fun e => { e with stall := w })).peLog pe 16 }
    (hit → exec (.wait pe) s = ends s.dev g) ∧
    (¬ hit → exec (.wait pe) s = stalls s.dev .wait) ∧
    (scale.val ≤ 16 →
      (reached → exec (.waitu pe rs1 scale) s = ends now.2 { g with z := true, c := false }) ∧
      (¬ reached → hit → exec (.waitu pe rs1 scale) s = ends now.2 { g with z := false, c := false }) ∧
      (¬ reached → ¬ hit → exec (.waitu pe rs1 scale) s = stalls now.2 (.waitu (g.get rs1).toNat scale)))

/-- From R279: an illegal word is F3 with cause 0x02 of the engine that would execute it, and a legal one is none; so are WAITU with a
scale above 16, and a load or store of a size that its format does not have. R260 and Table 10.11 over the words: an unassigned major
opcode is illegal, and the ALU word needs its reserved bits 0, a function up to 0x14, and rd = 0 in CMP and TST. -/
def Obligations.LegalAndIllegalWords : Prop :=
  (∀ (s : State) (pe : Fin 14) (word : Word) (rd base rs1 : Fin 16) (size : BitVec 2) (imm : BitVec 16) (scale : Fin 32),
     let f : Host.Outcome State Fault Refusal := s.run (Dev.issue pe (fun d => d.engineFault pe 3 0x02))
     (legalWord word = false → exec (.illegalInstruction pe word) s = f) ∧
     (legalWord word = true → exec (.illegalInstruction pe word) s = .next s) ∧
     (16 < scale.val → exec (.waitu pe rs1 scale) s = f) ∧
     (size = 3#2 → exec (.ld pe rd base size imm) s = f ∧ exec (.st pe rd base size imm) s = f) ∧
     (2#2 ≤ size → exec (.lds pe rd base size imm) s = f)) ∧
  ((∀ w : Word, w.toNat / 2 ^ 26 ∉ [0x01, 0x02, 0x03, 0x04, 0x05, 0x06, 0x07, 0x08, 0x09, 0x10, 0x11, 0x12, 0x13, 0x14, 0x18, 0x19, 0x1A,
       0x20, 0x21, 0x22, 0x28] → legalWord w = false) ∧
   (∀ w : Word, w.toNat / 2 ^ 26 = 0x01 → (legalWord w = true ↔
       w.toNat / 2 ^ 6 % 2 ^ 8 = 0 ∧ w.toNat % 2 ^ 6 ≤ 0x14 ∧
       ((w.toNat % 2 ^ 6 = 0x0C ∨ w.toNat % 2 ^ 6 = 0x0D) → w.toNat / 2 ^ 22 % 2 ^ 4 = 0))))

/-- From R244 and R271 on the engine island's own ports: PIN of EVT_PEND, EVT_MASK and QLEASE reads the port, clears T and logs the read;
POUT and the write row set EVT_MASK's implemented bits and clear the bits of EVT_PEND that are written 1; a port above 255, a reserved
port, and a write of a read-only port are F3 with cause 0x06; a write-only port reads 0. -/
def Obligations.PortInstructions : Prop :=
  ∀ (s : State) (pe : Fin 14) (rd rs1 : Fin 16) (imm : BitVec 8) (v : Word), s.dev.executes pe = true →
    let g := s.regs pe
    let q := (s.dev.pe pe).ports
    let p := (g.get rs1 + imm.setWidth 32).toNat
    let reads (w : Word) : Host.Outcome State Fault Refusal :=
      .next { s with dev := (s.dev.peLog pe 16).setRegs pe (fun _ => { (g.result rd w) with t := false }) }
    let writes (f : EPorts → EPorts) : Host.Outcome State Fault Refusal :=
      .next { s with dev := s.dev.setPe pe (fun e => { e with ports := f e.ports, regs := { g with pc := g.pc + 4 } }) }
    let f6 : Host.Outcome State Fault Refusal := s.run (Dev.issue pe (fun d => d.engineFault pe 3 0x06))
    let w := g.get rd
    (p = 0x02 → exec (.pin pe rd rs1 imm) s = reads q.pend ∧
      exec (.pout pe rd rs1 imm) s = writes (fun q => { q with pend := q.pend &&& ~~~w })) ∧
    (p = 0x03 → exec (.pin pe rd rs1 imm) s = reads q.mask ∧
      exec (.pout pe rd rs1 imm) s = writes (fun q => { q with mask := w &&& 0xFFFFFF#32 })) ∧
    exec (.registerWrite (.port pe 0x03 v)) s = writes (fun q => { q with mask := v &&& 0xFFFFFF#32 }) ∧
    (p = 0x31 → exec (.pin pe rd rs1 imm) s = reads 0#32) ∧
    (p = 0x33 ∨ 0xFF < p → exec (.pin pe rd rs1 imm) s = f6 ∧ exec (.pout pe rd rs1 imm) s = f6) ∧
    (p = 0x04 → exec (.pout pe rd rs1 imm) s = f6)

/-- From R153, R154 and R272: QPUT of an item that fits a part-to-host ring with no reservation before it writes the item's entries at PI,
moves PI past them, and answers 0; where the ring lacks the entries, the item is discarded and counted, and rd receives 1 (R155). -/
def Obligations.QputPublishesOrDiscards : Prop :=
  ∀ (s : State) (pe : Fin 14) (rd rs1 rs2 : Fin 16), s.dev.executes pe = true →
    let g := s.regs pe
    let d := s.dev
    let a := (g.get rs1).toNat
    let n := (g.get rs2).toNat / 65536
    let r := (g.get rs2).toNat % 65536
    let l := d.leOf pe
    let k := itemEntries n
    let x := d.ring r
    let ok (t : State) (v : Word) : Prop :=
      exec (.qput pe rd rs1 rs2) s = .next t ∧ (t.regs pe) = { (g.result rd v) with t := false } ∧ t.pending = s.pending
    n ≤ 16384 → r < 32 → r < d.hst.rings.length → (n = 0 ∨ (0x10000 ≤ a ∧ a + n ≤ 0x18000)) → d.peReach pe 4 = true →
    d.isOn (ringFid r) = true → (d.ringCfg r).dir = 1 → x.resv = [] →
      (x.count + k ≤ (d.ringCfg r).entries → ∃ t, ok t 0#32 ∧
        t.dev.hst.mem = writeEntries (d.ringCfg r) d.hst.mem (x.pi % 65536)
          (itemBytes 1 l (x.lostOf (lostKey 1 l)) d.tick (Mem.getBytes 0 (d.pe pe).dram (dramOff a) n)) ∧
        (t.dev.ring r).pi = (x.pi % 65536 + k) % 65536 ∧ (t.dev.ring r).ci = x.ci) ∧
      ((d.ringCfg r).entries < x.count + k → ∃ t, ok t 1#32 ∧ t.dev.hst.mem = d.hst.mem ∧
        (t.dev.ring r).pi = x.pi ∧ (t.dev.ring r).lostOf (lostKey 1 l) = min 255 (x.lostOf (lostKey 1 l) + 1))

/-- From R273: QGET of an item that the buffer takes copies it into DRAM, moves CI past it, and answers 0x8000_0000 + L; a longer item
stays, and rd says how long it is; an empty ring answers 0. -/
def Obligations.QgetTakesTheOldestItem : Prop :=
  ∀ (s : State) (pe : Fin 14) (rd rs1 rs2 : Fin 16), s.dev.executes pe = true →
    let g := s.regs pe
    let d := s.dev
    let a := (g.get rs1).toNat
    let room := (g.get rs2).toNat / 65536
    let r := (g.get rs2).toNat % 65536
    let l := d.leOf pe
    let x := d.ring r
    let head := Mem.getBytes 0 d.hst.mem ((d.ringCfg r).at x.ci) 4
    let n := fld head 2 2
    let ok (t : State) (v : Word) : Prop :=
      exec (.qget pe rd rs1 rs2) s = .next t ∧ (t.regs pe) = { (g.result rd v) with t := false } ∧ t.dev.hst.mem = d.hst.mem ∧
      t.pending = s.pending
    room ≤ 16384 → r < 32 → r < d.hst.rings.length → (room = 0 ∨ (0x10000 ≤ a ∧ a + room ≤ 0x18000)) → d.peReach pe 4 = true →
    d.isOn (ringFid r) = true → (d.ringCfg r).dir = 2 → x.bound = some l → Mem.wf 0 (d.pe pe).dram = true →
      (x.count = 0 → ∃ t, ok t 0#32 ∧ (t.dev.ring r).ci = x.ci) ∧
      (byteAt head 0 = 1 → n ≤ 16384 → x.count ≠ 0 → itemEntries n ≤ x.count →
        (n ≤ room → ∃ t, ok t (0x80000000#32 + BitVec.ofNat 32 n) ∧ (t.dev.ring r).ci = (x.ci + itemEntries n) % 65536 ∧
          Mem.getBytes 0 (t.dev.pe pe).dram (dramOff a) n = d.ringItem r n ∧
          ∀ y, y < dramOff a ∨ dramOff a + n ≤ y → Mem.get 0 (t.dev.pe pe).dram y = Mem.get 0 (d.pe pe).dram y) ∧
        (room < n → ∃ t, ok t (0x40000000#32 + BitVec.ofNat 32 n) ∧ (t.dev.ring r).ci = x.ci ∧
          (t.dev.pe pe).dram = (d.pe pe).dram))

/-! ## The ports of an engine (9, 15, 16, 18) -/

/-- From R244, R246, R248, R249, R250, R255 and R258: the ports of the engine island. TICK_LO reads the accepted time, never one before
the last, and takes the snapshot; TMR_CTL arms with what the compare ports hold; WD_PERIOD and WD_KICK set their fields, or are F3 with
cause 0x01; PARAM_DATA reads the block and moves on; RX_POST posts a buffer that fits; RX_DONE returns the oldest completion, or ones;
TYP_SUSP makes or releases one bank's request. How old the accepted tick is, is a free value (R29). -/
def Obligations.EngineIslandPorts : Prop :=
  ∀ (s : State) (pe : Fin 14) (rd : Fin 16) (n : Fin 4) (v : Word) (bank : Fin 2), s.dev.executes pe = true →
    let d := s.dev
    let q := (d.pe pe).ports
    let f1 : Host.Outcome State Fault Refusal := s.run (Dev.issue pe (fun d => d.engineFault pe 3 0x01))
    let t := max (d.accepted pe).1 d.orr.at_
    exec (.tickLo pe rd) s = .next (s.afterRead pe rd (BitVec.ofNat 32 t)
      ((d.accepted pe).2.setPorts pe (fun q => { q with snap := d.orr.reading t, lastTick := t }))) ∧
    exec (.tmrCtl pe n v) s = .next (s.afterPort pe (d.setTmr pe n (fun t => t.arm v))) ∧
    (10 ≤ v.toNat → v.toNat ≤ 1000000 →
      exec (.wdPeriod pe v) s = .next (s.afterPort pe (d.setPorts pe (fun q => { q with wdPeriod := v.toNat })))) ∧
    (v.toNat < 10 ∨ 1000000 < v.toNat → exec (.wdPeriod pe v) s = f1) ∧
    (v = 0xC3A5#32 → exec (.wdKick pe v) s =
      .next (s.afterPort pe (d.setPorts pe (fun q => { q with wdKick := d.tick, wdHalf := false })))) ∧
    (v ≠ 0xC3A5#32 → exec (.wdKick pe v) s = f1) ∧
    exec (.paramData pe rd) s = .next (s.afterRead pe rd (BitVec.ofNat 32 (leVal (Mem.getBytes 0 (d.le (d.leOf pe)).params q.paramAddr 4)))
      (d.setPorts pe (fun q => { q with paramAddr := (q.paramAddr + 4) % 4096 }))) ∧
    (q.rxPosted.length < 16 → 64 ≤ v.toNat → v.toNat ≤ 9216 → q.rxAddr % 4 = 0 → 0x10000 ≤ q.rxAddr → q.rxAddr + v.toNat ≤ 0x18000 →
      exec (.rxPost pe v) s = .next (s.afterPort pe (d.setPorts pe (fun q => { q with
        rxPosted := q.rxPosted ++ [(q.rxNext, dramOff q.rxAddr, v.toNat)], rxNext := (q.rxNext + 1) % 16 })))) ∧
    (16 ≤ q.rxPosted.length ∨ v.toNat < 64 ∨ 9216 < v.toNat ∨ q.rxAddr % 4 ≠ 0 ∨ q.rxAddr < 0x10000 ∨ 0x18000 < q.rxAddr + v.toNat →
      exec (.rxPost pe v) s = .next (s.afterPort pe (d.poisonWrite pe))) ∧
    (q.rxDone = [] → exec (.rxDone pe rd) s = .next (s.afterRead pe rd 0xFFFFFFFF#32 d)) ∧
    (∀ k i rest, q.rxDone = (k, i) :: rest → exec (.rxDone pe rd) s = .next (s.afterRead pe rd (BitVec.ofNat 32 (k * 65536 + i))
      ((d.setPorts pe (fun q => { q with rxDone := rest })).peLog pe k))) ∧
    (d.peReach pe 6 = true →
      exec (.typSuspRequest pe bank) s = .next (s.afterEffect pe (d.typSuspWrite pe (q.typSusp ||| 2 ^ bank.val))) ∧
      exec (.typSuspRelease pe bank) s = .next (s.afterEffect pe (d.typSuspWrite pe (q.typSusp &&& (3 - 2 ^ bank.val)))))

/-- From R63, R252, R253 and Table 9.4: a request for a free quoin of an instance and lease of its kind is granted in the engine's lowest
free slot; the release frees it under its next generation, where nobody waits; a request for a resource that the engine holds already
renews it. R229, R235 and R236: PLATE_CTL by the writer marks its plate ready, or commits a plate with an explicit commit; by any other
engine it completes with poison and changes no plate. -/
def Obligations.QuoinAndPlatePorts : Prop :=
  (∀ (s : State) (pe : Fin 14) (v : Word), s.dev.executes pe = true →
     let d := s.dev
     let l := d.leOf pe
     let kind := v.toNat / 2 ^ 24
     let inst := v.toNat / 256 % 65536
     let x := d.le l
     let lease := (d.pe pe).ports.qlease
     l < d.eng.les.length → x.qslots.length = 16 → kind ≠ 7 → (d.quoins.any (fun q => q.kind == kind && q.inst == inst)) = true →
       (∀ i, x.slotOf kind inst = none → x.freeSlot = some i → (∀ q ∈ x.qslots, q.st ≠ 2) → reqInstance kind inst = true →
         reqLease kind lease = true → (d.quoin kind inst).owner = none →
         ∃ t, exec (.qreq pe v) s = .next t ∧ (t.dev.quoin kind inst).owner = some (.le l) ∧
           (t.dev.quoin kind inst).lease = d.leaseOf kind lease ∧
           ((t.dev.le l).qslots.getD i {}) = { st := 1, kind := kind, inst := inst, gen := (d.quoin kind inst).gen } ∧
           (t.regs pe).pc = (s.regs pe).pc + 4) ∧
       (∀ i, x.slotOf kind inst = some i → (x.qslots.getD i {}).st = 1 →
         exec (.qreq pe v) s = .next (s.afterPort pe (d.renew kind inst)) ∧
         ((d.quoin kind inst).queue = [] → ∃ t, exec (.qrel pe v) s = .next t ∧ (t.dev.quoin kind inst).owner = none ∧
           (t.dev.quoin kind inst).gen = ((d.quoin kind inst).gen + 1) % 65536 ∧ ((t.dev.le l).qslots.getD i {}).st = 0 ∧
           (t.regs pe).pc = (s.regs pe).pc + 4))) ∧
  (∀ (s : State) (pe : Fin 14), s.dev.executes pe = true →
     let d := s.dev
     let q := (d.pe pe).ports.plateSel
     (d.peReach pe 7 = true → d.peWrites pe q = true →
       exec (.plateCtlDone pe) s = .next (s.afterEffect pe ((d.renew 4 q).plateDone q)) ∧
       ((d.plate q).declared = true → (d.plate q).dom = none →
         exec (.plateCtlCommit pe) s = .next (s.afterEffect pe ((d.renew 4 q).plateCommit q)))) ∧
     (d.peWrites pe q = false →
       exec (.plateCtlDone pe) s = .next (s.afterPort pe (d.poisonWrite pe)) ∧
       exec (.plateCtlCommit pe) s = .next (s.afterPort pe (d.poisonWrite pe))))

/-- From R249 and R251: TX_CTL sends the frame that TX_ADDR and its length name, with its FCS, through SP6 (a frame that goes to no host
channel); ALM_CTL READ copies the committed value of a key into DRAM and gives DONE; ALM_CTL WRITE, by the holder of quoin 0x01, begins
one group of the record. R478, R479, R491 and R492: FR_CTL locks the chase windows and starts a template that is in order; IMP_DATA writes
a word of the standby table under quoin 0x09 and moves on; IMP_SWITCH arms the switch of a table that is in order. -/
def Obligations.FrameAlmanacAndImpositionPorts : Prop :=
  (∀ (s : State) (pe : Fin 14) (v : Word), s.dev.executes pe = true →
     let d := s.dev
     let q := (d.pe pe).ports
     let l := d.leOf pe
     let n := v.toNat / 65536
     let mask := v.toNat % 256
     (q.txOut.length < 8 → q.txAddr % 4 = 0 → 0x10000 ≤ q.txAddr → q.txAddr + n ≤ 0x18000 → d.peReach pe 8 = true →
       let sent := d.inject 6 (withFcs (Mem.getBytes 0 (d.pe pe).dram (dramOff q.txAddr) n)) (v.toNat / 2 ^ 13 % 8)
         (if mask = 0 then none else some mask)
       sent.2.1 = [] → exec (.txCtl pe v) s =
         .next (s.afterEffect pe (sent.2.2.setPorts pe (fun q => { q with txOut := q.txOut ++ [sent.1] })).collect.udpOut)) ∧
     (8 ≤ q.txOut.length → exec (.txCtl pe v) s = .next (s.afterPort pe (d.poisonWrite pe))) ∧
     (∀ b, d.peReach pe 1 = true → 0x8000 ≤ q.almKey → d.alm.value q.almKey = some b → 0x10000 ≤ q.almAddr →
       q.almAddr + min b.length q.almLen ≤ 0x18000 →
       exec (.almCtlRead pe) s = .next (s.afterEffect pe ((((((d.setPorts pe (fun q => { q with almCtl := 1 })).dramWrite pe (dramOff q.almAddr)
         (b.take (min b.length q.almLen))).setPorts pe (fun q => { q with almStat := 0x80000000 })).raiseLe 0x01 l 17)).peLog pe
           (min b.length q.almLen)))) ∧
     (d.peReach pe 1 = true → d.holds 1 0 (.le l) = true → q.almStat / 2 ^ 30 % 4 ≠ 1 → 0x8000 ≤ q.almKey → q.almLen ≤ 2048 →
       0x10000 ≤ q.almAddr → q.almAddr + q.almLen ≤ 0x18000 → d.alm.anyValid = true →
       exec (.almCtlWrite pe) s = .next (s.afterPort pe (((((d.setPorts pe (fun q => { q with almCtl := 2 })).renew 1 0).setPorts pe
         (fun q => { q with almStat := 0x40000000 })).setAlm (fun a => { a with ops := a.ops ++ [
           { kind := .write q.almKey (Mem.getBytes 0 (d.pe pe).dram (dramOff q.almAddr) q.almLen), le := some l }] })))))) ∧
  (∀ (s : State) (pe : Fin 14) (v : Word) (n : BitVec 16) (i : Nat) (lock run : Bool), s.dev.executes pe = true →
     let d := s.dev
     let u := d.renew 0x0A i
     let dom := d.sel pe 6
     let x := d.doms.getD dom {}
     (d.reachesUnit pe 0 i = true →
       (∀ t, u.frCtl i (1 + 2 * b2n lock) = some t → exec (.frCtlRun pe lock) s = .next (s.afterPort pe t)) ∧
       (u.frCtl i (1 + 2 * b2n lock) = none →
         exec (.frCtlRun pe lock) s = s.run (Dev.issue pe (fun d => d.engineFault pe 3 0x07))) ∧
       (∀ t, u.frCtl i (2 + b2n run) = some t → exec (.frCtlLock pe run) s = .next (s.afterPort pe t))) ∧
     (impHeld d pe = true →
       exec (.impData pe v) s = .next (s.afterPort pe (({ d.renew 9 dom with
         doms := upd d.doms dom (fun x => { x with standby := Mem.setBytes 0 x.standby (4 * d.sel pe 7) (leb 4 v.toNat) }) } : Dev).setSel pe 7
           ((d.sel pe 7 + 1) % 1024))) ∧
       (n ≠ 0#16 → x.pendN = none → (d.renew 9 dom).tableOk dom x.standby = true → ∃ t, exec (.impSwitch pe n) s = .next t ∧
         t.dev.doms = upd d.doms dom (fun x => { x with pendN := some n.toNat, pendCmd := none, pendLe := some (d.leOf pe) }) ∧
         (t.regs pe).pc = (s.regs pe).pc + 4)) ∧
     (impHeld d pe = false →
       exec (.impData pe v) s = .next (s.afterPort pe (d.poisonWrite pe)) ∧
       exec (.impSwitch pe n) s = .next (s.afterPort pe (d.poisonWrite pe))))

/-- From R245 and Tables 15.5 and 16.3: the ports of the multidrop and serial groups reach the unit that the logical engine is bound to,
and the access renews the binding; without a binding a write completes with poison (R229) and a read gives the poison word (R228). -/
def Obligations.BusUnitPorts : Prop :=
  ∀ (s : State) (pe : Fin 14) (rd : Fin 16) (v : Word) (i : Nat) (obj : Fin 128), s.dev.executes pe = true →
    let d := s.dev
    let l := d.leOf pe
    let m := d.renew 0x0A (0x10 + i)
    let u := d.renew 0x0A (0x20 + i)
    let k := (d.pe pe).sel.sel.getD 5 0 / 65536
    let w := (d.pe pe).sel.sel.getD 5 0 % 32
    (d.reachesUnit pe 1 i = true →
      (∀ x, m.mbSetCi i (v.toNat / 65536) = (true, x) → exec (.mbRidx pe v) s = .next (s.afterPort pe x)) ∧
      (∀ x, m.mbSetCi i (v.toNat / 65536) = (false, x) → exec (.mbRidx pe v) s = .next (s.afterPort pe (d.poisonWrite pe))) ∧
      exec (.mbRdata pe rd) s = .next (s.afterRead pe rd (BitVec.ofNat 32 (m.mbRdata pe i).1) (m.mbRdata pe i).2) ∧
      exec (.mbOdataRead pe rd) s = .next (s.afterReadEffect pe rd (BitVec.ofNat 32 (m.mbOdata pe i).1) (m.mbOdata pe i).2) ∧
      exec (.mbStamp pe rd) s = .next (s.afterRead pe rd (BitVec.ofNat 32 (m.mbStampRead i).1) (m.mbStampRead i).2) ∧
      (m.holds 5 (128 * i + k) (.le l) = true → (m.objCfg i k).use = 2 → exec (.mbOdataWrite pe v) s =
        .next (s.afterEffect pe (((m.renew 5 (128 * i + k)).objWrite i k w v.toNat).setSel pe 5
          (nextWord ((d.pe pe).sel.sel.getD 5 0) 128)))) ∧
      (m.holds 5 (128 * i + obj.val) (.le l) = true →
        exec (.mbTxreq pe obj) s = .next (s.afterEffect pe ((m.renew 5 (128 * i + obj.val)).mbTxreq i obj)) ∧
        exec (.mbTxreqWithdraw pe obj) s = .next (s.afterEffect pe ((m.renew 5 (128 * i + obj.val)).mbWithdraw i obj).2)) ∧
      (m.holds 5 (128 * i + obj.val) (.le l) = false →
        exec (.mbTxreq pe obj) s = .next (s.afterPort pe (d.poisonWrite pe)) ∧
        exec (.mbTxreqWithdraw pe obj) s = .next (s.afterPort pe (d.poisonWrite pe)))) ∧
    (d.reachesUnit pe 2 i = true →
      exec (.slRxdata pe rd) s = .next (s.afterReadEffect pe rd (BitVec.ofNat 32 (u.slRxdata i).1) (u.slRxdata i).2) ∧
      (∀ x, u.slTxdata i l v.toNat = some x → exec (.slTxdata pe v) s = .next (s.afterEffect pe x)) ∧
      (u.slTxdata i l v.toNat = none → exec (.slTxdata pe v) s = .next (s.afterPort pe (d.poisonWrite pe))) ∧
      (v.toNat % 2 = 1 → exec (.slTxctl pe v) s = .next (s.afterEffect pe (u.slAbort i).2)) ∧
      (v.toNat % 2 = 0 → exec (.slTxctl pe v) s = .next (s.afterEffect pe u))) ∧
    (d.unitOf l 0x20 4 = none → exec (.slTxdata pe v) s = .next (s.afterPort pe (d.poisonWrite pe)))

/-! ## Packets, channels, events and transports (4, 6) -/

/-- From R83, R86, R91, R93 and R113: a packet of any opcode but CHANNEL_OPEN and CHANNEL_CLOSE that is the next of its channel executes;
its reply moves the channel's base past it, is cached and leaves; then comes what follows the reply. R60, R83, R94 and R96: the reply of
an executed command moves the base of its channel past the command, is the newest entry of the channel's reply cache, which holds at most
64, and leaves on the channel's host port as one packet that carries the command's sequence, channel and function ID, the opcode with bit
15 set, and REPLY. R79, R80 and R81: a packet begins with the bytes A7 and 01, carries its length, its sequence, its opcode, its flags,
its channel, its status and its function ID little-endian, pads its parameters with zeros to a multiple of 4, and ends with the CRC-32C of
all before it. -/
def Obligations.PacketsExecuteAndAreAnswered : Prop :=
  (∀ (i : Instr) (op : Nat) (c : VCmd) (s : State) (o : OpOut), verindOf i = some (op, c) → op ≠ 0x0001 → op ≠ 0x0002 →
     s.dev.takesNext op c = true →
     execOpcode { op := op, cmd := c, arr := s.dev.verind.arrivals } (s.packet i) = some o →
     exec i s = .next (s.answered i o)) ∧
  (∀ (d : Dev) (h : Held) (st : Nat) (b : List Byte), h.recov = false → h.dup = false →
     h.cmd.channel < d.verind.chans.length →
     let k := h.cmd.channel
     let q := (d.chan k).peer.port
     1 ≤ q → q ≤ d.hst.ports.length →
     let e := d.settleReply execOpcode h { status := st, bodies := [b] }
     (e.chan k).base = (h.cmd.seq + 1) % 65536 ∧
     (e.chan k).held = (d.chan k).held.filter (fun x => x.cmd.seq != h.cmd.seq) ∧
     ((e.chan k).cache.head?.map (fun x => (x.seq, x.op, x.crc))) = some (h.cmd.seq, h.op, h.cmd.crc) ∧
     (e.chan k).cache.length ≤ 64 ∧
     (∀ x ∈ (e.chan k).cache.tail, x.seq ≠ h.cmd.seq) ∧
     (e.port q).out.map (·.bytes) = (d.port q).out.map (·.bytes) ++ [pktBytes h.cmd.seq (h.op + 0x8000) 1 k st h.cmd.fid b] ∧
     (∀ j, j ≠ k → e.chan j = d.chan j)) ∧
  (∀ (seq op flags ch status fid : Nat) (b : List Byte), 20 + b.length ≤ 4096 → b.length % 4 = 0 → seq < 65536 → op < 65536 →
     flags < 256 → ch < 256 → status < 65536 → fid < 65536 →
     let p := pktBytes seq op flags ch status fid b
     p.length = 20 + b.length ∧ p.take 2 = [0xA7#8, 0x01#8] ∧ fld p 2 2 = p.length ∧ fld p 4 2 = seq ∧ fld p 6 2 = op ∧
     byteAt p 8 = flags ∧ byteAt p 9 = ch ∧ fld p 10 2 = status ∧ fld p 12 2 = fid ∧ fld p 14 2 = 0 ∧ slice p 16 b.length = b ∧
     fld p (16 + b.length) 4 = (crc32c (p.take (16 + b.length))).toNat)

/-- From R88 and R89: a CHANNEL_OPEN on a closed channel, or on a channel open to its own source that it does not repeat, opens the
channel: what was held is gone, the cache holds its own reply alone, its sequence plus 1 is the base, and with EVT it is the last opened
with EVT. R90, R127 and R512: CHANNEL_CLOSE replies DONE and then the channel is closed, with nothing held or cached; its windows are
closed and its deadline is gone. -/
def Obligations.ChannelsOpenAndClose : Prop :=
  (∀ (c : VCmd) (s : State), s.dev.portEnabled c.src.port = true → s.dev.pwr.st ≤ 1 → s.dev.start.phase = .ready →
     s.dev.verind.resetReq = none → s.dev.cmp.restarting = false →
     16 ≤ c.framed → c.sync = 0xA7#8 → c.channel ≤ 7 → c.channel < s.dev.verind.chans.length → VCmd.check35 0x0001 c = none →
     c.fid = 0 → c.params.length = 4 → byteAt c.params 0 ≤ 1 → fld c.params 1 3 = 0 →
     let k := c.channel
     ((s.dev.chan k).st = 0 ∧ (s.dev.chan k).held = [] ∨
       (s.dev.chan k).st = 2 ∧ Peer.same (s.dev.chan k).peer c.src = true ∧ (c.seq + 65536 - (s.dev.chan k).base) % 65536 < 32768) →
     ∃ t, exec (.channelOpen c) s = .next t ∧ (t.dev.chan k).st = 2 ∧ (t.dev.chan k).base = (c.seq + 1) % 65536 ∧
       (t.dev.chan k).held = [] ∧ (t.dev.chan k).cache.map (fun e => (e.seq, e.op)) = [(c.seq, 0x0001)] ∧
       Peer.same (t.dev.chan k).peer c.src = true ∧
       (bit (byteAt c.params 0) 0 = true → (t.dev.chan k).order = t.dev.verind.opens ∧ t.dev.verind.opens = s.dev.verind.opens + 1)) ∧
  (∀ (c : VCmd) (s : State), s.takes (.channelClose c) 0 0 = true → c.channel < s.dev.pwr.deadlines.length →
     ∃ t, exec (.channelClose c) s = .next t ∧ t.dev.chan c.channel = {} ∧
       (∀ w, w < 16 → (t.dev.window w).isOpen = true → (t.dev.window w).ch ≠ c.channel) ∧
       t.dev.pwr.deadlines.getD c.channel none = none ∧ (∀ j, j ≠ c.channel → (t.dev.chan j).st = (s.dev.chan j).st))

/-- From R98: the event channel is the channel last opened with EVT while it is open, else channel 0 while it is open, else none. R100 and
R101: an event that is no completion is queued while a slot of the 256 is free and else only counted, while during a Compositor restart it
waits, which is the model's choice (log entry 24); a command that needs a completion is refused with 128 reservations held. R99: EVENT_ACK
releases the events from the oldest to the one it names, refuses an event not yet sent, and has no effect on one already acknowledged. -/
def Obligations.EventDelivery : Prop :=
  (∀ (v : Verind) (k : Nat), v.chans.length = 8 →
     (k < 8 → (v.chans.getD k {}).st = 2 → (v.chans.getD k {}).order = v.opens → 0 < v.opens →
       (∀ j, j ≠ k → (v.chans.getD j {}).order ≠ v.opens) → v.eventChannel = some k) ∧
     ((∀ j, j < 8 → (v.chans.getD j {}).order = v.opens → (v.chans.getD j {}).st ≠ 2) →
       v.eventChannel = if (v.chans.getD 0 {}).st = 2 then some 0 else none)) ∧
  (∀ (d : Dev) (op fid : Nat) (b : List Byte),
     (d.cmp.restarting = false → d.verind.events.length + d.verind.outstanding < 256 →
       (d.emit op fid b).verind.events.length = d.verind.events.length + 1 ∧
       (d.emit op fid b).verind.evSeq = (d.verind.evSeq + 1) % 65536 ∧
       (d.emit op fid b).verind.events.getLast?.map (fun e => (e.seq, e.op, e.fid, e.body)) = some (d.verind.evSeq, op, fid, b)) ∧
     (d.cmp.restarting = false → 256 ≤ d.verind.events.length + d.verind.outstanding →
       d.emit op fid b = d.setVerind (fun v => { v with unsent := v.unsent + 1 })) ∧
     (d.cmp.restarting = true → d.emit op fid b = d.holdEvent (.event op fid b)) ∧
     (∀ (h : Held) (f : Waiting → Dev → Dev), 128 ≤ d.verind.reserved → opAccept h d f = opErr d stNoResource 0xFFFF 0)) ∧
  (∀ (c : VCmd) (s : State), s.takes (.eventAck c) 0 4 = true → fld c.params 2 2 = 0 →
     let i := Instr.eventAck c
     let v := (s.packet i).verind
     let n := (fld c.params 0 2 + 65537 - v.ackFrom) % 65536
     let k := (v.sentTo + 65536 - v.ackFrom) % 65536
     ((n = 0 ∨ 32768 < n) → exec i s = .next (s.answered i (doneOut (s.packet i) []))) ∧
     (1 ≤ n → n ≤ k → n ≤ 32768 → exec i s = .next (s.answered i
       { reply := .done [], dev := (s.packet i).setVerind (fun v => { v with events := v.events.drop n }), after := Dev.overflowEvent })) ∧
     (k < n → n ≤ 32768 → exec i s = .next (s.answered i { reply := .err stBadParam 16 0x010A, dev := s.packet i })))

/-- From R113: an opcode that is in no table is answered BAD_OPCODE at offset 6, and changes nothing else (R87). R114, R115, R120, R121
and R122, of SL_CONFIG: a function ID of another class, a length that is not 12, a field out of its range, a FAILED line, an OFF-only
field changed while the line is not OFF, and a full backlog are refused with the status, the offset and the detail of Table 5.24, and
nothing else changes. -/
def Obligations.CommandsRefused : Prop :=
  (∀ (h : Held) (d : Dev), (∀ (i : Instr) (c : VCmd), verindOf i ≠ some (h.op, c)) →
     ∃ o, execOpcode h d = some o ∧ o.reply = .err stBadOpcode 6 0 ∧ o.dev = d ∧ o.after = id) ∧
  (∀ (c : VCmd) (s : State), s.takes (.slConfig c) c.fid c.params.length = true →
     let p := c.params
     let i := Instr.slConfig c
     let n := c.fid - 0x0300
     let x : SlCfg := {
       rate := fld p 0 4, dataBits := byteAt p 4, parity := byteAt p 5, stop := byteAt p 6, lead := fld p 8 2, lag := fld p 10 2 }
     let no (st off det : Nat) : State := s.answered i { reply := .err st off det, dev := s.packet i }
     ((c.fid < 0x0300 ∨ 0x0303 < c.fid) → exec i s = .next (no 0x0103 12 0)) ∧
     (0x0300 ≤ c.fid → c.fid ≤ 0x0303 → p.length ≠ 12 → exec i s = .next (no 0x0100 16 0)) ∧
     (0x0300 ≤ c.fid → c.fid ≤ 0x0303 → p.length = 12 →
       ((fld p 0 4 < 300 ∨ 12000000 < fld p 0 4) → exec i s = .next (no 0x0103 16 0x010A)) ∧
       (x.bad = none → byteAt p 7 = 0 →
         ((s.dev.func c.fid).st = 5 → exec i s = .next (no 0x0104 0xFFFF 0x0101)) ∧
         ((s.dev.func c.fid).st ≠ 5 → (s.dev.func c.fid).st ≠ 0 → x.rate ≠ (s.dev.slCfg n).rate →
           exec i s = .next (no 0x0104 16 0x0102)) ∧
         ((s.dev.func c.fid).st = 0 → s.backlogFree = false → exec i s = .next (no 0x0106 0xFFFF 0x0100)))))

/-- From Tables 5.5, 5.6, 5.9, 5.17, 5.18 and 5.19: a query of the device, its functions, its engines, its power and its security that is
the next of its channel is answered DONE with the payload of its table, and changes nothing. TIME in the power states counts to now, and
the rate on TCK is open, so that POWER_STATUS and ISLAND_STATUS of island 0x0F are in statements of their own. -/
def Obligations.DeviceQueriesAnswer : Prop :=
  ∀ (c : VCmd) (s : State),
    let p := c.params
    let q (i : Instr) (b : List Byte) : State := s.answered i (doneOut (s.packet i) b)
    (s.takes (.deviceInfo c) 0 0 = true → exec (.deviceInfo c) s = .next (q (.deviceInfo c)
      (leb 2 0x0880 ++ leb 1 Config.grade ++ leb 1 1 ++ leb 4 0x00010000 ++ leb 4 s.dev.alm.patchVersion ++
        leb 8 Config.serial.toNat ++ leb 1 s.dev.start.cause ++ zeros 3))) ∧
    (s.takes (.islandStatus c) 0 4 = true → 1 ≤ byteAt p 1 → byteAt p 1 ≤ 64 → fld p 2 2 = 0 →
      s.dev.islands.any (fun x => decide (byteAt p 0 ≤ x.id) && decide (x.id < byteAt p 0 + byteAt p 1) && x.id == 0x0F) = false →
      exec (.islandStatus c) s = .next (q (.islandStatus c) ((s.dev.islands.filter (fun x =>
        decide (byteAt p 0 ≤ x.id) && decide (x.id < byteAt p 0 + byteAt p 1))).flatMap (fun x =>
          let st := s.dev.islandState x
          leb 4 (x.id * 2 ^ 24 + st * 2 ^ 20 + s.dev.opp x.id * 2 ^ 16 + x.cause * 2 ^ 12 + b2n x.ovr * 2048 + b2n (s.dev.staleAt x.id) * 1024 +
            b2n x.clkf * 512 + b2n x.hang * 256 + x.ovc) ++
          leb 4 ((if st = 1 ∨ st = 2 then nominalKHz x.id (s.dev.pe (x.id - 0x30)).div else 0) * 4096 + x.gen))))) ∧
    (s.takes (.quoinQuery c) 0 4 = true → byteAt p 0 ≤ 10 → fld p 1 3 = 0 →
      exec (.quoinQuery c) s = .next (s.answered (.quoinQuery c) (fragOut (s.packet (.quoinQuery c)) [] 8
        (if byteAt p 0 = 0 then ((List.range 10).map (· + 1)).flatMap (s.packet (.quoinQuery c)).quoinKind
          else (s.packet (.quoinQuery c)).quoinKind (byteAt p 0))))) ∧
    (s.takes (.settingGet c) 0 4 = true → (settingRange (fld p 0 2)).isSome = true → fld p 2 2 = 0 →
      exec (.settingGet c) s = .next (q (.settingGet c) (leb 4 (s.dev.cfg.dev.setting (fld p 0 2))))) ∧
    (funcIds.contains c.fid = true → s.takes (.funcStatus c) c.fid 0 = true →
      exec (.funcStatus c) s = .next (q (.funcStatus c) ((s.packet (.funcStatus c)).funcWords (s.dev.func c.fid)))) ∧
    (s.takes (.funcList c) 0 0 = true → exec (.funcList c) s = .next (q (.funcList c)
      (s.dev.funcs.flatMap (fun f => leb 2 f.fid ++ zeros 2 ++ (s.packet (.funcList c)).funcWords f)))) ∧
    (s.takes (.engineStatus c) 0 4 = true → byteAt p 0 < 14 → fld p 1 3 = 0 →
      let e := s.dev.pe (byteAt p 0)
      exec (.engineStatus c) s = .next (q (.engineStatus c) (leb 1 e.status ++ leb 1 (e.le.getD 0xFF) ++ leb 1 e.div ++
        leb 1 (s.dev.opp (0x30 + byteAt p 0)) ++ leb 4 e.faults))) ∧
    (s.takes (.faultLogRead c) 0 4 = true → 1 ≤ fld p 2 2 → fld p 2 2 ≤ 1024 →
      exec (.faultLogRead c) s = .next (s.answered (.faultLogRead c) (fragOut (s.packet (.faultLogRead c))
        (leb 4 ((s.dev.svc.log.head?.map (·.recno)).getD s.dev.svc.nextRec) ++ leb 2 s.dev.svc.log.length ++ zeros 2 ++
          leb 4 s.dev.svc.overwrites) 32 (((s.dev.svc.log.drop (fld p 0 2)).take (fld p 2 2)).map FaultRec.bytes)))) ∧
    (s.takes (.serviceCounters c) 0 0 = true → exec (.serviceCounters c) s = .next (q (.serviceCounters c)
      (leb 4 s.dev.svc.discards ++ leb 4 s.dev.svc.corrected ++ leb 4 s.dev.svc.uncorrectable ++ leb 4 s.dev.svc.migrations ++
        leb 4 s.dev.svc.retirements ++ leb 4 s.dev.svc.revocations ++ leb 4 s.dev.svc.cmpRestarts))) ∧
    (s.takes (.keyInfo c) 0 0 = true → exec (.keyInfo c) s = .next (q (.keyInfo c)
      ((List.range 8).flatMap (fun k => leb 1 (s.dev.keyState k) ++ leb 1 ((Config.keyUse k).getD 0) ++ zeros 2))))

/-- From Tables 5.7 and 5.8: a query of the Almanac or the Typecase that is the next of its channel is answered DONE with the payload of
its table, and changes nothing; an absent key is refused. -/
def Obligations.StorageQueriesAnswer : Prop :=
  ∀ (c : VCmd) (s : State),
    let p := c.params
    let a := s.dev.alm
    let q (i : Instr) (b : List Byte) : State := s.answered i (doneOut (s.packet i) b)
    (s.takes (.almanacInfo c) 0 0 = true → exec (.almanacInfo c) s = .next (q (.almanacInfo c)
      (leb 1 (b2n (a.copy 0).valid + 2 * b2n (a.copy 1).valid) ++ leb 1 (if a.resil = [] then 0 else 1) ++ zeros 2 ++
        leb 4 a.primaryCopy.capacity ++ leb 4 a.used ++ leb 4 a.saveCount))) ∧
    (∀ b, s.takes (.almanacRead c) 0 4 = true → fld p 2 2 = 0 → 0x8000 ≤ fld p 0 2 → a.value (fld p 0 2) = some b →
      exec (.almanacRead c) s = .next (q (.almanacRead c) (leb 2 b.length ++ zeros 2 ++ b))) ∧
    (s.takes (.almanacRead c) 0 4 = true → fld p 2 2 = 0 → 0x8000 ≤ fld p 0 2 → a.value (fld p 0 2) = none →
      exec (.almanacRead c) s = .next (s.answered (.almanacRead c)
        { reply := .err stBadParam 16 0, dev := s.packet (.almanacRead c) })) ∧
    (s.takes (.typecaseInfo c) 0 0 = true → exec (.typecaseInfo c) s = .next (q (.typecaseInfo c)
      ((List.range 2).flatMap (fun b => leb 2 (992 - (s.dev.bank b).dead.length) ++ leb 2 (s.dev.bank b).spares.length ++
        leb 4 (((s.dev.bank b).tally.map (·.2)).foldl max 0))))) ∧
    (s.takes (.imageList c) 0 0 = true → exec (.imageList c) s = .next (q (.imageList c) ((List.range 64).flatMap (fun k =>
      let e := s.dev.typ.slots.getD k {}
      if ((s.packet (.imageList c)).writingOf k).isSome then [1#8] ++ zeros 31
      else leb 1 e.st ++ leb 1 e.keySlot ++ leb 2 e.catalogue ++ leb 4 e.version ++ leb 4 e.length ++
        (if e.st = 2 then e.sha.take 20 else zeros 20)))))

/-- From Tables 5.10 to 5.16 and 5.20, with R149, R361, R387, R434, R464: a query of the switch, a MAC, a mirror, a controller, a line,
the time service, a forme ring or a host ring that is the next of its channel is answered DONE with the payload of its table, and changes
nothing. -/
def Obligations.NetworkQueriesAnswer : Prop :=
  ∀ (c : VCmd) (s : State) (n : Nat), n < 256 →
    let p := c.params
    let q (i : Instr) (b : List Byte) : State := s.answered i (doneOut (s.packet i) b)
    (s.takes (.fdbRead c) 0 4 = true → fld p 0 2 ≤ 2047 → 1 ≤ fld p 2 2 → fld p 2 2 ≤ 2048 →
      exec (.fdbRead c) s = .next (s.answered (.fdbRead c) (fragOut (s.packet (.fdbRead c)) [] 12
        (((List.range (min (fld p 2 2) (2048 - fld p 0 2))).map (· + fld p 0 2)).map (fun k => match s.dev.swc.way k with
          | none => zeros 12
          | some e => leb 6 e.mac ++ leb 2 e.vid ++ leb 1 e.mask ++ leb 1 (b2n e.static) ++
              leb 1 (if e.static then 0 else min 255 ((s.dev.tick - e.since) / 1000000000)) ++ zeros 1))))) ∧
    (s.takes (.switchCounters c) 0 4 = true → byteAt p 0 ≤ 7 → fld p 1 3 = 0 →
      exec (.switchCounters c) s = .next (q (.switchCounters c) ((List.range 8).flatMap (fun k =>
        leb 8 (s.dev.swc.fwd.getD (byteAt p 0 * 8 + k) 0) ++ leb 8 (s.dev.swc.adm.getD (byteAt p 0 * 8 + k) 0) ++
        leb 8 (s.dev.swc.full.getD (byteAt p 0 * 8 + k) 0))))) ∧
    (n < 6 → s.takes (.macCounters c) (0x0100 + n) 0 = true → exec (.macCounters c) s = .next (q (.macCounters c)
      ((((s.packet (.macCounters c)).accountHold n).mac n).counters.flatMap (leb 8)))) ∧
    (n < 4 → s.takes (.mirrorCounters c) (0x0700 + n) 0 = true → exec (.mirrorCounters c) s = .next (q (.mirrorCounters c)
      (leb 8 (s.dev.swc.mirrors.getD n {}).sent ++ leb 8 (s.dev.swc.mirrors.getD n {}).dropped))) ∧
    (n < 8 → s.takes (.mirrorCounters c) (0x0800 + n) 0 = true → exec (.mirrorCounters c) s = .next (q (.mirrorCounters c)
      (leb 8 (s.dev.swc.proofs.getD n {}).sent ++ leb 8 (s.dev.swc.proofs.getD n {}).dropped))) ∧
    (n < 4 → s.takes (.mbStatus c) (0x0200 + n) 0 = true → exec (.mbStatus c) s = .next (q (.mbStatus c)
      (leb 1 (min 255 (s.dev.mb n).tec) ++ leb 1 (min 255 (s.dev.mb n).recn) ++ leb 1 (s.dev.mb n).state ++
        leb 1 (s.dev.mb n).lastErr ++ leb 4 (s.dev.mb n).rxcnt ++ leb 4 (s.dev.mb n).txcnt))) ∧
    (n < 4 → s.takes (.slStatus c) (0x0300 + n) 0 = true → exec (.slStatus c) s = .next (q (.slStatus c)
      (leb 4 (s.dev.sl n).framing ++ leb 4 (s.dev.sl n).parity ++ leb 4 (s.dev.sl n).overruns ++
        leb 4 ((s.dev.sl n).lastGap / 16)))) ∧
    ((s.takes (.timeGet c) 0 0 = true ∨ s.takes (.timeGet c) 0x0600 0 = true) → exec (.timeGet c) s = .next (q (.timeGet c)
      (let r := s.dev.timeNow
       leb 8 r.tick ++ leb 6 r.sec ++ leb 2 r.epoch ++ leb 4 r.ns ++ leb 1 r.quality ++ zeros 3))) ∧
    (s.takes (.timeStatus c) 0x0600 0 = true → exec (.timeStatus c) s = .next (q (.timeStatus c)
      (s.packet (.timeStatus c)).timeStatusBody)) ∧
    (n < 2 → s.takes (.formeStatus c) (0x0500 + n) 0 = true → exec (.formeStatus c) s = .next (q (.formeStatus c)
      (let f := s.dev.fr n
       leb 1 f.ring ++ leb 1 (if f.isMaster || f.loopE == f.loopO then 0xFF else frMac n f.loopO) ++ leb 1 f.start ++ zeros 1 ++
         leb 4 f.missed ++ leb 4 f.mism))) ∧
    (n < 32 → s.takes (.ringStatus c) (0x0900 + n) 0 = true → exec (.ringStatus c) s = .next (q (.ringStatus c)
      (leb 2 (s.dev.ring n).pi ++ leb 2 (s.dev.ring n).ci ++ leb 4 (s.dev.ring n).skips ++ leb 4 (s.dev.ring n).discards)))

/-- From R119, R120, R586 and Tables 5.4, 5.10, 5.17, 5.20: a command that configures the device or the switch, with its fields in their
limits and a slot of the backlog free, replies DONE and changes its part of the running configuration, with its record in the backlog. -/
def Obligations.DeviceConfiguration : Prop :=
  ∀ (c : VCmd) (s : State), s.backlogFree = true →
    let p := c.params
    (∀ lo hi step, s.takes (.settingSet c) 0 8 = true → settingRange (fld p 0 2) = some (lo, hi, step) → fld p 2 2 = 0 →
      lo ≤ fld p 4 4 → fld p 4 4 ≤ hi → fld p 4 4 % step = 0 →
      exec (.settingSet c) s = .next (s.afterConfig (.settingSet c) 0x02
        (fun r => { r with dev := r.dev.withSetting (fld p 0 2) (fld p 4 4) }))) ∧
    (s.takes (.powerPolicy c) 0 8 = true → byteAt p 0 ≤ 4 → fld p 1 3 = 0 → fld p 4 4 ≤ 1000000 → s.dev.pwr.st ≤ byteAt p 0 →
      exec (.powerPolicy c) s = .next (s.afterConfig (.powerPolicy c) 0x02
        (fun r => { r with dev := { r.dev with policy := byteAt p 0, guardUs := fld p 4 4 } }))) ∧
    (s.takes (.wakeConfig c) 0 4 = true → byteAt p 0 ≤ 15 → byteAt p 1 ≤ 15 → byteAt p 2 ≤ 15 → byteAt p 3 = 0 →
      exec (.wakeConfig c) s = .next (s.afterConfig (.wakeConfig c) 0x02
        (fun r => { r with dev := { r.dev with wakeEnable := byteAt p 0, wakeEdge := byteAt p 1, wakeLow := byteAt p 2 } }))) ∧
    (s.takes (.attnConfig c) 0 4 = true → byteAt p 0 ≤ 1 → byteAt p 1 ≤ 3 → fld p 2 2 = 0 →
      exec (.attnConfig c) s = .next (s.afterConfig (.attnConfig c) 0x02
        (fun r => { r with dev := { r.dev with attn := upd r.dev.attn (byteAt p 0) (fun _ => byteAt p 1) } }))) ∧
    (s.takes (.portConfig c) 0 12 = true → byteAt p 0 ≤ 7 → byteAt p 1 ≤ 7 → 1 ≤ fld p 2 2 → fld p 2 2 ≤ 4094 → byteAt p 4 ≤ 6 →
      fld p 5 3 = 0 → fld p 8 2 ≤ 8192 → fld p 10 2 = 0 →
      let x : PortCfg := {
        learning := bit (byteAt p 1) 0, filtering := bit (byteAt p 1) 1, untagged := bit (byteAt p 1) 2, pvid := fld p 2 2,
        cls := byteAt p 4, limit := fld p 8 2 }
      exec (.portConfig c) s = .next (s.afterConfig (.portConfig c) 0x03
        (fun r => { r with ports := upd r.ports (byteAt p 0) (fun _ => x) }))) ∧
    (s.takes (.vlanSet c) 0 4 = true → 1 ≤ fld p 0 2 → fld p 0 2 ≤ 4094 →
      exec (.vlanSet c) s = .next (s.afterConfig (.vlanSet c) 0x04
        (fun r => { r with vlans := setVlan { vid := fld p 0 2, members := byteAt p 2, untagged := byteAt p 3 } r.vlans }))) ∧
    (s.takes (.galleyConfig c) 0 8 = true → byteAt p 0 ≤ 63 → byteAt p 1 ≤ 1 → 1 ≤ byteAt p 2 → byteAt p 3 = 0 → fld p 4 2 ≤ 8192 →
      (byteAt p 0 % 8 = 7 → fld p 4 2 = 0) → fld p 6 2 = 0 →
      let x : GalleyCfg := { sched := byteAt p 1, weight := byteAt p 2, gated := false, limit := fld p 4 2 }
      exec (.galleyConfig c) s = .next (s.afterConfig (.galleyConfig c) 0x06
        (fun r => { r with galleys := upd r.galleys (byteAt p 0) (fun _ => x) })
        (fun d => d.setSwc (fun w => { w with gal := upd w.gal (byteAt p 0) (fun _ => x) })))) ∧
    (s.takes (.filterSet c) 0 28 = true → byteAt p 0 ≤ 47 → byteAt p 1 ≤ 63 → fld p 2 2 = 0 → filterBad p = none →
      exec (.filterSet c) s = .next (s.afterConfig (.filterSet c) 0x07
        (fun r => { r with filters := upd r.filters (byteAt p 0) (fun _ => { macMask := byteAt p 1, body := slice p 4 24 }) })))

/-- From R322, R248, R286 and Tables 5.9, 5.10: what waits for a meridian. A gated galley's change enters the running configuration and
waits while a forme ring gates; ENGINE_CONFIG applies at the next start; PERSONALITY_PARAM is staged for a logical engine that is ON; and
SPARE_DISARM frees the spare at once. -/
def Obligations.EngineConfiguration : Prop :=
  ∀ (c : VCmd) (s : State) (l : Nat), s.backlogFree = true → l < 12 → (s.dev.func (0x0400 + l)).st ≠ 5 →
    let p := c.params
    (s.takes (.galleyConfig c) 0 8 = true → byteAt p 0 ≤ 63 → byteAt p 1 ≤ 1 → 1 ≤ byteAt p 2 → byteAt p 3 = 1 → fld p 4 2 ≤ 8192 →
      (byteAt p 0 % 8 = 7 → fld p 4 2 = 0) → fld p 6 2 = 0 → s.dev.gateDomain.isSome = true →
      exec (.galleyConfig c) s = .next (s.afterConfig (.galleyConfig c) 0x06
        (fun r => { r with galleys := upd r.galleys (byteAt p 0) (fun _ =>
          { sched := byteAt p 1, weight := byteAt p 2, gated := true, limit := fld p 4 2 }) }))) ∧
    (s.takes (.engineConfig c) (0x0400 + l) 4 = true → byteAt p 0 ≤ 63 → (s.dev.typ.slots.getD (byteAt p 0) {}).st = 2 →
      (byteAt p 1 < 14 ∨ byteAt p 1 = 0xFF) → 2 ≤ byteAt p 2 → byteAt p 2 ≤ 16 → byteAt p 3 = 0 →
      exec (.engineConfig c) s = .next (s.afterConfig (.engineConfig c) (0x20 + l)
        (fun r => { r with les := upd r.les l (fun x =>
          { x with bound := true, slot := byteAt p 0, pref := byteAt p 1, div := byteAt p 2 }) }))) ∧
    (∀ len, s.takes (.personalityParam c) (0x0400 + l) (4 + len) = true → fld p 2 2 = len → 1 ≤ len → len ≤ 2048 → len % 4 = 0 →
      fld p 0 2 + len ≤ 4096 →
      exec (.personalityParam c) s = .next (s.afterConfig (.personalityParam c) (0x20 + l)
        (fun r => { r with les := upd r.les l (fun x => { x with params := Mem.setBytes 0 x.params (fld p 0 2) (slice p 4 len) }) })
        (fun d => if (s.dev.func (0x0400 + l)).st = 2 then d.setLe l (fun x => { x with stagedParam := true }) else d))) ∧
    (s.takes (.spareDisarm c) (0x0400 + l) 0 = true →
      exec (.spareDisarm c) s = .next (s.answered (.spareDisarm c)
        { reply := .done [],
          after := fun d => (d.failArm l).failMigrate l,
          dev := ((s.packet (.spareDisarm c)).configured 0x0403 (0x20 + l)
            (fun r => { r with les := upd r.les l (fun x => { x with spare := none }) })).dropSpare l }))

/-- From R121, R122, R368, R369, R391, R408, R418 and Tables 5.11 to 5.14: a command that configures a MAC, a mirror, a proof, a
controller or a line, with its fields in their limits and a slot of the backlog free, of a function that is OFF, replies DONE and changes
the running configuration. -/
def Obligations.UnitConfiguration : Prop :=
  ∀ (c : VCmd) (s : State) (n : Nat), s.backlogFree = true → (s.dev.func c.fid).st = 0 →
    let p := c.params
    (n < 6 → s.takes (.macConfig c) (0x0100 + n) 12 = true → byteAt p 11 = 0 →
      let x : MacCfg := { mode := byteAt p 0, speed := byteAt p 1, maxFrame := fld p 2 2, station := fld p 4 6, flags := byteAt p 10 }
      x.bad (s.dev.start.bankClass.getD (n / 3) 0) = none →
      exec (.macConfig c) s = .next (s.afterConfig (.macConfig c) (0x10 + n)
        (fun r => { r with macs := upd r.macs n (fun _ => x) }) (fun d => d.pauseEval n))) ∧
    (n < 4 → s.takes (.mirrorConfig c) (0x0700 + n) 4 = true → byteAt p 2 ≤ 5 → byteAt p 3 ≤ 6 →
      let x : MirrorCfg := { ingress := byteAt p 0, egress := byteAt p 1, dest := byteAt p 2, cls := byteAt p 3 }
      exec (.mirrorConfig c) s = .next (s.afterConfig (.mirrorConfig c) (0x30 + n)
        (fun r => { r with mirrors := upd r.mirrors n (fun _ => x) }))) ∧
    (n < 8 → s.takes (.proofConfig c) (0x0800 + n) 8 = true → 1 ≤ fld p 0 2 → 1 ≤ byteAt p 2 → byteAt p 2 ≤ 8 → byteAt p 3 ≤ 3 →
      byteAt p 4 ≤ 31 → fld p 5 3 = 0 →
      let x : ProofCfg := { n := fld p 0 2, trunc := byteAt p 2, dir := byteAt p 3, ring := byteAt p 4 }
      exec (.proofConfig c) s = .next (s.afterConfig (.proofConfig c) (0x38 + n)
        (fun r => { r with proofs := upd r.proofs n (fun _ => x) }))) ∧
    (n < 4 → s.takes (.mbConfig c) (0x0200 + n) 12 = true → fld p 10 2 = 0 →
      let x : MbCfg := { s.dev.mbCfg n with
        nbrp := fld p 0 2, ntseg1 := byteAt p 2, ntseg2 := byteAt p 3, nsjw := byteAt p 4, dbrp := byteAt p 5, dtseg1 := byteAt p 6,
        dtseg2 := byteAt p 7, dsjw := byteAt p 8, flags := byteAt p 9 }
      x.bad = none → exec (.mbConfig c) s = .next (s.afterConfig (.mbConfig c) (0x18 + n)
        (fun r => { r with mbs := upd r.mbs n (fun _ => x) }))) ∧
    (n < 4 → s.takes (.mbObjectConfig c) (0x0200 + n) 12 = true → byteAt p 0 ≤ 127 → byteAt p 1 ≤ 2 → byteAt p 2 ≤ 7 → byteAt p 3 ≤ 1 →
      fld p 4 4 ≤ (if byteAt p 3 = 1 then 0x1FFFFFFF else 0x7FF) →
      let x : MbObjCfg := { use := byteAt p 1, prio := byteAt p 2, ext := bit (byteAt p 3) 0, ident := fld p 4 4, mask := fld p 8 4 }
      exec (.mbObjectConfig c) s = .next (s.afterConfig (.mbObjectConfig c) (0x18 + n)
        (fun r => { r with mbs := upd r.mbs n (fun m => { m with objs := upd m.objs (byteAt p 0) (fun _ => x) }) })
        (fun d => d.mbObjReset n (byteAt p 0)))) ∧
    (n < 4 → s.takes (.mbRingConfig c) (0x0200 + n) 4 = true → 64 ≤ fld p 0 2 → fld p 0 2 ≤ 1024 → fld p 0 2 % 64 = 0 → fld p 2 2 = 0 →
      exec (.mbRingConfig c) s = .next (s.afterConfig (.mbRingConfig c) (0x18 + n)
        (fun r => { r with mbs := upd r.mbs n (fun m => { m with entries := fld p 0 2 }) }))) ∧
    (n < 4 → s.takes (.mbWakeConfig c) (0x0200 + n) 32 = true → byteAt p 0 ≤ 3 → byteAt p 1 ≤ 1 → fld p 2 2 = 0 →
      fld p 4 4 ≤ (if byteAt p 1 = 1 then 0x1FFFFFFF else 0x7FF) → byteAt p 12 ≤ 8 → fld p 13 3 = 0 →
      let x : MbCfg := { s.dev.mbCfg n with
        wakeMode := byteAt p 0, wakeFlags := byteAt p 1, wakeId := fld p 4 4, wakeIdMask := fld p 8 4, wakeDlc := byteAt p 12,
        wakeData := slice p 16 8, wakeDataMask := slice p 24 8 }
      exec (.mbWakeConfig c) s = .next (s.afterConfig (.mbWakeConfig c) (0x18 + n) (fun r => { r with mbs := upd r.mbs n (fun _ => x) }))) ∧
    (n < 4 → s.takes (.slConfig c) (0x0300 + n) 12 = true → 300 ≤ fld p 0 4 → fld p 0 4 ≤ 12000000 → 7 ≤ byteAt p 4 → byteAt p 4 ≤ 9 →
      byteAt p 5 ≤ 2 → 1 ≤ byteAt p 6 → byteAt p 6 ≤ 2 → byteAt p 7 = 0 → fld p 8 2 ≤ 255 → fld p 10 2 ≤ 255 →
      (byteAt p 4 = 9 → byteAt p 5 = 0) →
      let x : SlCfg := {
        rate := fld p 0 4, dataBits := byteAt p 4, parity := byteAt p 5, stop := byteAt p 6, lead := fld p 8 2, lag := fld p 10 2 }
      exec (.slConfig c) s = .next (s.afterConfig (.slConfig c) (0x1C + n) (fun r => { r with sls := upd r.sls n (fun _ => x) })))

/-- From R149, R446, R449, R451, R468 and Tables 5.15, 5.16, 5.20: a command that configures the time service, a pulse, a capture input, a
forme ring or a host ring, with its fields in their limits and a slot of the backlog free, of a function that is OFF, replies DONE and
changes the running configuration. -/
def Obligations.TimeAndRingConfiguration : Prop :=
  ∀ (c : VCmd) (s : State) (n : Nat), s.backlogFree = true → (s.dev.func c.fid).st = 0 →
    let p := c.params
    (s.takes (.timeConfig c) 0x0600 16 = true → byteAt p 7 = 0 → fld p 14 2 = 0 →
      let x : TimeCfg := { s.dev.cfg.time with
        profile := byteAt p 0, clockType := byteAt p 1, portMask := fld p 2 2, domain := byteAt p 4, prio1 := byteAt p 5,
        prio2 := byteAt p 6, slewWindow := fld p 8 4, slewLimit := fld p 12 2 }
      x.bad = none → exec (.timeConfig c) s = .next (s.afterConfig (.timeConfig c) 0x2E (fun r => { r with time := x }))) ∧
    (s.takes (.pulseConfig c) 0x0600 16 = true → byteAt p 0 ≤ 1 → byteAt p 1 ≤ 3 → fld p 2 2 = 0 → 1000000 ≤ fld p 4 4 →
      1000000000 % fld p 4 4 = 0 → 100 ≤ fld p 8 4 → fld p 8 4 ≤ fld p 4 4 / 2 → fld p 12 4 < fld p 4 4 →
      let x : PulseCfg := { flags := byteAt p 1, period := fld p 4 4, width := fld p 8 4, phase := fld p 12 4 }
      exec (.pulseConfig c) s = .next (s.afterConfig (.pulseConfig c) 0x2E
        (fun r => { r with time := { r.time with pulse := upd r.time.pulse (byteAt p 0) (fun _ => x) } })
        (fun d => d.pulseConfig (byteAt p 0) x))) ∧
    (s.takes (.captureConfig c) 0x0600 4 = true → byteAt p 0 ≤ 3 → byteAt p 1 ≤ 3 → byteAt p 2 ≤ 31 → byteAt p 3 = 0 →
      let x : CapCfg := { edge := byteAt p 1, ring := byteAt p 2 }
      exec (.captureConfig c) s = .next (s.afterConfig (.captureConfig c) 0x2E (fun r =>
        { r with time := { r.time with capture := upd r.time.capture (byteAt p 0) (fun _ => x) } }))) ∧
    (n < 2 → s.takes (.formeRingConfig c) (0x0500 + n) 12 = true → 1 ≤ byteAt p 0 → byteAt p 0 ≤ 3 → byteAt p 1 ≤ 63 →
      31250 ≤ fld p 4 4 → fld p 4 4 ≤ 1000000000 →
      let x : FrCfg := { role := byteAt p 0, rank := byteAt p 1, etherType := fld p 2 2, cycle := fld p 4 4, claim := fld p 8 4 }
      exec (.formeRingConfig c) s = .next (s.afterConfig (.formeRingConfig c) (0x2C + n)
        (fun r => { r with frs := upd r.frs n (fun _ => x) }))) ∧
    (n < 32 → s.takes (.ringConfig c) (0x0900 + n) 12 = true → fld p 10 2 = 0 →
      let x : RingCfg := { entries := fld p 0 2, dir := byteAt p 2, attn := byteAt p 3, base := fld p 4 4, thr := fld p 8 2 }
      x.bad n s.dev.cfg.rings = none →
      exec (.ringConfig c) s = .next (s.afterConfig (.ringConfig c) (0x40 + n) (fun r => { r with rings := upd r.rings n (fun _ => x) })))

/-- From R125, R512, R513 and Tables 5.5, 5.6, 5.17: commands of the device that change only the state they name. ISLAND_CLEAR and
FUNC_CLEAR clear what their mask names; DEVICE_RESET is remembered, and no packet does anything after it; DEADLINE and ALARM_SET set or
cancel the deadline of the channel and the alarm; POWER_STATUS answers with the time counted to now. -/
def Obligations.DeviceCommandsTakeEffect : Prop :=
  ∀ (c : VCmd) (s : State),
    let p := c.params
    let x := byteAt p 0
    let m := byteAt p 1
    let q (i : Instr) (d : Dev) : State := s.answered i (doneOut d [])
    (s.takes (.islandClear c) 0 4 = true → s.dev.hasIsland x = true → m ≤ 7 → fld p 2 2 = 0 →
      let d := s.packet (.islandClear c)
      let d := if bit m 0 then d.setIslands [x] (fun y => { y with ovr := false, ovc := 0 }) else d
      exec (.islandClear c) s = .next (q (.islandClear c)
        (d.setIsland x (fun y => { y with clkf := y.clkf && !(bit m 1), hang := y.hang && !(bit m 2) })))) ∧
    (funcIds.contains c.fid = true → s.takes (.funcClear c) c.fid 4 = true → x = 1 → fld p 1 3 = 0 →
      exec (.funcClear c) s = .next (q (.funcClear c) ((s.packet (.funcClear c)).setIslands (s.dev.funcIslands c.fid)
        (fun y => { y with ovr := false, ovc := 0 })))) ∧
    (s.takes (.deviceReset c) 0 4 = true → x = 1 → fld p 1 3 = 0 →
      exec (.deviceReset c) s = .next (q (.deviceReset c)
        ((s.packet (.deviceReset c)).setVerind (fun v => { v with resetReq := some s.dev.tick })))) ∧
    (∀ op c', s.dev.verind.resetReq.isSome = true → Dev.receive execOpcode op c' s.dev = s.dev) ∧
    (s.takes (.deadline c) 0 12 = true → byteAt p 8 = 0 → fld p 9 3 = 0 → s.dev.tick < fld p 0 8 →
      exec (.deadline c) s = .next (q (.deadline c) ((s.packet (.deadline c)).setPwr
        (fun y => { y with deadlines := upd y.deadlines c.channel (fun _ => some (fld p 0 8)) })))) ∧
    (s.takes (.deadline c) 0 12 = true → byteAt p 8 = 1 → fld p 9 3 = 0 →
      exec (.deadline c) s = .next (q (.deadline c) ((s.packet (.deadline c)).setPwr
        (fun y => { y with deadlines := upd y.deadlines c.channel (fun _ => none) })))) ∧
    (s.takes (.alarmSet c) 0 16 = true → x = 0 → fld p 1 3 = 0 → fld p 12 4 ≤ 999999999 → 0 < fld p 4 6 * 1000000000 + fld p 12 4 →
      exec (.alarmSet c) s = .next (q (.alarmSet c) ((s.packet (.alarmSet c)).setPwr
        (fun y => { y with alarm := some { at_ := s.dev.tick + (fld p 4 6 * 1000000000 + fld p 12 4) } })))) ∧
    (s.takes (.alarmSet c) 0 16 = true → x = 1 → fld p 1 3 = 0 → fld p 12 4 ≤ 999999999 → fld p 10 2 = s.dev.orr.epoch →
      s.dev.orr.nsAt s.dev.tick < fld p 4 6 * 1000000000 + fld p 12 4 →
      let a : Alarm := { absolute := true, at_ := fld p 4 6 * 1000000000 + fld p 12 4, epoch := fld p 10 2 }
      exec (.alarmSet c) s = .next (q (.alarmSet c) ((s.packet (.alarmSet c)).setPwr (fun y => { y with alarm := some a })))) ∧
    (s.takes (.alarmSet c) 0 16 = true → x = 2 → fld p 1 3 = 0 → fld p 12 4 ≤ 999999999 →
      exec (.alarmSet c) s = .next (q (.alarmSet c) ((s.packet (.alarmSet c)).setPwr (fun y => { y with alarm := none })))) ∧
    (s.takes (.powerStatus c) 0 0 = true →
      let d := (s.packet (.powerStatus c)).accountPwr
      exec (.powerStatus c) s = .next (s.answered (.powerStatus c) (doneOut d (leb 1 s.dev.pwr.st ++ leb 1 s.dev.pwr.lastWake ++ zeros 2 ++
        d.pwr.times.flatMap (fun t => leb 4 (t / 1000000))))))

/-- From R310, R359, R402, R491 and Tables 5.10, 5.11, 5.13, 5.16: FDB_ADD puts an entry in its way, and a static one into the running
configuration; FDB_DELETE removes one, and an absent one replies DONE; MDIO_READ and MDIO_WRITE act on a PHY, whose value is open, under
quoin 0x02; MB_TRANSMIT puts its frame into a transmit object and requests it; IMPOSITION_WRITE writes the standby table under quoin 0x09.
-/
def Obligations.NetworkCommandsTakeEffect : Prop :=
  ∀ (c : VCmd) (s : State) (n : Nat), n < 4 →
    let p := c.params
    let mac := slice p 0 6
    let vid := fld p 6 2
    let w := s.dev.swc
    let q (i : Instr) (d : Dev) : State := s.answered i (doneOut d [])
    (∀ k, s.takes (.fdbAdd c) 0 12 = true → 1 ≤ vid → vid ≤ 4094 → byteAt p 9 = 0 → fld p 10 2 = 0 → w.findFdb mac vid = none →
      w.placeFdb mac vid = some k →
      exec (.fdbAdd c) s = .next (q (.fdbAdd c) ((s.packet (.fdbAdd c)).setSwc (fun w => w.setWay k
        (some { mac := leVal mac, vid := vid, mask := byteAt p 8, static := false, since := s.dev.tick }))))) ∧
    (∀ k, s.takes (.fdbAdd c) 0 12 = true → 1 ≤ vid → vid ≤ 4094 → byteAt p 9 = 1 → fld p 10 2 = 0 → w.findFdb mac vid = none →
      w.placeFdb mac vid = some k → s.backlogFree = true →
      let e : StaticFdb := { mac := leVal mac, vid := vid, mask := byteAt p 8 }
      exec (.fdbAdd c) s = .next (s.afterConfig (.fdbAdd c) 0x05
        (fun r => { r with fdb := dropStatic (leVal mac) vid r.fdb ++ [e] })
        (fun d => d.setSwc (fun w => w.setWay k
          (some { mac := leVal mac, vid := vid, mask := byteAt p 8, static := true, since := s.dev.tick }))))) ∧
    (s.takes (.fdbDelete c) 0 8 = true → 1 ≤ vid → vid ≤ 4094 → w.findFdb mac vid = none →
      exec (.fdbDelete c) s = .next (q (.fdbDelete c) (s.packet (.fdbDelete c)))) ∧
    (∀ k e, s.takes (.fdbDelete c) 0 8 = true → 1 ≤ vid → vid ≤ 4094 → w.findFdb mac vid = some (k, e) → e.static = false →
      exec (.fdbDelete c) s = .next (q (.fdbDelete c) ((s.packet (.fdbDelete c)).setSwc (fun w => w.setWay k none)))) ∧
    (s.takes (.mdioRead c) 0 8 = true → mdioBad p = none → fld p 6 2 = 0 → (s.dev.quoin 2 0).owner = none →
      let d := (s.packet (.mdioRead c)).grant 2 0 (.channel c.channel) 0 0
      exec (.mdioRead c) s = .next (s.answered (.mdioRead c) (doneOut (({ d with free := d.free + 1 } : Dev).release 2 0)
        (leb 2 (Config.mdioRead s.dev.free (byteAt p 0) (byteAt p 1) (byteAt p 2) (fld p 4 2)).toNat ++ zeros 2)))) ∧
    (s.takes (.mdioWrite c) 0 8 = true → mdioBad p = none → (s.dev.quoin 2 0).owner = none →
      exec (.mdioWrite c) s = .next (q (.mdioWrite c)
        (((s.packet (.mdioWrite c)).grant 2 0 (.channel c.channel) 0 0).release 2 0))) ∧
    (∀ len o, s.takes (.mbTransmit c) (0x0200 + n) (roundUp (12 + len) 4) = true → o = byteAt p 0 → o ≤ 127 → fld p 1 3 = 0 → byteAt p 8 ≤ 7 →
      fld p 10 2 = 0 → (∀ k, 12 + len ≤ k → k < p.length → byteAt p k = 0) → len = dlcLen true (byteAt p 9) →
      s.dev.txFault n o (fld p 4 4) (byteAt p 8) (byteAt p 9) len = none →
      (s.dev.func (0x0200 + n)).st = 2 → (s.dev.mbCfg n).listen = false → (s.dev.quoin 5 (n * 128 + o)).owner = none →
      let b := txContent (s.dev.mbObj n o).content (fld p 4 4) (byteAt p 8) (byteAt p 9) (slice p 12 len)
      let d := (s.packet (.mbTransmit c)).grant 5 (n * 128 + o) (.channel c.channel) 0 0
      exec (.mbTransmit c) s = .next (q (.mbTransmit c)
        (((d.setObj n o (fun x => { x with content := b })).newRequest n o b).release 5 (n * 128 + o)))) ∧
    (∀ fid m, (fid = 0x0500 ∨ fid = 0x0501 ∨ fid = 0x0200 + n) → s.takes (.impositionWrite c) fid (4 + 16 * m) = true → fld p 2 2 = m →
      1 ≤ m → m ≤ 254 → fld p 0 2 + m ≤ 256 → entriesBad (domOf fid) (fld p 0 2) (p.drop 4) m = none →
      (s.dev.quoin 9 (domOf fid)).owner = none →
      let d := (s.packet (.impositionWrite c)).grant 9 (domOf fid) (.channel c.channel) 0 0
      let t := Mem.setBytes 0 (s.dev.dom (domOf fid)).standby (16 * fld p 0 2) (slice p 4 (16 * m))
      exec (.impositionWrite c) s = .next (q (.impositionWrite c)
        (d.setDom (domOf fid) (fun x => { x with standby := t, committed := t }))))

/-- From R126, R127, R128, R538, R546, R547 and Tables 5.8, 5.19, 5.20: IMAGE_DATA adds its bytes to the image being written; KEY_REVOKE
with a signature that verifies revokes its slot, and else is DENIED; DEBUG_CHALLENGE answers with 32 new bytes, and DEBUG_RESPONSE opens
the debug lock where its signature over them verifies; WINDOW_OPEN opens the lowest closed window, WINDOW_COMMIT and WINDOW_CLOSE act on
it; and CHANNEL_BIND takes its channel to the port of the command. -/
def Obligations.SecurityAndWindowCommands : Prop :=
  ∀ (c : VCmd) (s : State),
    let p := c.params
    let x := byteAt p 0
    let q (i : Instr) (d : Dev) : State := s.answered i (doneOut d [])
    let no (i : Instr) (d : Dev) (st det : Nat) : State := s.answered i { reply := .err st 0xFFFF det, dev := d }
    (∀ len w, s.takes (.imageData c) 0 (8 + len) = true → x ≤ 63 → byteAt p 1 = 0 → fld p 2 2 = len → 4 ≤ len → len ≤ 1024 → len % 4 = 0 →
      s.dev.writingOf x = some w → w.phase = 2 → fld p 4 4 = w.next → fld p 4 4 + len ≤ roundUp w.length 4 →
      (s.dev.typ.writing.map (fun w => w.buf.length)).sum + len ≤ 16384 →
      exec (.imageData c) s = .next (q (.imageData c) ((((s.packet (.imageData c)).setWriting x (fun w =>
        { w with buf := w.buf ++ slice p 8 len, next := w.next + len })).renewBank (homeBank x)).queuePages x).typRun)) ∧
    (s.takes (.keyRevoke c) 0 68 = true → x ≤ 7 → fld p 1 3 = 0 →
      exec (.keyRevoke c) s = .next (if s.dev.revokeOk x (slice p 4 64) then q (.keyRevoke c) ((s.packet (.keyRevoke c)).revoke x)
        else no (.keyRevoke c) (s.packet (.keyRevoke c)) 0x0107 0)) ∧
    (s.takes (.debugChallenge c) 0 0 = true →
      let b := (Config.challenge s.dev.free).take 32
      let b := b ++ zeros (32 - b.length)
      exec (.debugChallenge c) s = .next (s.answered (.debugChallenge c)
        (doneOut { s.packet (.debugChallenge c) with free := s.dev.free + 1, sec := { s.dev.sec with challenge := some (b, s.dev.tick) } } b))) ∧
    (s.takes (.debugResponse c) 0 64 = true →
      exec (.debugResponse c) s = .next (
        let r := (s.packet (.debugResponse c)).debugResponse p
        if r.1 then q (.debugResponse c) r.2 else no (.debugResponse c) r.2 0x0107 0x010D)) ∧
    (∀ w fid, (fid = 0 ∧ (x = 1 ∨ x = 2) ∨ 0x0200 ≤ fid ∧ fid ≤ 0x0203 ∧ x = 3) → s.takes (.windowOpen c) fid 16 = true →
      (byteAt p 1 = 1 ∨ byteAt p 1 = 3) → fld p 2 2 = 0 → fld p 4 4 % 64 = 0 → 64 ≤ fld p 8 4 → fld p 8 4 ≤ 65536 → fld p 8 4 % 64 = 0 →
      (fld p 12 4 = 0 ∨ 10000 ≤ fld p 12 4 ∧ fld p 12 4 ≤ 10000000) →
      fld p 4 4 + fld p 8 4 ≤ (if x = 1 then 0x80000 else if x = 2 then 0x40000 else 0x16840) →
      (∀ y ∈ s.dev.hst.windows, y.isOpen = true → y.rw = true → y.mem = x → (x = 3 → y.ctl = fid % 256) →
        fld p 4 4 + fld p 8 4 ≤ y.off ∨ y.off + y.len ≤ fld p 4 4) →
      (byteAt p 1 = 3 → s.dev.stagedSpan + fld p 8 4 ≤ 131072) → w < 16 → (s.dev.window w).isOpen = false →
      (∀ v, v < w → (s.dev.window v).isOpen = true) →
      let y : Window := {
        isOpen := true, ch := c.channel, mem := x, ctl := fid % 256, rw := byteAt p 1 == 3, off := fld p 4 4, len := fld p 8 4 }
      exec (.windowOpen c) s = .next (s.answered (.windowOpen c)
        (doneOut (((s.packet (.windowOpen c)).setWindow w (fun _ => y)).grant 8 w (.channel c.channel) (fld p 12 4) 0)
          (leb 4 w ++ leb 4 (w * 65536))))) ∧
    (s.takes (.windowCommit c) 0 4 = true → x ≤ 15 → fld p 1 3 = 0 → (s.dev.window x).isOpen = true →
      exec (.windowCommit c) s = .next (q (.windowCommit c) ((s.packet (.windowCommit c)).commitWindow x))) ∧
    (s.takes (.windowClose c) 0 4 = true → x ≤ 15 → fld p 1 3 = 0 →
      exec (.windowClose c) s = .next (q (.windowClose c) ((s.packet (.windowClose c)).shutWindow x))) ∧
    (s.takes (.channelBind c) 0 4 = true → x ≤ 7 → fld p 1 3 = 0 → (s.dev.chan x).st = 2 → x ≠ c.channel →
      ∃ t, exec (.channelBind c) s = .next t ∧ t.dev.chan x = { s.dev.chan x with peer := c.src })

/-- From Table 4.3, with R100, R105 and R118: FUNC_ENABLE and FUNC_DISABLE in each state of a function, with a completion's slot free.
From OFF and from ON they begin the passage that Table 4.3 gives; against the passage under way one is DEFERRED while nothing is queued; a
repeat is DUPLICATE, and joins where its opposite is queued; what already is so is DONE; a FENCED function refuses to be enabled and a
FAILED one refuses both. -/
def Obligations.LifecycleCommands : Prop :=
  ∀ (c : VCmd) (s : State), funcIds.contains c.fid = true → s.dev.verind.canReserve = true →
    let f := s.dev.func c.fid
    let e := Instr.funcEnable c
    let x := Instr.funcDisable c
    let queued (w : Waiting) (d : Dev) : Dev := d.setFunc c.fid (fun f => { f with queued := some w })
    let deferred (i : Instr) : OpOut :=
      { reply := { status := 0x0002 }, dev := (s.packet i).reserve, after := queued (s.waiting i) }
    let no (i : Instr) (st det : Nat) : State := s.answered i { reply := .err st 0xFFFF det, dev := s.packet i }
    (s.takes e c.fid 0 = true →
      (f.st = 0 → exec e s = .next (s.answered e (acceptOut (s.packet e) (fun d => (d.setFunc c.fid (fun f =>
        { f with starter := some (s.waiting e), joined := [] })).startFunc c.fid 2 0)))) ∧
      (f.st = 1 → f.queued = none → exec e s = .next (no e 0x0105 3)) ∧
      (f.st = 1 → f.queued ≠ none → exec e s = .next (s.answered e (acceptOut (s.packet e) (fun d => d.joinPassage c.fid (s.waiting e))))) ∧
      (f.st = 2 → exec e s = .next (s.answered e (doneOut (s.packet e) []))) ∧
      (f.st = 3 → f.queued = none → exec e s = .next (s.answered e (deferred e))) ∧
      (f.st = 3 → f.queued ≠ none → exec e s = .next (no e 0x0105 3)) ∧
      (f.st = 4 → exec e s = .next (no e 0x0109 0)) ∧
      (f.st = 5 → exec e s = .next (no e 0x0104 0x0101))) ∧
    (s.takes x c.fid 0 = true →
      (f.st = 0 → exec x s = .next (s.answered x (doneOut (s.packet x) []))) ∧
      (f.st = 1 → f.queued = none → exec x s = .next (s.answered x (deferred x))) ∧
      (f.st = 1 → f.queued ≠ none → exec x s = .next (no x 0x0105 3)) ∧
      (f.st = 2 → exec x s = .next (s.answered x (acceptOut (s.packet x) (fun d => d.toDraining c.fid 0 (some (s.waiting x)))))) ∧
      (f.st = 3 → f.queued = none → exec x s = .next (no x 0x0105 3)) ∧
      (f.st = 3 → f.queued ≠ none → exec x s = .next (s.answered x (acceptOut (s.packet x) (fun d => d.joinPassage c.fid (s.waiting x))))) ∧
      (f.st = 4 → ∃ g, exec x s = .next (s.answered x (acceptOut (s.packet x) g))) ∧
      (f.st = 5 → exec x s = .next (no x 0x0104 0x0101)))

/-- From R183, R186, R191, R203, R216, R526, R527 and Tables 5.7, 5.8, 5.18: commands of the Almanac, the Typecase and repair that reply
ACCEPTED, with a completion's slot and their quoin free, and what each begins after its reply; IMAGE_DELETE of an empty slot and
SECTOR_RETIRE of a sector already retired reply DONE (R118). -/
def Obligations.StorageCommandsAccepted : Prop :=
  ∀ (c : VCmd) (s : State), s.dev.verind.canReserve = true →
    let p := c.params
    let x := byteAt p 0
    let q (i : Instr) (f : Dev → Dev) : State := s.answered i (acceptOut (s.packet i) f)
    let held (i : Instr) (kind inst : Nat) : Dev := (s.packet i).grant kind inst (.channel c.channel) 0 0
    (∀ len, s.takes (.almanacWrite c) 0 (4 + len) = true → fld p 2 2 = len → len % 4 = 0 → len ≤ 2048 → 0x8000 ≤ fld p 0 2 →
      (s.dev.quoin 1 0).owner = none →
      let i := Instr.almanacWrite c
      let o : AlmOp := { kind := .write (fld p 0 2) (slice p 4 len), cmd := some (s.waiting i) }
      exec i s = .next (s.answered i (acceptOut (held i 1 0)
        (fun d => if d.alm.anyValid then d.setAlm (fun a => { a with ops := a.ops ++ [o] })
          else d.almEnd { kind := .write 0 [], cmd := some (s.waiting i) } 0x02FF [] 0x010E)))) ∧
    (s.takes (.almanacSave c) 0 0 = true → (s.dev.quoin 1 0).owner = none →
      ∃ f, exec (.almanacSave c) s = .next (s.answered (.almanacSave c) (acceptOut (held (.almanacSave c) 1 0) f)) ∧
        ∀ d : Dev, d.alm.anyValid = false → f d = d.almEnd
          { kind := .save, cmd := some (s.waiting (.almanacSave c)), cfg := d.cfg, on := d.enabledFuncs, sgen := 0 } 0x02FF [] 0x010E) ∧
    (s.takes (.almanacSave c) 0 0 = true → (s.dev.quoin 1 0).owner = none →
      ∃ f, exec (.almanacSave c) s = .next (s.answered (.almanacSave c) (acceptOut (held (.almanacSave c) 1 0) f)) ∧
        ∀ d : Dev, d.alm.anyValid = true → ∃ (k g : Nat) (tables : List (List Byte)), k ≤ 1 ∧ tables = d.doms.map (fun y => tableBytes y.active) ∧
          let e : DirSet := { st := 1, mask := 63, sgen := g, crcs := tables.map (fun t => (crc32c t).toNat) }
          let o : AlmOp := { kind := .save, cmd := some (s.waiting (.almanacSave c)), cfg := d.cfg, on := d.enabledFuncs, sgen := 0 }
          f d = ((((d.setAlm (fun a => { a with ops := a.ops ++ [o] })).pushJob { goal := .impos 0 k tables e }).pushJob
            { goal := .impos 1 k tables e }).pushJob { goal := .dir (.set k e) }).typRun) ∧
    (s.takes (.almanacCompact c) 0 0 = true → (s.dev.quoin 1 0).owner = none →
      ∃ f, exec (.almanacCompact c) s = .next (s.answered (.almanacCompact c) (acceptOut (held (.almanacCompact c) 1 0) f)) ∧
        ∀ d : Dev, d.alm.anyValid = true → d.alm.seq < 0xFFFFFFFF → d.alm.compacting = false →
          f d = d.setAlm (fun a => { a with compacting := true, compactCmd := some (s.waiting (.almanacCompact c)) })) ∧
    (∀ len, s.takes (.imageBegin c) 0 8 = true → x ≤ 63 → fld p 1 3 = 0 → fld p 4 4 = len → 1 ≤ len → len ≤ 131072 →
      (s.dev.typ.slots.getD x {}).st ≠ 2 → s.dev.writingOf x = none → (s.dev.quoin 3 (x % 2)).owner = none →
      ∃ f, exec (.imageBegin c) s = .next (s.answered (.imageBegin c) (acceptOut (held (.imageBegin c) 3 (x % 2)) f)) ∧
        ∀ (d : Dev) (a : Nat), d.findRun (x % 2) ((len + 4095) / 4096) = some a →
          f d = ((d.setTyp (fun t => { t with writing := t.writing ++ [{ slot := x, length := len, first := a }] })).pushJob
            { goal := .blank x false, cmd := some (s.waiting (.imageBegin c)) }).typRun) ∧
    (∀ w, s.takes (.imageEnd c) 0 4 = true → x ≤ 63 → fld p 1 3 = 0 → s.dev.writingOf x = some w → w.phase = 2 →
      ∃ f, exec (.imageEnd c) s = .next (q (.imageEnd c) f) ∧
        ∀ d : Dev, w.buf ≠ [] → f d = ((d.setWriting x (fun y => { y with phase := 3, cmd := some (s.waiting (.imageEnd c)) })).queuePages x).typRun) ∧
    (s.takes (.imageDelete c) 0 4 = true → x ≤ 63 → fld p 1 3 = 0 → s.dev.writingOf x = none → (s.dev.typ.slots.getD x {}).st ≠ 2 →
      exec (.imageDelete c) s = .next (s.answered (.imageDelete c) (doneOut (s.packet (.imageDelete c)) []))) ∧
    (s.takes (.imageDelete c) 0 4 = true → x ≤ 63 → fld p 1 3 = 0 → s.dev.writingOf x = none → (s.dev.typ.slots.getD x {}).st = 2 →
      s.dev.slotInUse x = false →
      let e := s.dev.typ.slots.getD x {}
      exec (.imageDelete c) s = .next (q (.imageDelete c) (fun d =>
        (((d.pushJob { goal := .dir (.slot x {}), cmd := some (s.waiting (.imageDelete c)) }).pushJob
          { goal := .eraseRun 0 e.first0 ((e.length + 4095) / 4096) }).pushJob
          { goal := .eraseRun 1 e.first1 ((e.length + 4095) / 4096) }).typRun))) ∧
    (s.takes (.sectorRetire c) 0 4 = true → x ≤ 1 → byteAt p 1 = 0 → fld p 2 2 ≤ 1023 → (s.dev.bank x).retired.contains (fld p 2 2) = true →
      exec (.sectorRetire c) s = .next (s.answered (.sectorRetire c) (doneOut (s.packet (.sectorRetire c)) []))) ∧
    (s.takes (.sectorRetire c) 0 4 = true → x ≤ 1 → byteAt p 1 = 0 → fld p 2 2 ≤ 1023 → (s.dev.bank x).retired.contains (fld p 2 2) = false →
      ∃ f, exec (.sectorRetire c) s = .next (q (.sectorRetire c) f) ∧
        ∀ d : Dev, (d.bank x).spares.contains (fld p 2 2) = false →
          f d = if (d.bank x).spares.isEmpty then d.completeFailed (s.waiting (.sectorRetire c)) 0x0109
            else (d.pushJob { goal := .retire x (fld p 2 2), cmd := some (s.waiting (.sectorRetire c)) }).typRun) ∧
    (s.takes (.smRemove c) 0 4 = true → x ≤ 1 → fld p 1 3 = 0 → (s.dev.alm.copy (1 - x)).valid = true → s.dev.alm.ops = [] →
      s.dev.alm.compacting = false → s.dev.alm.resil = [] →
      ∃ f, exec (.smRemove c) s = .next (q (.smRemove c) f) ∧
        ∀ d : Dev, d.alm.resil = [] → f d = ((d.setCopy x (fun y => { y with valid := false })).setAlm
          (fun a => { a with primary := a.pickPrimary })).completeDone (s.waiting (.smRemove c))) ∧
    (s.takes (.smInsert c) 0 4 = true → x ≤ 1 → fld p 1 3 = 0 →
      exec (.smInsert c) s = .next (q (.smInsert c) (fun d => d.beginResilver x true (some (s.waiting (.smInsert c)))))) ∧
    (funcIds.contains c.fid = true → s.takes (.repair c) c.fid 0 = true → (s.dev.func c.fid).st = 5 →
      ∃ f, exec (.repair c) s = .next (q (.repair c) f) ∧
        ∀ d : Dev, ownIslands c.fid = true → d.svc.tests.any (fun t => t.pe == none && t.fid == c.fid) = false →
          (f d).svc.tests = d.svc.tests ++ [{ fid := c.fid, cmds := [s.waiting (.repair c)] }]) ∧
    (s.takes (.engineReturn c) 0 4 = true → x ≤ 13 → fld p 1 3 = 0 → (s.dev.pe x).status = 4 →
      ∃ f, exec (.engineReturn c) s = .next (q (.engineReturn c) f) ∧
        ∀ d : Dev, d.svc.tests.any (fun t => t.pe == some x) = false →
          (f d).svc.tests = d.svc.tests ++ [{ pe := some x, cmds := [s.waiting (.engineReturn c)] }])

/-- From R129, R286, R326, R327, R379, R443, R492, R528 and Tables 5.9, 5.10, 5.13, 5.15, 5.16, 5.18: commands of the engines, the switch,
a controller, the time service and a domain that reply ACCEPTED, and what each leaves waiting after its reply; BANK_RETIRE of a retired
bank and PIPE_SWITCHOVER to the active pipe reply DONE (R118). -/
def Obligations.NetworkCommandsAccepted : Prop :=
  ∀ (c : VCmd) (s : State) (n : Nat), s.dev.verind.canReserve = true → n < 12 →
    let p := c.params
    let x := byteAt p 0
    let q (i : Instr) (f : Dev → Dev) : State := s.answered i (acceptOut (s.packet i) f)
    (s.takes (.spareArm c) (0x0400 + n) 4 = true → x ≤ 13 → fld p 1 3 = 0 → (s.dev.func (0x0400 + n)).st = 0 → s.backlogFree = true →
      (s.dev.le n).spare = none → (s.dev.pe x).status = 0 →
      let d := (s.packet (.spareArm c)).setPe x (fun e => { e with status := 2, le := some n, div := (s.dev.leCfg n).div })
      let d := d.setLe n (fun y => { y with spare := some x, joining := 0 })
      exec (.spareArm c) s = .next (s.answered (.spareArm c) (acceptOut
        (d.configured 0x0402 (0x20 + n) (fun r => { r with les := upd r.les n (fun y => { y with spare := some x }) }))
        (fun d => d.setLe n (fun y => { y with armCmd := some (s.waiting (.spareArm c)) }))))) ∧
    (s.takes (.engineMigrate c) (0x0400 + n) 4 = true → (x < 14 ∨ x = 0xFF) → fld p 1 3 = 0 →
      ∃ f, exec (.engineMigrate c) s = .next (q (.engineMigrate c) f) ∧
        ∀ (d : Dev) (r : Nat), (d.le n).spare = some r → (x = 0xFF ∨ x = r) → (d.func (0x0400 + n)).st = 2 → (d.le n).migrate = none →
          f d = d.setLe n (fun y => { y with migrate := some (s.waiting (.engineMigrate c), r) })) ∧
    (n < 8 → s.takes (.bankRetire c) 0 4 = true → x = n → fld p 1 3 = 0 → bit s.dev.cfg.retired n = false → bit s.dev.swc.draining n = false →
      s.dev.banksOut < 4 → s.backlogFree = true →
      exec (.bankRetire c) s = .next (s.answered (.bankRetire c) (acceptOut
        ((s.packet (.bankRetire c)).configured 0x0D04 0x03 (fun r => r))
        (fun d => (d.setSwc (fun w => { w with draining := w.draining + 2 ^ n, bankCmds := w.bankCmds ++ [(n, s.waiting (.bankRetire c))] })).pauseAll)))) ∧
    (n < 8 → s.takes (.bankRetire c) 0 4 = true → x = n → fld p 1 3 = 0 → bit s.dev.cfg.retired n = true →
      exec (.bankRetire c) s = .next (s.answered (.bankRetire c) (doneOut (s.packet (.bankRetire c)) []))) ∧
    (s.takes (.pipeSwitchover c) 0 4 = true → x ≤ 1 → fld p 1 3 = 0 → s.dev.pipeDown x = false → s.dev.swc.switchover = none →
      (s.dev.swc.pipe = x →
        exec (.pipeSwitchover c) s = .next (s.answered (.pipeSwitchover c) (doneOut (s.packet (.pipeSwitchover c)) []))) ∧
      (s.dev.swc.pipe ≠ x → ∃ f, exec (.pipeSwitchover c) s = .next (q (.pipeSwitchover c) f) ∧
        ∀ d : Dev, d.swc.switchover = none → f d = d.setSwc (fun w => { w with switchover := some (x, s.waiting (.pipeSwitchover c)) }))) ∧
    (∀ m, s.takes (.portRemap c) 0 4 = true → x ≤ 5 → byteAt p 1 = m → m ≤ 5 → fld p 2 2 = 0 → m ≠ s.dev.portMac x →
      (s.dev.func (0x0100 + m)).st = 0 → (s.dev.func (0x0100 + s.dev.portMac x)).st = 0 → s.dev.inRing m = false →
      s.dev.inRing (s.dev.portMac x) = false → s.backlogFree = true →
      exec (.portRemap c) s = .next (s.answered (.portRemap c) (acceptOut
        ((s.packet (.portRemap c)).configured 0x0D07 0x03 (fun r =>
          { r with portMap := upd (upd r.portMap x (fun _ => m)) (s.dev.macPort m) (fun _ => s.dev.portMac x) }))
        (fun d => d.completeDone (s.waiting (.portRemap c)))))) ∧
    (n < 4 → s.takes (.mbRateDetect c) (0x0200 + n) 4 = true → 100 ≤ fld p 0 4 → fld p 0 4 ≤ 60000 → (s.dev.func (0x0200 + n)).st = 0 →
      (s.dev.mb n).detect = none →
      exec (.mbRateDetect c) s = .next (q (.mbRateDetect c) (fun d => d.setMb n (fun m =>
        { m with detect := some { cmd := s.waiting (.mbRateDetect c), start := d.tick, stop := d.tick + fld p 0 4 * 1000000 } })))) ∧
    (s.takes (.timeStep c) 0x0600 12 = true → fld p 6 2 = 0 → fld p 8 4 ≤ 999999999 → (s.dev.func 0x0600).st = 2 →
      s.dev.timeState ≠ 3 → s.dev.timeState ≠ 4 → (s.dev.orr.step.bind (·.cmd)) = none →
      exec (.timeStep c) s = .next (q (.timeStep c) (fun d => d.setOrr (fun o => { o with
        step := some { at_ := d.stepInstant, target := some (fld p 0 6 * 1000000000 + fld p 8 4), cmd := some (s.waiting (.timeStep c)) } })))) ∧
    (∀ fid, (fid = 0x0500 ∨ fid = 0x0501 ∨ 0x0200 ≤ fid ∧ fid ≤ 0x0203) → s.takes (.impositionSwitch c) fid 4 = true → 1 ≤ fld p 0 2 →
      fld p 2 2 = 0 → (s.dev.func fid).st = 2 → (s.dev.dom (domOf fid)).pendN = none →
      ((s.dev.quoin 9 (domOf fid)).owner = none ∨ (s.dev.quoin 9 (domOf fid)).owner = some (.channel c.channel)) →
      s.dev.tableOk (domOf fid) (s.dev.dom (domOf fid)).standby = true →
      exec (.impositionSwitch c) s = .next (q (.impositionSwitch c) (fun d => d.setDom (domOf fid) (fun y =>
        { y with pendN := some (fld p 0 2), pendCmd := some (s.waiting (.impositionSwitch c)), pendLe := none }))))

/-- From R2, R135, R136 and R137 with Tables 6.3 and 6.9: what the QSPI target drives and does. STATUS and ID answer after one wait byte
and the marker; PKT_WRITE frames a packet, or counts an overrun where it does not fit; PKT_READ drives the head packet and zeros past its
end, and delivers it when it was read whole; WIN_WRITE and WIN_READ go word by word; an instruction that is not in Table 6.3 is a framing
error. -/
def Obligations.QspiTransactions : Prop :=
  ∀ (s : State) (quad : Bool) (bs : List Byte) (n a : Nat) (u : Byte), s.dev.hears 1 = true →
    let d := s.dev
    let head := (d.port 1).out.head?.map (·.bytes)
    let len := (head.map (·.length)).getD 0
    let free := if d.start.phase = .ready then (8192 - (d.port 1).frame.length) / 64 else 0
    let flags := b2n (d.attnLine 0) + 2 * b2n (d.attnLine 1) + 4 * b2n (d.port 1).lost
    exec (.status (.qspi quad)) s = .next (s.withDev (d.drive 1 ([0xFF#8, 0xA5#8] ++ leb 2 len ++ leb 1 free ++ leb 1 flags))) ∧
    exec (.id (.qspi quad)) s = .next (s.withDev (d.drive 1 ([0xFF#8, 0xA5#8] ++ leb 2 0x0880 ++ leb 1 Config.grade ++ leb 1 1))) ∧
    (d.start.phase = .ready → bs.length ≤ 8192 → exec (.pktWrite quad bs) s =
      .next (s.withDev ((d.drive 1 []).receiveBytes execOpcode { port := 1 } none bs).udpOut)) ∧
    ((d.start.phase ≠ .ready ∨ 8192 < bs.length) → exec (.pktWrite quad bs) s = .next (s.withDev
      ((d.drive 1 []).setPort 1 (fun q => { q with overrun := (q.overrun + 1) % 2 ^ 32 })).udpOut)) ∧
    exec (.pktRead quad n) s = .next (s.withDev
      (let d := d.drive 1 ([0xFF#8, 0xA5#8] ++ (head.getD []).take n ++ zeros (n - len))
       if len = 0 ∨ n < len then d
       else d.setPort 1 (fun q => { q with out := q.out.drop 1, rd := 0, headSince := d.tick }))) ∧
    exec (.winWrite quad a bs) s = .next (s.withDev
      (Dev.winWrites 1 ((List.range (bs.length / 4)).map (fun k => fld bs (4 * k) 4)) a (d.drive 1 [])).2) ∧
    (let r := Dev.winReads 1 ((n + 3) / 4) a d
     (r.2.1 ≠ 0 → exec (.winRead quad a n) s = .next (s.withDev (r.2.2.drive 1 (List.replicate 64 0xFF#8 ++ [0x5A#8])))) ∧
     (r.2.1 = 0 → ∃ w, 1 ≤ w ∧ w ≤ 64 ∧ exec (.winRead quad a n) s = .next (s.withDev
       (({ r.2.2 with free := r.2.2.free + 1 } : Dev).drive 1
         (List.replicate w 0xFF#8 ++ [0xA5#8] ++ (r.1.flatMap (leb 4)).take n))))) ∧
    (u.toNat ∉ [0x05, 0x45, 0x9F, 0xDF, 0x02, 0x42, 0x0B, 0x4B, 0x12, 0x52, 0x1B, 0x5B] →
      exec (.unknownInstruction u) s = .next (s.withDev
        ((d.drive 1 []).setPort 1 (fun q => { q with framing := (q.framing + 1) % 2 ^ 32 }))))

/-- From R138, R139 and R140 with Table 6.4: the parallel host bus. OUT_LEN, IN_FREE, FLAGS, WIN_ADDR and ID read as Table 6.4 gives, and
an address that is not in it reads 0; PKT_IN appends two bytes, PKT_END frames them, PKT_OUT drives the next two of the head packet and
delivers it with the last; the low half of WIN_DATA is kept or fetches its word, the high half stages the word or completes the read; and
WIN_ADDR moves on by 2. -/
def Obligations.ParallelBusTransactions : Prop :=
  ∀ (s : State) (w : BitVec 16) (a lo hi : Nat), s.dev.hears 2 = true →
    let d := s.dev
    let q := d.port 2
    let b := (q.out.head?.map (·.bytes)).getD []
    let two := slice b q.rd 2
    let on (d : Dev) : Dev := d.setHst (fun h => { h with winAddr := (h.winAddr + 2) % 2 ^ 32 })
    let x := d.hst.winAddr
    exec (.id .parallel) s = .next (s.withDev (d.drive 2 (leb 2 0x0880))) ∧
    exec (.status (.parallel 0x003)) s = .next (s.withDev (d.drive 2 (leb 2 b.length))) ∧
    exec (.status (.parallel 0x004)) s = .next (s.withDev (d.drive 2 (leb 2 (if d.start.phase = .ready then (8192 - q.frame.length) / 64 else 0)))) ∧
    exec (.status (.parallel 0x005)) s =
      .next (s.withDev (d.drive 2 (leb 2 (b2n (d.attnLine 0) + 2 * b2n (d.attnLine 1) + 4 * b2n q.lost)))) ∧
    exec (.status (.parallel 0x008)) s = .next (s.withDev (d.drive 2 (leb 2 (x % 65536 / 4 * 4)))) ∧
    exec (.status (.parallel 0x009)) s = .next (s.withDev (d.drive 2 (leb 2 (x / 65536)))) ∧
    (a ∉ [0x003, 0x004, 0x005, 0x008, 0x009] → exec (.status (.parallel a)) s = .next (s.withDev (d.drive 2 (leb 2 0)))) ∧
    (q.frame.length ≤ 8192 →
      exec (.pktIn w) s = .next (s.withDev (d.setPort 2 (fun q => { q with frame := q.frame ++ leb 2 w.toNat })))) ∧
    (d.start.phase = .ready → q.frame.length ≤ 8192 → exec .pktEnd s = .next (s.withDev
      ((d.setPort 2 (fun q => { q with frame := [] })).receiveBytes execOpcode { port := 2 } none q.frame).udpOut)) ∧
    exec .pktOut s = .next (s.withDev (
      let d := d.drive 2 (two ++ zeros (2 - two.length))
      if b = [] then d
      else if b.length ≤ q.rd + 2 then d.setPort 2 (fun q => { q with out := q.out.drop 1, rd := 0, headSince := d.tick })
      else d.setPort 2 (fun q => { q with rd := q.rd + 2 }))) ∧
    (x / 2 % 2 = 0 → exec (.winDataWrite w) s =
      .next (s.withDev (on (d.setHst (fun h => { h with wrLatch := some (x / 4 * 4, w.toNat) }))))) ∧
    (x / 2 % 2 = 1 → d.hst.wrLatch = some (x / 4 * 4, lo) → exec (.winDataWrite w) s =
      .next (s.withDev (on ((d.winWrite 2 (x / 4 * 4) (lo + w.toNat * 65536)).2.setHst (fun h => { h with wrLatch := none }))))) ∧
    (∀ v d', x / 2 % 2 = 0 → d.winRead 2 (x / 4 * 4) = (some v, d') → exec .winDataRead s =
      .next (s.withDev (on ((d'.setHst (fun h => { h with rdLatch := some (x / 4 * 4, v / 65536) })).drive 2 (leb 2 v))))) ∧
    (x / 2 % 2 = 1 → d.hst.rdLatch = some (x / 4 * 4, hi) → exec .winDataRead s =
      .next (s.withDev (on ((d.setHst (fun h => { h with rdLatch := none })).drive 2 (leb 2 hi)))))

/-- From R146 and R147: a word of a window that is open to the port, aligned and inside it, is staged by a write of a read-write window,
and read as it is staged or from the window's memory; any other access is an error that reads nothing, writes nothing, and is counted by a
write. -/
def Obligations.WindowAccesses : Prop :=
  ∀ (d : Dev) (port w off v : Nat), off < 65536 →
    let x := d.window w
    let a := w * 65536 + off
    let ok := off % 4 = 0 ∧ w < 16 ∧ x.isOpen = true ∧ (d.chan x.ch).peer.port = port ∧ off + 4 ≤ x.len
    (ok → x.rw = true → d.winWrite port a v = (true, (d.renew 8 w).setWindow w
      (fun y => { y with staged := y.staged.filter (fun e => e.1 != off) ++ [(off, v)] }))) ∧
    (¬ (ok ∧ x.rw = true) → d.winWrite port a v = (false, d.setPort port (fun q => { q with winerr := (q.winerr + 1) % 2 ^ 32 }))) ∧
    (ok → x.staged.find? (fun e => e.1 == off) = some (off, v) → d.winRead port a = (some v, d.renew 8 w)) ∧
    (ok → x.staged.find? (fun e => e.1 == off) = none → x.mem = 2 →
      d.winRead port a = (some ((d.renew 8 w).hostMemWord (x.off + off)), d.renew 8 w)) ∧
    (¬ ok → d.winRead port a = (none, d))

/-- From R99, R141, R159, R160 and R163: window datagrams are answered with the request's tag, and a bad one is counted; an ARP request
for the host address is answered and another is not; a reassembly lasts 100 ms, an event is presented again after the retry interval, and
a packet that has waited 1 s, or a MAC down for 1 s, is host channel loss. -/
def Obligations.DatagramsAndHostTimers : Prop :=
  ∀ (s : State) (p : Peer) (b : List Byte) (mac vid ip t : Nat), s.dev.pwr.st ≤ 1 → s.dev.start.phase = .ready →
    s.dev.verind.resetReq = none →
    let d := s.dev
    (winDatagramOk 0xB5 b = true → exec (.windowReadRequest p b) s = .next (s.withDev
      (let r := Dev.winReads 3 (fld b 6 2 / 4) (fld b 8 4) (d.touchPeer p)
       r.2.2.send none p (winResponse 0xB7 b r.2.1 (r.1.flatMap (leb 4)))).udpOut)) ∧
    (winDatagramOk 0xB6 b = true → exec (.windowWriteRequest p b) s = .next (s.withDev
      (let r := Dev.winWrites 3 (wordsOf (slice b 16 (fld b 6 2))) (fld b 8 4) (d.touchPeer p)
       r.2.send none p (winResponse 0xB8 b r.1 [])).udpOut)) ∧
    (winDatagramOk 0xB5 b = false → exec (.windowReadRequest p b) s =
      .next (s.withDev (d.setPort 3 (fun q => { q with framing := (q.framing + 1) % 2 ^ 32 })).udpOut)) ∧
    (∀ port, d.cfg.dev.hostAddr = some (t, port) → exec (.arpRequest mac vid ip t) s = .next (s.withDev
      (d.inject 7 (hostFrame mac vid 0x0806 (beb 2 1 ++ beb 2 0x0800 ++ [6#8, 4#8] ++ beb 2 2 ++ hostStation ++ beb 4 t ++ leb 6 mac ++
        beb 4 ip)) 0 none).2.2)) ∧
    ((∀ port, d.cfg.dev.hostAddr ≠ some (t, port)) → exec (.arpRequest mac vid ip t) s = .next (s.withDev d)) ∧
    (∀ r, d.hst.reasm.find? (fun r => r.ip == ip) = some r → exec (.reassemblyTimeout ip) s = .next (s.withDev
      ((d.advanceTo (r.start + 100000000)).setHst (fun h => { h with reasm := h.reasm.filter (fun x => x.ip != ip) })))) ∧
    (∀ e k, d.verind.events.find? (fun e => e.seq == t && e.shown != 0) = some e → d.verind.eventChannel = some k →
      (((d.advanceTo (e.last + d.cfg.dev.evRetryMs * 1000000)).present e).chan k).peer.port ≠ 3 →
      exec (.eventRetry t) s = .next (s.withDev ((d.advanceTo (e.last + d.cfg.dev.evRetryMs * 1000000)).present e).udpOut)) ∧
    (∀ q, (q = 1 ∨ q = 2) → (d.port q).out ≠ [] → (d.port q).lost = false → exec (.outputQueueTimeout q) s =
      .next (s.withDev ((d.advanceTo ((d.port q).headSince + 1000000000)).hostChannelLoss q))) ∧
    (∀ m, d.hst.lastUdpMac = some m → d.macUp m = false → (d.port 3).lost = false → exec .udpLinkLossTimeout s =
      .next (s.withDev ((d.advanceTo ((d.mac m).downAt + 1000000000)).hostChannelLoss 3)))

/-- From R160: on host channel loss the windows of the port's channels are closed and the port is marked lost; its channels stay as they
are. -/
def Obligations.HostChannelLoss : Prop :=
  ∀ (d : Dev) (p : Nat), 1 ≤ p → p ≤ d.hst.ports.length → (d.port p).lost = false →
    let e := d.hostChannelLoss p
    (e.port p).lost = true ∧
    (∀ w, w < 16 → (e.window w).isOpen = true → (d.chan (e.window w).ch).st ≠ 0 → (e.window w).ch < 8 → (d.chan (e.window w).ch).peer.port ≠ p) ∧
    (∀ k, (e.chan k).st = (d.chan k).st ∧ (e.chan k).base = (d.chan k).base ∧ (e.chan k).cache = (d.chan k).cache ∧
      (e.chan k).held = (d.chan k).held)

/-! ## Power-on, reset and start (1, 7, 22) -/

/-- From R16, R52, R53, R164, R165, R166, R560, R561, R577 and R578: what brings the part up and takes it down. VDD_AON raises PWR_EN, and
the straps are latched there with PORST# high, or when PORST# rises; PORST# low for 10 µs or more, or a loss of VDD_AON, leaves nothing
that the islands held; a fault of VDD_CORE or VDD_FL holds every island but AON in reset, and its end starts the part with cause 3; and a
START ends in Hold, in no READY after two failed self-tests, or in READY with its event first in the queue. -/
def Obligations.StartAndReset : Prop :=
  ∀ (boot host ns : Nat) (high : Bool) (x : StartIn) (s : State),
    let blank (d : Dev) : Prop := d.verind = {} ∧ d.svc = {} ∧ d.eng = {} ∧ d.funcs = funcTable ∧ d.cfg = {} ∧
      (∀ i ∈ d.islands, i.id ≠ 0x00 → i.id ≠ 0x0F → i.st ≤ 1)
    let strapped (d : Dev) : Prop := d.start.phase = .released ∧ d.start.bootSel = boot % 4 ∧ d.start.hostSel = host % 4 ∧ d.start.cause = 0
    (s.dev.start.phase = .aonOff → ∃ t, exec (.vddAonPowerOn boot host high) s = .next t ∧ blank t.dev ∧ t.dev.pwr.pwrEn = true ∧
      t.dev.tick = 0 ∧ t.tap = {} ∧ (high = true → strapped t.dev) ∧ (high = false → t.dev.start.phase = .porstLow)) ∧
    (10000 ≤ ns → s.dev.start.phase ≠ .aonOff → ∃ t, exec (.porstAssert ns) s = .next t ∧ blank t.dev ∧ t.dev.start.phase = .porstLow ∧
      t.dev.pwr.pwrEn = true ∧ t.dev.tick = 0 ∧ t.tap.ir = 2 ∧ t.dev.sec.revoked = s.dev.sec.revoked ∧
      (t.dev.alm.copy 0).journal = (s.dev.alm.copy 0).journal) ∧
    (ns < 1000 → exec (.porstAssert ns) s = .next s) ∧
    (s.dev.start.phase = .porstLow → ∃ t, exec (.porstRelease boot host) s = .next t ∧ strapped t.dev ∧ t.dev.start.since = s.dev.tick) ∧
    (∃ t, exec .lossOfPower s = .next t ∧ blank t.dev ∧ t.dev.start.phase = .aonOff ∧ t.dev.pwr.pwrEn = false ∧ t.tap = {}) ∧
    (s.dev.start.phase ≠ .aonOff → s.dev.alarmTick = none →
      exec .oscillatorStart s = .next (s.withDev { s.dev with start := { s.dev.start with osc32k := true } })) ∧
    (s.dev.pwr.st ≠ 4 → s.dev.start.phase ≠ .aonOff → s.dev.start.phase ≠ .porstLow →
      ∃ t, exec (.supplyFault .core) s = .next t ∧ blank t.dev ∧ t.dev.start.phase = .railBad) ∧
    (s.dev.start.phase = .railBad → ∃ t, exec .coreRailRestart s = .next t ∧ t.dev.start.phase = .released ∧ t.dev.start.cause = 3) ∧
    (s.dev.start.phase = .released →
      (s.dev.start.bootSel = 3 → ∃ t, exec (.start x) s = .next t ∧ t.dev.start.phase = .hold) ∧
      (s.dev.start.bootSel ≠ 3 → 2 ≤ x.testFails → ∃ t, exec (.start x) s = .next t ∧ t.dev.start.phase = .dead) ∧
      (s.dev.start.bootSel ≠ 3 → x.testFails < 2 → s.dev.verind = {} → ∃ t, exec (.start x) s = .next t ∧ t.dev.start.phase = .ready ∧
        ∃ e, t.dev.verind.events.head? = some e ∧ e.op = 0xF000 ∧ e.seq = 0 ∧ byteAt e.body 0 = s.dev.start.cause % 256))

/-! ## The Almanac and the Typecase at work (7, 8) -/

/-- From R120, R181, R182, R187, R189 and R192, with nothing held on a channel: a group that commits stands at the end of every valid copy
and of no other, its operation is done and its command completes DONE; the oldest record of the backlog is journalled so; a compaction
leaves each copy concerned its live records and a commit record of one SEQ, in the next region under the next anchor generation; a
catch-up ends with the primary's journal in the copy, which is valid again, and one that fails leaves it not valid; and a faulty memory's
copy is not valid, is recorded as F6, and is resilvered in full where the other copy is valid. -/
def Obligations.AlmanacRows : Prop :=
  ∀ (s : State), s.noHeld →
    let a := s.dev.alm
    let ready : Prop := a.compacting = false ∧ s.dev.cmp.restarting = false ∧ a.anyValid = true ∧ a.unclean = false
    let grown (t : State) (g : List Rec) : Prop := t.dev.alm.sm.length = a.sm.length ∧ ∀ i, i < a.sm.length →
      (t.dev.alm.copy i).journal = if (a.copy i).valid then (a.copy i).journal ++ g else (a.copy i).journal
    (∀ (o : AlmOp) (os : List AlmOp) (key : Nat) (data : List Byte), a.ops = o :: os → o.kind = .write key data → ready →
      let g := [{ type := 1, key := key, seq := a.seq, len := data.length, body := .user data }, commitRec (a.seq + 1) 1 0]
      a.groupRefused g = none → ∃ t, exec .almanacGroupCommit s = .next t ∧ t.dev.alm.ops = os ∧ grown t g ∧
        t.dev.alm.nextSeq = a.seq + 2 ∧ ∀ w, o.cmd = some w → w.recov = false → s.completed t w 0x0000) ∧
    (∀ (b : Nat × Nat × Nat) (bs : List (Nat × Nat × Nat)), s.dev.verind.backlog = b :: bs → (s.dev.quoin 1 0).owner = none → ready →
      let g := [{ type := 3, key := b.1, seq := a.seq, len := Config.workingLen b.1 }, commitRec (a.seq + 1) 1 0]
      a.groupRefused g = none → ∃ t, exec .journalling s = .next t ∧ t.dev.verind.backlog = bs ∧ grown t g) ∧
    (∀ (w : Waiting), a.compacting = true → a.compactCmd = some w → w.recov = false →
      ∃ t, exec .compactionComplete s = .next t ∧ t.dev.alm.compacting = false ∧ t.dev.alm.nextSeq = a.seq + 1 ∧ s.completed t w 0x0000 ∧
        ∀ i, i < a.sm.length → let c := a.copy i
          (c.valid = true → (t.dev.alm.copy i).journal = live c.journal ++ [commitRec a.seq (live c.journal).length 2] ∧
            (t.dev.alm.copy i).agen = c.agen + 1 ∧
            (t.dev.alm.copy i).active = if c.active + 1 < c.capacity / 65536 then c.active + 1 else 1) ∧
          (c.valid = false → t.dev.alm.copy i = c)) ∧
    (∀ (i : Nat) (ok fram : Bool) (n : Nat) (w : Option Waiting), i < a.sm.length →
      a.resil.find? (fun r => r.1 == i) = some (i, false, w) → ∃ t, exec (.resilveringEnd i ok fram n) s = .next t ∧
        (∀ r ∈ t.dev.alm.resil, r.1 ≠ i) ∧
        (ok = true → (t.dev.alm.copy i).valid = true ∧ (t.dev.alm.copy i).journal = a.journal) ∧
        (ok = false → t.dev.alm.copy i = a.copy i)) ∧
    (∀ (i : Nat), i < 2 → i < a.sm.length → (a.copy i).valid = true → (∀ r ∈ a.resil, r.1 ≠ i) →
      ∃ t, exec (.serialMemoryFault i) s = .next t ∧ (t.dev.alm.copy i).valid = false ∧ s.logged t 6 0x05 0x01 (i + 1) ∧
        ((a.copy (1 - i)).valid = true → a.sm.length = 2 → (i, true, none) ∈ t.dev.alm.resil))

/-- From R201, R202, R205, R206, R216 and R217, with nothing held on a channel: a page program that verifies clears nothing but its page's
256 bytes, a sector erase that verifies leaves its sector erased, and one that does not verify leaves the flash as it was; a streamed read
that ends lets the next page program begin; a suspend stops the operation no sooner than its minimum run time, and after 2 ms it begins
again; and a patrol read counts what it corrected, and has the sector rewritten from the other bank where there was more. -/
def Obligations.TypecaseRows : Prop :=
  ∀ (s : State), s.noHeld →
    let flash (t : State) (b : Nat) : Mem := (t.dev.bank b).flash
    (∀ (b c sec p : Nat) (op : TypOp) (j : TypJob) (js : List TypJob) (bs : List Byte) (rest : List TypStep) (ok : Bool),
      s.dev.busyBank = some (b, op) → s.dev.typ.jobs = j :: js → op.erase = false → j.steps = .prog c sec p bs :: rest →
      c < s.dev.typ.banks.length → ∃ t, exec (.pageProgramComplete ok) s = .next t ∧ (∀ k, k ≠ c → flash t k = flash s k) ∧
        flash t c = if ok then Mem.setBytes 0xFF#8 (flash s c) ((s.dev.bank c).phys sec * 4096 + p * 256) bs else flash s c) ∧
    (∀ (b c sec : Nat) (op : TypOp) (j : TypJob) (js : List TypJob) (rest : List TypStep) (ok hot : Bool),
      s.dev.busyBank = some (b, op) → s.dev.typ.jobs = j :: js → op.erase = true → j.steps = .erase c sec :: rest →
      c < s.dev.typ.banks.length → ∃ t, exec (.sectorEraseComplete ok hot) s = .next t ∧ (∀ k, k ≠ c → flash t k = flash s k) ∧
        flash t c = if ok then Mem.clear (flash s c) ((s.dev.bank c).phys sec * 4096) 4096 else flash s c) ∧
    (∀ (b sec p : Nat) (j : TypJob) (js : List TypJob) (bs : List Byte) (rest : List TypStep),
      s.dev.typ.jobs = j :: js → j.begun = true → j.steps = .stream :: .prog b sec p bs :: rest → b < s.dev.typ.banks.length →
      (s.dev.bank 0).op = none → (s.dev.bank 1).op = none →
      ∃ t, exec .streamedReadComplete s = .next t ∧
        (t.dev.bank b).op = some { erase := false, sector := sec, phys := (s.dev.bank b).phys sec, page := p, began := s.dev.tick } ∧
        t.dev.typ.jobs = { j with steps := .prog b sec p bs :: rest } :: js) ∧
    (∀ (b : Nat) (op : TypOp), b < 2 → b < s.dev.typ.banks.length → (s.dev.bank b).op = some op →
      (op.suspended = none → (s.dev.bank b).requests ≠ [] →
        let at_ := max s.dev.tick (op.began + 1000 * s.dev.cfg.dev.typMinUs)
        ∃ t, exec (.typecaseSuspend b) s = .next t ∧
          (t.dev.bank b).op = some { op with suspended := some at_, ran := op.ran + (at_ - op.began) }) ∧
      (∀ u, op.suspended = some u → ∃ t, exec (.typecaseSuspendLimit b) s = .next t ∧
        (t.dev.bank b).op = some { op with suspended := none, began := max s.dev.tick (u + 2000000), ran := 0 })) ∧
    (∀ (b sec n : Nat), b < 2 → (s.dev.bank b).op = none → s.dev.committedSector b sec = true →
      (n ≤ 8 → exec (.patrolRead b sec [] n) s =
        .next (s.withDev { s.dev with svc := { s.dev.svc with corrected := (s.dev.svc.corrected + n) % 2 ^ 32 } })) ∧
      (8 < n → s.dev.typ.jobs = [] → (s.dev.bank (1 - b)).sectorBad (s.dev.otherSector b sec) = false →
        ∃ t, exec (.patrolRead b sec [] n) s = .next t ∧ ∃ j ∈ t.dev.typ.jobs, j.goal = .refresh b sec))

/-! ## Faults, recovery and the lifecycle (2, 3, 4, 20) -/

/-- From R49, R57, R58, R66, R71, R77, R530 and R533: corrected errors are counted alone; an uncorrectable read of what the part holds
twice is counted and changes nothing else, of the journal cache it is recorded, of a flash word it marks the word and is recorded as F6,
of a plate it brings back the plate committed before, of an object it leaves zeros with LOST, and of a standby table it leaves the
committed one; and a lease that ends revokes its quoin under a new generation, counts it, and leaves it free where none waits. -/
def Obligations.MemoryErrorsAndLeases : Prop :=
  ∀ (s : State),
    let svc (f : Svc → Svc) : State := s.withDev { s.dev with svc := f s.dev.svc }
    let counted (t : State) : Prop := t.dev.svc.uncorrectable = (s.dev.svc.uncorrectable + 1) % 2 ^ 32
    exec .correctedMemoryError s = .next (svc (fun v => { v with corrected := (v.corrected + 1) % 2 ^ 32 })) ∧
    (∀ n, exec (.sramScrub n []) s = .next (svc (fun v => { v with corrected := (v.corrected + n) % 2 ^ 32 }))) ∧
    (s.dev.pwr.st = 0 →
      exec (.uncorrectableMemoryError .copied) s = .next (svc (fun v => { v with uncorrectable := (v.uncorrectable + 1) % 2 ^ 32 })) ∧
      (∃ t, exec (.uncorrectableMemoryError .journalCache) s = .next t ∧ counted t ∧ s.logged t 2 0x05 1 0) ∧
      (∀ b w, b < s.dev.typ.banks.length → ∃ t, exec (.uncorrectableMemoryError (.flashWord b w)) s = .next t ∧ counted t ∧
        w ∈ (t.dev.bank b).bad ∧ s.logged t 6 0x06 1 3) ∧
      (∀ p, p < s.dev.eng.plates.length → (s.dev.plate p).declared = true → ∃ t, exec (.uncorrectableMemoryError (.plateCommitted p)) s = .next t ∧
        counted t ∧ (t.dev.plate p).com = (s.dev.plate p).prev ∧ s.logged t 2 0x07 2 0) ∧
      (∀ n k, n < s.dev.mbs.length → k < (s.dev.mb n).objs.length → (s.dev.mbObj n k).shadow = none →
        ∃ t, exec (.uncorrectableMemoryError (.object n k)) s = .next t ∧ counted t ∧
          (t.dev.mbObj n k).content = zeros 76 ∧ (t.dev.mbObj n k).lost = true) ∧
      (∀ k, k < s.dev.doms.length → ∃ t, exec (.uncorrectableMemoryError (.standby k)) s = .next t ∧ counted t ∧
        (t.dev.doms.getD k {}).standby = (s.dev.doms.getD k {}).committed)) ∧
    (∀ kind inst, (∃ q ∈ s.dev.quoins, q.kind = kind ∧ q.inst = inst) → kind ≠ 7 → s.dev.cycleLease kind inst = false →
      (s.dev.quoin kind inst).owner ≠ none → (s.dev.quoin kind inst).queue = [] → ∃ t, exec (.leaseExpiry kind inst) s = .next t ∧
        (t.dev.quoin kind inst).owner = none ∧ (t.dev.quoin kind inst).gen = ((s.dev.quoin kind inst).gen + 1) % 65536 ∧
        t.dev.svc.revocations = (s.dev.svc.revocations + 1) % 2 ^ 32 ∧ t.dev.tick = max s.dev.tick (s.dev.quoin kind inst).expiry)

/-- From R35, R36, R39, R41, R42, R44, R53, R62, R73, R75 and R552, in RUN: a hang or a local clock fault of a shared island fences it
with its flag set, as does a probe that it does not answer within two hang timeouts; a reset of it releases it under the next generation
with cause 2; a lockstep mismatch, the fourth missed heartbeat and a clock fault of the Compositor begin its restart, and the restart's
end counts it and gives its cores cause 4; a reference fault is recorded and its return noted; and a bank's supply fault is noted and
undone. -/
def Obligations.IslandFaults : Prop :=
  ∀ (s : State), s.dev.pwr.st = 0 →
    let shared (i : Nat) : Prop := i ∈ [0x04, 0x05, 0x06, 0x07, 0x08] ∧ (s.dev.island i).id = i
    let hit (i : Nat) : Prop := shared i ∧ (s.dev.island i).st = 2 ∧ (s.dev.island i).stuck = false ∧ (s.dev.island i).recovering = false
    let fenced (t : State) (i : Nat) : Prop := (t.dev.island i).st = 4 ∧ (t.dev.island i).recovering = true
    let restarts (t : State) (cls : Nat) : Prop := t.dev.cmp.restarting = true ∧ t.dev.cmp.since = s.dev.tick ∧ t.dev.cmp.latched = [(cls, 1)] ∧
      ∀ c ∈ t.dev.crossings, c.a = 1 ∨ c.b = 1 → c.isOpen = false
    let missed (n : Nat) : State := s.withDev { s.dev with cmp := { s.dev.cmp with missed := n } }
    (∀ i, hit i → ∃ t, exec (.hangTimeout i) s = .next t ∧ fenced t i ∧ (t.dev.island i).hang = true) ∧
    (∀ i, hit i → ∃ t, exec (.clockFault i) s = .next t ∧ fenced t i ∧ (t.dev.island i).clkf = true) ∧
    (∀ i, hit i → s.dev.probing = true → ∃ t, exec (.livenessProbe [i]) s = .next t ∧ fenced t i ∧ (t.dev.island i).hang = true ∧
      t.dev.tick = s.dev.tick + 2000 * s.dev.cfg.dev.hangUs) ∧
    (∀ i, shared i → (s.dev.island i).st = 4 → (s.dev.island i).stuck = false → s.dev.cmp.restarting = false → s.dev.unsupplied i = false →
      ∃ t, exec (.islandReset i) s = .next t ∧ (t.dev.island i).st = 2 ∧ (t.dev.island i).cause = 2 ∧
        (t.dev.island i).gen = ((s.dev.island i).gen + 1) % 4096 ∧ (t.dev.island i).recovering = false ∧ t.dev.staleAt i = false) ∧
    (s.dev.start.phase = .ready → ∃ t, exec .lockstepMismatch s = .next t ∧ restarts t 5) ∧
    ((s.dev.island 1).st = 2 → ∃ t, exec (.clockFault 1) s = .next t ∧ restarts t 10) ∧
    (s.dev.probing = true →
      exec (.heartbeat false) s = .next (missed 0) ∧
      (s.dev.cmp.missed < 3 → exec (.heartbeat true) s = .next (missed (s.dev.cmp.missed + 1))) ∧
      (3 ≤ s.dev.cmp.missed → ∃ t, exec (.heartbeat true) s = .next t ∧ restarts t 5)) ∧
    (s.noHeld → s.dev.cmp.restarting = true → (s.dev.island 1).id = 1 → ∃ t, exec .compositorRestart s = .next t ∧
      t.dev.cmp.restarting = false ∧ (t.dev.island 1).gen = ((s.dev.island 1).gen + 1) % 4096 ∧ (t.dev.island 1).cause = 4 ∧
      t.dev.svc.cmpRestarts = (s.dev.svc.cmpRestarts + 1) % 2 ^ 32) ∧
    (s.dev.start.refPresent = true → s.dev.start.osc32k = true → s.dev.start.phase = .ready →
      ∃ t, exec .referenceFault s = .next t ∧ t.dev.start.refPresent = false ∧ t.dev.orr.refLost = true ∧ s.logged t 10 0x00 9 1) ∧
    exec .referenceClockReturn s = .next (s.withDev { s.dev with
      start := { s.dev.start with refPresent := true }, orr := { s.dev.orr with refLost := false } }) ∧
    (∀ b, b < 4 → b < s.dev.start.supplyBad.length →
      (s.dev.start.phase = .ready → s.dev.start.supplyBad.getD b false = false → s.dev.start.bankClass.getD b 0 ≠ 0 →
        ∃ t, exec (.supplyFault (.bank b)) s = .next t ∧ t.dev.start.supplyBad.getD b false = true ∧ (b = 2 → hit 0x05 → fenced t 0x05)) ∧
      (s.dev.start.supplyBad.getD b false = true → ∃ t, exec (.bankSupplyReturn b) s = .next t ∧
        t.dev.start.supplyBad.getD b false = false))

/-- From R105 to R109, R171, R284, R526 and R527: a function that has started is ON and one that has drained is OFF, where no opposite
command is queued, and the command that began the passage completes DONE; a drain that runs out of time ends in OFF with cause 2, and a
start in FENCED; a self-test leaves its engine free or out of service and its function OFF with cause 5; and an engine that is loaded runs
from its image's entry point with its other registers 0. -/
def Obligations.PassagesEnd : Prop :=
  ∀ (s : State) (fid : Nat), (∃ f ∈ s.dev.funcs, f.fid = fid) →
    let f := s.dev.func fid
    (f.queued = none → fclass fid ≠ 4 → f.st = 1 → ∃ t, exec (.functionStartComplete fid) s = .next t ∧ (t.dev.func fid).st = 2 ∧
      (∀ w, f.starter = some w → f.joined = [] → f.retried = false → w.recov = false → s.completed t w 0x0000)) ∧
    (f.queued = none → f.st = 3 → s.dev.drained fid = true → ∃ t, exec (.drainComplete fid) s = .next t ∧ (t.dev.func fid).st = 0 ∧
      (∀ w, f.starter = some w → f.joined = [] → w.recov = false → s.completed t w 0x0000)) ∧
    (f.queued = none → f.st = 3 → ∃ t, exec (.drainLimitExpiry fid) s = .next t ∧ (t.dev.func fid).st = 0 ∧ (t.dev.func fid).cause = 2 ∧
      t.dev.tick = max s.dev.tick f.limit) ∧
    (f.st = 1 → s.dev.pwr.st = 0 → f.recovering = false → ownIslands fid = true → ∃ t, exec (.startLimitExpiry fid) s = .next t ∧
      (t.dev.func fid).st = 4 ∧ (t.dev.func fid).cause = 1 ∧ t.dev.tick = max s.dev.tick f.limit) ∧
    (∀ (p : Nat) (pass : Bool), p < s.dev.eng.pes.length → (∃ x ∈ s.dev.svc.tests, x.pe = some p ∧ x.fid = 0) →
      ∃ t, exec (.selfTestComplete (some p) 0 pass) s = .next t ∧ (t.dev.pe p).status = (if pass then 0 else 5) ∧
        (t.dev.pe p).faults = (s.dev.pe p).faults ∧ (∀ x ∈ t.dev.svc.tests, ¬ (x.pe = some p ∧ x.fid = 0))) ∧
    (f.st = 5 → (∃ x ∈ s.dev.svc.tests, x.pe = none ∧ x.fid = fid) → ∃ t, exec (.selfTestComplete none fid true) s = .next t ∧
      (t.dev.func fid).st = 0 ∧ (t.dev.func fid).cause = 5) ∧
    (∀ (p : Fin 14) (l : Nat), fid = 0x0400 + l → l < 12 → p.val < s.dev.eng.pes.length → (s.dev.pe p).le = some l → (s.dev.le l).pe = some p.val →
      (s.dev.le l).loading = true → f.st = 1 → f.queued = none → ∃ t, exec (.imageLoadComplete p) s = .next t ∧ (t.dev.func fid).st = 2 ∧
        (t.dev.pe p).running = true ∧ (t.dev.pe p).regs = { pc := (s.dev.imageOf (s.dev.le l).image).entry })

/-- From R235, R255, R258, R259, R285, R287, R289, R291, R293 and R294: what happens to a running engine and its logical engine. A plate's
last recall makes it READY; a cut captures the engine's state and begins a join; a joined spare replays, is in step after its second cycle
in time, and is fenced where it diverges; a takeover at its cut makes the spare live and counts it; a watchdog half-way raises its event
and at its end, as any F3, leaves the engine fenced and counts it; and a compare fires at its target, once or by its period. -/
def Obligations.EngineEvents : Prop :=
  ∀ (s : State) (p : Fin 14) (l : Nat), p.val < s.dev.eng.pes.length → l < s.dev.eng.les.length →
    let e := s.dev.pe p
    let x := s.dev.le l
    let alone : Prop := s.dev.pwr.st = 0 ∧ e.running = true ∧ e.status = 1 ∧ e.le = some l ∧ x.pe = some p.val ∧ x.spare = none ∧
      x.cutDue = false ∧ (s.dev.func (0x0400 + l)).st = 2 ∧ l < 12
    let dead (t : State) : Prop := (t.dev.pe p).running = false ∧ (t.dev.pe p).status = 4 ∧ (t.dev.pe p).faults = (e.faults + 1) % 2 ^ 32
    (∀ n, n < 64 → n < s.dev.eng.plates.length → (s.dev.plate n).recalling = true → (s.dev.plate n).commitAsked = false →
      exec (.plateReady n) s = .next (s.withDev (s.dev.setPlate n (fun q => { q with recalling := false, ready := true })))) ∧
    (x.cutDue = true → x.pe = some p.val → e.running = true → e.stall ≠ .held → x.takeover = none → x.spare ≠ some p.val → l < 12 →
      ∃ t, exec (.cut l) s = .next t ∧ (t.dev.le l).cutDue = false ∧
        ((t.dev.le l).snap.map (fun z => (z.regs, z.dram, z.stall))) = some (e.regs, e.dram, e.stall) ∧
        (x.joining = 2 → (t.dev.le l).joining = 3) ∧ t.dev.pe p = { e with ports := { e.ports with raised := 0#32 } }) ∧
    (x.joining = 3 → exec (.joinCopyComplete l) s = .next (s.withDev (s.dev.setLe l (fun x => { x with joining := 4 })))) ∧
    (∀ (q : Nat) c rest, q < s.dev.eng.pes.length → x.joining = 4 → x.sealed = c :: rest → x.spare = some q →
      (s.dev.tick ≤ c.at_ + s.dev.replayAllowance l → x.inTime = 1 → ∃ t, exec (.replayComplete l true) s = .next t ∧
        (t.dev.le l).sealed = rest ∧ (t.dev.pe q).status = 3 ∧ (∀ w, x.armCmd = some w → w.recov = false → s.completed t w 0x0000)) ∧
      (∃ t, exec (.replayComplete l false) s = .next t ∧ (t.dev.le l).spare = none ∧ (t.dev.pe q).status = 4)) ∧
    (∀ old z, x.takeover = some (1, old) → x.pe = some p.val → e.stall = .held → x.snap = some z → z.stall = .none →
      ∃ t, exec (.takeover l) s = .next t ∧ (t.dev.le l).takeover = none ∧ (t.dev.pe p).stall = .none ∧ (t.dev.pe p).status = 1 ∧
        (t.dev.pe p).regs = e.regs ∧ t.dev.svc.migrations = (s.dev.svc.migrations + 1) % 2 ^ 32) ∧
    (e.running = true → e.ports.wdHalf = false → ∃ t, exec (.watchdogHalf p) s = .next t ∧ (t.dev.pe p).ports.wdHalf = true ∧
      (t.dev.pe p).ports.pend.getLsbD 10 = true ∧ t.dev.tick = max s.dev.tick (e.ports.wdKick + 1000 * e.ports.wdPeriod / 2)) ∧
    (alone → ∃ t, exec (.watchdogExpiry p) s = .next t ∧ dead t) ∧
    (∀ cause, alone → 1 ≤ cause → cause ≤ 8 → ∃ t, exec (.engineFault p cause) s = .next t ∧ dead t) ∧
    (∀ n : Fin 4, n.val < e.ports.tmr.length → (s.dev.tmr p n).armed = true → e.running = true → e.stall ≠ .held → (s.dev.tmr p n).mode ≠ 3 →
      ∃ t, exec (.timerCompare p n) s = .next t ∧ t.dev.tick = max s.dev.tick (s.dev.tmr p n).target ∧
        (t.dev.tmr p n).stat.getLsbD 0 = true ∧ (t.dev.pe p).ports.pend.getLsbD (6 + n.val) = true ∧
        ((s.dev.tmr p n).mode = 1 → (t.dev.tmr p n).armed = false) ∧
        ((s.dev.tmr p n).mode = 2 → (t.dev.tmr p n).target = (s.dev.tmr p n).target + (s.dev.tmr p n).period.toNat))

/-- From R239 to R241 and Table 9.3, for a line that engine `p` neither caches nor evicts and no other engine owns: a Shared request puts
the line's bytes in its cache and it among the sharers; an Owned request makes it the owner under the next generation; a write-back of the
present owner and generation goes to PIM, and one that is stale does not; a read by a non-caching agent brings the owner's data to PIM and
leaves it a sharer; and a write by one merges its bytes into PIM and leaves no copy. -/
def Obligations.DirectoryTransactions : Prop :=
  ∀ (s : State) (p : Fin 14) (line : Nat), p.val < s.dev.eng.pes.length → line < 8192 →
    let x := s.dev.dirLine line
    let e := s.dev.pe p
    let clear : Prop := e.running = true ∧ s.dev.peReach p 7 = true ∧ e.evb = [] ∧ e.cached line = none
    (clear → x.st ≠ 2 → s.dev.mayRead p line = true → ∃ t, exec (.directorySharedRequest p line) s = .next t ∧
      (t.dev.dirLine line).st = 1 ∧ p.val ∈ (t.dev.dirLine line).sharers ∧ t.dev.eng.pim = s.dev.eng.pim ∧
      ((t.dev.pe p).cached line).map (fun c => (c.owned, c.data)) = some (false, Mem.getBytes 0 s.dev.eng.pim (line * 64) 64)) ∧
    (clear → x.st = 0 → x.sharers = [] → s.dev.mayOwn p line = true → ∃ t, exec (.directoryOwnedRequest p line) s = .next t ∧
      (t.dev.dirLine line).st = 2 ∧ (t.dev.dirLine line).owner = p.val ∧ (t.dev.dirLine line).gen = (x.gen + 1) % 65536 ∧
      ((t.dev.pe p).cached line).map (fun c => (c.owned, c.data)) = some (true, Mem.getBytes 0 s.dev.eng.pim (line * 64) 64)) ∧
    (∀ v vs, e.evb = v :: vs → v.line = line →
      (x.st = 2 → x.owner = p.val → x.gen = v.gen → ∃ t, exec (.writeBack p) s = .next t ∧ (t.dev.pe p).evb = vs ∧
        t.dev.eng.pim = Mem.setBytes 0 s.dev.eng.pim (line * 64) v.data ∧ (t.dev.dirLine line).st = 0 ∧
        (t.dev.dirLine line).gen = (x.gen + 1) % 65536) ∧
      (x.gen ≠ v.gen → ∃ t, exec (.writeBack p) s = .next t ∧ (t.dev.pe p).evb = vs ∧ t.dev.eng.pim = s.dev.eng.pim ∧
        t.dev.dirLine line = x)) ∧
    (∀ c, x.st = 2 → x.owner = p.val → e.cached line = some c → ∃ t, exec (.noncachingRead line) s = .next t ∧
      t.dev.eng.pim = Mem.setBytes 0 s.dev.eng.pim (line * 64) c.data ∧ (t.dev.dirLine line).st = 1 ∧
      (t.dev.dirLine line).sharers = [p.val] ∧ ((t.dev.pe p).cached line).map (fun c => (c.owned, c.data)) = some (false, c.data)) ∧
    (∀ a bs, a / 64 = line → bs ≠ [] → a % 64 + bs.length ≤ 64 → x.st ≠ 2 → ∃ t, exec (.noncachingWrite a bs) s = .next t ∧
      t.dev.eng.pim = Mem.setBytes 0 s.dev.eng.pim a bs ∧ (t.dev.dirLine line).st = 0 ∧ (t.dev.dirLine line).sharers = [] ∧
      (p.val ∈ x.sharers → (t.dev.pe p).cached line = none))

/-! ## The switch and the MACs at work (12, 13) -/

/-- From R302, R304, R309, R312 to R315, R322, R325, R327, R341 and R344 to R350, with no packet waiting for the UDP port: a frame that
fails the checks of a MAC counts where Table 13.6 says and goes nowhere else; a good one of a class below 7 for one port with room counts
in its MAC and joins the back of that port's galley; a classification decides before the frame is whole; a free MAC sends a pause frame
first, and else the head of its highest ungated galley; a frame that has left counts and ends; a pause frame holds its MAC and a hold ends
in time; links, the link-down hold, refresh, table ages, pipes and retiring banks do as their rules say. Events are told while a slot is
free and the Compositor does not restart. -/
def Obligations.SwitchRows : Prop :=
  ∀ (s : State) (m : Nat) (b : List Byte) (err : Bool), m < 6 → m < s.dev.macs.length → (s.dev.port 3).out = [] →
    let d := s.dev
    let p := d.macPort m
    let x := d.mac m
    let n (t : State) (i : Nat) : Nat := (t.dev.mac m).counters.getD i 0
    let counts (t : State) (i k : Nat) : Prop := n t i = (n s i + k) % 2 ^ 64
    let max_ := (d.cfg.macs.getD m {}).maxFrame
    let at_ (v : Nat) (t : State) : Prop := t.dev.tick = max d.tick v
    let told (t : State) (up : Nat) : Prop := ∃ e ∈ t.dev.verind.events.drop d.verind.events.length, e.op = 0xF006 ∧ e.fid = 0x0100 + m ∧
      byteAt e.body 0 = up
    x.counters.length = 14 →
    (d.macUp m = true → d.swc.rx.getD p none = none →
      (∀ i, i = (if !fcsGood b then 2 else if err then 3 else if b.length < 64 then 4 else if max_ < b.length then 5 else 0) → i ≠ 0 →
        ∃ t, exec (.frameReceive m b err) s = .next t ∧ counts t i 1 ∧ t.dev.swc.frames = d.swc.frames ∧ t.dev.swc.galleys = d.swc.galleys) ∧
      (∀ o, o < 6 → let r := d.classifyFrame p b none none
        fcsGood b = true → err = false → 64 ≤ b.length → b.length ≤ max_ → beVal (slice b 12 2) ≠ 0x8808 → d.ptpTaken m b = false →
        d.inRing m = false → d.swcUp = true → r.dropped = false → r.cls < 7 → r.dests = 2 ^ o → (∀ f ∈ d.swc.frames, f.id < d.swc.ids) →
        slugsFor b.length ≤ d.freeSlugs → (d.cfg.ports.getD p {}).limit = 0 → (d.swc.gal.getD (o * 8 + r.cls) {}).limit = 0 →
        d.tooLong o r.cls r.vid b = false → d.swc.galleys.length = 64 →
        (∀ f ∈ d.funcs, 0x0700 ≤ f.fid → f.fid < 0x0900 → f.st ≠ 2) → ∃ t, exec (.frameReceive m b err) s = .next t ∧
          counts t 0 1 ∧ counts t 1 b.length ∧ ∃ e, t.dev.swc.galley (o * 8 + r.cls) = d.swc.galley (o * 8 + r.cls) ++ [e] ∧
            e.mirror = none ∧ (t.dev.swc.frame e.frame).bytes = b ∧ (t.dev.swc.frame e.frame).ing = p)) ∧
    (d.macUp m = true → d.swcUp = true → frType b ≠ 0x8808 → d.inRing m = false → d.ptpTaken m b = false → d.swc.switchover = none →
      (d.classifyFrame p b none none).cls < 7 → p < d.swc.rx.length → ∃ t, exec (.classificationPoint m b) s = .next t ∧
        t.dev.swc.rx.getD p none = some { (d.classifyFrame p b none none) with id := d.swc.ids }) ∧
    (d.macUp m = true → d.islandUp 0x08 = true → x.tx = none →
      (∀ q, x.pausePend = some q → ∃ t, exec (.egressScheduling m) s = .next t ∧ (t.dev.mac m).pausePend = none ∧
        (t.dev.mac m).tx = some { kind := 2, bytes := d.pauseFrame m q, start := d.tick }) ∧
      (∀ c e rest, x.pausePend = none → d.expressNext p = none → c < 8 → (∀ k, k < 8 → (d.swc.gal.getD (p * 8 + k) {}).gated = false ∧
          (d.swc.gal.getD (p * 8 + k) {}).sched = 0) → d.portMac p = m → (c = 7 ∨ d.held m = false) →
        d.swc.galley (p * 8 + c) = e :: rest → (∀ k, c < k → k < 8 → d.swc.galley (p * 8 + k) = []) →
        ∃ t, exec (.egressScheduling m) s = .next t ∧ t.dev.swc.galley (p * 8 + c) = rest ∧
          (t.dev.mac m).tx.map (fun y => (y.kind, y.frame, y.cls, y.start)) = some (0, e.frame, c, d.tick))) ∧
    (∀ y, d.macUp m = true → x.tx = some y → y.kind = 0 → y.aborted = false → y.mirror = none →
      ∃ t, exec (.frameTransmitted m) s = .next t ∧ (t.dev.mac m).tx = none ∧ (t.dev.mac m).sent = y.bytes ∧ counts t 8 1 ∧
        counts t 9 y.bytes.length ∧ at_ (y.start + (8 + y.bytes.length) * d.byteNs m) t) ∧
    (d.macUp m = true → fcsGood b = true → b.length = 64 → 64 ≤ max_ → frDa b = pauseDa → beVal (slice b 12 2) = 0x8808 → beVal (slice b 14 2) = 1 →
      bit (d.cfg.macs.getD m {}).flags 1 = true → let q := beVal (slice b 16 2)
      ∃ t, exec (.pauseFrameReceive m b) s = .next t ∧ counts t 6 1 ∧
        (t.dev.mac m).holdTo = if q = 0 then none else some (d.tick + q * 512 * d.bitNs m)) ∧
    (∀ v, x.holdTo = some v → ∃ t, exec (.pauseHoldExpiry m) s = .next t ∧ (t.dev.mac m).holdTo = none ∧ at_ v t) ∧
    (x.asserted = true → d.macUp m = true → x.pausePend = none → ∃ t, exec (.pauseRefresh m) s = .next t ∧
      (t.dev.mac m).pausePend = some 0xFFFF ∧ at_ (x.lastPause + 32768 * 512 * d.byteNs m / 8) t) ∧
    (d.isOn (0x0100 + m) = true → d.verind.freeSlots ≠ 0 → d.cmp.restarting = false → d.inRing m = false →
      (x.linkUp = true → ∃ t, exec (.linkDown m) s = .next t ∧ (t.dev.mac m).linkUp = false ∧ (t.dev.mac m).downAt = d.tick ∧
        counts t 12 1 ∧ told t 0) ∧
      (x.linkUp = false → ∃ t, exec (.linkUp m) s = .next t ∧ (t.dev.mac m).linkUp = true ∧ told t 1)) ∧
    (∀ q, q < 6 → d.portMac q = m → x.linkUp = false → x.expired = false → ∃ t, exec (.linkDownHoldExpiry q) s = .next t ∧
      (t.dev.mac m).expired = true ∧ (∀ c, c < 8 → t.dev.swc.galley (q * 8 + c) = []) ∧ at_ (x.downAt + 1000000 * d.cfg.dev.linkHoldMs) t) ∧
    (∀ i e, d.swc.way i = some e → e.static = false → ∃ t, exec (.addressAgeExpiry i) s = .next t ∧ t.dev.swc.way i = none ∧
      at_ (e.since + 300000000000) t ∧ ∀ j, j ≠ i → t.dev.swc.way j = d.swc.way j) ∧
    (∀ wrongA wrongB, d.pipeDown 0 = false → d.pipeDown 1 = false → d.pwr.st = 0 → (wrongA && wrongB) = false → d.swc.pipe ≤ 1 →
      let k := if wrongA then 0 else if wrongB then 1 else d.swc.pipe
      (d.island (0x09 + k)).id = 0x09 + k → (d.island (0x09 + k)).recovering = false → (d.island (0x09 + k)).stuck = false →
      ∃ t, exec (.pipeDisagreement wrongA wrongB) s = .next t ∧ (t.dev.island (0x09 + k)).st = 4 ∧ t.dev.swc.pipe = 1 - k) ∧
    (∀ k, k < 2 → k < d.swc.reload.length → d.islandUp (0x09 + k) = true → ∃ t, exec (.pipeReloadComplete k) s = .next t ∧
      t.dev.swc.reload.getD k true = false) ∧
    (∀ k, k < 8 → bit d.swc.draining k = true → d.swc.bankUsed k = 0 → ∃ t, exec (.bankRetired k) s = .next t ∧
      t.dev.cfg.retired = d.cfg.retired ||| 2 ^ k ∧ t.dev.swc.draining = d.swc.draining - 2 ^ k ∧
      t.dev.svc.retirements = (d.svc.retirements + 1) % 2 ^ 32 ∧
      ∀ w, (k, w) ∈ d.swc.bankCmds → w.recov = false → s.completed t w 0x0000)

/-! ## Multidrop buses and serial lines at work (14, 15, 16, 18) -/

/-- From R366, R375 to R378, R381, R383, R388, R389, R392, R395, R397, R399, R405, R407, R497, R498 and R500, for a controller that takes
part in bus traffic: a frame received counts down its error counter and joins the open ring or the lowest object that matches; one sent
counts, ends its request and leaves its stamp; errors count by Table 14.7 to bus-off, which ends with recovery; integration ends; a stuck
bus is recorded; a lock that expires gives its object the shadow frame; a rate detection ends in its completion; a dominant edge begins
the leave of a sleeping part; and reference messages, those missed and those sent in turn, and guardian violations move a time-triggered
bus as 18 says. -/
def Obligations.MultidropRows : Prop :=
  ∀ (s : State) (n : Nat), n < 4 → n < s.dev.mbs.length → n < s.dev.tts.length → 2 + n < s.dev.doms.length → (s.dev.mb n).objs.length = 128 →
    let d := s.dev
    let m := d.mb n
    let c := d.mbCfg n
    let tbl := (d.doms.getD (2 + n) {}).active
    let mb (t : State) : Mb := t.dev.mb n
    let hears : Prop := d.mbHears n = true ∧ m.asleep = false ∧ m.detect = none
    let on : Prop := d.isOn (0x0200 + n) = true
    let at_ (v : Nat) (t : State) : Prop := t.dev.tick = max d.tick v
    (∀ f : MbRx, hears → (f.fdf = true → c.fd = true) →
      let g := d.mbFrame n f false
      (c.objMode = false → d.mbCount n < c.entries → ∃ t, exec (.mbFrameReceived n f) s = .next t ∧ (mb t).rxcnt = (m.rxcnt + 1) % 2 ^ 32 ∧
        (mb t).ring = Mem.setBytes 0 m.ring (m.pi % c.entries * 80) (g.entry m.lostc) ∧ (mb t).pi = (m.pi + 1) % (64 * c.entries) ∧
        (mb t).lostc = 0 ∧ (mb t).recn = if c.listen then m.recn else if 127 < m.recn then 120 else m.recn - 1) ∧
      (c.objMode = false → c.entries ≤ d.mbCount n → ∃ t, exec (.mbFrameReceived n f) s = .next t ∧ (mb t).ring = m.ring ∧ (mb t).pi = m.pi ∧
        (mb t).overrun = (m.overrun + 1) % 2 ^ 32) ∧
      (∀ k, c.objMode = true → (List.range 128).find? (fun k => d.objMatches n k g) = some k → (d.mbObj n k).lock = none →
        ∃ t, exec (.mbFrameReceived n f) s = .next t ∧ (t.dev.mbObj n k).content = g.content ∧ (t.dev.mbObj n k).new = true ∧
          (t.dev.mbObj n k).lost = ((d.mbObj n k).lost || (d.mbObj n k).new))) ∧
    (∀ k q, d.ttLevel n = 0 → d.begunObj n = some k → (d.mbObj n k).req = some q → ∃ t, exec (.mbFrameSent n) s = .next t ∧
      (mb t).txcnt = (m.txcnt + 1) % 2 ^ 32 ∧ (mb t).tec = m.tec - 1 ∧ (t.dev.mbObj n k).txok = true ∧ (t.dev.mbObj n k).wait = none ∧
      (t.dev.mbObj n k).req.map (·.content) = (d.mbObj n k).wait.map (·.content) ∧
      (t.dev.mbObj n k).content = leb 4 (m.stampAt q.sof) ++ (d.mbObj n k).content.drop 4) ∧
    (∀ e : MbErr, hears → e.code ≠ 7 → c.listen = false → ∃ t, exec (.mbBusError n e) s = .next t ∧
      (mb t).lastErr = e.code % 16 + (if e.dataPhase then 128 else 0) ∧
      (e.transmitter = false → (mb t).recn = min 255 (m.recn + (if e.heavy then 8 else 1)) ∧ (mb t).tec = m.tec) ∧
      (e.transmitter = true → ¬ (e.ackPassive = true ∧ m.state = 1 ∧ e.code = 3) →
        (m.tec + 8 ≤ 255 → (mb t).tec = m.tec + 8 ∧ (mb t).recn = m.recn ∧ (mb t).busOff = false) ∧
        (255 < m.tec + 8 → (mb t).tec = 0 ∧ (mb t).recn = 0 ∧ (mb t).busOff = true))) ∧
    (on → m.busOff = true → ∃ t, exec (.busOffRecovery n) s = .next t ∧ (mb t).busOff = false) ∧
    (on → m.integ = true → m.asleep = false → ∃ t, exec (.integration n) s = .next t ∧ (mb t).integ = false) ∧
    (on → d.islandUp (0x20 + n) = true → m.asleep = false → ∃ t, exec (.stuckDominant n) s = .next t ∧ (mb t).lastErr = 8 ∧
      (mb t).integ = true ∧ s.logged t 7 (0x20 + n) (if (d.begunObj n).isSome then 2 else 9) 0) ∧
    (∀ k rd v, k < 128 → (d.mbObj n k).lock = some (rd, v) → ∃ t, exec (.lockExpiry n k) s = .next t ∧ (t.dev.mbObj n k).lock = none ∧
      (t.dev.mbObj n k).lexp = true ∧ at_ (v + 100000) t ∧
      ∀ x, (d.mbObj n k).shadow = some x → (t.dev.mbObj n k).content = x.1 ∧ (t.dev.mbObj n k).new = true) ∧
    (∀ y : MbDetect, m.detect = some y → y.cmd.recov = false →
      (y.accepted = none → ∃ t, exec (.rateDetectTimeout n) s = .next t ∧ (mb t).detect = none ∧ at_ y.stop t ∧ s.completed t y.cmd 0x02FF) ∧
      (∀ a k, y.accepted = some a → y.cand = some k → ∃ t, exec (.rateDetectTimeout n) s = .next t ∧ (mb t).detect = none ∧
        s.completed t y.cmd 0x0000)) ∧
    (on → m.asleep = true → c.wakeMode % 4 = 1 → (d.pwr.st = 2 ∨ d.pwr.st = 3) → d.pwr.leaving = none →
      ∃ t, exec (.dominantEdgeWake n) s = .next t ∧ t.dev.pwr.leaving ≠ none ∧ t.dev.pwr.lastWake = 0x10 + n) ∧
    (d.ttLevel n ≠ 0 → on →
      (∀ r : RefMsg, hears → ∃ t, exec (.referenceMessage n r) s = .next t ∧ (t.dev.tt n).cycle = r.count % 64 ∧
        (t.dev.tt n).lastRef = d.tick - r.sofAgo ∧ (t.dev.doms.getD (2 + n) {}).last = d.tick - r.sofAgo ∧
        (t.dev.doms.getD (2 + n) {}).next = 1) ∧
      ((d.tt n).st ≠ 3 → (d.tt n).st ≠ 0 → ∃ t, exec (.referenceMessageMissed n) s = .next t ∧ (t.dev.tt n).st = 1 ∧
        (t.dev.tt n).miss = ((d.tt n).miss + 1) % 2 ^ 32 ∧ at_ ((d.tt n).expected + tblCycle tbl / 200) t) ∧
      ((d.tt n).st ≠ 3 → tblRefObj tbl < 128 → m.busOff = false → m.integ = false → d.begunObj n = none →
        ∃ t, exec (.potentialMasterTimeout n) s = .next t ∧ (t.dev.tt n).cycle = ((d.tt n).cycle + 1) % 2 ^ tblMatrix tbl ∧
          (t.dev.mbObj n (tblRefObj tbl)).req.map (fun q => (q.begun, q.sof)) = some (true, t.dev.tick)) ∧
      ((d.func (0x0200 + n)).recovering = false → d.pwr.st = 0 → ∃ t, exec (.guardianViolation n) s = .next t ∧
        (t.dev.tt n).gviol = ((d.tt n).gviol + 1) % 2 ^ 32 ∧ (t.dev.func (0x0200 + n)).st = 4))

/-- From R415, R419, R420 and R422 to R426, for a serial line unit that runs: a character that is heard outside address mode joins the
receive FIFO, or counts as an overrun where 64 wait, and starts the idle count again; the last stop bit of the last character leaves DE to
fall after the lag, and its fall raises TXE; a gap that ends starts the character that waits; a gap threshold is raised once; and a line
that has been high lets the receiver take start bits. -/
def Obligations.SerialRows : Prop :=
  ∀ (s : State) (n : Nat), n < 4 → n < s.dev.sls.length → s.dev.slRuns n = true →
    let d := s.dev
    let x := d.sl n
    let c := d.slCfg n
    let sl (t : State) : Sl := t.dev.sl n
    let at_ (v : Nat) (t : State) : Prop := t.dev.tick = max d.tick v
    (∀ (ch : Nat) (pe fe : Bool) (ago : Nat), x.shut = false → x.breakShut = false → x.drainAt = none → bit x.ctl 2 = true → x.de = false →
      bit x.ctl 1 = false →
      (x.rxf.length < 64 → ∃ t, exec (.slCharacterReceived n ch pe fe false ago) s = .next t ∧ (sl t).idleFrom = d.tick ∧ (sl t).rxf = x.rxf ++
        [{ gap := d.slIdle n (d.tick - ago), brk := false, fe := fe, pe := pe && c.parity != 0, data := ch % 2 ^ c.dataBits }] ∧
        bit (sl t).evt 0 = true) ∧
      (64 ≤ x.rxf.length → ∃ t, exec (.slCharacterReceived n ch pe fe false ago) s = .next t ∧ (sl t).rxf = x.rxf ∧
        (sl t).overruns = (x.overruns + 1) % 2 ^ 32 ∧ bit (sl t).evt 2 = true)) ∧
    (∀ ch v, x.cur = some (ch, v) → x.txf = [] → ∃ t, exec (.slCharacterSent n) s = .next t ∧ (sl t).cur = none ∧ at_ (v + c.charNs) t ∧
      (sl t).idleFrom = t.dev.tick ∧ (sl t).fallAt = some (t.dev.tick + c.sixteenths x.lag)) ∧
    (∀ v, x.fallAt = some v → x.txf = [] → ∃ t, exec (.deLagExpiry n) s = .next t ∧ (sl t).de = false ∧ (sl t).fallAt = none ∧ at_ v t ∧
      bit (sl t).evt 1 = true) ∧
    (∀ v ch g rest, x.cur = none → x.startAt = some v → x.txf = (ch, g) :: rest → ∃ t, exec (.minimumGapExpiry n) s = .next t ∧
      (sl t).cur = some (ch, v) ∧ (sl t).txf = rest ∧ (sl t).de = true ∧ at_ (if x.de then v else v - c.sixteenths c.lead) t) ∧
    (x.cur = none → x.gapA ≠ 0 → x.firedA = false → (x.gapB = 0 ∨ x.firedB = true) → ∃ t, exec (.gapThreshold n) s = .next t ∧
      (sl t).firedA = true ∧ bit (sl t).evt 4 = true ∧ at_ (x.idleFrom + c.sixteenths x.gapA) t) ∧
    (∃ t, exec (.rxdHighCharacterTime n) s = .next t ∧ (sl t).shut = false ∧ (sl t).breakShut = false ∧ (sl t).rxf = x.rxf)

/-! ## Forme rings, meridians and impositions (18) -/

/-- From R469, R471 to R473, R476, R477, R480 to R483, R485 to R488, R490, R494 and R496. A cycle forme that a node does not process, and
every one at a master, goes on by the other port; the first of a cycle at an active, running node goes on processed if it is whole, and
else counts as missed; its meridian follows MDLY later; where none came, a substitute stands one cycle after the last, and the fourth ends
the node's activity; a master notes the copies that return, and its return limit sets RING; claims count, concede, or mark an equal; a
node that hears nothing begins to claim; a port loops; a master's and a bus master's meridians come at their instants; and an entry of the
imposition in use sets the gates or opens a bus window. No ring here has a take plate. -/
def Obligations.FormeRings : Prop :=
  ∀ (s : State) (r : Nat) (odd : Bool) (b : List Byte), r < 2 → r < s.dev.frs.length → r < s.dev.doms.length →
    (∀ o, frMac r o < s.dev.macs.length) → s.dev.frTakes r = false →
    let d := s.dev
    let f := d.fr r
    let c := d.frCfg r
    let up : Prop := d.isOn (frFid r) = true ∧ d.macUp (frMac r odd) = true
    let open_ : Prop := up ∧ (if odd then f.loopO else f.loopE) = false ∧ d.isForme r b = true ∧ isClaim b = false
    let sends (t : State) (o : Bool) (x : List Byte) : Prop := (t.dev.mac (frMac r o)).sent = x
    let at_ (t : State) (v : Nat) : Prop := t.dev.tick = max d.tick v
    let first : Prop := ∀ v, f.processed = some v → v + c.cycle / 2 ≤ d.tick
    let works : Prop := open_ ∧ f.isMaster = false ∧ first ∧ f.isActive = true ∧ f.run = true ∧ d.frBound r = true
    let p := d.processForme r b
    let claims : Prop := up ∧ d.isForme r b = true ∧ isClaim b = true
    let own : Prop := slice b 24 6 = leb 6 (d.cfg.macs.getD (frMac r false) {}).station ∨
      slice b 24 6 = leb 6 (d.cfg.macs.getD (frMac r true) {}).station
    (open_ → (f.isMaster = true ∨ ∃ v, f.processed = some v ∧ d.tick < v + c.cycle / 2) →
      ∃ t, exec (.cycleForme r odd b) s = .next t ∧ sends t (f.leaves odd) b ∧ (t.dev.fr r).processed = f.processed) ∧
    (works → p.2.2.2 = false →
      (fcsGood b = true → p.2.2.1 = false → ∃ t, exec (.cycleForme r odd b) s = .next t ∧
        sends t (f.leaves odd) (withFcs (noFcs p.1)) ∧ (t.dev.fr r).processed = some d.tick ∧
        (t.dev.fr r).merDue = some (d.tick + f.mdly) ∧ bit (t.dev.fr r).evt 0 = true ∧ (t.dev.fr r).missed = f.missed) ∧
      ((fcsGood b = false ∨ p.2.2.1 = true) → ∃ t, exec (.cycleForme r odd b) s = .next t ∧
        (t.dev.fr r).merDue = some (d.tick + f.mdly) ∧ bit (t.dev.fr r).evt 1 = true ∧ (t.dev.fr r).missed = wrap32 (f.missed + 1))) ∧
    ((d.func (frFid r)).st = 2 → d.islandUp (frIsland r) = true →
      (∀ v, f.isMaster = false → f.start ≠ 1 → f.merDue = some v → ∃ t, exec (.meridian r) s = .next t ∧ at_ t v ∧
        (t.dev.fr r).lastMer = v ∧ (t.dev.fr r).merDue = none ∧
        (t.dev.dom r).mcount = if (d.dom r).started then wrap32 ((d.dom r).mcount + 1) else (d.dom r).mcount) ∧
      (f.isMaster = true → f.start ≠ 1 → ∃ t, exec (.meridian r) s = .next t ∧ at_ t (d.orr.pReach f.master0) ∧
        (t.dev.fr r).lastMer = t.dev.tick ∧ (t.dev.fr r).master0 = f.master0 + c.cycle ∧
        (f.run = false → (t.dev.fr r).missed = wrap32 (f.missed + 1)))) ∧
    (d.isOn (frFid r) = true → f.isMaster = false → f.start ≠ 1 → f.merDue = none → f.processed.isSome = true → f.substitutes < 4 →
      ∃ t, exec (.substituteMeridian r) s = .next t ∧ (t.dev.fr r).lastMer = f.lastMer + c.cycle ∧
        (t.dev.fr r).missed = wrap32 (f.missed + 1) ∧ (t.dev.fr r).substitutes = f.substitutes + 1 ∧
        (f.substitutes = 3 → (t.dev.fr r).isActive = false ∧ (t.dev.fr r).start = 2)) ∧
    (∀ sent ret, f.isMaster = true → f.awaiting = true → fcsGood b = true → d.isForme r b = true → d.tick ≤ f.lastMer + c.cycle / 2 →
      d.macUp (frMac r ret) = true → ∃ t, exec (.returnedCopy r sent ret b) s = .next t ∧
        (b2n sent, b2n ret, slice b 14 (b.length - 18)) ∈ (t.dev.fr r).copies ∧
        (if sent then (t.dev.fr r).rttO else (t.dev.fr r).rttE) = min 65535 ((d.tick - f.lastMer) / 16)) ∧
    (f.isMaster = true → f.awaiting = true → ∃ t, exec (.returnLimit r) s = .next t ∧ at_ t (f.lastMer + c.cycle / 2) ∧
      (t.dev.fr r).awaiting = false ∧
      (f.copies = [] → (t.dev.fr r).missed = wrap32 (f.missed + 1) ∧ (t.dev.fr r).ring = 2) ∧
      (f.copies ≠ [] → bit (t.dev.fr r).evt 0 = true ∧
        (t.dev.fr r).ring = if f.copies.any (fun x => x.1 != x.2.1) then 0 else 1)) ∧
    (claims →
      (own → f.start = 1 → f.claimBack = false → ∃ t, exec (.claimForme r odd b) s = .next t ∧
        (t.dev.fr r).claimReturns = f.claimReturns + 1 ∧ (t.dev.fr r).claimBack = true) ∧
      (¬ own → f.start ≠ 1 → ∃ t, exec (.claimForme r odd b) s = .next t ∧ sends t (f.leaves odd) b ∧ (t.dev.fr r).start = f.start) ∧
      (¬ own → f.start = 1 → fld b 18 4 < c.claim → ∃ t, exec (.claimForme r odd b) s = .next t ∧ sends t (f.leaves odd) b ∧
        (t.dev.fr r).start = 2) ∧
      (¬ own → f.start = 1 → fld b 18 4 = c.claim → ∃ t, exec (.claimForme r odd b) s = .next t ∧ (t.dev.fr r).clmEq = true ∧
        bit (t.dev.fr r).evt 4 = true ∧ (t.dev.fr r).start = 1) ∧
      (¬ own → f.start = 1 → c.claim < fld b 18 4 → exec (.claimForme r odd b) s = .next (s.withDev d))) ∧
    (∀ v, f.listening = some v → d.isOn (frFid r) = true → c.role = 1 → f.start ≠ 1 → ∃ t, exec (.claimListenExpiry r) s = .next t ∧
      at_ t v ∧ (t.dev.fr r).start = 1 ∧ (t.dev.fr r).listening = none) ∧
    (d.isOn (frFid r) = true → (if odd then f.loopO else f.loopE) = false → ∃ t, exec (.portLoop r odd) s = .next t ∧
      (if odd then (t.dev.fr r).loopO else (t.dev.fr r).loopE) = true ∧ (t.dev.mac (frMac r odd)).tx = none ∧
      (f.isMaster = false → (t.dev.fr r).ring = if (if odd then f.loopE else f.loopO) then 2 else 1)) ∧
    (∀ n k, n < 4 → n < d.tts.length → n < d.mbs.length → d.ttLevel n ≠ 0 → d.isOn (mbFid n) = true → (d.tt n).st = 3 →
      k = tblRefObj (d.dom (2 + n)).active → k ≤ 127 → k < (d.mb n).objs.length → (d.mb n).busOff = false → (d.mb n).integ = false →
      d.begunObj n = none → ∃ t, exec (.meridian (2 + n)) s = .next t ∧ at_ t ((d.tt n).lastRef + tblCycle (d.dom (2 + n)).active) ∧
        (t.dev.mbObj n k).req.map (fun q => (q.begun, q.sof)) = some (true, t.dev.tick) ∧
        (t.dev.tt n).cycle = ((d.tt n).cycle + 1) % 2 ^ tblMatrix (d.dom (2 + n)).active) ∧
    (∀ dom i e, dom < d.doms.length →
      (tblEntries (d.dom dom).active).find? (fun e => decide ((d.dom dom).next ≤ e.1) && enApplies e.2 (d.basicCount dom)) = some (i, e) →
      (dom = r → d.isOn (frFid r) = true → enKind e = 1 → d.gateDomain = some r → ∃ t, exec (.impositionEntry r) s = .next t ∧
        at_ t (d.entryTick r e) ∧ (t.dev.dom r).next = i + 1 ∧ t.dev.swc.gates = (List.range 8).map (fun p => byteAt e (8 + p))) ∧
      (∀ n, n < 4 → n < d.tts.length → dom = 2 + n → d.ttLevel n ≠ 0 → d.isOn (mbFid n) = true → 4 ≤ enKind e →
        ∃ t, exec (.impositionEntry dom) s = .next t ∧ at_ t (d.entryTick dom e) ∧ (t.dev.dom dom).next = i + 1 ∧
          (t.dev.tt n).window = some (enKind e, enObj e, t.dev.tick + enLen e)))

/-! ## The Orrery (17) -/

/-- From R432, R439, R442 to R450, R454, R455, R458 to R461: a master chosen is followed, and one lost for its loss time ends in
occultation with its event; a measurement within the window corrects without a step; a master port sends Sync under the next sequence
number, and a part with no master is then grandmaster; a pending step takes effect at its instant and counts an epoch only backward; the
holdover code rises at each decade; a walk ends with P at Orrery time; pulses rise and fall by P; and an edge at an event input is
captured, or counts in MISS where it comes too soon or its ring has no place. Events are told while slots are free and the Compositor does
not restart. -/
def Obligations.TimeRows : Prop :=
  ∀ (s : State),
    let d := s.dev
    let o := d.orr
    let at_ (t : State) (v : Nat) : Prop := t.dev.tick = max d.tick v
    let told (t : State) (kind : Nat) : Prop := ∃ e ∈ t.dev.verind.events.drop d.verind.events.length, e.op = 0xF005 ∧ e.fid = 0x0600 ∧
      byteAt e.body 0 = kind
    let heard (x : PtpRx) (ty : Nat) : Prop := ∃ h, d.ptpAt x.bytes 319 = some h ∧ d.ptpPort x.mac = true ∧
      byteAt x.bytes (h + 4) = d.cfg.time.domain ∧ byteAt x.bytes (h + 1) % 16 = 2 ∧ byteAt x.bytes h % 16 = ty
    (∀ x ident ann syn, heard x 11 → x.choice = .master ident ann syn → x.signal = false → x.delay = none → x.offset = none →
      d.cfg.time.clockType ≠ 3 → -3 ≤ ann → ann ≤ 4 → -7 ≤ syn → syn ≤ 1 →
      ∃ t, exec (.ptpMessageReceived x) s = .next t ∧
        t.dev.orr.master.map (fun m => (m.ident, m.loss, m.port)) = some (ident, max (3 * logNs ann) (3 * logNs syn), x.mac) ∧
        t.dev.orr.lastSignal = d.tick ∧ t.dev.orr.grand = false) ∧
    (∀ x m n, heard x 0 → x.choice = .keep → x.signal = true → x.delay = none → x.offset = some n → (∀ y ∈ o.syncs, y.1 ≠ x.mac) →
      o.master = some m → o.step = none → o.refLost = false → o.ready = true → n.natAbs ≤ d.cfg.time.slewWindow * 1000 →
      ∃ t, exec (.ptpMessageReceived x) s = .next t ∧ t.dev.orr.lastAcc = some d.tick ∧ t.dev.orr.lastOffset = n ∧
        t.dev.orr.lastSignal = d.tick ∧ t.dev.orr.step = none ∧ t.dev.orr.occ = false ∧ t.dev.orr.epoch = o.epoch) ∧
    (∀ m, d.ptpMaster m = true → ∃ t, exec (.ptpMessageTransmit m .sync) s = .next t ∧
      (t.dev.ptpNext m 0).1 = ((d.ptpNext m 0).1 + 1) % 65536 ∧ (o.master = none → t.dev.orr.grand = true)) ∧
    (∀ p, o.step = some p → p.target = none → o.occ = false → d.pwr.alarm = none → ∃ t, exec .stepInstant s = .next t ∧ at_ t p.at_ ∧
      t.dev.orr.step = none ∧ t.dev.orr.epoch = (if p.corr < 0 then (o.epoch + 1) % 65536 else o.epoch)) ∧
    (∀ m, o.master = some m → d.timeOn = true → o.occ = false → 2 ≤ d.verind.freeSlots → d.cmp.restarting = false →
      ∃ t, exec .lossTimeExpiry s = .next t ∧ at_ t (o.lastSignal + m.loss) ∧ t.dev.orr.master = none ∧ t.dev.orr.occ = true ∧ told t 4) ∧
    (∀ v, o.lastAcc = some v → 0x30 ≤ o.quality → o.quality ≤ 0x34 → d.verind.freeSlots ≠ 0 → d.cmp.restarting = false →
      ∃ t, exec .holdoverQualityStep s = .next t ∧ at_ t (v + 10 ^ (o.quality - 0x2F) * 1000000000) ∧
        t.dev.orr.quality = o.quality + 1 ∧ told t 2) ∧
    (o.walk ≠ 0 → 1000000000 ≤ (o.rebase d.tick).pns → ∃ t, exec .walkStop s = .next t ∧ t.dev.orr.walk = 0 ∧
      t.dev.orr.gap t.dev.orr.at_ = 0) ∧
    (∀ i, i < o.pulses.length →
      let p := o.pulses.getD i {}
      (p.active = true → p.next = none → ∃ t, exec (.pulseEdge i) s = .next t ∧ at_ t (o.pReach (p.leadP + p.cfg.width)) ∧
        (t.dev.orr.pulses.getD i {}).active = false ∧ (t.dev.orr.pulses.getD i {}).high = bit p.cfg.flags 1) ∧
      (p.active = false → p.next = none → d.pulsesRun = true → bit p.cfg.flags 0 = true →
        let v := pNext (o.pOf d.tick + 1) p.cfg.phase p.cfg.period
        ∃ t, exec (.pulseEdge i) s = .next t ∧ at_ t (o.pReach v) ∧ (t.dev.orr.pulses.getD i {}).active = true ∧
          (t.dev.orr.pulses.getD i {}).leadP = v ∧ (t.dev.orr.pulses.getD i {}).high = !(bit p.cfg.flags 1))) ∧
    (∀ i rising, i < 4 → i < o.evs.length → d.islandUp 0x03 = true → (if rising then bit (d.cfg.time.capture.getD i {}).edge 0
        else bit (d.cfg.time.capture.getD i {}).edge 1) = true →
      let e := o.evs.getD i {}
      let c := d.cfg.time.capture.getD i {}
      let far : Prop := ∀ v, e.last = some v → v + 1000 ≤ d.tick
      (∀ v, e.last = some v → d.tick < v + 1000 → ∃ t, exec (.eventCapture i rising) s = .next t ∧
        t.dev.orr.evs.getD i {} = { e with miss := min 255 (e.miss + 1) }) ∧
      (far → d.isOn (ringFid c.ring) = false → ∃ t, exec (.eventCapture i rising) s = .next t ∧
        t.dev.orr.evs.getD i {} = { last := some d.tick, miss := min 255 (e.miss + 1) }) ∧
      (far → d.isOn (ringFid c.ring) = true → (d.ringCfg c.ring).dir = 1 →
        ((d.setEv i (fun e => { e with last := some d.tick })).ringPut c.ring (.island 0x03) 3 i
          (captureData i e.miss rising d.timeNow)).1 = true →
        ∃ t, exec (.eventCapture i rising) s = .next t ∧ t.dev.orr.evs.getD i {} = { last := some d.tick, miss := 0 }))

/-! ## Power states (19) -/

/-- From R503, R505, R509 to R517, R519, R520, R546 and R577: the state that the selection chooses is entered, or a wake source abandons
its entry with its event; HIBERNATE stops everything but AON and the TAP and lets PWR_EN fall; the deadline that ends a state begins its
leave in time, and the leave ends in RUN; the alarm fires once, on the first edge of AON's clock; a WAKE pin wakes by its mode; PWR_EN
rises at its instant, a rail that is late lowers it for 1 s, and good rails start the part; and a challenge lapses after 60 s. Events are
told while a slot is free and the Compositor does not restart. -/
def Obligations.PowerStates : Prop :=
  ∀ (s : State),
    let d := s.dev
    let w := d.pwr
    let at_ (t : State) (v : Nat) : Prop := t.dev.tick = max d.tick v
    let told (t : State) (src left result : Nat) : Prop := ∃ e ∈ t.dev.verind.events.drop d.verind.events.length, e.op = 0xF007 ∧
      e.fid = 0 ∧ e.body = leb 1 src ++ leb 1 left ++ leb 2 result
    let ready : Prop := d.start.phase = .ready ∧ w.leaving = none
    let slot : Prop := d.verind.freeSlots ≠ 0 ∧ d.cmp.restarting = false
    let sleeping : Prop := (w.st = 2 ∨ w.st = 3) ∧ w.leaving = none
    (ready → w.st < 2 → d.choose ≠ w.st → d.choose ≠ 4 → ∃ t, exec (.powerStateEntry none) s = .next t ∧ t.dev.pwr.st = d.choose ∧
      (2 ≤ d.choose → ∀ i ∈ d.islands, i.st = 2 → ∃ j ∈ t.dev.islands, j.id = i.id ∧ j.st = napState d.choose i.id)) ∧
    (∀ src, ready → w.st < 2 → (d.choose = 2 ∨ d.choose = 3) → slot → ∃ t, exec (.powerStateEntry (some src)) s = .next t ∧
      t.dev.pwr.st = 0 ∧ t.dev.pwr.lastWake = src ∧ told t src w.st 0x0000) ∧
    (ready → w.st < 2 → d.choose = 4 → ∃ t, exec (.hibernateEntry .completes) s = .next t ∧ t.dev.start.phase = .hibernate ∧
      t.dev.pwr.st = 4 ∧ t.dev.pwr.pwrEn = false ∧ t.dev.pwr.raiseAt = none ∧ t.dev.eng = {} ∧ t.dev.verind = {} ∧
      (∀ i ∈ t.dev.islands, i.id ≠ 0 → i.id ≠ 0x0F → i.st = 0)) ∧
    (∀ e, d.earliest w.st = some e → w.leaving = none → w.raiseAt = none →
      (w.st = 1 → ∃ t, exec .deadlineExit s = .next t ∧ t.dev.pwr.st = 0 ∧ at_ t (e - usNs d.cfg.dev.guardUs - 200)) ∧
      ((w.st = 2 ∨ w.st = 3) → ∃ t, exec .deadlineExit s = .next t ∧ at_ t (e - usNs d.cfg.dev.guardUs - exitLatency w.st) ∧
        (∃ v, t.dev.pwr.leaving = some v ∧ t.dev.tick ≤ v ∧ v ≤ t.dev.tick + exitLatency w.st) ∧
        (minList d.hostDeadlines = some e → slot → told t 0x20 w.st 0x0000) ∧
        (minList d.hostDeadlines ≠ some e → t.dev.verind.events = d.verind.events))) ∧
    (∀ v, w.leaving = some v → d.returnToRun.choose = 0 →
      ∃ t, exec .returnToRun s = .next t ∧ at_ t v ∧ t.dev.pwr.st = 0 ∧ t.dev.pwr.leaving = none ∧
        ∀ i ∈ t.dev.islands, i.st ≠ 3 ∧ i.st ≠ 5) ∧
    (∀ a, w.alarm = some a → d.start.phase = .ready → d.start.osc32k = true → w.st ≠ 4 → slot →
      (a.absolute = false → ∃ t, exec .alarm s = .next t ∧ max d.tick a.at_ ≤ t.dev.tick ∧ t.dev.tick ≤ max d.tick (a.at_ + 30518) ∧
        t.dev.pwr.alarm = none ∧ told t 0 w.st 0x0000) ∧
      (a.absolute = true → a.epoch ≠ d.orr.epoch → ∃ t, exec .alarm s = .next t ∧ t.dev.pwr.alarm = none ∧
        told t 0 w.st stEpochChanged)) ∧
    (∀ a, w.alarm = some a → d.start.phase = .hibernate → d.start.osc32k = true → w.st = 4 → a.absolute = false → w.wakeEvent = none →
      w.pwrEn = false → w.raiseAt = none → ∃ t, exec .alarm s = .next t ∧ t.dev.pwr.alarm = none ∧
        t.dev.pwr.wakeEvent = some (0, 4, 0x0000) ∧ t.dev.pwr.raiseAt = some (max t.dev.tick (w.enSince + 1000000))) ∧
    (∀ i high, i < 4 → bit d.cfg.dev.wakeEnable i = true → bit d.cfg.dev.wakeLow i = !high → sleeping → slot →
      (∃ t, exec (.wakePin i high none) s = .next t ∧ told t (1 + i) w.st 0x0000 ∧ t.dev.pwr.lastWake = 1 + i ∧
        t.dev.pwr.leaving.isSome = true) ∧
      (∀ n, bit d.cfg.dev.wakeEdge i = true → n < 50 → ∃ t, exec (.wakePin i high (some n)) s = .next t ∧
        t.dev.pwr.st = w.st ∧ t.dev.pwr.leaving = none ∧ t.dev.verind.events = d.verind.events)) ∧
    (d.start.phase = .hibernate →
      (∀ v, w.raiseAt = some v → ∃ t, exec .pwrEnRaise s = .next t ∧ at_ t v ∧ t.dev.pwr.pwrEn = true ∧
        t.dev.pwr.enSince = t.dev.tick ∧ t.dev.pwr.raiseAt = none) ∧
      (w.pwrEn = true → ∃ t, exec .railTimeout s = .next t ∧ at_ t (w.enSince + 20000000) ∧ t.dev.pwr.pwrEn = false ∧
        t.dev.pwr.raiseAt = some (t.dev.tick + 1000000000) ∧ t.dev.pwr.attempts = w.attempts + 1) ∧
      (∀ x, w.pwrEn = true → d.start.bootSel ≠ 3 → x.testFails < 2 → ∃ t, exec (.railGood x) s = .next t ∧
        t.dev.start.phase = .ready ∧ t.dev.start.cause = 2)) ∧
    (∀ c v, d.sec.challenge = some (c, v) → exec .challengeExpiry s =
      .next (s.withDev { d with tick := max d.tick (v + 60000000000), sec := { d.sec with challenge := none } }))

/-! ## The TAP (21, 22) -/

/-- From R545 to R548, R564 and R565, Tables 21.9 and 22.8, while the TAP has its supply, PORST# is high and the TAP is out of its reset:
each instruction is selected with what its data register captures; the private ones capture ones while the part is locked but for the
challenge and the lock itself; the debug reads give what DBG_ADDR names once unlocked, DBG_DATA moving it on by 4 and DBG_FLOG going to
the next record; EXTEST drives only in Hold; and Test-Logic-Reset selects IDCODE. -/
def Obligations.TapInstructions : Prop :=
  ∀ (s : State) (pins cells : List Bool) (v : BitVec 40) (sig : List Byte),
    let d := s.dev
    let t := s.tap
    let on (ph : Phase) : Prop := d.start.phase = ph ∧ (d.island 0x0F).st = 2 ∧ d.start.trstLow = false ∧ (ph = .hibernate → d.pwr.pwrEn = true)
    let open_ : Prop := on .ready ∧ d.sec.unlocked = true ∧ d.cmp.restarting = false
    let tells (i : Instr) (u : Tap) : Prop := exec i s = .next { s with tap := u, dev := d.burn d }
    let cells_ : List Bool := (cells ++ List.replicate 300 false).take 300
    (∀ ph, on ph → ph ≠ .aonOff → ph ≠ .porstLow → ph ≠ .railBad →
      tells .idcode { t with ir := 0x02, dr := [0x4F#8, 0x0B#8, 0x88#8, 0x10#8] } ∧
      tells .clamp { t with ir := 0x03, dr := [0#8] } ∧ tells .highz { t with ir := 0x04, dr := [0#8] } ∧
      tells .bypass { t with ir := 0xFF, dr := [0#8] } ∧
      tells (.samplePreload pins cells) { t with ir := 0x01, dr := cellBytes (pins.take 300), boundary := cells_ } ∧
      (ph = .hold → tells (.extest pins cells) { t with ir := 0x00, dr := cellBytes (pins.take 300), boundary := cells_ }) ∧
      (ph ≠ .hold → tells (.extest pins cells) { t with ir := 0x00, dr := [0#8] }) ∧
      tells .dbgState { t with ir := 0x42, dr := leb 1 (b2n d.sec.unlocked) } ∧
      (∀ c x, d.sec.challenge = some (c, x) → tells .dbgChal { t with ir := 0x40, dr := (c ++ zeros 32).take 32 }) ∧
      tells (.dbgAddr v) { t with ir := 0x43, dr := if d.sec.unlocked then leb 5 t.dbgAddr else ones 5, dbgAddr := v.toNat / 4 * 4 } ∧
      (d.sec.unlocked = false → tells .dbgData { t with ir := 0x44, dr := ones 4 } ∧ tells .dbgIstat { t with ir := 0x45, dr := ones 8 } ∧
        tells .dbgFlog { t with ir := 0x46, dr := ones 32 } ∧ tells .dbgXstat { t with ir := 0x47, dr := ones 4 })) ∧
    (on .ready → d.cmp.restarting = false → d.sec.unlocked = false → ∃ u, exec (.dbgResp sig) s = .next u ∧ u.tap = { t with ir := 0x41, dr := ones 64 } ∧
      u.dev.sec.unlocked = (d.debugResponse ((sig ++ zeros 64).take 64)).1) ∧
    (open_ →
      (∀ a, a < 0x80000 → t.dbgAddr = 0x0700000000 + a → d.islandUp 7 = true →
        tells .dbgData { t with ir := 0x44, dr := Mem.getBytes 0 d.eng.pim a 4, dbgAddr := 0x0700000000 + (a + 4) }) ∧
      (∀ p a, p < 14 → a < 0x10000 → t.dbgAddr = (0x30 + p) * 2 ^ 32 + a → d.islandUp (0x30 + p) = true →
        tells .dbgData { t with ir := 0x44, dr := Mem.getBytes 0 (d.pe p).iram a 4, dbgAddr := (0x30 + p) * 2 ^ 32 + (a + 4) }) ∧
      (∀ i, i = t.dbgAddr / 2 ^ 32 → d.hasIsland i = true → i ≠ 0x0F →
        tells .dbgIstat { t with ir := 0x45, dr := (d.islandWords (d.island i) ++ zeros 8).take 8 } ∧
        ∃ u w, exec .dbgXstat s = .next u ∧ u.tap = { t with ir := 0x47, dr := leb 4 w } ∧ w / 4096 % 4096 = (d.island i).gen % 4096 ∧ w % 4096 = 0) ∧
      (∀ r, d.svc.log[t.flogIndex]? = some r →
        tells .dbgFlog { t with ir := 0x46, dr := (r.bytes ++ zeros 32).take 32, flogIndex := t.flogIndex + 1 }) ∧
      (d.svc.log.length ≤ t.flogIndex → tells .dbgFlog { t with ir := 0x46, dr := (ones 32 ++ zeros 32).take 32 })) ∧
    (d.start.phase ≠ .aonOff → ∀ low, ∃ u, exec (.testLogicReset low) s = .next u ∧ u.tap = { t with ir := 2, dr := [], flogIndex := 0 } ∧
      u.dev.start.trstLow = low)

/-! ## The machine as a whole -/

/-- The block's step (task): with command `c` at the front of the queue, a step is `c` on the machine with the rest of the queue. -/
def Obligations.StepRunsTheFrontCommand : Prop :=
  ∀ (s : State) (c : Instr) (rest : List Instr), s.pending = c :: rest → step s = exec c { s with pending := rest }

/-- Every command completes in every state and leaves the queue alone, but for one that the spec forbids and gives no effect: PORST# low
for 1 µs or more and less than 10 µs (R578), which stops by name; and with no command the part idles for one period of 25 MHz, the model's
own choice (log entry 1), in which the monotonic tick advances by 40 (R429) unless AON has no supply. -/
def Obligations.CommandsComplete : Prop :=
  ∀ (s : State) (c : Instr),
    ((∀ ns, c = .porstAssert ns → ns < 1000 ∨ 10000 ≤ ns) → ∃ t, exec c s = .next t ∧ t.pending = s.pending) ∧
    (∀ ns, 1000 ≤ ns → ns < 10000 → exec (.porstAssert ns) s = .fault .porstWidth) ∧
    (s.pending = [] → step s = .next (if s.dev.start.phase = .aonOff then s else { s with dev := { s.dev with tick := s.dev.tick + 40 } }))

/-- The machine at reset has no supply: no command waits, IDCODE is selected, every function is OFF, every channel closed, no event, no
fault record and no revoked key; every memory of the engines, of PIM and of the host rings has its canonical form and lists nothing; and
the TAP is well formed. The values that no rule gives are the model's, log entries 2 and 3. -/
def Obligations.ResetState : Prop :=
  let d := State.reset.dev
  State.reset.pending = [] ∧ State.reset.tap.wf = true ∧ State.reset.tap.ir = 0x02 ∧ d.start.phase = .aonOff ∧ d.tick = 0 ∧
  d.funcs.all (fun f => f.st == 0) = true ∧ d.verind.chans.all (fun c => c.st == 0) = true ∧ d.verind.events = [] ∧ d.svc.log = [] ∧
  d.sec.revoked.all (fun b => !b) = true ∧ d.sec.unlocked = false ∧ d.eng.pim = [] ∧ d.hst.mem = [] ∧
  d.eng.pes.all (fun e => e.iram.isEmpty && e.dram.isEmpty && !e.running) = true ∧ d.eng.pes.length = 14 ∧ d.eng.les.length = 12

/-- From R548, R564 and R565, Tables 21.9 and 22.8: in every step the TAP stays one of those tables: 300 boundary cells, an instruction of
theirs with a data register of its length, and a word address in DBG_ADDR. -/
def Obligations.TapStaysWellFormed : Prop :=
  ∀ (s t : State), s.tap.wf = true → step s = .next t → t.tap.wf = true

/-- From R538: a revoked key slot stays revoked in every step, whatever the part loses. -/
def Obligations.RevokedStaysRevoked : Prop :=
  ∀ (s t : State) (k : Nat), step s = .next t → s.dev.sec.revoked.getD k false = true → t.dev.sec.revoked.getD k false = true

/-- From R548 and R549: while the TAP is out of its reset, the private read instructions change nothing but the TAP itself, the counter
from which open bytes are drawn, and no cell of the boundary register. -/
def Obligations.DebugReadsChangeNothing : Prop :=
  ∀ (s : State) (c : Instr), (c = .dbgData ∨ (∃ v, c = .dbgAddr v) ∨ c = .dbgIstat ∨ c = .dbgFlog ∨ c = .dbgXstat) →
    s.dev.start.trstLow = false → (s.dev.island 0x0F).st = 2 → s.dev.tapOn = true →
    ∃ u n, exec c s = .next { s with tap := u, dev := { s.dev with free := n } } ∧ u.boundary = s.tap.boundary

/-- What rows that belong to one part leave alone. The rows of the Orrery's expiries and pulses, of power, of the alarm, of a WAKE pin and
of the challenge change no engine, function, plate, memory, record, switch, ring, bus, line or resource; and the rows of serial line `n`
change beside that line only the tick, open values, and the events and captures of the engine that it tells: no other line, no memory
byte, and no other part. -/
def Obligations.RowFrames : Prop :=
  ∀ (s t : State) (c : Instr), exec c s = .next t →
    let d := s.dev
    let e := t.dev
    let same : Prop := t.tap = s.tap ∧ e.alm = d.alm ∧ e.typ = d.typ ∧ e.cfg = d.cfg ∧ e.funcs = d.funcs ∧ e.quoins = d.quoins ∧
      e.swc = d.swc ∧ e.macs = d.macs ∧ e.frs = d.frs ∧ e.doms = d.doms ∧ e.tts = d.tts ∧ e.mbs = d.mbs ∧ e.svc = d.svc ∧
      e.hst.mem = d.hst.mem ∧ e.hst.rings = d.hst.rings ∧ e.hst.windows = d.hst.windows
    ((c = .holdoverQualityStep ∨ c = .walkStop ∨ (∃ i, c = .pulseEdge i) ∨ c = .lossTimeExpiry ∨ c = .challengeExpiry ∨ c = .deadlineExit ∨
        c = .alarm ∨ (∃ i h n, c = .wakePin i h n) ∨ c = .pwrEnRaise ∨ c = .railTimeout) →
      same ∧ e.eng = d.eng ∧ e.sls = d.sls ∧ e.islands = d.islands ∧ e.crossings = d.crossings) ∧
    (∀ n, (∃ x p f b a, c = .slCharacterReceived n x p f b a) ∨ c = .slCharacterSent n ∨ c = .deLagExpiry n ∨ c = .gapThreshold n ∨
        c = .minimumGapExpiry n ∨ c = .rxdHighCharacterTime n →
      same ∧ e.verind = d.verind ∧ e.orr = d.orr ∧ e.pwr = d.pwr ∧ e.sec = d.sec ∧ e.eng.pim = d.eng.pim ∧ e.eng.plates = d.eng.plates ∧
        e.eng.les = d.eng.les ∧ (∀ m, m ≠ n → e.sls.getD m {} = d.sls.getD m {}) ∧
        ∀ p, (e.pe p).iram = (d.pe p).iram ∧ (e.pe p).dram = (d.pe p).dram)
end

