-- ==== Sys2Proof/Laws/Bytes.lean ====
section
/-! SUPPORT. The laws of byte lists and of list updates. -/

namespace Sys2Proof.Machine

@[simp] theorem leb_length (n v : Nat) : (leb n v).length = n := by
  induction n generalizing v with
  | zero => rfl
  | succ n ih => simp [leb, ih]

@[simp] theorem zeros_length (n : Nat) : (zeros n).length = n := by simp [zeros]

@[simp] theorem upd_length {α : Type} (xs : List α) (i : Nat) (f : α → α) : (upd xs i f).length = xs.length := by
  induction xs generalizing i with
  | nil => rfl
  | cons x xs ih => cases i <;> simp [upd, ih]

/-- An element that exists reads as updated. -/
theorem upd_getD_same {α : Type} (xs : List α) (i : Nat) (f : α → α) (a : α) (h : i < xs.length) :
    (upd xs i f).getD i a = f (xs.getD i a) := by
  induction xs generalizing i with
  | nil => simp at h
  | cons x xs ih =>
    cases i with
    | zero => rfl
    | succ i => simpa [upd] using ih i (by simpa using h)

/-- Every other element stays. -/
theorem upd_getD_ne {α : Type} (xs : List α) (i j : Nat) (f : α → α) (a : α) (h : i ≠ j) :
    (upd xs i f).getD j a = xs.getD j a := by
  induction xs generalizing i j with
  | nil => rfl
  | cons x xs ih =>
    cases i <;> cases j
    · exact absurd rfl h
    · rfl
    · rfl
    · simpa [upd] using ih _ _ (by simpa using h)

/-- An update that leaves the element as it is changes nothing. -/
theorem upd_fix {α : Type} (xs : List α) (i : Nat) (f : α → α) (a : α) (h : f (xs.getD i a) = xs.getD i a) : upd xs i f = xs := by
  induction xs generalizing i with
  | nil => rfl
  | cons x xs ih =>
    cases i with
    | zero => simpa [upd] using h
    | succ i => simpa [upd] using ih i (by simpa using h)

/-- Two updates of one element are one. -/
theorem upd_upd {α : Type} (xs : List α) (i : Nat) (f g : α → α) : upd (upd xs i f) i g = upd xs i (fun x => g (f x)) := by
  induction xs generalizing i with
  | nil => rfl
  | cons x xs ih => cases i <;> simp [upd, ih]

/-- Updates that agree on the element agree. -/
theorem upd_congr {α : Type} (xs : List α) (i : Nat) (f g : α → α) (a : α) (h : f (xs.getD i a) = g (xs.getD i a)) :
    upd xs i f = upd xs i g := by
  induction xs generalizing i with
  | nil => rfl
  | cons x xs ih =>
    cases i with
    | zero => simpa [upd] using h
    | succ i => simpa [upd] using ih i (by simpa using h)

/-- One-time memory that is programmed again as it is stays. -/
@[simp] theorem orBits_self (xs : List Bool) : orBits xs xs = xs := by
  induction xs with
  | nil => rfl
  | cons x xs ih => simp [orBits, ih]

/-- A programmed bit stays programmed. -/
theorem orBits_mono (xs ys : List Bool) (i : Nat) (h : xs.getD i false = true) : (orBits xs ys).getD i false = true := by
  induction xs generalizing ys i with
  | nil => simp at h
  | cons x xs ih =>
    cases i with
    | zero => simp at h; simp [orBits, h]
    | succ i => simpa [orBits] using ih ys.tail i (by simpa using h)

end Sys2Proof.Machine
end

