-- ==== Sys2Proof/Laws/Mem.lean ====
section
/-! SUPPORT. The laws of the byte memories: a byte reads as it was written, every other one stays, and every operation keeps the
canonical form. -/

namespace Sys2Proof.Machine

/-- Below every entry of a memory from `lo` on, an address reads the default. -/
theorem Mem.get_below (d : Byte) (m : Mem) (lo a : Nat) (h : Mem.wfFrom d (some lo) m = true) (ha : a ≤ lo) : Mem.get d m a = d := by
  induction m generalizing lo with
  | nil => rfl
  | cons c m ih =>
    obtain ⟨k, v⟩ := c
    simp only [Mem.wfFrom, Bool.and_eq_true, decide_eq_true_eq] at h
    have : k ≠ a := by omega
    simp only [Mem.get, this, if_false]
    exact ih k h.2 (by omega)

/-- The byte written reads back. -/
theorem Mem.get_set_same (d : Byte) (m : Mem) (lo : Option Nat) (a : Nat) (b : Byte) (h : Mem.wfFrom d lo m = true) :
    Mem.get d (Mem.set d m a b) a = b := by
  induction m generalizing lo with
  | nil => by_cases hb : b = d <;> simp [Mem.set, Mem.get, hb]
  | cons c m ih =>
    obtain ⟨k, v⟩ := c
    simp only [Mem.wfFrom, Bool.and_eq_true, decide_eq_true_eq] at h
    simp only [Mem.set]
    split
    · split
      · rename_i hk hb
        have : k ≠ a := by omega
        simp [Mem.get, this, hb, Mem.get_below d m k a h.2 (by omega)]
      · simp [Mem.get]
    · split
      · rename_i hk
        split
        · rename_i hb
          rw [hb, hk]
          exact Mem.get_below d m k k h.2 le_rfl
        · simp [Mem.get]
      · rename_i hk
        have : k ≠ a := fun e => hk e.symm
        simp only [Mem.get, this, if_false]
        exact ih (some k) h.2

/-- Every other byte stays. -/
theorem Mem.get_set_ne (d : Byte) (m : Mem) (a x : Nat) (b : Byte) (hx : x ≠ a) : Mem.get d (Mem.set d m a b) x = Mem.get d m x := by
  have hx' : a ≠ x := fun e => hx e.symm
  induction m with
  | nil => by_cases hb : b = d <;> simp [Mem.set, Mem.get, hb, hx']
  | cons c m ih =>
    obtain ⟨k, v⟩ := c
    simp only [Mem.set]
    split
    · split <;> simp [Mem.get, hx']
    · split
      · rename_i hk
        have : k ≠ x := by rw [← hk]; exact hx'
        split <;> simp [Mem.get, this, hx']
      · simp [Mem.get, ih]

/-- The form above a bound holds above every lower bound. -/
theorem Mem.wfFrom_weaken (d : Byte) (m : Mem) (k : Nat) (lo : Option Nat) (h : Mem.wfFrom d (some k) m = true)
    (hl : ∀ l, lo = some l → l < k) : Mem.wfFrom d lo m = true := by
  cases m with
  | nil => rfl
  | cons c m =>
    simp only [Mem.wfFrom, Bool.and_eq_true, decide_eq_true_eq] at h ⊢
    refine ⟨⟨?_, h.1.2⟩, h.2⟩
    cases lo with
    | none => rfl
    | some l => simp only [decide_eq_true_eq]; have := hl l rfl; omega

/-- A write keeps the canonical form, above any bound below both the memory and the address. -/
theorem Mem.wfFrom_set (d : Byte) (m : Mem) (lo : Option Nat) (a : Nat) (b : Byte) (h : Mem.wfFrom d lo m = true)
    (hl : ∀ l, lo = some l → l < a) : Mem.wfFrom d lo (Mem.set d m a b) = true := by
  induction m generalizing lo with
  | nil =>
    by_cases hb : b = d
    · simp [Mem.set, hb, Mem.wfFrom]
    · cases lo <;> simp [Mem.set, hb, Mem.wfFrom]
      exact hl _ rfl
  | cons c m ih =>
    obtain ⟨k, v⟩ := c
    have h0 := h
    simp only [Mem.wfFrom, Bool.and_eq_true, decide_eq_true_eq] at h
    simp only [Mem.set]
    split
    · rename_i hk
      split
      · exact h0
      · rename_i hb
        cases lo <;> simp_all [Mem.wfFrom]
    · split
      · rename_i hk
        split
        · cases lo with
          | none =>
            cases m with
            | nil => rfl
            | cons e m => simp_all [Mem.wfFrom]
          | some l =>
            cases m with
            | nil => rfl
            | cons e m =>
              have h1 : l < k := by simpa using h.1.1
              have h2 : Mem.wfFrom d (some l) (e :: m) = true := by
                refine Mem.wfFrom_weaken d (e :: m) k (some l) h.2 ?_
                intro l' hl'
                cases hl'
                exact h1
              exact h2
        · subst hk
          cases lo <;> simp_all [Mem.wfFrom]
      · rename_i h1 h2
        have := ih (some k) h.2 (by intro l hl'; cases hl'; omega)
        cases lo <;> simp_all [Mem.wfFrom]

/-- A write keeps the canonical form. -/
theorem Mem.wf_set (d : Byte) (m : Mem) (a : Nat) (b : Byte) (h : Mem.wf d m = true) : Mem.wf d (Mem.set d m a b) = true :=
  Mem.wfFrom_set d m none a b h (by intro l hl; cases hl)

/-- A run of writes keeps the canonical form. -/
theorem Mem.wf_setBytes (d : Byte) (m : Mem) (a : Nat) (bs : List Byte) (h : Mem.wf d m = true) :
    Mem.wf d (Mem.setBytes d m a bs) = true := by
  induction bs generalizing m a with
  | nil => exact h
  | cons b bs ih => exact ih _ _ (Mem.wf_set d m a b h)

theorem Mem.wfFrom_filter (d : Byte) (p : Host.Cell → Bool) (m : Mem) (lo : Option Nat) (h : Mem.wfFrom d lo m = true) :
    Mem.wfFrom d lo (m.filter p) = true := by
  induction m generalizing lo with
  | nil => rfl
  | cons c m ih =>
    have h0 := h
    simp only [Mem.wfFrom, Bool.and_eq_true, decide_eq_true_eq] at h
    by_cases hp : p c = true
    · simp only [List.filter_cons, hp, if_true, Mem.wfFrom, Bool.and_eq_true, decide_eq_true_eq]
      exact ⟨h.1, ih (some c.1) h.2⟩
    · simp only [List.filter_cons, hp]
      refine Mem.wfFrom_weaken d _ c.1 lo (ih (some c.1) h.2) ?_
      intro l hl
      cases hl
      simpa using h.1.1

/-- Clearing a range keeps the canonical form. -/
theorem Mem.wf_clear (d : Byte) (m : Mem) (lo n : Nat) (h : Mem.wf d m = true) : Mem.wf d (Mem.clear m lo n) = true :=
  Mem.wfFrom_filter d _ m none h

/-- Bytes outside a run of writes stay. -/
theorem Mem.get_setBytes_out (d : Byte) (m : Mem) (a x : Nat) (bs : List Byte) (h : x < a ∨ a + bs.length ≤ x) :
    Mem.get d (Mem.setBytes d m a bs) x = Mem.get d m x := by
  induction bs generalizing m a with
  | nil => rfl
  | cons b bs ih =>
    simp only [List.length_cons] at h
    simp only [Mem.setBytes]
    rw [ih _ _ (by omega), Mem.get_set_ne d m a x b (by omega)]

/-- Byte `i` of a run of writes reads back. -/
theorem Mem.get_setBytes_in (d : Byte) (m : Mem) (a : Nat) (bs : List Byte) (i : Nat) (hi : i < bs.length) (h : Mem.wf d m = true) :
    Mem.get d (Mem.setBytes d m a bs) (a + i) = bs.getD i 0 := by
  induction bs generalizing m a i with
  | nil => simp at hi
  | cons b bs ih =>
    simp only [Mem.setBytes]
    cases i with
    | zero =>
      rw [Mem.get_setBytes_out d _ (a + 1) (a + 0) bs (by omega)]
      simpa using Mem.get_set_same d m none a b h
    | succ i =>
      have := ih (Mem.set d m a b) (a + 1) i (by simpa using hi) (Mem.wf_set d m a b h)
      rw [show a + (i + 1) = a + 1 + i by omega]
      simpa using this

@[simp] theorem Mem.getBytes_length (d : Byte) (m : Mem) (a n : Nat) : (Mem.getBytes d m a n).length = n := by
  induction n generalizing a with
  | zero => rfl
  | succ n ih => simp [Mem.getBytes, ih]

/-- A run of bytes written reads back. -/
theorem Mem.getBytes_setBytes (d : Byte) (m : Mem) (a : Nat) (bs : List Byte) (h : Mem.wf d m = true) :
    Mem.getBytes d (Mem.setBytes d m a bs) a bs.length = bs := by
  induction bs generalizing m a with
  | nil => rfl
  | cons b bs ih =>
    simp only [Mem.setBytes, List.length_cons, Mem.getBytes]
    rw [ih _ _ (Mem.wf_set d m a b h), Mem.get_setBytes_out d _ (a + 1) a bs (by omega), Mem.get_set_same d m none a b h]

end Sys2Proof.Machine
end

