-- ==== Sys2Proof/Laws/State.lean ====
section
/-! SUPPORT. What each update of the part leaves alone: every other field, by one equation a field. The equations rewrite, so that no proof
unfolds an update. -/

namespace Sys2Proof.Machine

@[simp] theorem Dev.burn_frame (old d : Dev) :
    (old.burn d).tick = d.tick ∧ (old.burn d).free = d.free ∧ (old.burn d).islands = d.islands ∧
    (old.burn d).crossings = d.crossings ∧ (old.burn d).toggles = d.toggles ∧ (old.burn d).quoins = d.quoins ∧
    (old.burn d).funcs = d.funcs ∧ (old.burn d).cmp = d.cmp ∧ (old.burn d).start = d.start ∧ (old.burn d).cfg = d.cfg ∧
    (old.burn d).verind = d.verind ∧ (old.burn d).hst = d.hst ∧ (old.burn d).alm = d.alm ∧ (old.burn d).typ = d.typ ∧
    (old.burn d).svc = d.svc ∧ (old.burn d).eng = d.eng ∧ (old.burn d).swc = d.swc ∧ (old.burn d).macs = d.macs ∧
    (old.burn d).orr = d.orr ∧ (old.burn d).frs = d.frs ∧ (old.burn d).doms = d.doms ∧ (old.burn d).tts = d.tts ∧
    (old.burn d).mbs = d.mbs ∧ (old.burn d).sls = d.sls ∧ (old.burn d).pwr = d.pwr :=
  ⟨rfl, rfl, rfl, rfl, rfl, rfl, rfl, rfl, rfl, rfl, rfl, rfl, rfl, rfl, rfl, rfl, rfl, rfl, rfl, rfl, rfl, rfl, rfl, rfl, rfl⟩

@[simp] theorem Dev.advanceTo_frame (d : Dev) (t : Nat) :
    (d.advanceTo t).free = d.free ∧ (d.advanceTo t).islands = d.islands ∧ (d.advanceTo t).crossings = d.crossings ∧
    (d.advanceTo t).toggles = d.toggles ∧ (d.advanceTo t).quoins = d.quoins ∧ (d.advanceTo t).funcs = d.funcs ∧
    (d.advanceTo t).cmp = d.cmp ∧ (d.advanceTo t).start = d.start ∧ (d.advanceTo t).cfg = d.cfg ∧ (d.advanceTo t).verind = d.verind ∧
    (d.advanceTo t).hst = d.hst ∧ (d.advanceTo t).alm = d.alm ∧ (d.advanceTo t).typ = d.typ ∧ (d.advanceTo t).svc = d.svc ∧
    (d.advanceTo t).eng = d.eng ∧ (d.advanceTo t).sec = d.sec ∧ (d.advanceTo t).swc = d.swc ∧ (d.advanceTo t).macs = d.macs ∧
    (d.advanceTo t).orr = d.orr ∧ (d.advanceTo t).frs = d.frs ∧ (d.advanceTo t).doms = d.doms ∧ (d.advanceTo t).tts = d.tts ∧
    (d.advanceTo t).mbs = d.mbs ∧ (d.advanceTo t).sls = d.sls ∧ (d.advanceTo t).pwr = d.pwr :=
  ⟨rfl, rfl, rfl, rfl, rfl, rfl, rfl, rfl, rfl, rfl, rfl, rfl, rfl, rfl, rfl, rfl, rfl, rfl, rfl, rfl, rfl, rfl, rfl, rfl, rfl⟩

@[simp] theorem Dev.setIsland_frame (d : Dev) (i : Nat) (f : Island → Island) :
    (d.setIsland i f).tick = d.tick ∧ (d.setIsland i f).free = d.free ∧ (d.setIsland i f).crossings = d.crossings ∧
    (d.setIsland i f).toggles = d.toggles ∧ (d.setIsland i f).quoins = d.quoins ∧ (d.setIsland i f).funcs = d.funcs ∧
    (d.setIsland i f).cmp = d.cmp ∧ (d.setIsland i f).start = d.start ∧ (d.setIsland i f).cfg = d.cfg ∧
    (d.setIsland i f).verind = d.verind ∧ (d.setIsland i f).hst = d.hst ∧ (d.setIsland i f).alm = d.alm ∧
    (d.setIsland i f).typ = d.typ ∧ (d.setIsland i f).svc = d.svc ∧ (d.setIsland i f).eng = d.eng ∧ (d.setIsland i f).sec = d.sec ∧
    (d.setIsland i f).swc = d.swc ∧ (d.setIsland i f).macs = d.macs ∧ (d.setIsland i f).orr = d.orr ∧ (d.setIsland i f).frs = d.frs ∧
    (d.setIsland i f).doms = d.doms ∧ (d.setIsland i f).tts = d.tts ∧ (d.setIsland i f).mbs = d.mbs ∧ (d.setIsland i f).sls = d.sls ∧
    (d.setIsland i f).pwr = d.pwr :=
  ⟨rfl, rfl, rfl, rfl, rfl, rfl, rfl, rfl, rfl, rfl, rfl, rfl, rfl, rfl, rfl, rfl, rfl, rfl, rfl, rfl, rfl, rfl, rfl, rfl, rfl⟩

@[simp] theorem Dev.setIslands_frame (d : Dev) (is : List Nat) (f : Island → Island) :
    (d.setIslands is f).tick = d.tick ∧ (d.setIslands is f).free = d.free ∧ (d.setIslands is f).crossings = d.crossings ∧
    (d.setIslands is f).toggles = d.toggles ∧ (d.setIslands is f).quoins = d.quoins ∧ (d.setIslands is f).funcs = d.funcs ∧
    (d.setIslands is f).cmp = d.cmp ∧ (d.setIslands is f).start = d.start ∧ (d.setIslands is f).cfg = d.cfg ∧
    (d.setIslands is f).verind = d.verind ∧ (d.setIslands is f).hst = d.hst ∧ (d.setIslands is f).alm = d.alm ∧
    (d.setIslands is f).typ = d.typ ∧ (d.setIslands is f).svc = d.svc ∧ (d.setIslands is f).eng = d.eng ∧
    (d.setIslands is f).sec = d.sec ∧ (d.setIslands is f).swc = d.swc ∧ (d.setIslands is f).macs = d.macs ∧
    (d.setIslands is f).orr = d.orr ∧ (d.setIslands is f).frs = d.frs ∧ (d.setIslands is f).doms = d.doms ∧
    (d.setIslands is f).tts = d.tts ∧ (d.setIslands is f).mbs = d.mbs ∧ (d.setIslands is f).sls = d.sls ∧
    (d.setIslands is f).pwr = d.pwr :=
  ⟨rfl, rfl, rfl, rfl, rfl, rfl, rfl, rfl, rfl, rfl, rfl, rfl, rfl, rfl, rfl, rfl, rfl, rfl, rfl, rfl, rfl, rfl, rfl, rfl, rfl⟩

@[simp] theorem Dev.setFunc_frame (d : Dev) (i : Nat) (f : Func → Func) :
    (d.setFunc i f).tick = d.tick ∧ (d.setFunc i f).free = d.free ∧ (d.setFunc i f).islands = d.islands ∧
    (d.setFunc i f).crossings = d.crossings ∧ (d.setFunc i f).toggles = d.toggles ∧ (d.setFunc i f).quoins = d.quoins ∧
    (d.setFunc i f).cmp = d.cmp ∧ (d.setFunc i f).start = d.start ∧ (d.setFunc i f).cfg = d.cfg ∧ (d.setFunc i f).verind = d.verind ∧
    (d.setFunc i f).hst = d.hst ∧ (d.setFunc i f).alm = d.alm ∧ (d.setFunc i f).typ = d.typ ∧ (d.setFunc i f).svc = d.svc ∧
    (d.setFunc i f).eng = d.eng ∧ (d.setFunc i f).sec = d.sec ∧ (d.setFunc i f).swc = d.swc ∧ (d.setFunc i f).macs = d.macs ∧
    (d.setFunc i f).orr = d.orr ∧ (d.setFunc i f).frs = d.frs ∧ (d.setFunc i f).doms = d.doms ∧ (d.setFunc i f).tts = d.tts ∧
    (d.setFunc i f).mbs = d.mbs ∧ (d.setFunc i f).sls = d.sls ∧ (d.setFunc i f).pwr = d.pwr :=
  ⟨rfl, rfl, rfl, rfl, rfl, rfl, rfl, rfl, rfl, rfl, rfl, rfl, rfl, rfl, rfl, rfl, rfl, rfl, rfl, rfl, rfl, rfl, rfl, rfl, rfl⟩

@[simp] theorem Dev.setQuoin_frame (d : Dev) (k i : Nat) (f : Quoin → Quoin) :
    (d.setQuoin k i f).tick = d.tick ∧ (d.setQuoin k i f).free = d.free ∧ (d.setQuoin k i f).islands = d.islands ∧
    (d.setQuoin k i f).crossings = d.crossings ∧ (d.setQuoin k i f).toggles = d.toggles ∧ (d.setQuoin k i f).funcs = d.funcs ∧
    (d.setQuoin k i f).cmp = d.cmp ∧ (d.setQuoin k i f).start = d.start ∧ (d.setQuoin k i f).cfg = d.cfg ∧
    (d.setQuoin k i f).verind = d.verind ∧ (d.setQuoin k i f).hst = d.hst ∧ (d.setQuoin k i f).alm = d.alm ∧
    (d.setQuoin k i f).typ = d.typ ∧ (d.setQuoin k i f).svc = d.svc ∧ (d.setQuoin k i f).eng = d.eng ∧
    (d.setQuoin k i f).sec = d.sec ∧ (d.setQuoin k i f).swc = d.swc ∧ (d.setQuoin k i f).macs = d.macs ∧
    (d.setQuoin k i f).orr = d.orr ∧ (d.setQuoin k i f).frs = d.frs ∧ (d.setQuoin k i f).doms = d.doms ∧
    (d.setQuoin k i f).tts = d.tts ∧ (d.setQuoin k i f).mbs = d.mbs ∧ (d.setQuoin k i f).sls = d.sls ∧
    (d.setQuoin k i f).pwr = d.pwr :=
  ⟨rfl, rfl, rfl, rfl, rfl, rfl, rfl, rfl, rfl, rfl, rfl, rfl, rfl, rfl, rfl, rfl, rfl, rfl, rfl, rfl, rfl, rfl, rfl, rfl, rfl⟩

@[simp] theorem Dev.setEng_frame (d : Dev) (f : Eng → Eng) :
    (d.setEng f).tick = d.tick ∧ (d.setEng f).free = d.free ∧ (d.setEng f).islands = d.islands ∧
    (d.setEng f).crossings = d.crossings ∧ (d.setEng f).toggles = d.toggles ∧ (d.setEng f).quoins = d.quoins ∧
    (d.setEng f).funcs = d.funcs ∧ (d.setEng f).cmp = d.cmp ∧ (d.setEng f).start = d.start ∧ (d.setEng f).cfg = d.cfg ∧
    (d.setEng f).verind = d.verind ∧ (d.setEng f).hst = d.hst ∧ (d.setEng f).alm = d.alm ∧ (d.setEng f).typ = d.typ ∧
    (d.setEng f).svc = d.svc ∧ (d.setEng f).sec = d.sec ∧ (d.setEng f).swc = d.swc ∧ (d.setEng f).macs = d.macs ∧
    (d.setEng f).orr = d.orr ∧ (d.setEng f).frs = d.frs ∧ (d.setEng f).doms = d.doms ∧ (d.setEng f).tts = d.tts ∧
    (d.setEng f).mbs = d.mbs ∧ (d.setEng f).sls = d.sls ∧ (d.setEng f).pwr = d.pwr :=
  ⟨rfl, rfl, rfl, rfl, rfl, rfl, rfl, rfl, rfl, rfl, rfl, rfl, rfl, rfl, rfl, rfl, rfl, rfl, rfl, rfl, rfl, rfl, rfl, rfl, rfl⟩

@[simp] theorem Dev.setPe_frame (d : Dev) (p : Nat) (f : Pe → Pe) :
    (d.setPe p f).tick = d.tick ∧ (d.setPe p f).free = d.free ∧ (d.setPe p f).islands = d.islands ∧
    (d.setPe p f).crossings = d.crossings ∧ (d.setPe p f).toggles = d.toggles ∧ (d.setPe p f).quoins = d.quoins ∧
    (d.setPe p f).funcs = d.funcs ∧ (d.setPe p f).cmp = d.cmp ∧ (d.setPe p f).start = d.start ∧ (d.setPe p f).cfg = d.cfg ∧
    (d.setPe p f).verind = d.verind ∧ (d.setPe p f).hst = d.hst ∧ (d.setPe p f).alm = d.alm ∧ (d.setPe p f).typ = d.typ ∧
    (d.setPe p f).svc = d.svc ∧ (d.setPe p f).sec = d.sec ∧ (d.setPe p f).swc = d.swc ∧ (d.setPe p f).macs = d.macs ∧
    (d.setPe p f).orr = d.orr ∧ (d.setPe p f).frs = d.frs ∧ (d.setPe p f).doms = d.doms ∧ (d.setPe p f).tts = d.tts ∧
    (d.setPe p f).mbs = d.mbs ∧ (d.setPe p f).sls = d.sls ∧ (d.setPe p f).pwr = d.pwr :=
  ⟨rfl, rfl, rfl, rfl, rfl, rfl, rfl, rfl, rfl, rfl, rfl, rfl, rfl, rfl, rfl, rfl, rfl, rfl, rfl, rfl, rfl, rfl, rfl, rfl, rfl⟩

@[simp] theorem Dev.setPorts_frame (d : Dev) (p : Nat) (f : EPorts → EPorts) :
    (d.setPorts p f).tick = d.tick ∧ (d.setPorts p f).free = d.free ∧ (d.setPorts p f).islands = d.islands ∧
    (d.setPorts p f).crossings = d.crossings ∧ (d.setPorts p f).toggles = d.toggles ∧ (d.setPorts p f).quoins = d.quoins ∧
    (d.setPorts p f).funcs = d.funcs ∧ (d.setPorts p f).cmp = d.cmp ∧ (d.setPorts p f).start = d.start ∧
    (d.setPorts p f).cfg = d.cfg ∧ (d.setPorts p f).verind = d.verind ∧ (d.setPorts p f).hst = d.hst ∧ (d.setPorts p f).alm = d.alm ∧
    (d.setPorts p f).typ = d.typ ∧ (d.setPorts p f).svc = d.svc ∧ (d.setPorts p f).sec = d.sec ∧ (d.setPorts p f).swc = d.swc ∧
    (d.setPorts p f).macs = d.macs ∧ (d.setPorts p f).orr = d.orr ∧ (d.setPorts p f).frs = d.frs ∧ (d.setPorts p f).doms = d.doms ∧
    (d.setPorts p f).tts = d.tts ∧ (d.setPorts p f).mbs = d.mbs ∧ (d.setPorts p f).sls = d.sls ∧ (d.setPorts p f).pwr = d.pwr :=
  ⟨rfl, rfl, rfl, rfl, rfl, rfl, rfl, rfl, rfl, rfl, rfl, rfl, rfl, rfl, rfl, rfl, rfl, rfl, rfl, rfl, rfl, rfl, rfl, rfl, rfl⟩

@[simp] theorem Dev.setRegs_frame (d : Dev) (p : Nat) (f : Regs → Regs) :
    (d.setRegs p f).tick = d.tick ∧ (d.setRegs p f).free = d.free ∧ (d.setRegs p f).islands = d.islands ∧
    (d.setRegs p f).crossings = d.crossings ∧ (d.setRegs p f).toggles = d.toggles ∧ (d.setRegs p f).quoins = d.quoins ∧
    (d.setRegs p f).funcs = d.funcs ∧ (d.setRegs p f).cmp = d.cmp ∧ (d.setRegs p f).start = d.start ∧ (d.setRegs p f).cfg = d.cfg ∧
    (d.setRegs p f).verind = d.verind ∧ (d.setRegs p f).hst = d.hst ∧ (d.setRegs p f).alm = d.alm ∧ (d.setRegs p f).typ = d.typ ∧
    (d.setRegs p f).svc = d.svc ∧ (d.setRegs p f).sec = d.sec ∧ (d.setRegs p f).swc = d.swc ∧ (d.setRegs p f).macs = d.macs ∧
    (d.setRegs p f).orr = d.orr ∧ (d.setRegs p f).frs = d.frs ∧ (d.setRegs p f).doms = d.doms ∧ (d.setRegs p f).tts = d.tts ∧
    (d.setRegs p f).mbs = d.mbs ∧ (d.setRegs p f).sls = d.sls ∧ (d.setRegs p f).pwr = d.pwr :=
  ⟨rfl, rfl, rfl, rfl, rfl, rfl, rfl, rfl, rfl, rfl, rfl, rfl, rfl, rfl, rfl, rfl, rfl, rfl, rfl, rfl, rfl, rfl, rfl, rfl, rfl⟩

@[simp] theorem Dev.setLe_frame (d : Dev) (l : Nat) (f : Le → Le) :
    (d.setLe l f).tick = d.tick ∧ (d.setLe l f).free = d.free ∧ (d.setLe l f).islands = d.islands ∧
    (d.setLe l f).crossings = d.crossings ∧ (d.setLe l f).toggles = d.toggles ∧ (d.setLe l f).quoins = d.quoins ∧
    (d.setLe l f).funcs = d.funcs ∧ (d.setLe l f).cmp = d.cmp ∧ (d.setLe l f).start = d.start ∧ (d.setLe l f).cfg = d.cfg ∧
    (d.setLe l f).verind = d.verind ∧ (d.setLe l f).hst = d.hst ∧ (d.setLe l f).alm = d.alm ∧ (d.setLe l f).typ = d.typ ∧
    (d.setLe l f).svc = d.svc ∧ (d.setLe l f).sec = d.sec ∧ (d.setLe l f).swc = d.swc ∧ (d.setLe l f).macs = d.macs ∧
    (d.setLe l f).orr = d.orr ∧ (d.setLe l f).frs = d.frs ∧ (d.setLe l f).doms = d.doms ∧ (d.setLe l f).tts = d.tts ∧
    (d.setLe l f).mbs = d.mbs ∧ (d.setLe l f).sls = d.sls ∧ (d.setLe l f).pwr = d.pwr :=
  ⟨rfl, rfl, rfl, rfl, rfl, rfl, rfl, rfl, rfl, rfl, rfl, rfl, rfl, rfl, rfl, rfl, rfl, rfl, rfl, rfl, rfl, rfl, rfl, rfl, rfl⟩

@[simp] theorem Dev.setSlot_frame (d : Dev) (l i : Nat) (f : QSlot → QSlot) :
    (d.setSlot l i f).tick = d.tick ∧ (d.setSlot l i f).free = d.free ∧ (d.setSlot l i f).islands = d.islands ∧
    (d.setSlot l i f).crossings = d.crossings ∧ (d.setSlot l i f).toggles = d.toggles ∧ (d.setSlot l i f).quoins = d.quoins ∧
    (d.setSlot l i f).funcs = d.funcs ∧ (d.setSlot l i f).cmp = d.cmp ∧ (d.setSlot l i f).start = d.start ∧
    (d.setSlot l i f).cfg = d.cfg ∧ (d.setSlot l i f).verind = d.verind ∧ (d.setSlot l i f).hst = d.hst ∧
    (d.setSlot l i f).alm = d.alm ∧ (d.setSlot l i f).typ = d.typ ∧ (d.setSlot l i f).svc = d.svc ∧ (d.setSlot l i f).sec = d.sec ∧
    (d.setSlot l i f).swc = d.swc ∧ (d.setSlot l i f).macs = d.macs ∧ (d.setSlot l i f).orr = d.orr ∧ (d.setSlot l i f).frs = d.frs ∧
    (d.setSlot l i f).doms = d.doms ∧ (d.setSlot l i f).tts = d.tts ∧ (d.setSlot l i f).mbs = d.mbs ∧ (d.setSlot l i f).sls = d.sls ∧
    (d.setSlot l i f).pwr = d.pwr :=
  ⟨rfl, rfl, rfl, rfl, rfl, rfl, rfl, rfl, rfl, rfl, rfl, rfl, rfl, rfl, rfl, rfl, rfl, rfl, rfl, rfl, rfl, rfl, rfl, rfl, rfl⟩

@[simp] theorem Dev.setPlate_frame (d : Dev) (p : Nat) (f : Plate → Plate) :
    (d.setPlate p f).tick = d.tick ∧ (d.setPlate p f).free = d.free ∧ (d.setPlate p f).islands = d.islands ∧
    (d.setPlate p f).crossings = d.crossings ∧ (d.setPlate p f).toggles = d.toggles ∧ (d.setPlate p f).quoins = d.quoins ∧
    (d.setPlate p f).funcs = d.funcs ∧ (d.setPlate p f).cmp = d.cmp ∧ (d.setPlate p f).start = d.start ∧
    (d.setPlate p f).cfg = d.cfg ∧ (d.setPlate p f).verind = d.verind ∧ (d.setPlate p f).hst = d.hst ∧ (d.setPlate p f).alm = d.alm ∧
    (d.setPlate p f).typ = d.typ ∧ (d.setPlate p f).svc = d.svc ∧ (d.setPlate p f).sec = d.sec ∧ (d.setPlate p f).swc = d.swc ∧
    (d.setPlate p f).macs = d.macs ∧ (d.setPlate p f).orr = d.orr ∧ (d.setPlate p f).frs = d.frs ∧ (d.setPlate p f).doms = d.doms ∧
    (d.setPlate p f).tts = d.tts ∧ (d.setPlate p f).mbs = d.mbs ∧ (d.setPlate p f).sls = d.sls ∧ (d.setPlate p f).pwr = d.pwr :=
  ⟨rfl, rfl, rfl, rfl, rfl, rfl, rfl, rfl, rfl, rfl, rfl, rfl, rfl, rfl, rfl, rfl, rfl, rfl, rfl, rfl, rfl, rfl, rfl, rfl, rfl⟩

@[simp] theorem Dev.setTmr_frame (d : Dev) (p n : Nat) (f : Timer → Timer) :
    (d.setTmr p n f).tick = d.tick ∧ (d.setTmr p n f).free = d.free ∧ (d.setTmr p n f).islands = d.islands ∧
    (d.setTmr p n f).crossings = d.crossings ∧ (d.setTmr p n f).toggles = d.toggles ∧ (d.setTmr p n f).quoins = d.quoins ∧
    (d.setTmr p n f).funcs = d.funcs ∧ (d.setTmr p n f).cmp = d.cmp ∧ (d.setTmr p n f).start = d.start ∧
    (d.setTmr p n f).cfg = d.cfg ∧ (d.setTmr p n f).verind = d.verind ∧ (d.setTmr p n f).hst = d.hst ∧ (d.setTmr p n f).alm = d.alm ∧
    (d.setTmr p n f).typ = d.typ ∧ (d.setTmr p n f).svc = d.svc ∧ (d.setTmr p n f).sec = d.sec ∧ (d.setTmr p n f).swc = d.swc ∧
    (d.setTmr p n f).macs = d.macs ∧ (d.setTmr p n f).orr = d.orr ∧ (d.setTmr p n f).frs = d.frs ∧ (d.setTmr p n f).doms = d.doms ∧
    (d.setTmr p n f).tts = d.tts ∧ (d.setTmr p n f).mbs = d.mbs ∧ (d.setTmr p n f).sls = d.sls ∧ (d.setTmr p n f).pwr = d.pwr :=
  ⟨rfl, rfl, rfl, rfl, rfl, rfl, rfl, rfl, rfl, rfl, rfl, rfl, rfl, rfl, rfl, rfl, rfl, rfl, rfl, rfl, rfl, rfl, rfl, rfl, rfl⟩

@[simp] theorem Dev.setSel_frame (d : Dev) (p i v : Nat) :
    (d.setSel p i v).tick = d.tick ∧ (d.setSel p i v).free = d.free ∧ (d.setSel p i v).islands = d.islands ∧
    (d.setSel p i v).crossings = d.crossings ∧ (d.setSel p i v).toggles = d.toggles ∧ (d.setSel p i v).quoins = d.quoins ∧
    (d.setSel p i v).funcs = d.funcs ∧ (d.setSel p i v).cmp = d.cmp ∧ (d.setSel p i v).start = d.start ∧
    (d.setSel p i v).cfg = d.cfg ∧ (d.setSel p i v).verind = d.verind ∧ (d.setSel p i v).hst = d.hst ∧ (d.setSel p i v).alm = d.alm ∧
    (d.setSel p i v).typ = d.typ ∧ (d.setSel p i v).svc = d.svc ∧ (d.setSel p i v).sec = d.sec ∧ (d.setSel p i v).swc = d.swc ∧
    (d.setSel p i v).macs = d.macs ∧ (d.setSel p i v).orr = d.orr ∧ (d.setSel p i v).frs = d.frs ∧ (d.setSel p i v).doms = d.doms ∧
    (d.setSel p i v).tts = d.tts ∧ (d.setSel p i v).mbs = d.mbs ∧ (d.setSel p i v).sls = d.sls ∧ (d.setSel p i v).pwr = d.pwr :=
  ⟨rfl, rfl, rfl, rfl, rfl, rfl, rfl, rfl, rfl, rfl, rfl, rfl, rfl, rfl, rfl, rfl, rfl, rfl, rfl, rfl, rfl, rfl, rfl, rfl, rfl⟩

@[simp] theorem Dev.dramWrite_frame (d : Dev) (p o : Nat) (bs : List Byte) :
    (d.dramWrite p o bs).tick = d.tick ∧ (d.dramWrite p o bs).free = d.free ∧ (d.dramWrite p o bs).islands = d.islands ∧
    (d.dramWrite p o bs).crossings = d.crossings ∧ (d.dramWrite p o bs).toggles = d.toggles ∧ (d.dramWrite p o bs).quoins = d.quoins ∧
    (d.dramWrite p o bs).funcs = d.funcs ∧ (d.dramWrite p o bs).cmp = d.cmp ∧ (d.dramWrite p o bs).start = d.start ∧
    (d.dramWrite p o bs).cfg = d.cfg ∧ (d.dramWrite p o bs).verind = d.verind ∧ (d.dramWrite p o bs).hst = d.hst ∧
    (d.dramWrite p o bs).alm = d.alm ∧ (d.dramWrite p o bs).typ = d.typ ∧ (d.dramWrite p o bs).svc = d.svc ∧
    (d.dramWrite p o bs).sec = d.sec ∧ (d.dramWrite p o bs).swc = d.swc ∧ (d.dramWrite p o bs).macs = d.macs ∧
    (d.dramWrite p o bs).orr = d.orr ∧ (d.dramWrite p o bs).frs = d.frs ∧ (d.dramWrite p o bs).doms = d.doms ∧
    (d.dramWrite p o bs).tts = d.tts ∧ (d.dramWrite p o bs).mbs = d.mbs ∧ (d.dramWrite p o bs).sls = d.sls ∧
    (d.dramWrite p o bs).pwr = d.pwr :=
  ⟨rfl, rfl, rfl, rfl, rfl, rfl, rfl, rfl, rfl, rfl, rfl, rfl, rfl, rfl, rfl, rfl, rfl, rfl, rfl, rfl, rfl, rfl, rfl, rfl, rfl⟩

@[simp] theorem Dev.setVerind_frame (d : Dev) (f : Verind → Verind) :
    (d.setVerind f).tick = d.tick ∧ (d.setVerind f).free = d.free ∧ (d.setVerind f).islands = d.islands ∧
    (d.setVerind f).crossings = d.crossings ∧ (d.setVerind f).toggles = d.toggles ∧ (d.setVerind f).quoins = d.quoins ∧
    (d.setVerind f).funcs = d.funcs ∧ (d.setVerind f).cmp = d.cmp ∧ (d.setVerind f).start = d.start ∧ (d.setVerind f).cfg = d.cfg ∧
    (d.setVerind f).hst = d.hst ∧ (d.setVerind f).alm = d.alm ∧ (d.setVerind f).typ = d.typ ∧ (d.setVerind f).svc = d.svc ∧
    (d.setVerind f).eng = d.eng ∧ (d.setVerind f).sec = d.sec ∧ (d.setVerind f).swc = d.swc ∧ (d.setVerind f).macs = d.macs ∧
    (d.setVerind f).orr = d.orr ∧ (d.setVerind f).frs = d.frs ∧ (d.setVerind f).doms = d.doms ∧ (d.setVerind f).tts = d.tts ∧
    (d.setVerind f).mbs = d.mbs ∧ (d.setVerind f).sls = d.sls ∧ (d.setVerind f).pwr = d.pwr :=
  ⟨rfl, rfl, rfl, rfl, rfl, rfl, rfl, rfl, rfl, rfl, rfl, rfl, rfl, rfl, rfl, rfl, rfl, rfl, rfl, rfl, rfl, rfl, rfl, rfl, rfl⟩

@[simp] theorem Dev.setChan_frame (d : Dev) (c : Nat) (f : Chan → Chan) :
    (d.setChan c f).tick = d.tick ∧ (d.setChan c f).free = d.free ∧ (d.setChan c f).islands = d.islands ∧
    (d.setChan c f).crossings = d.crossings ∧ (d.setChan c f).toggles = d.toggles ∧ (d.setChan c f).quoins = d.quoins ∧
    (d.setChan c f).funcs = d.funcs ∧ (d.setChan c f).cmp = d.cmp ∧ (d.setChan c f).start = d.start ∧ (d.setChan c f).cfg = d.cfg ∧
    (d.setChan c f).hst = d.hst ∧ (d.setChan c f).alm = d.alm ∧ (d.setChan c f).typ = d.typ ∧ (d.setChan c f).svc = d.svc ∧
    (d.setChan c f).eng = d.eng ∧ (d.setChan c f).sec = d.sec ∧ (d.setChan c f).swc = d.swc ∧ (d.setChan c f).macs = d.macs ∧
    (d.setChan c f).orr = d.orr ∧ (d.setChan c f).frs = d.frs ∧ (d.setChan c f).doms = d.doms ∧ (d.setChan c f).tts = d.tts ∧
    (d.setChan c f).mbs = d.mbs ∧ (d.setChan c f).sls = d.sls ∧ (d.setChan c f).pwr = d.pwr :=
  ⟨rfl, rfl, rfl, rfl, rfl, rfl, rfl, rfl, rfl, rfl, rfl, rfl, rfl, rfl, rfl, rfl, rfl, rfl, rfl, rfl, rfl, rfl, rfl, rfl, rfl⟩

@[simp] theorem Dev.setHst_frame (d : Dev) (f : Hst → Hst) :
    (d.setHst f).tick = d.tick ∧ (d.setHst f).free = d.free ∧ (d.setHst f).islands = d.islands ∧
    (d.setHst f).crossings = d.crossings ∧ (d.setHst f).toggles = d.toggles ∧ (d.setHst f).quoins = d.quoins ∧
    (d.setHst f).funcs = d.funcs ∧ (d.setHst f).cmp = d.cmp ∧ (d.setHst f).start = d.start ∧ (d.setHst f).cfg = d.cfg ∧
    (d.setHst f).verind = d.verind ∧ (d.setHst f).alm = d.alm ∧ (d.setHst f).typ = d.typ ∧ (d.setHst f).svc = d.svc ∧
    (d.setHst f).eng = d.eng ∧ (d.setHst f).sec = d.sec ∧ (d.setHst f).swc = d.swc ∧ (d.setHst f).macs = d.macs ∧
    (d.setHst f).orr = d.orr ∧ (d.setHst f).frs = d.frs ∧ (d.setHst f).doms = d.doms ∧ (d.setHst f).tts = d.tts ∧
    (d.setHst f).mbs = d.mbs ∧ (d.setHst f).sls = d.sls ∧ (d.setHst f).pwr = d.pwr :=
  ⟨rfl, rfl, rfl, rfl, rfl, rfl, rfl, rfl, rfl, rfl, rfl, rfl, rfl, rfl, rfl, rfl, rfl, rfl, rfl, rfl, rfl, rfl, rfl, rfl, rfl⟩

@[simp] theorem Dev.setPort_frame (d : Dev) (p : Nat) (f : HostPort → HostPort) :
    (d.setPort p f).tick = d.tick ∧ (d.setPort p f).free = d.free ∧ (d.setPort p f).islands = d.islands ∧
    (d.setPort p f).crossings = d.crossings ∧ (d.setPort p f).toggles = d.toggles ∧ (d.setPort p f).quoins = d.quoins ∧
    (d.setPort p f).funcs = d.funcs ∧ (d.setPort p f).cmp = d.cmp ∧ (d.setPort p f).start = d.start ∧ (d.setPort p f).cfg = d.cfg ∧
    (d.setPort p f).verind = d.verind ∧ (d.setPort p f).alm = d.alm ∧ (d.setPort p f).typ = d.typ ∧ (d.setPort p f).svc = d.svc ∧
    (d.setPort p f).eng = d.eng ∧ (d.setPort p f).sec = d.sec ∧ (d.setPort p f).swc = d.swc ∧ (d.setPort p f).macs = d.macs ∧
    (d.setPort p f).orr = d.orr ∧ (d.setPort p f).frs = d.frs ∧ (d.setPort p f).doms = d.doms ∧ (d.setPort p f).tts = d.tts ∧
    (d.setPort p f).mbs = d.mbs ∧ (d.setPort p f).sls = d.sls ∧ (d.setPort p f).pwr = d.pwr :=
  ⟨rfl, rfl, rfl, rfl, rfl, rfl, rfl, rfl, rfl, rfl, rfl, rfl, rfl, rfl, rfl, rfl, rfl, rfl, rfl, rfl, rfl, rfl, rfl, rfl, rfl⟩

@[simp] theorem Dev.setRing_frame (d : Dev) (r : Nat) (f : Ring → Ring) :
    (d.setRing r f).tick = d.tick ∧ (d.setRing r f).free = d.free ∧ (d.setRing r f).islands = d.islands ∧
    (d.setRing r f).crossings = d.crossings ∧ (d.setRing r f).toggles = d.toggles ∧ (d.setRing r f).quoins = d.quoins ∧
    (d.setRing r f).funcs = d.funcs ∧ (d.setRing r f).cmp = d.cmp ∧ (d.setRing r f).start = d.start ∧ (d.setRing r f).cfg = d.cfg ∧
    (d.setRing r f).verind = d.verind ∧ (d.setRing r f).alm = d.alm ∧ (d.setRing r f).typ = d.typ ∧ (d.setRing r f).svc = d.svc ∧
    (d.setRing r f).eng = d.eng ∧ (d.setRing r f).sec = d.sec ∧ (d.setRing r f).swc = d.swc ∧ (d.setRing r f).macs = d.macs ∧
    (d.setRing r f).orr = d.orr ∧ (d.setRing r f).frs = d.frs ∧ (d.setRing r f).doms = d.doms ∧ (d.setRing r f).tts = d.tts ∧
    (d.setRing r f).mbs = d.mbs ∧ (d.setRing r f).sls = d.sls ∧ (d.setRing r f).pwr = d.pwr :=
  ⟨rfl, rfl, rfl, rfl, rfl, rfl, rfl, rfl, rfl, rfl, rfl, rfl, rfl, rfl, rfl, rfl, rfl, rfl, rfl, rfl, rfl, rfl, rfl, rfl, rfl⟩

@[simp] theorem Dev.send_frame (d : Dev) (ch : Option Nat) (dst : Peer) (bs : List Byte) :
    (d.send ch dst bs).tick = d.tick ∧ (d.send ch dst bs).free = d.free ∧ (d.send ch dst bs).islands = d.islands ∧
    (d.send ch dst bs).crossings = d.crossings ∧ (d.send ch dst bs).toggles = d.toggles ∧ (d.send ch dst bs).quoins = d.quoins ∧
    (d.send ch dst bs).funcs = d.funcs ∧ (d.send ch dst bs).cmp = d.cmp ∧ (d.send ch dst bs).start = d.start ∧
    (d.send ch dst bs).cfg = d.cfg ∧ (d.send ch dst bs).verind = d.verind ∧ (d.send ch dst bs).alm = d.alm ∧
    (d.send ch dst bs).typ = d.typ ∧ (d.send ch dst bs).svc = d.svc ∧ (d.send ch dst bs).eng = d.eng ∧
    (d.send ch dst bs).sec = d.sec ∧ (d.send ch dst bs).swc = d.swc ∧ (d.send ch dst bs).macs = d.macs ∧
    (d.send ch dst bs).orr = d.orr ∧ (d.send ch dst bs).frs = d.frs ∧ (d.send ch dst bs).doms = d.doms ∧
    (d.send ch dst bs).tts = d.tts ∧ (d.send ch dst bs).mbs = d.mbs ∧ (d.send ch dst bs).sls = d.sls ∧
    (d.send ch dst bs).pwr = d.pwr :=
  ⟨rfl, rfl, rfl, rfl, rfl, rfl, rfl, rfl, rfl, rfl, rfl, rfl, rfl, rfl, rfl, rfl, rfl, rfl, rfl, rfl, rfl, rfl, rfl, rfl, rfl⟩

@[simp] theorem Dev.drive_frame (d : Dev) (p : Nat) (bs : List Byte) :
    (d.drive p bs).tick = d.tick ∧ (d.drive p bs).free = d.free ∧ (d.drive p bs).islands = d.islands ∧
    (d.drive p bs).crossings = d.crossings ∧ (d.drive p bs).toggles = d.toggles ∧ (d.drive p bs).quoins = d.quoins ∧
    (d.drive p bs).funcs = d.funcs ∧ (d.drive p bs).cmp = d.cmp ∧ (d.drive p bs).start = d.start ∧ (d.drive p bs).cfg = d.cfg ∧
    (d.drive p bs).verind = d.verind ∧ (d.drive p bs).alm = d.alm ∧ (d.drive p bs).typ = d.typ ∧ (d.drive p bs).svc = d.svc ∧
    (d.drive p bs).eng = d.eng ∧ (d.drive p bs).sec = d.sec ∧ (d.drive p bs).swc = d.swc ∧ (d.drive p bs).macs = d.macs ∧
    (d.drive p bs).orr = d.orr ∧ (d.drive p bs).frs = d.frs ∧ (d.drive p bs).doms = d.doms ∧ (d.drive p bs).tts = d.tts ∧
    (d.drive p bs).mbs = d.mbs ∧ (d.drive p bs).sls = d.sls ∧ (d.drive p bs).pwr = d.pwr :=
  ⟨rfl, rfl, rfl, rfl, rfl, rfl, rfl, rfl, rfl, rfl, rfl, rfl, rfl, rfl, rfl, rfl, rfl, rfl, rfl, rfl, rfl, rfl, rfl, rfl, rfl⟩

@[simp] theorem Dev.setAlm_frame (d : Dev) (f : Alm → Alm) :
    (d.setAlm f).tick = d.tick ∧ (d.setAlm f).free = d.free ∧ (d.setAlm f).islands = d.islands ∧
    (d.setAlm f).crossings = d.crossings ∧ (d.setAlm f).toggles = d.toggles ∧ (d.setAlm f).quoins = d.quoins ∧
    (d.setAlm f).funcs = d.funcs ∧ (d.setAlm f).cmp = d.cmp ∧ (d.setAlm f).start = d.start ∧ (d.setAlm f).cfg = d.cfg ∧
    (d.setAlm f).verind = d.verind ∧ (d.setAlm f).hst = d.hst ∧ (d.setAlm f).typ = d.typ ∧ (d.setAlm f).svc = d.svc ∧
    (d.setAlm f).eng = d.eng ∧ (d.setAlm f).sec = d.sec ∧ (d.setAlm f).swc = d.swc ∧ (d.setAlm f).macs = d.macs ∧
    (d.setAlm f).orr = d.orr ∧ (d.setAlm f).frs = d.frs ∧ (d.setAlm f).doms = d.doms ∧ (d.setAlm f).tts = d.tts ∧
    (d.setAlm f).mbs = d.mbs ∧ (d.setAlm f).sls = d.sls ∧ (d.setAlm f).pwr = d.pwr :=
  ⟨rfl, rfl, rfl, rfl, rfl, rfl, rfl, rfl, rfl, rfl, rfl, rfl, rfl, rfl, rfl, rfl, rfl, rfl, rfl, rfl, rfl, rfl, rfl, rfl, rfl⟩

@[simp] theorem Dev.setTyp_frame (d : Dev) (f : Typ → Typ) :
    (d.setTyp f).tick = d.tick ∧ (d.setTyp f).free = d.free ∧ (d.setTyp f).islands = d.islands ∧
    (d.setTyp f).crossings = d.crossings ∧ (d.setTyp f).toggles = d.toggles ∧ (d.setTyp f).quoins = d.quoins ∧
    (d.setTyp f).funcs = d.funcs ∧ (d.setTyp f).cmp = d.cmp ∧ (d.setTyp f).start = d.start ∧ (d.setTyp f).cfg = d.cfg ∧
    (d.setTyp f).verind = d.verind ∧ (d.setTyp f).hst = d.hst ∧ (d.setTyp f).alm = d.alm ∧ (d.setTyp f).svc = d.svc ∧
    (d.setTyp f).eng = d.eng ∧ (d.setTyp f).sec = d.sec ∧ (d.setTyp f).swc = d.swc ∧ (d.setTyp f).macs = d.macs ∧
    (d.setTyp f).orr = d.orr ∧ (d.setTyp f).frs = d.frs ∧ (d.setTyp f).doms = d.doms ∧ (d.setTyp f).tts = d.tts ∧
    (d.setTyp f).mbs = d.mbs ∧ (d.setTyp f).sls = d.sls ∧ (d.setTyp f).pwr = d.pwr :=
  ⟨rfl, rfl, rfl, rfl, rfl, rfl, rfl, rfl, rfl, rfl, rfl, rfl, rfl, rfl, rfl, rfl, rfl, rfl, rfl, rfl, rfl, rfl, rfl, rfl, rfl⟩

@[simp] theorem Dev.setBank_frame (d : Dev) (b : Nat) (f : TypBank → TypBank) :
    (d.setBank b f).tick = d.tick ∧ (d.setBank b f).free = d.free ∧ (d.setBank b f).islands = d.islands ∧
    (d.setBank b f).crossings = d.crossings ∧ (d.setBank b f).toggles = d.toggles ∧ (d.setBank b f).quoins = d.quoins ∧
    (d.setBank b f).funcs = d.funcs ∧ (d.setBank b f).cmp = d.cmp ∧ (d.setBank b f).start = d.start ∧ (d.setBank b f).cfg = d.cfg ∧
    (d.setBank b f).verind = d.verind ∧ (d.setBank b f).hst = d.hst ∧ (d.setBank b f).alm = d.alm ∧ (d.setBank b f).svc = d.svc ∧
    (d.setBank b f).eng = d.eng ∧ (d.setBank b f).sec = d.sec ∧ (d.setBank b f).swc = d.swc ∧ (d.setBank b f).macs = d.macs ∧
    (d.setBank b f).orr = d.orr ∧ (d.setBank b f).frs = d.frs ∧ (d.setBank b f).doms = d.doms ∧ (d.setBank b f).tts = d.tts ∧
    (d.setBank b f).mbs = d.mbs ∧ (d.setBank b f).sls = d.sls ∧ (d.setBank b f).pwr = d.pwr :=
  ⟨rfl, rfl, rfl, rfl, rfl, rfl, rfl, rfl, rfl, rfl, rfl, rfl, rfl, rfl, rfl, rfl, rfl, rfl, rfl, rfl, rfl, rfl, rfl, rfl, rfl⟩

@[simp] theorem Dev.setSec_frame (d : Dev) (f : Sec → Sec) :
    (d.setSec f).tick = d.tick ∧ (d.setSec f).free = d.free ∧ (d.setSec f).islands = d.islands ∧
    (d.setSec f).crossings = d.crossings ∧ (d.setSec f).toggles = d.toggles ∧ (d.setSec f).quoins = d.quoins ∧
    (d.setSec f).funcs = d.funcs ∧ (d.setSec f).cmp = d.cmp ∧ (d.setSec f).start = d.start ∧ (d.setSec f).cfg = d.cfg ∧
    (d.setSec f).verind = d.verind ∧ (d.setSec f).hst = d.hst ∧ (d.setSec f).alm = d.alm ∧ (d.setSec f).typ = d.typ ∧
    (d.setSec f).svc = d.svc ∧ (d.setSec f).eng = d.eng ∧ (d.setSec f).swc = d.swc ∧ (d.setSec f).macs = d.macs ∧
    (d.setSec f).orr = d.orr ∧ (d.setSec f).frs = d.frs ∧ (d.setSec f).doms = d.doms ∧ (d.setSec f).tts = d.tts ∧
    (d.setSec f).mbs = d.mbs ∧ (d.setSec f).sls = d.sls ∧ (d.setSec f).pwr = d.pwr :=
  ⟨rfl, rfl, rfl, rfl, rfl, rfl, rfl, rfl, rfl, rfl, rfl, rfl, rfl, rfl, rfl, rfl, rfl, rfl, rfl, rfl, rfl, rfl, rfl, rfl, rfl⟩

@[simp] theorem Dev.setSwc_frame (d : Dev) (f : Swc → Swc) :
    (d.setSwc f).tick = d.tick ∧ (d.setSwc f).free = d.free ∧ (d.setSwc f).islands = d.islands ∧
    (d.setSwc f).crossings = d.crossings ∧ (d.setSwc f).toggles = d.toggles ∧ (d.setSwc f).quoins = d.quoins ∧
    (d.setSwc f).funcs = d.funcs ∧ (d.setSwc f).cmp = d.cmp ∧ (d.setSwc f).start = d.start ∧ (d.setSwc f).cfg = d.cfg ∧
    (d.setSwc f).verind = d.verind ∧ (d.setSwc f).hst = d.hst ∧ (d.setSwc f).alm = d.alm ∧ (d.setSwc f).typ = d.typ ∧
    (d.setSwc f).svc = d.svc ∧ (d.setSwc f).eng = d.eng ∧ (d.setSwc f).sec = d.sec ∧ (d.setSwc f).macs = d.macs ∧
    (d.setSwc f).orr = d.orr ∧ (d.setSwc f).frs = d.frs ∧ (d.setSwc f).doms = d.doms ∧ (d.setSwc f).tts = d.tts ∧
    (d.setSwc f).mbs = d.mbs ∧ (d.setSwc f).sls = d.sls ∧ (d.setSwc f).pwr = d.pwr :=
  ⟨rfl, rfl, rfl, rfl, rfl, rfl, rfl, rfl, rfl, rfl, rfl, rfl, rfl, rfl, rfl, rfl, rfl, rfl, rfl, rfl, rfl, rfl, rfl, rfl, rfl⟩

@[simp] theorem Dev.setMac_frame (d : Dev) (m : Nat) (f : Mac → Mac) :
    (d.setMac m f).tick = d.tick ∧ (d.setMac m f).free = d.free ∧ (d.setMac m f).islands = d.islands ∧
    (d.setMac m f).crossings = d.crossings ∧ (d.setMac m f).toggles = d.toggles ∧ (d.setMac m f).quoins = d.quoins ∧
    (d.setMac m f).funcs = d.funcs ∧ (d.setMac m f).cmp = d.cmp ∧ (d.setMac m f).start = d.start ∧ (d.setMac m f).cfg = d.cfg ∧
    (d.setMac m f).verind = d.verind ∧ (d.setMac m f).hst = d.hst ∧ (d.setMac m f).alm = d.alm ∧ (d.setMac m f).typ = d.typ ∧
    (d.setMac m f).svc = d.svc ∧ (d.setMac m f).eng = d.eng ∧ (d.setMac m f).sec = d.sec ∧ (d.setMac m f).swc = d.swc ∧
    (d.setMac m f).orr = d.orr ∧ (d.setMac m f).frs = d.frs ∧ (d.setMac m f).doms = d.doms ∧ (d.setMac m f).tts = d.tts ∧
    (d.setMac m f).mbs = d.mbs ∧ (d.setMac m f).sls = d.sls ∧ (d.setMac m f).pwr = d.pwr :=
  ⟨rfl, rfl, rfl, rfl, rfl, rfl, rfl, rfl, rfl, rfl, rfl, rfl, rfl, rfl, rfl, rfl, rfl, rfl, rfl, rfl, rfl, rfl, rfl, rfl, rfl⟩

@[simp] theorem Dev.setOrr_frame (d : Dev) (f : Orr → Orr) :
    (d.setOrr f).tick = d.tick ∧ (d.setOrr f).free = d.free ∧ (d.setOrr f).islands = d.islands ∧
    (d.setOrr f).crossings = d.crossings ∧ (d.setOrr f).toggles = d.toggles ∧ (d.setOrr f).quoins = d.quoins ∧
    (d.setOrr f).funcs = d.funcs ∧ (d.setOrr f).cmp = d.cmp ∧ (d.setOrr f).start = d.start ∧ (d.setOrr f).cfg = d.cfg ∧
    (d.setOrr f).verind = d.verind ∧ (d.setOrr f).hst = d.hst ∧ (d.setOrr f).alm = d.alm ∧ (d.setOrr f).typ = d.typ ∧
    (d.setOrr f).svc = d.svc ∧ (d.setOrr f).eng = d.eng ∧ (d.setOrr f).sec = d.sec ∧ (d.setOrr f).swc = d.swc ∧
    (d.setOrr f).macs = d.macs ∧ (d.setOrr f).frs = d.frs ∧ (d.setOrr f).doms = d.doms ∧ (d.setOrr f).tts = d.tts ∧
    (d.setOrr f).mbs = d.mbs ∧ (d.setOrr f).sls = d.sls ∧ (d.setOrr f).pwr = d.pwr :=
  ⟨rfl, rfl, rfl, rfl, rfl, rfl, rfl, rfl, rfl, rfl, rfl, rfl, rfl, rfl, rfl, rfl, rfl, rfl, rfl, rfl, rfl, rfl, rfl, rfl, rfl⟩

@[simp] theorem Dev.setFr_frame (d : Dev) (r : Nat) (f : Fr → Fr) :
    (d.setFr r f).tick = d.tick ∧ (d.setFr r f).free = d.free ∧ (d.setFr r f).islands = d.islands ∧
    (d.setFr r f).crossings = d.crossings ∧ (d.setFr r f).toggles = d.toggles ∧ (d.setFr r f).quoins = d.quoins ∧
    (d.setFr r f).funcs = d.funcs ∧ (d.setFr r f).cmp = d.cmp ∧ (d.setFr r f).start = d.start ∧ (d.setFr r f).cfg = d.cfg ∧
    (d.setFr r f).verind = d.verind ∧ (d.setFr r f).hst = d.hst ∧ (d.setFr r f).alm = d.alm ∧ (d.setFr r f).typ = d.typ ∧
    (d.setFr r f).svc = d.svc ∧ (d.setFr r f).eng = d.eng ∧ (d.setFr r f).sec = d.sec ∧ (d.setFr r f).swc = d.swc ∧
    (d.setFr r f).macs = d.macs ∧ (d.setFr r f).orr = d.orr ∧ (d.setFr r f).doms = d.doms ∧ (d.setFr r f).tts = d.tts ∧
    (d.setFr r f).mbs = d.mbs ∧ (d.setFr r f).sls = d.sls ∧ (d.setFr r f).pwr = d.pwr :=
  ⟨rfl, rfl, rfl, rfl, rfl, rfl, rfl, rfl, rfl, rfl, rfl, rfl, rfl, rfl, rfl, rfl, rfl, rfl, rfl, rfl, rfl, rfl, rfl, rfl, rfl⟩

@[simp] theorem Dev.setDom_frame (d : Dev) (i : Nat) (f : Domain → Domain) :
    (d.setDom i f).tick = d.tick ∧ (d.setDom i f).free = d.free ∧ (d.setDom i f).islands = d.islands ∧
    (d.setDom i f).crossings = d.crossings ∧ (d.setDom i f).toggles = d.toggles ∧ (d.setDom i f).quoins = d.quoins ∧
    (d.setDom i f).funcs = d.funcs ∧ (d.setDom i f).cmp = d.cmp ∧ (d.setDom i f).start = d.start ∧ (d.setDom i f).cfg = d.cfg ∧
    (d.setDom i f).verind = d.verind ∧ (d.setDom i f).hst = d.hst ∧ (d.setDom i f).alm = d.alm ∧ (d.setDom i f).typ = d.typ ∧
    (d.setDom i f).svc = d.svc ∧ (d.setDom i f).eng = d.eng ∧ (d.setDom i f).sec = d.sec ∧ (d.setDom i f).swc = d.swc ∧
    (d.setDom i f).macs = d.macs ∧ (d.setDom i f).orr = d.orr ∧ (d.setDom i f).frs = d.frs ∧ (d.setDom i f).tts = d.tts ∧
    (d.setDom i f).mbs = d.mbs ∧ (d.setDom i f).sls = d.sls ∧ (d.setDom i f).pwr = d.pwr :=
  ⟨rfl, rfl, rfl, rfl, rfl, rfl, rfl, rfl, rfl, rfl, rfl, rfl, rfl, rfl, rfl, rfl, rfl, rfl, rfl, rfl, rfl, rfl, rfl, rfl, rfl⟩

@[simp] theorem Dev.setMb_frame (d : Dev) (n : Nat) (f : Mb → Mb) :
    (d.setMb n f).tick = d.tick ∧ (d.setMb n f).free = d.free ∧ (d.setMb n f).islands = d.islands ∧
    (d.setMb n f).crossings = d.crossings ∧ (d.setMb n f).toggles = d.toggles ∧ (d.setMb n f).quoins = d.quoins ∧
    (d.setMb n f).funcs = d.funcs ∧ (d.setMb n f).cmp = d.cmp ∧ (d.setMb n f).start = d.start ∧ (d.setMb n f).cfg = d.cfg ∧
    (d.setMb n f).verind = d.verind ∧ (d.setMb n f).hst = d.hst ∧ (d.setMb n f).alm = d.alm ∧ (d.setMb n f).typ = d.typ ∧
    (d.setMb n f).svc = d.svc ∧ (d.setMb n f).eng = d.eng ∧ (d.setMb n f).sec = d.sec ∧ (d.setMb n f).swc = d.swc ∧
    (d.setMb n f).macs = d.macs ∧ (d.setMb n f).orr = d.orr ∧ (d.setMb n f).frs = d.frs ∧ (d.setMb n f).doms = d.doms ∧
    (d.setMb n f).tts = d.tts ∧ (d.setMb n f).sls = d.sls ∧ (d.setMb n f).pwr = d.pwr :=
  ⟨rfl, rfl, rfl, rfl, rfl, rfl, rfl, rfl, rfl, rfl, rfl, rfl, rfl, rfl, rfl, rfl, rfl, rfl, rfl, rfl, rfl, rfl, rfl, rfl, rfl⟩

@[simp] theorem Dev.setTt_frame (d : Dev) (n : Nat) (f : Tt → Tt) :
    (d.setTt n f).tick = d.tick ∧ (d.setTt n f).free = d.free ∧ (d.setTt n f).islands = d.islands ∧
    (d.setTt n f).crossings = d.crossings ∧ (d.setTt n f).toggles = d.toggles ∧ (d.setTt n f).quoins = d.quoins ∧
    (d.setTt n f).funcs = d.funcs ∧ (d.setTt n f).cmp = d.cmp ∧ (d.setTt n f).start = d.start ∧ (d.setTt n f).cfg = d.cfg ∧
    (d.setTt n f).verind = d.verind ∧ (d.setTt n f).hst = d.hst ∧ (d.setTt n f).alm = d.alm ∧ (d.setTt n f).typ = d.typ ∧
    (d.setTt n f).svc = d.svc ∧ (d.setTt n f).eng = d.eng ∧ (d.setTt n f).sec = d.sec ∧ (d.setTt n f).swc = d.swc ∧
    (d.setTt n f).macs = d.macs ∧ (d.setTt n f).orr = d.orr ∧ (d.setTt n f).frs = d.frs ∧ (d.setTt n f).doms = d.doms ∧
    (d.setTt n f).mbs = d.mbs ∧ (d.setTt n f).sls = d.sls ∧ (d.setTt n f).pwr = d.pwr :=
  ⟨rfl, rfl, rfl, rfl, rfl, rfl, rfl, rfl, rfl, rfl, rfl, rfl, rfl, rfl, rfl, rfl, rfl, rfl, rfl, rfl, rfl, rfl, rfl, rfl, rfl⟩

@[simp] theorem Dev.setSl_frame (d : Dev) (n : Nat) (f : Sl → Sl) :
    (d.setSl n f).tick = d.tick ∧ (d.setSl n f).free = d.free ∧ (d.setSl n f).islands = d.islands ∧
    (d.setSl n f).crossings = d.crossings ∧ (d.setSl n f).toggles = d.toggles ∧ (d.setSl n f).quoins = d.quoins ∧
    (d.setSl n f).funcs = d.funcs ∧ (d.setSl n f).cmp = d.cmp ∧ (d.setSl n f).start = d.start ∧ (d.setSl n f).cfg = d.cfg ∧
    (d.setSl n f).verind = d.verind ∧ (d.setSl n f).hst = d.hst ∧ (d.setSl n f).alm = d.alm ∧ (d.setSl n f).typ = d.typ ∧
    (d.setSl n f).svc = d.svc ∧ (d.setSl n f).eng = d.eng ∧ (d.setSl n f).sec = d.sec ∧ (d.setSl n f).swc = d.swc ∧
    (d.setSl n f).macs = d.macs ∧ (d.setSl n f).orr = d.orr ∧ (d.setSl n f).frs = d.frs ∧ (d.setSl n f).doms = d.doms ∧
    (d.setSl n f).tts = d.tts ∧ (d.setSl n f).mbs = d.mbs ∧ (d.setSl n f).pwr = d.pwr :=
  ⟨rfl, rfl, rfl, rfl, rfl, rfl, rfl, rfl, rfl, rfl, rfl, rfl, rfl, rfl, rfl, rfl, rfl, rfl, rfl, rfl, rfl, rfl, rfl, rfl, rfl⟩

@[simp] theorem Dev.setPwr_frame (d : Dev) (f : Pwr → Pwr) :
    (d.setPwr f).tick = d.tick ∧ (d.setPwr f).free = d.free ∧ (d.setPwr f).islands = d.islands ∧
    (d.setPwr f).crossings = d.crossings ∧ (d.setPwr f).toggles = d.toggles ∧ (d.setPwr f).quoins = d.quoins ∧
    (d.setPwr f).funcs = d.funcs ∧ (d.setPwr f).cmp = d.cmp ∧ (d.setPwr f).start = d.start ∧ (d.setPwr f).cfg = d.cfg ∧
    (d.setPwr f).verind = d.verind ∧ (d.setPwr f).hst = d.hst ∧ (d.setPwr f).alm = d.alm ∧ (d.setPwr f).typ = d.typ ∧
    (d.setPwr f).svc = d.svc ∧ (d.setPwr f).eng = d.eng ∧ (d.setPwr f).sec = d.sec ∧ (d.setPwr f).swc = d.swc ∧
    (d.setPwr f).macs = d.macs ∧ (d.setPwr f).orr = d.orr ∧ (d.setPwr f).frs = d.frs ∧ (d.setPwr f).doms = d.doms ∧
    (d.setPwr f).tts = d.tts ∧ (d.setPwr f).mbs = d.mbs ∧ (d.setPwr f).sls = d.sls :=
  ⟨rfl, rfl, rfl, rfl, rfl, rfl, rfl, rfl, rfl, rfl, rfl, rfl, rfl, rfl, rfl, rfl, rfl, rfl, rfl, rfl, rfl, rfl, rfl, rfl, rfl⟩

@[simp] theorem Dev.discard_frame (d : Dev) (n : Nat) :
    (d.discard n).tick = d.tick ∧ (d.discard n).free = d.free ∧ (d.discard n).islands = d.islands ∧
    (d.discard n).crossings = d.crossings ∧ (d.discard n).toggles = d.toggles ∧ (d.discard n).quoins = d.quoins ∧
    (d.discard n).funcs = d.funcs ∧ (d.discard n).cmp = d.cmp ∧ (d.discard n).start = d.start ∧ (d.discard n).cfg = d.cfg ∧
    (d.discard n).verind = d.verind ∧ (d.discard n).hst = d.hst ∧ (d.discard n).alm = d.alm ∧ (d.discard n).typ = d.typ ∧
    (d.discard n).eng = d.eng ∧ (d.discard n).sec = d.sec ∧ (d.discard n).swc = d.swc ∧ (d.discard n).macs = d.macs ∧
    (d.discard n).orr = d.orr ∧ (d.discard n).frs = d.frs ∧ (d.discard n).doms = d.doms ∧ (d.discard n).tts = d.tts ∧
    (d.discard n).mbs = d.mbs ∧ (d.discard n).sls = d.sls ∧ (d.discard n).pwr = d.pwr :=
  ⟨rfl, rfl, rfl, rfl, rfl, rfl, rfl, rfl, rfl, rfl, rfl, rfl, rfl, rfl, rfl, rfl, rfl, rfl, rfl, rfl, rfl, rfl, rfl, rfl, rfl⟩

end Sys2Proof.Machine
end

