-- ==== Sys2Proof/Laws/Ops.lean ====
section
/-! SUPPORT. What the shared operations do: reading one part back after an update, how a meaning is run, and how an engine's instruction is
issued. -/

namespace Sys2Proof.Machine

/-! ## Reading back -/

theorem Dev.pe_setPe_same (d : Dev) (p : Nat) (f : Pe → Pe) (h : p < d.eng.pes.length) : (d.setPe p f).pe p = f (d.pe p) :=
  upd_getD_same _ _ _ _ h

theorem Dev.pe_setPe_ne (d : Dev) (p q : Nat) (f : Pe → Pe) (h : p ≠ q) : (d.setPe p f).pe q = d.pe q :=
  upd_getD_ne _ _ _ _ _ h

@[simp] theorem Dev.le_setPe (d : Dev) (p l : Nat) (f : Pe → Pe) : (d.setPe p f).le l = d.le l := rfl
@[simp] theorem Dev.le_setRegs (d : Dev) (p l : Nat) (f : Regs → Regs) : (d.setRegs p f).le l = d.le l := rfl
@[simp] theorem Dev.le_setPorts (d : Dev) (p l : Nat) (f : EPorts → EPorts) : (d.setPorts p f).le l = d.le l := rfl
@[simp] theorem Dev.plate_setPe (d : Dev) (p n : Nat) (f : Pe → Pe) : (d.setPe p f).plate n = d.plate n := rfl

theorem Dev.setPe_fix (d : Dev) (p : Nat) (f : Pe → Pe) (h : f (d.pe p) = d.pe p) : d.setPe p f = d := by
  have : upd d.eng.pes p f = d.eng.pes := upd_fix _ _ _ {} h
  simp [Dev.setPe, this]

theorem Dev.setPe_congr (d : Dev) (p : Nat) (f g : Pe → Pe) (h : f (d.pe p) = g (d.pe p)) : d.setPe p f = d.setPe p g := by
  have : upd d.eng.pes p f = upd d.eng.pes p g := upd_congr _ _ _ _ {} h
  simp [Dev.setPe, this]

theorem Dev.setPe_setPe (d : Dev) (p : Nat) (f g : Pe → Pe) : (d.setPe p f).setPe p g = d.setPe p (fun e => g (f e)) := by
  simp [Dev.setPe, upd_upd]

/-- A change of registers that agrees at the engine's registers agrees. -/
theorem Dev.setRegs_congr (d : Dev) (p : Nat) (f g : Regs → Regs) (h : f (d.pe p).regs = g (d.pe p).regs) :
    d.setRegs p f = d.setRegs p g := Dev.setPe_congr d p _ _ (by simp [h])

theorem Dev.setRegs_const (d : Dev) (p : Nat) (f : Regs → Regs) : d.setRegs p f = d.setRegs p (fun _ => f (d.pe p).regs) :=
  Dev.setRegs_congr d p _ _ rfl

/-! ## Running a meaning -/

/-- One-time memory that an effect leaves alone stays as it is. -/
theorem Dev.burn_eq (old d : Dev) (h : d.sec = old.sec) : old.burn d = d := by
  cases d
  simp only at h
  subst h
  simp [Dev.burn]

/-- An effect that leaves the key slots alone is the whole change. -/
theorem State.run_eq (s : State) (f : Dev → Dev) (h : (f s.dev).sec = s.dev.sec) : s.run f = .next { s with dev := f s.dev } := by
  simp [State.run, Dev.burn_eq _ _ h]

/-- Every effect answers a next state, with the queue and the TAP as they were. -/
theorem State.run_next (s : State) (f : Dev → Dev) : ∃ d, s.run f = .next { s with dev := d } := ⟨_, rfl⟩

/-- A TAP instruction that changes nothing else is the whole change. -/
theorem State.runTap_eq (s : State) (f : Tap → Dev → Tap × Dev) (h : (f s.tap s.dev).2.sec = s.dev.sec) :
    s.runTap f = .next { s with tap := (f s.tap s.dev).1, dev := (f s.tap s.dev).2 } := by
  simp [State.runTap, Dev.burn_eq _ _ h]

/-! ## Instructions of an engine -/

/-- What `executes` says. -/
theorem Dev.executes_cases (d : Dev) (p : Nat) (h : d.executes p = true) :
    p < d.eng.pes.length ∧ (d.pe p).running = true ∧ (d.pe p).stall = .none ∧ (d.pe p).regs.pc + 4 < 0x10000 ∧ d.cutIfDue p = d := by
  simp only [Dev.executes, Bool.and_eq_true, decide_eq_true_eq, beq_iff_eq] at h
  obtain ⟨⟨⟨⟨h1, h2⟩, h3⟩, h4⟩, h5⟩ := h
  refine ⟨h1, h2, h3, h4, ?_⟩
  unfold Dev.cutIfDue
  cases hl : (d.pe p).le with
  | none => rfl
  | some l =>
    rw [hl] at h5
    simp only [Bool.not_eq_true'] at h5
    simp [h5]

/-- An engine that executes runs the instruction itself, where that does not end past the last word of IRAM. -/
theorem Dev.issue_eq (d : Dev) (p : Nat) (f : Dev → Dev) (h : d.executes p = true) (hf : ((f d).pe p).regs.pc ≠ 0x10000) :
    d.issue p f = f d := by
  obtain ⟨-, h2, h3, h4, h5⟩ := Dev.executes_cases d p h
  have h6 : d.setPe p (Pe.endWait d.tick) = d := Dev.setPe_fix _ _ _ (by simp [Pe.endWait, h3])
  have h7 : ¬ (0x10000 ≤ (d.pe p).regs.pc) := by omega
  simp [Dev.issue, h6, h5, h2, h3, h7, hf]

/-- An instruction that changes registers alone, and goes on inside IRAM. -/
theorem Dev.regOp_eq (d : Dev) (p : Nat) (f : Regs → Regs) (h : d.executes p = true) (hf : (f (d.pe p).regs).pc ≠ 0x10000) :
    d.regOp p f = d.setRegs p f := by
  have h1 := (Dev.executes_cases d p h).1
  refine Dev.issue_eq d p _ h ?_
  simp only [Dev.setRegs, Dev.pe_setPe_same _ _ _ h1]
  exact hf

/-- A meaning that changes the registers of one engine alone: the next state whole. -/
theorem State.run_regOp (s : State) (p : Nat) (f : Regs → Regs) (h : s.dev.executes p = true)
    (hf : (f (s.regs p)).pc = (s.regs p).pc + 4) : s.run (Dev.regOp p f) = .next (s.withRegs p (f (s.regs p))) := by
  have h4 := (Dev.executes_cases _ p h).2.2.2.1
  have h0 : Dev.regOp p f s.dev = s.dev.setRegs p f := Dev.regOp_eq s.dev p f h (by
    have : (f (s.dev.pe p).regs).pc = (s.dev.pe p).regs.pc + 4 := hf
    omega)
  rw [State.run_eq _ _ (by rw [h0]; rfl), h0, Dev.setRegs_const]
  rfl

end Sys2Proof.Machine
end

