-- ==== Sys2Proof/Laws/Step.lean ====
section
/-! SUPPORT. What a command and a step can do: a command runs one effect on the part, or on the part and its TAP, and nothing else but a
PORST# pulse of a width that the spec forbids. -/

namespace Sys2Proof.Machine

/-- Every command is one effect on the part, or on the part and its TAP; PORST_ASSERT may also be ignored or stop. -/
theorem exec_cases (c : Instr) (s : State) :
    (∃ f, exec c s = s.run f) ∨ (∃ f, exec c s = s.runTap f) ∨
      (∃ ns, c = .porstAssert ns ∧ (ns < 1000 ∧ exec c s = .next s ∨ 1000 ≤ ns ∧ ns < 10000 ∧ exec c s = .fault .porstWidth)) := by
  cases c
  case porstAssert ns =>
    by_cases h1 : ns < 1000
    · exact .inr (.inr ⟨ns, rfl, .inl ⟨h1, by simp [exec, execPorstAssert, h1]⟩⟩)
    · by_cases h2 : ns < 10000
      · exact .inr (.inr ⟨ns, rfl, .inr ⟨by omega, h2, by simp [exec, execPorstAssert, h1, h2]⟩⟩)
      · exact .inr (.inl ⟨_, by simp only [exec, execPorstAssert, if_neg h1, if_neg h2]; rfl⟩)
  case registerWrite t => cases t <;> exact .inl ⟨_, rfl⟩
  case vddAonPowerOn | lossOfPower | extest | samplePreload | idcode | clamp | highz | bypass | dbgChal | dbgResp | dbgState |
    dbgAddr | dbgData | dbgIstat | dbgFlog | dbgXstat | testLogicReset =>
    exact .inr <| .inl (by
      simp only [exec, execVddAonPowerOn, execLossOfPower, execExtest, execSamplePreload, execIdcode, execClamp, execHighz,
        execBypass, execDbgChal, execDbgResp, execDbgState, execDbgAddr, execDbgData, execDbgIstat, execDbgFlog, execDbgXstat,
        execTestLogicReset]
      exact ⟨_, rfl⟩)
  case typSuspRequest | typSuspRelease | pktWrite | pktEnd | eventRetry | almanacGroupCommit | journalling | serialMemoryFault | pageProgramComplete |
    sectorEraseComplete | typecaseSuspend | typecaseSuspendLimit | compositorRestart | islandReset | leaseExpiry |
    selfTestComplete | plateReady | replayComplete | timerCompare | writeBack | illegalInstruction | classificationPoint |
    addressAgeExpiry | linkDownHoldExpiry | pauseRefresh | pauseHoldExpiry | mbFrameReceived | mbFrameSent | mbBusError |
    busOffRecovery | integration | stuckDominant | lockExpiry | rateDetectTimeout | dominantEdgeWake | referenceMessage |
    potentialMasterTimeout | guardianViolation | slCharacterReceived | slCharacterSent | deLagExpiry | gapThreshold | pulseEdge |
    eventCapture | returnedCopy | returnLimit | claimForme | claimListenExpiry | substituteMeridian | portLoop | wakePin |
    compactionComplete | streamedReadComplete | referenceMessageMissed | minimumGapExpiry | rxdHighCharacterTime | frameReceive |
    egressScheduling | frameTransmitted | pipeDisagreement | pipeReloadComplete | bankRetired | linkDown | linkUp |
    pauseFrameReceive | ptpMessageReceived | ptpMessageTransmit | stepInstant | lossTimeExpiry | holdoverQualityStep | walkStop |
    meridian | cycleForme | powerStateEntry | hibernateEntry | deadlineExit | alarm | railGood | railTimeout | pwrEnRaise |
    returnToRun | challengeExpiry =>
    exact .inl (by
      simp only [exec, unitRow, ringRow, execTypSuspRequest, execTypSuspRelease, execPktWrite, execPktEnd, execEventRetry, execAlmanacGroupCommit, execJournalling,
        execSerialMemoryFault, execPageProgramComplete, execSectorEraseComplete, execTypecaseSuspend, execTypecaseSuspendLimit,
        execCompositorRestart, execIslandReset, execLeaseExpiry, execSelfTestComplete, execPlateReady, execReplayComplete,
        execTimerCompare, execWriteBack, execIllegalInstruction, execClassificationPoint, execAddressAgeExpiry,
        execLinkDownHoldExpiry, execPauseRefresh, execPauseHoldExpiry, execMbFrameReceived, execMbFrameSent, execMbBusError,
        execBusOffRecovery, execIntegration, execStuckDominant, execLockExpiry, execRateDetectTimeout, execDominantEdgeWake,
        execReferenceMessage, execPotentialMasterTimeout, execGuardianViolation, execSlCharacterReceived, execSlCharacterSent,
        execDeLagExpiry, execGapThreshold, execPulseEdge, execEventCapture, execReturnedCopy, execReturnLimit, execClaimForme,
        execClaimListenExpiry, execSubstituteMeridian, execPortLoop, execWakePin, execCompactionComplete, execStreamedReadComplete,
        execReferenceMessageMissed, execMinimumGapExpiry, execRxdHighCharacterTime, execFrameReceive, execEgressScheduling,
        execFrameTransmitted, execPipeDisagreement, execPipeReloadComplete, execBankRetired, execLinkDown, execLinkUp,
        execPauseFrameReceive, execPtpMessageReceived, execPtpMessageTransmit, execStepInstant, execLossTimeExpiry,
        execHoldoverQualityStep, execWalkStop, execMeridian, execCycleForme, execPowerStateEntry, execHibernateEntry,
        execDeadlineExit, execAlarm, execRailGood, execRailTimeout, execPwrEnRaise, execReturnToRun, execChallengeExpiry]
      exact ⟨_, rfl⟩)
  all_goals exact .inl ⟨_, rfl⟩

/-- Every command that goes on leaves the queue as it was. -/
theorem exec_pending (c : Instr) (s t : State) (h : exec c s = .next t) : t.pending = s.pending := by
  obtain ⟨f, hf⟩ | ⟨f, hf⟩ | ⟨ns, -, ⟨-, hf⟩ | ⟨-, -, hf⟩⟩ := exec_cases c s <;> rw [hf] at h <;> cases h <;> rfl

end Sys2Proof.Machine
end

