-- ==== Sys2Proof/Machine/Balls.lean ====
section
/-! DEFINITION. The state of every signal ball (22, Table 22.7): no register of its own, but what the state of the part gives it (22,
After a fault). A ball that a unit drives bit by bit while a frame, a transaction or a scan is under way is `busy`: the rows that carry
the frame or the transaction say what went over it. -/

namespace Sys2Proof.Machine

/-- The signal balls of Tables 22.4 and 22.5, by unit and by bit. -/
inductive Ball where
  | txc (e : Fin 6)
  | txd (e : Fin 6) (k : Fin 4)
  | txctl (e : Fin 6)
  | link (e : Fin 6)
  | rxc (e : Fin 6)
  | rxd (e : Fin 6) (k : Fin 4)
  | rxctl (e : Fin 6)
  | rxer (e : Fin 6)
  | mbTxd (n : Fin 4)
  | mbRxd (n : Fin 4)
  | mbStby (n : Fin 4)
  | slTxd (n : Fin 4)
  | slRxd (n : Fin 4)
  | slDe (n : Fin 4)
  | slRe (n : Fin 4)
  | tp (k : Fin 2)
  | ev (k : Fin 4)
  | tck
  | tms
  | tdi
  | tdo
  | trst
  | xtalIn
  | xtalOut
  | refclk
  | attn (l : Fin 2)
  | mdc
  | mdio
  | smSck
  | smCs (m : Fin 2)
  | smIo (k : Fin 4)
  | hqSck
  | hqCs
  | hqIo (k : Fin 4)
  | hpCs
  | hpOe
  | hpWe
  | hpWait
  | hpA (k : Fin 12)
  | hpD (k : Fin 16)
  | xt32In
  | xt32Out
  | wake (k : Fin 4)
  | pwrEn
  | porst
  | resetOut
  | bootSel (k : Fin 2)
  | hostSel (k : Fin 2)
  deriving DecidableEq, Repr

/-- A weak internal pull. -/
inductive Pull where
  | none
  | up
  | down
  deriving DecidableEq, Repr

/-- What a ball does: it drives a level; it is high-impedance; it is an input that is taken or ignored; its unit moves it bit by bit; a
crystal terminal runs or stands; or its bank has no supply. -/
inductive BallState where
  | drives (high : Bool)
  | hiZ (p : Pull)
  | input (p : Pull)
  | ignored (p : Pull)
  | busy
  | oscillating
  | stopped
  | unpowered
  deriving DecidableEq, Repr

/-- The bank of a ball (Tables 22.3 to 22.5): 0 to 3 for IOA to IOD, 4 for AON. -/
def Ball.bank : Ball → Nat
  | .txc e => e.val / 3
  | .txd e _ => e.val / 3
  | .txctl e => e.val / 3
  | .link e => e.val / 3
  | .rxc e => e.val / 3
  | .rxd e _ => e.val / 3
  | .rxctl e => e.val / 3
  | .rxer e => e.val / 3
  | .attn _ => 2
  | .mdc => 2
  | .mdio => 2
  | .smSck => 2
  | .smCs _ => 2
  | .smIo _ => 2
  | .hqSck => 2
  | .hqCs => 2
  | .hqIo _ => 2
  | .hpCs => 2
  | .hpOe => 2
  | .hpWe => 2
  | .hpWait => 2
  | .hpA _ => 2
  | .hpD _ => 2
  | .xt32In => 4
  | .xt32Out => 4
  | .wake _ => 4
  | .pwrEn => 4
  | .porst => 4
  | .resetOut => 4
  | .bootSel _ => 4
  | .hostSel _ => 4
  | _ => 3

/-- The reset state of a ball of IOA to IOD (Table 22.7). -/
def Ball.resetState (osc : Bool) : Ball → BallState
  | .txc _ => .hiZ .down
  | .txd _ _ => .hiZ .down
  | .txctl _ => .hiZ .down
  | .link _ => .ignored .down
  | .rxc _ => .ignored .down
  | .rxd _ _ => .ignored .down
  | .rxctl _ => .ignored .down
  | .rxer _ => .ignored .down
  | .mbTxd _ => .hiZ .up
  | .mbRxd _ => .ignored .up
  | .mbStby _ => .hiZ .up
  | .slTxd _ => .hiZ .up
  | .slRxd _ => .ignored .up
  | .slDe _ => .hiZ .down
  | .slRe _ => .hiZ .up
  | .tp _ => .hiZ .down
  | .ev _ => .ignored .down
  | .tck => .input .down
  | .tms => .input .up
  | .tdi => .input .up
  | .tdo => .hiZ .none
  | .trst => .input .down
  | .xtalIn => if osc then .oscillating else .stopped
  | .xtalOut => if osc then .oscillating else .stopped
  | .refclk => .input .none
  | .attn _ => .hiZ .up
  | .mdc => .hiZ .down
  | .mdio => .hiZ .none
  | .smSck => .hiZ .down
  | .smCs _ => .hiZ .up
  | .smIo _ => .hiZ .up
  | .hqSck => .ignored .down
  | .hqCs => .ignored .up
  | .hqIo _ => .hiZ .up
  | .hpCs => .ignored .up
  | .hpOe => .ignored .up
  | .hpWe => .ignored .up
  | .hpWait => .hiZ .none
  | .hpA _ => .ignored .down
  | .hpD _ => .hiZ .down
  | _ => .input .none

/-- The bank's supply is on: the switched banks have theirs while PWR_EN is high, a start found it in a class, and it has not failed
(R552). -/
def Dev.bankPowered (d : Dev) (b : Nat) : Bool :=
  d.start.phase != .aonOff &&
  (b == 4 || (d.pwr.pwrEn && !(d.start.supplyBad.getD b false) && (!d.start.resetOutHigh || d.start.bankClass.getD b 0 != 0)))

/-- The crystal oscillator on XTAL_IN and XTAL_OUT runs from step 1 on where it is selected (R561). -/
def Dev.xtalRuns (d : Dev) : Bool :=
  d.start.refXtal && (d.start.phase == .ready || d.start.phase == .hold || d.start.phase == .dead)

/-- The state of a MAC's balls out of reset (R335, R555, Tables 13.2, 22.7): `out` says how an output stands in a mode. -/
def Dev.macBall (d : Dev) (e : Nat) (b : Ball) : BallState :=
  let mode := (d.cfg.macs.getD e {}).mode
  let st := (d.func (macFid e)).st
  let on := (st == 2 || st == 3) && d.pwr.st < 2
  if mode == 0 && st == 0 then b.resetState false
  else match b with
    | .txc _ => if mode == 4 then (if on then .input .none else .ignored .none)
                else if mode == 3 || !on then .drives false else .busy
    | .txd _ k => if on && !(mode == 3 && 2 ≤ k.val) then .busy else .drives false
    | .txctl _ => if on then .busy else .drives false
    | .rxd _ k => if !on then .ignored .down else if mode == 3 && 2 ≤ k.val then .ignored .none else .input .none
    | .rxer _ => if !on then .ignored .down else if mode == 1 || mode == 2 then .ignored .none else .input .none
    | _ => if on then .input .none else .ignored .down

/-- A multidrop controller drops STBY (Tables 14.3, 14.5). -/
def Dev.mbAwakePins (d : Dev) (n : Nat) : Bool :=
  let st := (d.func (mbFid n)).st
  (d.mb n).detect.isSome || st == 1 || st == 3 || (st == 2 && (!(d.mb n).asleep || 2 ≤ (d.mbCfg n).wakeMode % 4))

/-- The state of a multidrop controller's balls out of reset. -/
def Dev.mbBall (d : Dev) (n : Nat) (b : Ball) : BallState :=
  let st := (d.func (mbFid n)).st
  match b with
  | .mbTxd _ => if (st == 2 || st == 3) && !(d.mb n).asleep then .busy else .drives true
  | .mbStby _ => .drives (!(d.mbAwakePins n))
  | _ => if st == 2 || st == 3 || (d.mb n).detect.isSome then .input .none else .ignored .up

/-- The state of a serial line's balls out of reset (Table 16.2, R415, R421, R426). -/
def Dev.slBall (d : Dev) (n : Nat) (b : Ball) : BallState :=
  let st := (d.func (slFid n)).st
  let on := (st == 2 || st == 3) && d.pwr.st < 2
  let s := d.sl n
  let hears := on && bit s.ctl 2 && (!s.de || bit s.ctl 0)
  match b with
  | .slTxd _ => if on && s.cur.isSome then .busy else .drives true
  | .slDe _ => .drives (on && s.de)
  | .slRe _ => .drives (!hears)
  | _ => if on then .input .none else .ignored .up

/-- The state of a ball of HST out of reset (R135, R138, R516, R557): a wired port that is not enabled keeps its off levels. -/
def Dev.hostBall (d : Dev) (b : Ball) : BallState :=
  let q := d.portEnabled 1
  let h := d.portEnabled 2
  let slumber := d.pwr.st == 3
  match b with
  | .hqCs => if q then .input .up else .ignored .up
  | .hqSck => if q && !slumber then .input .down else .ignored .down
  | .hqIo _ => if q && !slumber then .busy else .hiZ .up
  | .hpCs => if h then .input .up else .ignored .up
  | .hpOe => if h && !slumber then .input .up else .ignored .up
  | .hpWe => if h && !slumber then .input .up else .ignored .up
  | .hpA _ => if h then (if slumber then .ignored .none else .input .none) else .ignored .down
  | .hpD _ => if h then .busy else .hiZ .down
  | _ => if h && !slumber then .busy else .hiZ .none

/-- The state of every other ball of IOC and IOD out of reset. -/
def Dev.sharedBall (d : Dev) (b : Ball) : BallState :=
  match b with
  | .attn l => .drives (!(d.attnLine l.val))
  | .mdc => .drives false
  | .mdio => .hiZ .none
  | .smSck => .drives false
  | .smCs _ => .drives true
  | .smIo _ => .hiZ .up
  | .tp k => .drives (d.orr.pulses.getD k.val {}).high
  | .ev k => if (d.cfg.time.capture.getD k.val {}).edge != 0 && d.pwr.st < 3 then .input .none else .ignored .down
  | .tck => .input .down
  | .tms => .input .up
  | .tdi => .input .up
  | .tdo => .hiZ .none
  | .trst => .input .down
  | .xtalIn => if d.xtalRuns then .oscillating else .stopped
  | .xtalOut => if d.xtalRuns then .oscillating else .stopped
  | .refclk => if d.start.refXtal then .ignored .none else .input .none
  | _ => d.hostBall b

/-- The state of an AON ball. The PDs of the straps are on in the latch window alone (R558). -/
def Dev.aonBall (d : Dev) (b : Ball) : BallState :=
  let window := d.start.phase == .porstLow
  match b with
  | .pwrEn => .drives d.pwr.pwrEn
  | .resetOut => .drives d.start.resetOutHigh
  | .wake _ => .input .none
  | .porst => .input .none
  | .bootSel _ => if window then .input .down else .ignored .none
  | .hostSel _ => if window then .input .down else .ignored .none
  | _ => .oscillating

/-- The unit of a ball of IOA to IOD out of reset gives its state. -/
def Dev.unitBall (d : Dev) (b : Ball) : BallState :=
  match b with
  | .txc e => d.macBall e.val b
  | .txd e _ => d.macBall e.val b
  | .txctl e => d.macBall e.val b
  | .link e => d.macBall e.val b
  | .rxc e => d.macBall e.val b
  | .rxd e _ => d.macBall e.val b
  | .rxctl e => d.macBall e.val b
  | .rxer e => d.macBall e.val b
  | .mbTxd n => d.mbBall n.val b
  | .mbRxd n => d.mbBall n.val b
  | .mbStby n => d.mbBall n.val b
  | .slTxd n => d.slBall n.val b
  | .slRxd n => d.slBall n.val b
  | .slDe n => d.slBall n.val b
  | .slRe n => d.slBall n.val b
  | _ => d.sharedBall b

/-- The state of a ball (R552 to R557). -/
def Dev.ball (d : Dev) (b : Ball) : BallState :=
  if !(d.bankPowered b.bank) then .unpowered
  else if b.bank == 4 then d.aonBall b
  else if !d.start.resetOutHigh then b.resetState d.xtalRuns
  else d.unitBall b

/-- The state of a ball with the TAP beside it (R565): in Hold mode HIGHZ makes the balls of IOA to IOD high-impedance, and EXTEST and
CLAMP hold them from the boundary register, whose cells are the board's to lay out. -/
def State.ball (s : State) (b : Ball) : BallState :=
  if b.bank == 4 || s.dev.start.phase != .hold || !(s.dev.bankPowered b.bank) then s.dev.ball b
  else if s.tap.ir == 4 then .hiZ .none
  else if s.tap.ir == 0 || s.tap.ir == 3 then .busy
  else s.dev.ball b

end Sys2Proof.Machine
end

