-- ==== Sys2Proof/Tests/Slice0.lean ====
section
/-! SUPPORT. Tests: ill-formed commands that WellFormed refuses, check values of the spec and of the standards that it names, single steps
worked by hand from the spec's examples, and for every obligation with hypotheses a state and operands that meet them. -/

namespace Sys2Proof.Tests

open Sys2Proof.Machine

set_option maxRecDepth 8000
set_option Elab.async false

/-! ## States -/

/-- A part in READY and RUN with every island up, every crossing open and every function ON: channel 0 is open to the QSPI port, and PE0
runs logical engine 0. -/
def up : Dev :=
  { tick := 1000000
    islands := islandTable.map (fun i => { i with st := 2 })
    crossings := crossingTable.map (fun c => { c with isOpen := true })
    funcs := funcTable.map (fun f => { f with st := 2 })
    start := { phase := .ready }
    verind := { chans := { st := 2, peer := { port := 1 } } :: List.replicate 7 {} }
    eng := { pes := { running := true, status := 1, le := some 0 } :: List.replicate 13 {}, les := { pe := some 0 } :: List.replicate 11 {} } }

/-- A state of that part after a change. -/
def st (f : Dev → Dev) : State := { dev := f up }

/-- A state in which PE0 has registers 1 and 2 as given. -/
def regs12 (a b : Word) : State := st (fun d => d.setPe 0 (fun e => { e with regs := { g := [0#32, a, b] ++ List.replicate 13 0#32 } }))

/-! ## Well-formed commands

Each list has one ill-formed term for each check, one past the end of its range; the terms at the ends are well formed. -/

theorem test_packets_wf : ({} : VCmd).wf = true ∧ ({ channel := 255, seq := 65535, params := zeros 4076 } : VCmd).wf = true ∧
    (∀ c ∈ ([{ src := { port := 0 } }, { src := { port := 4 } }, { src := { ip := 2 ^ 32 } }, { src := { udp := 65536 } }, { src := { mac := 2 ^ 48 } },
      { src := { vid := 4096 } }, { length := 65536 }, { seq := 65536 }, { channel := 256 }, { status := 65536 }, { fid := 65536 },
      { crc := 2 ^ 32 }, { params := zeros 4077 }] : List VCmd), c.wf = false ∧ (Instr.deviceInfo c).wf = false ∧ (Instr.attnConfig c).wf = false) := by
  decide +kernel

theorem test_start_wf : ({} : StartIn).wf = true ∧
    (∀ x ∈ ([{ supplies := [] }, { sm := [] }, { badEngines := [14] }, { badKeys := [8] }] : List StartIn),
      x.wf = false ∧ (Instr.start x).wf = false ∧ (Instr.railGood x).wf = false) := by decide +kernel

theorem test_memory_items_wf :
    (∀ x ∈ [MemItem.plateWrite 63, .ringEntry 31 65535, .object 3 127, .openRing 3 1023, .standby 5, .engine 13, .flashWord 1 0, .copied, .journalCache],
      (Instr.uncorrectableMemoryError x).wf = true) ∧
    (∀ x ∈ [MemItem.plateWrite 64, .plateCommitted 64, .plateBoth 64, .ringEntry 32 0, .ringEntry 0 65536, .object 4 0, .object 0 128, .openRing 4 0,
      .openRing 0 1024, .standby 6, .engine 14, .flashWord 2 0], (Instr.uncorrectableMemoryError x).wf = false) ∧
    (Instr.supplyFault (.bank 3)).wf = true ∧ (Instr.supplyFault (.bank 4)).wf = false := by decide +kernel

theorem test_frames_wf :
    (Instr.mbFrameReceived 3 { ident := 0x7FF, dlc := 15, data := zeros 64 }).wf = true ∧
    (∀ i ∈ [Instr.mbFrameReceived 4 {}, .mbFrameReceived 0 { ident := 0x800 }, .mbFrameReceived 0 { ide := true, ident := 2 ^ 29 },
      .mbFrameReceived 0 { dlc := 16 }, .mbFrameReceived 0 { data := zeros 65 }, .mbBusError 4 {}, .mbBusError 0 { code := 0 },
      .mbBusError 0 { code := 7 }, .ptpMessageReceived { mac := 6 }, .frameReceive 6 [] false, .classificationPoint 6 (zeros 64),
      .classificationPoint 0 (zeros 63), .slCharacterReceived 4 0 false false false 0, .slCharacterReceived 0 512 false false false 0,
      .noncachingWrite 524288 [0#8], .noncachingWrite 0 [], .noncachingWrite 0 (zeros 65)], i.wf = false) := by decide +kernel

/-- Rows whose operand is one past its range. -/
theorem test_ill_formed_commands_refused : ∀ i ∈ ([
  .pktRead false 4097, .winWrite false (2 ^ 32) [], .winRead false (2 ^ 32) 4, .winRead false 0 4097, .windowReadRequest { port := 4 } [],
  .windowWriteRequest { port := 0 } [], .arpRequest (2 ^ 48) 0 0 0, .arpRequest 0 4096 0 0, .arpRequest 0 0 (2 ^ 32) 0, .arpRequest 0 0 0 (2 ^ 32),
  .reassemblyTimeout (2 ^ 32), .eventRetry 65536, .outputQueueTimeout 0, .outputQueueTimeout 4, .vddAonPowerOn 4 0 true, .vddAonPowerOn 0 4 true,
  .porstRelease 4 0, .porstRelease 0 4, .resilveringEnd 2 true false 0, .serialMemoryFault 2, .typecaseSuspend 2, .typecaseSuspendLimit 2,
  .patrolRead 2 0 [] 0, .patrolRead 0 1024 [] 0, .engineFault 0 0, .engineFault 0 9, .hangTimeout 64, .clockFault 64, .islandReset 64,
  .leaseExpiry 0 0, .leaseExpiry 11 0, .leaseExpiry 1 512, .functionStartComplete 65536, .drainComplete 65536, .drainLimitExpiry 65536,
  .startLimitExpiry 65536, .selfTestComplete none 65536 true, .meridian 6, .plateReady 64, .cut 12, .replayComplete 12 true, .takeover 12,
  .joinCopyComplete 12, .directorySharedRequest 0 8192, .directoryOwnedRequest 0 8192, .noncachingRead 8192] : List Instr), i.wf = false := by decide +kernel

theorem test_more_ill_formed_commands_refused : ∀ i ∈ ([
  .egressScheduling 6, .frameTransmitted 6, .addressAgeExpiry 2048, .pipeReloadComplete 2, .bankRetired 8, .linkDownHoldExpiry 6, .linkDown 6,
  .linkUp 6, .pauseRefresh 6, .pauseFrameReceive 6 [], .pauseHoldExpiry 6, .mbFrameSent 4, .busOffRecovery 4, .integration 4, .stuckDominant 4,
  .lockExpiry 4 0, .lockExpiry 0 128, .rateDetectTimeout 4, .dominantEdgeWake 4, .referenceMessage 4 {}, .referenceMessageMissed 4,
  .potentialMasterTimeout 4, .impositionEntry 6, .guardianViolation 4, .slCharacterSent 4, .deLagExpiry 4, .gapThreshold 4, .minimumGapExpiry 4,
  .rxdHighCharacterTime 4, .ptpMessageTransmit 6 .sync, .pulseEdge 2, .eventCapture 4 true, .cycleForme 2 false [], .returnedCopy 2 false false [],
  .returnLimit 2, .claimForme 2 false [], .claimListenExpiry 2, .substituteMeridian 2, .portLoop 2 false, .wakePin 4 true none,
  .extest [] (List.replicate 300 false), .extest (List.replicate 300 false) [], .samplePreload [] (List.replicate 300 false),
  .samplePreload (List.replicate 300 false) [], .dbgResp [], .bankSupplyReturn 4] : List Instr), i.wf = false := by decide +kernel

theorem test_well_formed_commands : ∀ i ∈ [Instr.pktRead true 4096, .winRead true 0 4096, .outputQueueTimeout 3, .porstRelease 3 3, .patrolRead 1 1023 [] 0,
    .engineFault 13 8, .leaseExpiry 5 511, .meridian 5, .plateReady 63, .cut 11, .directorySharedRequest 13 8191, .addressAgeExpiry 2047, .bankRetired 7,
    .lockExpiry 3 127, .guardianViolation 3, .pulseEdge 1, .wakePin 3 false none, .dbgResp (zeros 64), .bankSupplyReturn 3, .waitu 0 1 16], i.wf = true := by
  decide +kernel

theorem test_no_word_spells_a_command : ∀ n < 64, decodeTableWord n (2 ^ n - 1) = none := fun _ _ => rfl

/-! ## Check values -/

/-- R81 and R267: the check value of the CRC-32C of "123456789". -/
theorem test_crc32c_check : crc32c ([0x31, 0x32, 0x33, 0x34, 0x35, 0x36, 0x37, 0x38, 0x39].map (BitVec.ofNat 8)) = 0xE3069283#32 := by decide +kernel

/-- FIPS 180-4's example "abc". -/
theorem test_sha256_abc : (sha256 [0x61#8, 0x62#8, 0x63#8]).take 4 = [0xBA#8, 0x78#8, 0x16#8, 0xBF#8] := by decide +kernel

/-- The queue is first in, first out, and an empty queue idles for one period of 25 MHz (log entry 1). -/
theorem test_queue : (match step { dev := up, pending := [.walkStop, .wait 0] } with
    | .next t => t.pending == [.wait 0]
    | _ => false) = true ∧ (match step (st id) with
    | .next t => t.dev.tick == up.tick + 40
    | _ => false) = true := by decide +kernel

/-! ## Engine instructions (10) -/

theorem witness_AluAndBitOperations : (regs12 1 2).dev.executes 0 = true ∧ ((0 : Fin 32).val + (31 : Fin 32).val ≤ 31) ∧
    31 < (1 : Fin 32).val + (31 : Fin 32).val := by decide

theorem witness_CrcSteps : (regs12 1 2).dev.executes 0 = true ∧ (2 : Fin 4).val ≤ 2 ∧ (3 : Fin 4).val = 3 := by decide

theorem witness_ControlTransfers :
    (regs12 0xFFFC 0).dev.executes 0 = true ∧ ((regs12 0xFFFC 0).regs 0).z = false ∧
    (let t : Int := (((regs12 0xFFFC 0).regs 0).pc : Int) + 4 * (0#22).toInt; 0 ≤ t ∧ t ≤ 0xFFFC ∧ t % 4 = 0) ∧
    (let t : Int := ((((regs12 0xFFFC 0).regs 0).get 1 + (0#18).signExtend 32).toNat : Int); 0 ≤ t ∧ t ≤ 0xFFFC ∧ t % 4 = 0) := by decide

theorem witness_LoadsFromOwnMemory :
    (regs12 0x17FFC 0).dev.executes 0 = true ∧
    (let a := (((regs12 0x17FFC 0).regs 0).get 1 + (0#16).signExtend 32).toNat; a % 4 = 0 ∧ a < 0x18000) := by decide

theorem witness_StoresToDram :
    (regs12 0x17FFC 0).dev.executes 0 = true ∧ Mem.wf 0 ((regs12 0x17FFC 0).dev.pe 0).dram = true ∧
    (let a := (((regs12 0x17FFC 0).regs 0).get 1 + (0#16).signExtend 32).toNat; a % 4 = 0 ∧ 0x10000 ≤ a ∧ a < 0x18000) := by decide

theorem witness_BadAccessesFault :
    (regs12 0x18000 0x17FFE).dev.executes 0 = true ∧
    (let a := (((regs12 0x18000 0x17FFE).regs 0).get 1 + (0#16).signExtend 32).toNat
     0x18000 ≤ a ∧ ¬ (0x10000000 ≤ a ∧ a < 0x10080000) ∧ ¬ (0x20000000 ≤ a ∧ a < 0x20800000)) ∧
    (let a := (((regs12 0x18000 0x17FFE).regs 0).get 2 + (0#16).signExtend 32).toNat; ¬ 0x18000 ≤ a ∧ a % 4 ≠ 0) ∧
    (let a := (((regs12 0x18000 0x17FFE).regs 0).get 0 + (0#16).signExtend 32).toNat; a % 4 = 0 ∧ a < 0x10000) := by decide

/-- A state in which PE0 holds line 8191 of PIM, owned or not, and registers 1 and 2 name DRAM's last word and that line's. -/
def cached (owned : Bool) : State :=
  st (fun d => d.setPe 0 (fun e => { e with
    regs := { g := [0#32, 0x17FFC#32, 0x1007FFC0#32] ++ List.replicate 13 0#32 }, cache := [{ line := 8191, owned := owned, data := zeros 64 }] }))

theorem witness_AtomicsAndCacheOperations :
    (cached true).dev.executes 0 = true ∧ Mem.wf 0 ((cached true).dev.pe 0).dram = true ∧
    (let a := (((cached true).regs 0).get 1).toNat; a % 4 = 0 ∧ 0x10000 ≤ a ∧ a < 0x18000 ∧
      BitVec.ofNat 32 (leVal (Mem.getBytes 0 ((cached true).dev.pe 0).dram (dramOff a) 4)) = ((cached true).regs 0).get 0 ∧
      BitVec.ofNat 32 (leVal (Mem.getBytes 0 ((cached true).dev.pe 0).dram (dramOff a) 4)) ≠ ((cached true).regs 0).get 1) ∧
    (let a := (((cached true).regs 0).get 2).toNat; 0x10000000 ≤ a ∧ a < 0x10080000 ∧ (cached true).dev.pimArea (pimOff a) = .static ∧
      pimOff a / 64 = 8191) ∧
    ((cached true).dev.pe 0).evb.length < 4 ∧ (((cached true).dev.pe 0).cached 8191).map (·.owned) = some true ∧
    (((cached false).dev.pe 0).cached 8191).map (·.owned) = some false ∧ (cached false).dev.executes 0 = true := by decide

/-- A state at tick 0 in which PE0 accepts tick `t`, with event 0 enabled and perhaps pending, and register 1 names a target. -/
def waits (t : Nat) (pend : Word) (target : Word) : State :=
  st (fun d => { d with tick := 0 }.setPe 0 (fun e => { e with
    regs := { g := [0#32, target] ++ List.replicate 14 0#32 }, ports := { mask := 1#32, pend := pend, lastTick := t } }))

/-- At tick 0 an engine accepts its last tick, however old the tick may be. -/
theorem accepted_at_zero (d : Dev) (p : Nat) (h : d.tick = 0) : (d.accepted p).1 = (d.pe p).ports.lastTick := by
  simp [Dev.accepted, Dev.draw, h]; rfl

theorem witness_Waits :
    (waits 5 1#32 5#32).dev.executes 0 = true ∧ ((waits 5 1#32 5#32).dev.pe 0).ports.pend &&& ((waits 5 1#32 5#32).dev.pe 0).ports.mask ≠ 0#32 ∧
    ¬ ((waits 5 0#32 6#32).dev.pe 0).ports.pend &&& ((waits 5 0#32 6#32).dev.pe 0).ports.mask ≠ 0#32 ∧
    0 ≤ (BitVec.ofNat 32 (((waits 5 1#32 5#32).dev.accepted 0).1 / 2 ^ 0) - ((waits 5 1#32 5#32).regs 0).get 1).toInt ∧
    ¬ 0 ≤ (BitVec.ofNat 32 (((waits 5 0#32 6#32).dev.accepted 0).1 / 2 ^ 0) - ((waits 5 0#32 6#32).regs 0).get 1).toInt := by
  rw [accepted_at_zero _ _ rfl, accepted_at_zero _ _ rfl]; decide

theorem witness_LegalAndIllegalWords :
    legalWord 0xFFFFFFFF#32 = false ∧ legalWord 0x04000000#32 = true ∧ 16 < (17 : Fin 32).val ∧ (3#2 : BitVec 2) = 3#2 ∧ 2#2 ≤ (2#2 : BitVec 2) ∧
    (0xFFFFFFFF#32).toNat / 2 ^ 26 ∉ [0x01, 0x02, 0x03, 0x04, 0x05, 0x06, 0x07, 0x08, 0x09, 0x10, 0x11, 0x12, 0x13, 0x14, 0x18, 0x19, 0x1A,
      0x20, 0x21, 0x22, 0x28] ∧ (0x04000000#32).toNat / 2 ^ 26 = 0x01 := by decide

theorem witness_PortInstructions :
    (regs12 0x33 0x100).dev.executes 0 = true ∧ (((regs12 0x33 0x100).regs 0).get 0 + (0x02#8).setWidth 32).toNat = 0x02 ∧
    (((regs12 0x33 0x100).regs 0).get 0 + (0x03#8).setWidth 32).toNat = 0x03 ∧
    (((regs12 0x33 0x100).regs 0).get 0 + (0x31#8).setWidth 32).toNat = 0x31 ∧
    (((regs12 0x33 0x100).regs 0).get 0 + (0x04#8).setWidth 32).toNat = 0x04 ∧
    (((regs12 0x33 0x100).regs 0).get 1 + (0x00#8).setWidth 32).toNat = 0x33 ∧
    0xFF < (((regs12 0x33 0x100).regs 0).get 2 + (0x00#8).setWidth 32).toNat := by decide

/-- A state in which PE0's registers 1 and 2 name bytes of DRAM and ring 0, which has four entries and one item of 4 bytes where `n` is 1. -/
def ringSt (dir n : Nat) (len : Nat) : State :=
  st (fun d => { d with
    cfg := { d.cfg with rings := { entries := 4, dir := dir } :: List.replicate 31 {} },
    hst := { d.hst with mem := [(0, 1#8), (2, 4#8), (16, 7#8)], rings := { pi := n, bound := some 0 } :: List.replicate 31 {} } }.setPe 0
      (fun e => { e with regs := { g := [0#32, 0x10000#32, BitVec.ofNat 32 (len * 65536)] ++ List.replicate 13 0#32 } }))

theorem witness_QputPublishesOrDiscards :
    (let s := ringSt 1 0 4; s.dev.executes 0 = true ∧ s.dev.peReach 0 4 = true ∧ s.dev.isOn (ringFid 0) = true ∧ (s.dev.ringCfg 0).dir = 1 ∧
      (s.dev.ring 0).resv = [] ∧ (s.dev.ring 0).count + itemEntries 4 ≤ (s.dev.ringCfg 0).entries ∧ 0 < s.dev.hst.rings.length ∧
      ((s.regs 0).get 2).toNat / 65536 = 4 ∧ ((s.regs 0).get 2).toNat % 65536 = 0) ∧
    (let s := ringSt 1 4 4; s.dev.executes 0 = true ∧ s.dev.peReach 0 4 = true ∧ s.dev.isOn (ringFid 0) = true ∧ (s.dev.ringCfg 0).dir = 1 ∧
      (s.dev.ring 0).resv = [] ∧ (s.dev.ringCfg 0).entries < (s.dev.ring 0).count + itemEntries 4) := by decide

theorem witness_QgetTakesTheOldestItem :
    (∀ n ∈ [0, 1], ∀ len ∈ [0, 4], let s := ringSt 2 n len; s.dev.executes 0 = true ∧ s.dev.peReach 0 4 = true ∧ s.dev.isOn (ringFid 0) = true ∧
      (s.dev.ringCfg 0).dir = 2 ∧ (s.dev.ring 0).bound = some (s.dev.leOf 0) ∧ Mem.wf 0 (s.dev.pe 0).dram = true ∧ (s.dev.ring 0).count = n) ∧
    (let s := ringSt 2 1 4
     let head := Mem.getBytes 0 s.dev.hst.mem ((s.dev.ringCfg 0).at (s.dev.ring 0).ci) 4
     byteAt head 0 = 1 ∧ fld head 2 2 = 4 ∧ itemEntries 4 ≤ (s.dev.ring 0).count) := by decide

/-! ## The ports of an engine (9, 15, 16, 18) -/

/-- A state in which PE0's ports are changed by `f`. -/
def ports (f : EPorts → EPorts) : State := st (fun d => d.setPorts 0 f)

/-- A part in which logical engine 0 holds a quoin in its slot 0. -/
def holding (kind inst : Nat) (d : Dev) : Dev :=
  (d.grant kind inst (.le 0) 0 0).setSlot 0 0 (fun _ => { st := 1, kind := kind, inst := inst })

theorem witness_EngineIslandPorts :
    (let s := ports (fun q => { q with rxAddr := 0x17FC0 })
     let q := (s.dev.pe 0).ports
     s.dev.executes 0 = true ∧ s.dev.peReach 0 6 = true ∧ q.rxPosted.length < 16 ∧ q.rxAddr % 4 = 0 ∧ 0x10000 ≤ q.rxAddr ∧
       q.rxAddr + 64 ≤ 0x18000 ∧ 0x18000 < q.rxAddr + 65 ∧ q.rxDone = []) ∧
    (let s := ports (fun q => { q with rxDone := [(64, 15)], rxPosted := List.replicate 16 (0, 0, 64) })
     s.dev.executes 0 = true ∧ (s.dev.pe 0).ports.rxDone = [(64, 15)] ∧ 16 ≤ (s.dev.pe 0).ports.rxPosted.length) ∧
    10 ≤ (10#32).toNat ∧ (1000000#32).toNat ≤ 1000000 ∧ (9#32).toNat < 10 ∧ 1000000 < (1000001#32).toNat ∧ (0#32 : Word) ≠ 0xC3A5#32 := by
  decide +kernel

theorem witness_QuoinAndPlatePorts :
    (let s := st id
     let x := s.dev.le (s.dev.leOf 0)
     s.dev.executes 0 = true ∧ s.dev.leOf 0 < s.dev.eng.les.length ∧ x.qslots.length = 16 ∧
       (s.dev.quoins.any (fun q => q.kind == 10 && q.inst == 0x23)) = true ∧ x.slotOf 10 0x23 = none ∧ x.freeSlot = some 0 ∧
       (∀ q ∈ x.qslots, q.st ≠ 2) ∧ reqInstance 10 0x23 = true ∧ reqLease 10 (s.dev.pe 0).ports.qlease = true ∧
       (s.dev.quoin 10 0x23).owner = none ∧ s.dev.peWrites 0 0 = false) ∧
    (let s := st (holding 1 0)
     let x := s.dev.le (s.dev.leOf 0)
     s.dev.executes 0 = true ∧ (s.dev.quoins.any (fun q => q.kind == 1 && q.inst == 0)) = true ∧ x.slotOf 1 0 = some 0 ∧
       (x.qslots.getD 0 {}).st = 1 ∧ (s.dev.quoin 1 0).queue = []) ∧
    (let s := st (fun d => (holding 4 63 d).setPlate 63 (fun q => { q with declared := true, size := 64 }) |>.setPorts 0 (fun q => { q with plateSel := 63 }))
     s.dev.executes 0 = true ∧ s.dev.peReach 0 7 = true ∧ s.dev.peWrites 0 63 = true ∧ (s.dev.pe 0).ports.plateSel = 63 ∧
       (s.dev.plate 63).declared = true ∧ (s.dev.plate 63).dom = none) := by decide +kernel

/-- A state in which logical engine 0 holds `kind` and its instance, and PE0's ports are changed by `f`. -/
def holds (kind inst : Nat) (f : EPorts → EPorts := id) (g : Dev → Dev := id) : State := st (fun d => g ((holding kind inst d).setPorts 0 f))

theorem witness_FrameAlmanacAndImpositionPorts :
    (let s := ports (fun q => { q with txAddr := 0x17FC0 })
     let q := (s.dev.pe 0).ports
     s.dev.executes 0 = true ∧ q.txOut.length < 8 ∧ q.txAddr % 4 = 0 ∧ 0x10000 ≤ q.txAddr ∧ q.txAddr + 60 ≤ 0x18000 ∧ s.dev.peReach 0 8 = true ∧
       (s.dev.inject 6 (withFcs (Mem.getBytes 0 (s.dev.pe 0).dram (dramOff q.txAddr) 60)) 0 (some 1)).2.1 = []) ∧
    (let s := ports (fun q => { q with txOut := List.replicate 8 0 }); s.dev.executes 0 = true ∧ 8 ≤ (s.dev.pe 0).ports.txOut.length) ∧
    (let s := holds 1 0 (fun q => { q with almKey := 0x8000, almLen := 4, almAddr := 0x17FFC }) (fun d => d.setCopy 0 (fun c =>
       { c with valid := true, journal := [{ key := 0x8000, len := 4, body := .user [1#8, 2#8, 3#8, 4#8] }] }) |>.setAlm (fun a => { a with primary := some 0 }))
     let q := (s.dev.pe 0).ports
     s.dev.executes 0 = true ∧ s.dev.peReach 0 1 = true ∧ 0x8000 ≤ q.almKey ∧ s.dev.alm.value q.almKey = some [1#8, 2#8, 3#8, 4#8] ∧
       0x10000 ≤ q.almAddr ∧ q.almAddr + min 4 q.almLen ≤ 0x18000 ∧ s.dev.holds 1 0 (.le (s.dev.leOf 0)) = true ∧ q.almStat / 2 ^ 30 % 4 ≠ 1 ∧
       q.almLen ≤ 2048 ∧ q.almAddr + q.almLen ≤ 0x18000 ∧ s.dev.alm.anyValid = true) ∧
    (let s := holds 0x0A 1; s.dev.executes 0 = true ∧ s.dev.reachesUnit 0 0 1 = true ∧ ((s.dev.renew 0x0A 1).frCtl 1 3).isSome = true ∧
       (s.dev.renew 0x0A 1).frCtl 1 1 = none ∧ ((s.dev.renew 0x0A 1).frCtl 1 2).isSome = true) ∧
    (let s := holds 9 0 id (fun d => d.setDom 0 (fun x => { x with standby := [(4, 0x0F#8), (12, 0xFF#8)] })); s.dev.executes 0 = true ∧ impHeld s.dev 0 = true ∧ (s.dev.doms.getD 0 {}).pendN = none ∧
       (s.dev.renew 9 0).tableOk (s.dev.sel 0 6) (s.dev.doms.getD 0 {}).standby = true ∧ (0xFFFF#16 : BitVec 16) ≠ 0#16) ∧
    impHeld (st id).dev 0 = false := by decide +kernel

theorem witness_BusUnitPorts :
    (let s := holds 0x0A 0x13 id (fun d => { holding 5 511 d with cfg := { d.cfg with mbs := upd d.cfg.mbs 3 (fun c =>
       { c with objs := upd c.objs 127 (fun o => { o with use := 2 }) }) } }.setSel 0 5 (127 * 65536))
     let m := s.dev.renew 0x0A 0x13
     s.dev.executes 0 = true ∧ s.dev.reachesUnit 0 1 3 = true ∧ (m.mbSetCi 3 0).1 = true ∧ (m.mbSetCi 3 0xFFFF).1 = false ∧
       (s.dev.pe 0).sel.sel.getD 5 0 / 65536 = 127 ∧ m.holds 5 (128 * 3 + 127) (.le 0) = true ∧ (m.objCfg 3 127).use = 2 ∧
       m.holds 5 (128 * 3) (.le 0) = false) ∧
    (let s := holds 0x0A 0x23 id (holding 6 3)
     let u := s.dev.renew 0x0A 0x23
     s.dev.executes 0 = true ∧ s.dev.reachesUnit 0 2 3 = true ∧ (u.slTxdata 3 0 0x41).isSome = true) ∧
    (let s := holds 0x0A 0x23 id (fun d => d.setSl 3 (fun x => { x with txf := List.replicate 64 (0, 0) }))
     s.dev.reachesUnit 0 2 3 = true ∧ (s.dev.renew 0x0A 0x23).slTxdata 3 0 0x41 = none) ∧
    (st id).dev.unitOf 0 0x20 4 = none ∧ (1#32).toNat % 2 = 1 ∧ (0#32).toNat % 2 = 0 := by decide +kernel

/-! ## Packets, channels, events and transports (4, 6) -/

/-- A packet with its lengths and its CRC made right for its parameters, under opcode `op`. -/
def sealed (op : Nat) (c : VCmd) : VCmd :=
  let c : VCmd := { c with framed := 20 + c.params.length, length := 20 + c.params.length }
  { c with crc := (crc32c (VCmd.covered op c)).toNat }

/-- The right packet of row `i`, on channel 0 with sequence 0 from the QSPI port. -/
def pkt (i : VCmd → Instr) (fid : Nat) (params : List Byte) : VCmd :=
  sealed (((verindOf (i {})).map (·.1)).getD 0) { fid := fid, params := params }

/-- Row `i` with these parameters is a packet that executes at once in `s`. -/
def asks (s : State) (i : VCmd → Instr) (fid : Nat) (params : List Byte) : Bool := s.takes (i (pkt i fid params)) fid params.length

theorem witness_PacketsExecuteAndAreAnswered :
    (let c := pkt .deviceInfo 0 []
     verindOf (.deviceInfo c) = some (0, c) ∧ (st id).dev.takesNext 0 c = true ∧
       (execOpcode { op := 0, cmd := c } ((st id).packet (.deviceInfo c))).isSome = true) ∧
    (let h : Held := { cmd := pkt .deviceInfo 0 [] }
     h.recov = false ∧ h.dup = false ∧ h.cmd.channel < up.verind.chans.length ∧ 1 ≤ (up.chan 0).peer.port ∧
       (up.chan 0).peer.port ≤ up.hst.ports.length) ∧
    20 + (zeros 4076).length ≤ 4096 ∧ (zeros 4076).length % 4 = 0 := by decide +kernel

theorem witness_ChannelsOpenAndClose :
    (∀ k ∈ [0, 7], ∀ seq ∈ [0, 32767], let c := sealed 1 { channel := k, seq := seq, params := [1#8, 0#8, 0#8, 0#8] }
      let d := (st id).dev
      d.portEnabled c.src.port = true ∧ d.pwr.st ≤ 1 ∧ d.start.phase = .ready ∧ d.verind.resetReq = none ∧ d.cmp.restarting = false ∧
      16 ≤ c.framed ∧ c.sync = 0xA7#8 ∧ c.channel < d.verind.chans.length ∧ VCmd.check35 0x0001 c = none ∧ byteAt c.params 0 = 1 ∧
      fld c.params 1 3 = 0 ∧ ((d.chan k).st = 0 ∧ (d.chan k).held = [] ∨
        (d.chan k).st = 2 ∧ Peer.same (d.chan k).peer c.src = true ∧ (c.seq + 65536 - (d.chan k).base) % 65536 < 32768)) ∧
    asks (st id) .channelClose 0 [] = true ∧ 0 < up.pwr.deadlines.length := by decide +kernel

/-- A part with `n` events from number 5 on, of which `k` have been sent. -/
def events (n k : Nat) (d : Dev) : Dev :=
  d.setVerind (fun v => { v with events := (List.range n).map (fun i => { seq := 5 + i, shown := if i < k then 1 else 0 }), evSeq := 5 + n })

theorem witness_EventDelivery :
    (let v : Verind := { chans := List.replicate 7 {} ++ [{ st := 2, order := 1 }], opens := 1 }
     v.chans.length = 8 ∧ (v.chans.getD 7 {}).st = 2 ∧ (v.chans.getD 7 {}).order = v.opens ∧ 0 < v.opens ∧
       (∀ j < 7, (v.chans.getD j {}).order ≠ v.opens)) ∧
    (let v : Verind := { chans := List.replicate 7 { st := 2 } ++ [{ order := 1 }], opens := 1 }
     v.chans.length = 8 ∧ ∀ j < 8, (v.chans.getD j {}).order = v.opens → (v.chans.getD j {}).st ≠ 2) ∧
    (events 255 0 up).cmp.restarting = false ∧ (events 256 0 up).cmp.restarting = false ∧
    ({ up with cmp := { up.cmp with restarting := true } } : Dev).cmp.restarting = true ∧
    (events 255 0 up).verind.events.length + (events 255 0 up).verind.outstanding < 256 ∧
    256 ≤ (events 256 0 up).verind.events.length + (events 256 0 up).verind.outstanding ∧
    128 ≤ (up.setVerind (fun v => { v with outstanding := 128 })).verind.reserved ∧
    (∀ last ∈ [4, 5, 6, 7], asks (st (events 3 2)) .eventAck 0 (leb 2 last ++ [0#8, 0#8]) = true) ∧
    (let v := ((st (events 3 2)).packet (.eventAck (pkt .eventAck 0 (leb 2 5 ++ [0#8, 0#8])))).verind
     (v.sentTo + 65536 - v.ackFrom) % 65536 = 2 ∧ (4 + 65537 - v.ackFrom) % 65536 = 0 ∧ (6 + 65537 - v.ackFrom) % 65536 = 2 ∧
       (7 + 65537 - v.ackFrom) % 65536 = 3) := by decide +kernel

/-- A line configuration of `n` bytes that names rate `r`. -/
def slParams (r : Nat) : List Byte := leb 4 r ++ [8#8, 0#8, 1#8, 0#8] ++ zeros 4

theorem witness_CommandsRefused_opcode : ∀ (i : Instr) (c : VCmd), verindOf i ≠ some (0xFFFF, c) := by
  intro i c; cases i <;> simp [verindOf]

theorem witness_CommandsRefused :
    (∀ fid ∈ [0x02FF, 0x0304], asks (st id) .slConfig fid [] = true) ∧ asks (st id) .slConfig 0x0300 (zeros 16) = true ∧
    (∀ r ∈ [299, 12000001], asks (st id) .slConfig 0x0300 (slParams r) = true ∧ fld (slParams r) 0 4 = r) ∧
    (∀ f ∈ [0, 1, 5], let s := st (fun d => d.setFunc 0x0300 (fun x => { x with st := f }))
      asks s .slConfig 0x0300 (slParams 300) = true ∧ (s.dev.func 0x0300).st = f ∧ (s.dev.slCfg 0).rate ≠ 300) ∧
    (let s := st (fun d => (d.setFunc 0x0300 (fun x => { x with st := 0 })).setVerind (fun v =>
       { v with backlog := (List.range 64).map (fun k => (k, 0, 0)) }))
     asks s .slConfig 0x0300 (slParams 300) = true ∧ s.backlogFree = false ∧ (s.dev.func 0x0300).st = 0) ∧
    SlCfg.bad { rate := 300, dataBits := 8, parity := 0, stop := 1, lead := 0, lag := 0 } = none := by decide +kernel

theorem witness_DeviceQueriesAnswer :
    asks (st id) .deviceInfo 0 [] = true ∧ asks (st id) .islandStatus 0 [0x10#8, 64#8, 0#8, 0#8] = true ∧
    asks (st id) .islandStatus 0 [0x00#8, 1#8, 0#8, 0#8] = true ∧
    (∀ p ∈ [(0x10, 64), (0x00, 1)], (st id).dev.islands.any (fun x => decide (p.1 ≤ x.id) && decide (x.id < p.1 + p.2) && x.id == 0x0F) = false) ∧
    asks (st id) .quoinQuery 0 [10#8, 0#8, 0#8, 0#8] = true ∧ asks (st id) .settingGet 0 (leb 4 0x030A) = true ∧
    (settingRange 0x030A).isSome = true ∧ funcIds.contains 0x091F = true ∧ asks (st id) .funcStatus 0x091F [] = true ∧
    asks (st id) .funcList 0 [] = true ∧ asks (st id) .engineStatus 0 [13#8, 0#8, 0#8, 0#8] = true ∧
    asks (st id) .faultLogRead 0 (leb 2 0 ++ leb 2 1024) = true ∧ asks (st id) .serviceCounters 0 [] = true ∧
    asks (st id) .keyInfo 0 [] = true := by decide +kernel

/-- A part whose primary copy of the Almanac holds four bytes under key 0x8000. -/
def almanac (d : Dev) : Dev :=
  (d.setCopy 0 (fun c => { c with valid := true, journal := [{ key := 0x8000, len := 4, body := .user [1#8, 2#8, 3#8, 4#8] }] })).setAlm
    (fun a => { a with primary := some 0, nextSeq := 3 })

theorem witness_StorageQueriesAnswer :
    asks (st id) .almanacInfo 0 [] = true ∧ asks (st almanac) .almanacRead 0 (leb 4 0x8000) = true ∧
    (st almanac).dev.alm.value 0x8000 = some [1#8, 2#8, 3#8, 4#8] ∧ asks (st almanac) .almanacRead 0 (leb 4 0xFFFF) = true ∧
    (st almanac).dev.alm.value 0xFFFF = none ∧ asks (st id) .typecaseInfo 0 [] = true ∧ asks (st id) .imageList 0 [] = true := by
  decide +kernel

theorem witness_NetworkQueriesAnswer :
    (∀ p ∈ [(0, 2048), (2047, 1)], asks (st id) .fdbRead 0 (leb 2 p.1 ++ leb 2 p.2) = true) ∧
    asks (st id) .switchCounters 0 [7#8, 0#8, 0#8, 0#8] = true ∧ asks (st id) .macCounters 0x0105 [] = true ∧
    asks (st id) .mirrorCounters 0x0703 [] = true ∧ asks (st id) .mirrorCounters 0x0807 [] = true ∧ asks (st id) .mbStatus 0x0203 [] = true ∧
    asks (st id) .slStatus 0x0303 [] = true ∧ asks (st id) .timeGet 0 [] = true ∧ asks (st id) .timeGet 0x0600 [] = true ∧
    asks (st id) .timeStatus 0x0600 [] = true ∧ asks (st id) .formeStatus 0x0501 [] = true ∧ asks (st id) .ringStatus 0x091F [] = true := by
  decide +kernel

theorem witness_DeviceConfiguration :
    (st id).backlogFree = true ∧ settingRange 0x0001 = some (16, 1024, 16) ∧
    (∀ v ∈ [16, 1024], asks (st id) .settingSet 0 (leb 4 1 ++ leb 4 v) = true) ∧
    asks (st id) .powerPolicy 0 ([4#8, 0#8, 0#8, 0#8] ++ leb 4 1000000) = true ∧ up.pwr.st ≤ 4 ∧
    asks (st id) .wakeConfig 0 [15#8, 15#8, 15#8, 0#8] = true ∧ asks (st id) .attnConfig 0 [1#8, 3#8, 0#8, 0#8] = true ∧
    asks (st id) .portConfig 0 ([7#8, 7#8] ++ leb 2 4094 ++ [6#8, 0#8, 0#8, 0#8] ++ leb 4 8192) = true ∧
    asks (st id) .vlanSet 0 (leb 2 4094 ++ [0xFF#8, 0xFF#8]) = true ∧
    asks (st id) .galleyConfig 0 ([63#8, 1#8, 1#8, 0#8] ++ leb 4 0) = true ∧ asks (st id) .galleyConfig 0 ([62#8, 1#8, 1#8, 0#8] ++ leb 4 8192) = true ∧
    asks (st id) .filterSet 0 ([47#8, 63#8, 0#8, 0#8] ++ zeros 24) = true ∧ filterBad ([47#8, 63#8, 0#8, 0#8] ++ zeros 24) = none := by
  decide +kernel

theorem witness_EngineConfiguration :
    (let s := st (fun d => { d with typ := { d.typ with slots := upd d.typ.slots 63 (fun e => { e with st := 2 }) } })
     s.backlogFree = true ∧ (s.dev.func 0x040B).st ≠ 5 ∧ (s.dev.typ.slots.getD 63 {}).st = 2 ∧
       (∀ p ∈ [13#8, 0xFF#8], ∀ v ∈ [2#8, 16#8], asks s .engineConfig 0x040B [63#8, p, v, 0#8] = true) ∧
       asks s .personalityParam 0x040B (leb 2 4032 ++ leb 2 64 ++ zeros 64) = true ∧ asks s .spareDisarm 0x040B [] = true) ∧
    (let s := st (fun d => { d with cfg := { d.cfg with frs := upd d.cfg.frs 1 (fun f => { f with role := 1, cycle := 1000000 }) } })
     asks s .galleyConfig 0 ([63#8, 1#8, 1#8, 1#8] ++ leb 4 0) = true ∧ s.dev.gateDomain.isSome = true) := by decide +kernel

/-- A part whose functions are all OFF. -/
def off (d : Dev) : Dev := { d with funcs := funcTable }

theorem witness_UnitConfiguration :
    (st off).backlogFree = true ∧
    (let p := [4#8, 0#8] ++ leb 2 9216 ++ zeros 8
     asks (st off) .macConfig 0x0105 p = true ∧ ((st off).dev.func 0x0105).st = 0 ∧
       MacCfg.bad { mode := 4, speed := 0, maxFrame := 9216, station := 0, flags := 0 } (up.start.bankClass.getD 1 0) = none) ∧
    asks (st off) .mirrorConfig 0x0703 [0xFF#8, 0xFF#8, 5#8, 6#8] = true ∧
    asks (st off) .proofConfig 0x0807 [1#8, 0#8, 8#8, 3#8, 31#8, 0#8, 0#8, 0#8] = true ∧
    (let p := leb 2 4 ++ [7#8, 2#8, 1#8] ++ zeros 7
     asks (st off) .mbConfig 0x0203 p = true ∧ MbCfg.bad { nbrp := 4, ntseg1 := 7, ntseg2 := 2, nsjw := 1 } = none) ∧
    asks (st off) .mbObjectConfig 0x0203 ([127#8, 2#8, 7#8, 1#8] ++ leb 4 0x1FFFFFFF ++ zeros 4) = true ∧
    asks (st off) .mbObjectConfig 0x0203 ([127#8, 2#8, 7#8, 0#8] ++ leb 4 0x7FF ++ zeros 4) = true ∧
    asks (st off) .mbRingConfig 0x0203 (leb 4 1024) = true ∧
    asks (st off) .mbWakeConfig 0x0203 ([3#8, 1#8, 0#8, 0#8] ++ leb 4 0x1FFFFFFF ++ zeros 4 ++ leb 4 8 ++ zeros 16) = true ∧
    asks (st off) .slConfig 0x0303 (leb 4 12000000 ++ [9#8, 0#8, 2#8, 0#8] ++ leb 2 255 ++ leb 2 255) = true ∧
    asks (st off) .slConfig 0x0303 (leb 4 300 ++ [7#8, 2#8, 1#8, 0#8] ++ leb 4 0) = true := by decide +kernel

theorem witness_TimeAndRingConfiguration :
    asks (st off) .timeConfig 0x0600 ([0#8, 1#8] ++ zeros 6 ++ leb 4 1000000 ++ leb 4 500) = true ∧
    TimeCfg.bad { slewWindow := 1000000, slewLimit := 500 } = none ∧
    asks (st off) .pulseConfig 0x0600 ([1#8, 3#8, 0#8, 0#8] ++ leb 4 1000000000 ++ leb 4 500000000 ++ leb 4 999999999) = true ∧
    asks (st off) .pulseConfig 0x0600 ([1#8, 3#8, 0#8, 0#8] ++ leb 4 1000000 ++ leb 4 100 ++ leb 4 0) = true ∧
    asks (st off) .captureConfig 0x0600 [3#8, 3#8, 31#8, 0#8] = true ∧
    asks (st off) .formeRingConfig 0x0501 ([3#8, 63#8] ++ leb 2 0x88B6 ++ leb 4 1000000000 ++ leb 4 7) = true ∧
    asks (st off) .formeRingConfig 0x0501 ([1#8, 0#8] ++ leb 2 0x88B6 ++ leb 4 31250 ++ leb 4 7) = true ∧
    asks (st off) .ringConfig 0x091F (leb 2 1024 ++ [2#8, 0xFF#8] ++ leb 4 0 ++ leb 2 1024 ++ leb 2 0) = true ∧
    RingCfg.bad { entries := 1024, dir := 2, attn := 0xFF, base := 0, thr := 1024 } 31 up.cfg.rings = none ∧
    ((st off).dev.func 0x0600).st = 0 ∧ ((st off).dev.func 0x0501).st = 0 ∧ ((st off).dev.func 0x091F).st = 0 := by decide +kernel

theorem witness_DeviceCommandsTakeEffect :
    asks (st id) .islandClear 0 [0x3D#8, 7#8, 0#8, 0#8] = true ∧ up.hasIsland 0x3D = true ∧
    asks (st id) .funcClear 0x091F [1#8, 0#8, 0#8, 0#8] = true ∧ funcIds.contains 0x091F = true ∧
    asks (st id) .deviceReset 0 [1#8, 0#8, 0#8, 0#8] = true ∧ (up.setVerind (fun v => { v with resetReq := some 0 })).verind.resetReq.isSome = true ∧
    asks (st id) .deadline 0 (leb 8 1000001 ++ leb 4 0) = true ∧ up.tick < 1000001 ∧ asks (st id) .deadline 0 (leb 8 0 ++ leb 4 1) = true ∧
    asks (st id) .alarmSet 0 ([0#8, 0#8, 0#8, 0#8] ++ zeros 8 ++ leb 4 1) = true ∧
    asks (st id) .alarmSet 0 ([1#8, 0#8, 0#8, 0#8] ++ leb 6 5 ++ leb 2 0 ++ leb 4 999999999) = true ∧ up.orr.epoch = 0 ∧
    up.orr.nsAt up.tick < 5 * 1000000000 + 999999999 ∧ asks (st id) .alarmSet 0 (leb 4 2 ++ zeros 12) = true ∧
    asks (st id) .powerStatus 0 [] = true := by decide +kernel

theorem witness_NetworkCommandsTakeEffect :
    (∀ t ∈ [0#8, 1#8], asks (st id) .fdbAdd 0 (zeros 6 ++ leb 2 4094 ++ [0xFF#8, t, 0#8, 0#8]) = true) ∧
    up.swc.findFdb (zeros 6) 4094 = none ∧ (up.swc.placeFdb (zeros 6) 4094).isSome = true ∧ (st id).backlogFree = true ∧
    asks (st id) .fdbDelete 0 (zeros 6 ++ leb 2 1) = true ∧ up.swc.findFdb (zeros 6) 1 = none ∧
    (let s := st (fun d => d.setSwc (fun w => w.setWay (fdbBucket (zeros 6) 1 * 4) (some { vid := 1 })))
     asks s .fdbDelete 0 (zeros 6 ++ leb 2 1) = true ∧ (s.dev.swc.findFdb (zeros 6) 1).map (·.2.static) = some false) ∧
    asks (st id) .mdioRead 0 ([22#8, 31#8, 0#8, 0#8] ++ leb 4 31) = true ∧ mdioBad ([22#8, 31#8, 0#8, 0#8] ++ leb 4 31) = none ∧
    asks (st id) .mdioWrite 0 ([45#8, 31#8, 31#8, 0#8] ++ leb 2 0xFFFF ++ leb 2 0xFFFF) = true ∧
    mdioBad ([45#8, 31#8, 31#8, 0#8] ++ leb 2 0xFFFF ++ leb 2 0xFFFF) = none ∧ (up.quoin 2 0).owner = none ∧
    (let s := st (fun d => { d with cfg := { d.cfg with mbs := upd d.cfg.mbs 3 (fun c =>
       { c with objs := upd c.objs 127 (fun o => { o with use := 2, ext := true }), flags := 1 }) } })
     asks s .mbTransmit 0x0203 ([127#8, 0#8, 0#8, 0#8] ++ leb 4 0x1FFFFFFF ++ [3#8, 15#8, 0#8, 0#8] ++ zeros 64) = true ∧
     asks s .mbTransmit 0x0203 ([127#8, 0#8, 0#8, 0#8] ++ leb 4 1 ++ [1#8, 5#8, 0#8, 0#8] ++ zeros 8) = true ∧ s.dev.txFault 3 127 1 1 5 5 = none ∧
       s.dev.txFault 3 127 0x1FFFFFFF 3 15 64 = none ∧ (s.dev.func 0x0203).st = 2 ∧ (s.dev.mbCfg 3).listen = false ∧
       (s.dev.quoin 5 511).owner = none ∧ dlcLen true 15 = 64) ∧
    (∀ fid ∈ [0x0501, 0x0203], asks (st id) .impositionWrite fid (leb 2 255 ++ leb 2 1 ++ zeros 16) = true ∧
      entriesBad (domOf fid) 255 (zeros 16) 1 = none ∧ (up.quoin 9 (domOf fid)).owner = none) := by decide +kernel

/-- A part that writes an image of `n` bytes into slot 63 and awaits its bytes from 0 on. -/
def writing (n : Nat) (d : Dev) : Dev := { d with typ := { d.typ with writing := [{ slot := 63, length := n, first := 142, phase := 2, buf := [1#8] }] } }

/-- A part whose windows below `w` are open, window 0 read-write on PIM's first 64 bytes, the others read-only. -/
def opened (w : Nat) (d : Dev) : Dev :=
  forN w d (fun d k => d.setWindow k (fun _ => { isOpen := true, ch := 0, mem := 1, rw := k == 0, off := 0, len := 64 }))

theorem witness_SecurityAndWindowCommands :
    (let s := st (writing 64)
     asks s .imageData 0 ([63#8, 0#8] ++ leb 2 64 ++ leb 4 0 ++ zeros 64) = true ∧
       (s.dev.writingOf 63).map (fun w => (w.phase, w.next, w.length)) = some (2, 0, 64) ∧
       (s.dev.typ.writing.map (fun w => w.buf.length)).sum + 64 ≤ 16384) ∧
    asks (st id) .keyRevoke 0 ([7#8, 0#8, 0#8, 0#8] ++ zeros 64) = true ∧ asks (st id) .debugChallenge 0 [] = true ∧
    asks (st id) .debugResponse 0 (zeros 64) = true ∧
    asks (st (opened 15)) .windowOpen 0 ([1#8, 3#8, 0#8, 0#8] ++ leb 4 64 ++ leb 4 64 ++ leb 4 10000000) = true ∧
    asks (st (opened 15)) .windowOpen 0x0203 ([3#8, 1#8, 0#8, 0#8] ++ leb 4 0x16800 ++ leb 4 64 ++ leb 4 0) = true ∧
    (st (opened 15)).dev.stagedSpan + 64 ≤ 131072 ∧ ((st (opened 15)).dev.window 15).isOpen = false ∧
    (∀ v < 15, ((st (opened 15)).dev.window v).isOpen = true) ∧
    (∀ y ∈ (st (opened 15)).dev.hst.windows, y.isOpen = true → y.rw = true → y.mem = 1 → 64 + 64 ≤ y.off ∨ y.off + y.len ≤ 64) ∧
    asks (st (opened 16)) .windowCommit 0 [15#8, 0#8, 0#8, 0#8] = true ∧ asks (st (opened 16)) .windowClose 0 [15#8, 0#8, 0#8, 0#8] = true ∧
    ((st (opened 16)).dev.window 15).isOpen = true ∧
    (let s := st (fun d => d.setChan 7 (fun c => { c with st := 2 })); asks s .channelBind 0 [7#8, 0#8, 0#8, 0#8] = true ∧ (s.dev.chan 7).st = 2) := by
  decide +kernel

theorem witness_LifecycleCommands :
    funcIds.contains 0x091F = true ∧
    (∀ f ∈ [0, 1, 2, 3, 4, 5], ∀ q ∈ [none, some ({} : Waiting)], let s := st (fun d => d.setFunc 0x091F (fun x => { x with st := f, queued := q }))
      asks s .funcEnable 0x091F [] = true ∧ asks s .funcDisable 0x091F [] = true ∧ s.dev.verind.canReserve = true ∧
      (s.dev.func 0x091F).st = f ∧ (s.dev.func 0x091F).queued = q) := by decide +kernel

/-- A part whose Typecase has a complete image in slot 63. -/
def imaged (d : Dev) : Dev := { d with typ := { d.typ with slots := upd d.typ.slots 63 (fun e => { e with st := 2, length := 4096, first0 := 142, first1 := 142 }) } }

theorem witness_StorageCommandsAccepted :
    up.verind.canReserve = true ∧ asks (st almanac) .almanacWrite 0 (leb 2 0xFFFF ++ leb 2 64 ++ zeros 64) = true ∧
    (up.quoin 1 0).owner = none ∧ asks (st almanac) .almanacSave 0 [] = true ∧ (almanac up).alm.anyValid = true ∧ up.alm.anyValid = false ∧
    asks (st almanac) .almanacCompact 0 [] = true ∧ (almanac up).alm.seq < 0xFFFFFFFF ∧ (almanac up).alm.compacting = false ∧
    asks (st id) .imageBegin 0 ([63#8, 0#8, 0#8, 0#8] ++ leb 4 131072) = true ∧ (up.typ.slots.getD 63 {}).st ≠ 2 ∧ up.writingOf 63 = none ∧
    (up.quoin 3 1).owner = none ∧ (up.findRun 1 32).isSome = true ∧
    asks (st (writing 1)) .imageEnd 0 [63#8, 0#8, 0#8, 0#8] = true ∧ (((writing 1) up).writingOf 63).map (fun w => (w.phase, w.buf)) = some (2, [1#8]) ∧
    asks (st id) .imageDelete 0 [63#8, 0#8, 0#8, 0#8] = true ∧ asks (st imaged) .imageDelete 0 [63#8, 0#8, 0#8, 0#8] = true ∧
    ((imaged up).typ.slots.getD 63 {}).st = 2 ∧ (imaged up).slotInUse 63 = false ∧
    asks (st id) .sectorRetire 0 ([1#8, 0#8] ++ leb 2 991) = true ∧ (up.bank 1).retired.contains 991 = false ∧
    (let s := st (fun d => d.setBank 1 (fun k => { k with retired := [991] }))
     asks s .sectorRetire 0 ([1#8, 0#8] ++ leb 2 991) = true ∧ (s.dev.bank 1).retired.contains 991 = true) ∧
    (up.bank 1).spares.contains 991 = false ∧ asks (st almanac) .smRemove 0 [1#8, 0#8, 0#8, 0#8] = true ∧
    ((almanac up).alm.copy 0).valid = true ∧ (almanac up).alm.ops = [] ∧ (almanac up).alm.resil = [] ∧
    asks (st almanac) .smInsert 0 [1#8, 0#8, 0#8, 0#8] = true ∧
    (let s := st (fun d => d.setFunc 0x0303 (fun x => { x with st := 5 }))
     asks s .repair 0x0303 [] = true ∧ (s.dev.func 0x0303).st = 5 ∧ ownIslands 0x0303 = true ∧ s.dev.svc.tests = []) ∧
    (let s := st (fun d => d.setPe 13 (fun e => { e with status := 4 })); asks s .engineReturn 0 [13#8, 0#8, 0#8, 0#8] = true ∧ (s.dev.pe 13).status = 4) := by
  decide +kernel

theorem witness_NetworkCommandsAccepted :
    up.verind.canReserve = true ∧ (st off).backlogFree = true ∧
    asks (st off) .spareArm 0x040B [13#8, 0#8, 0#8, 0#8] = true ∧ ((st off).dev.func 0x040B).st = 0 ∧ (up.le 11).spare = none ∧ (up.pe 13).status = 0 ∧
    asks (st id) .engineMigrate 0x040B [0xFF#8, 0#8, 0#8, 0#8] = true ∧ (up.func 0x040B).st = 2 ∧ (up.le 11).migrate = none ∧
    ((up.setLe 11 (fun x => { x with spare := some 13 })).le 11).spare = some 13 ∧
    asks (st id) .bankRetire 0 [7#8, 0#8, 0#8, 0#8] = true ∧ bit up.cfg.retired 7 = false ∧ bit up.swc.draining 7 = false ∧ up.banksOut < 4 ∧
    (let s := st (fun d => { d with cfg := { d.cfg with retired := 128 } })
     asks s .bankRetire 0 [7#8, 0#8, 0#8, 0#8] = true ∧ bit s.dev.cfg.retired 7 = true) ∧
    (∀ k ∈ [0#8, 1#8], asks (st id) .pipeSwitchover 0 [k, 0#8, 0#8, 0#8] = true ∧ up.pipeDown k.toNat = false) ∧ up.swc.switchover = none ∧ up.swc.pipe = 0 ∧
    asks (st off) .portRemap 0 [5#8, 0#8, 0#8, 0#8] = true ∧ 0 ≠ up.portMac 5 ∧ ((st off).dev.func 0x0100).st = 0 ∧
    ((st off).dev.func (0x0100 + up.portMac 5)).st = 0 ∧ (st off).dev.inRing 0 = false ∧ (st off).dev.inRing (up.portMac 5) = false ∧
    (∀ t ∈ [100, 60000], asks (st off) .mbRateDetect 0x0203 (leb 4 t) = true) ∧ ((st off).dev.func 0x0203).st = 0 ∧ (up.mb 3).detect = none ∧
    asks (st id) .timeStep 0x0600 (leb 8 7 ++ leb 4 999999999) = true ∧ (up.func 0x0600).st = 2 ∧ up.timeState ≠ 3 ∧ up.timeState ≠ 4 ∧
    up.orr.step = none ∧
    (∀ fid ∈ [0x0501, 0x0203], let s := st (fun d => d.setDom (domOf fid) (fun x => { x with standby := [(4, 0x0F#8), (12, 0xFF#8)] }))
      asks s .impositionSwitch fid (leb 4 1) = true ∧ (s.dev.func fid).st = 2 ∧ (s.dev.dom (domOf fid)).pendN = none ∧
      (s.dev.quoin 9 (domOf fid)).owner = none ∧ s.dev.tableOk (domOf fid) (s.dev.dom (domOf fid)).standby = true) := by decide +kernel

/-- A part with both wired ports enabled. -/
def wired (d : Dev) : Dev := { d with start := { d.start with hostSel := 2 } }

theorem witness_QspiTransactions :
    (st id).dev.hears 1 = true ∧ (st id).dev.start.phase = .ready ∧ (zeros 8192).length ≤ 8192 ∧ 8192 < (zeros 8193).length ∧
    (Dev.winReads 1 1 0 (st id).dev).2.1 ≠ 0 ∧ (Dev.winReads 1 1 0 (st (opened 1)).dev).2.1 = 0 ∧
    (0x00#8).toNat ∉ [0x05, 0x45, 0x9F, 0xDF, 0x02, 0x42, 0x0B, 0x4B, 0x12, 0x52, 0x1B, 0x5B] ∧
    (let s := st (fun d => { d with start := { d.start with phase := .hold } }); s.dev.hears 1 = true ∧ s.dev.start.phase ≠ .ready) := by
  decide +kernel

theorem witness_ParallelBusTransactions :
    (∀ x ∈ [0x3C, 0x3E], let s := st (fun d => { opened 1 (wired d) with hst := { (opened 1 d).hst with
        winAddr := x, wrLatch := some (0x3C, 1), rdLatch := some (0x3C, 2) } }.setChan 0 (fun c => { c with peer := { port := 2 } }))
      s.dev.hears 2 = true ∧ s.dev.hst.winAddr / 2 % 2 = (if x = 0x3C then 0 else 1) ∧ s.dev.hst.wrLatch = some (s.dev.hst.winAddr / 4 * 4, 1) ∧
      s.dev.hst.rdLatch = some (s.dev.hst.winAddr / 4 * 4, 2) ∧ (s.dev.winRead 2 (s.dev.hst.winAddr / 4 * 4)).1.isSome = true ∧
      (s.dev.port 2).frame.length ≤ 8192 ∧ s.dev.start.phase = .ready) ∧
    0x002 ∉ [0x003, 0x004, 0x005, 0x008, 0x009] := by decide +kernel

theorem witness_WindowAccesses :
    (∀ k ∈ [[], [(65532, 7)]], let d := up.setWindow 15 (fun _ => { isOpen := true, ch := 0, mem := 2, rw := true, len := 65536, staged := k })
      let x := d.window 15
      65532 < 65536 ∧ 65532 % 4 = 0 ∧ x.isOpen = true ∧ (d.chan x.ch).peer.port = 1 ∧ 65532 + 4 ≤ x.len ∧ x.rw = true ∧ x.mem = 2 ∧
      x.staged.find? (fun e => e.1 == 65532) = if k = [] then none else some (65532, 7)) ∧ (up.window 15).isOpen = false := by decide +kernel

/-- A window datagram of a type for 4 bytes from address 0. -/
def winDatagram (type : Nat) (data : List Byte) : List Byte :=
  let b := leb 2 type ++ leb 2 (20 + data.length) ++ leb 2 1 ++ leb 2 4 ++ zeros 8 ++ data
  b ++ leb 4 (crc32c b).toNat

theorem witness_DatagramsAndHostTimers :
    up.pwr.st ≤ 1 ∧ up.start.phase = .ready ∧ up.verind.resetReq = none ∧ winDatagramOk 0xB5 (winDatagram 0xB5 []) = true ∧
    winDatagramOk 0xB6 (winDatagram 0xB6 (zeros 4)) = true ∧ winDatagramOk 0xB5 [] = false ∧
    (let s := st (fun d => { d with cfg := { d.cfg with dev := { d.cfg.dev with hostAddr := some (5, 6) } } })
     s.dev.cfg.dev.hostAddr = some (5, 6)) ∧ up.cfg.dev.hostAddr = none ∧
    (let s := st (fun d => d.setHst (fun h => { h with reasm := [{ ip := 9 }] })); (s.dev.hst.reasm.find? (fun r => r.ip == 9)).isSome = true) ∧
    (let s := st (events 1 1); (s.dev.verind.events.find? (fun e => e.seq == 5 && e.shown != 0)).isSome = true ∧
      s.dev.verind.eventChannel = some 0 ∧
      (((s.dev.advanceTo (100 * 1000000)).present { seq := 5, shown := 1 }).chan 0).peer.port ≠ 3) ∧
    (let s := st (fun d => d.setPort 2 (fun q => { q with out := [{}] })); (s.dev.port 2).out ≠ [] ∧ (s.dev.port 2).lost = false) ∧
    (let s := st (fun d => d.setHst (fun h => { h with lastUdpMac := some 5 }))
     s.dev.hst.lastUdpMac = some 5 ∧ s.dev.macUp 5 = false ∧ (s.dev.port 3).lost = false) := by decide +kernel

theorem witness_HostChannelLoss :
    (∀ p ∈ [1, 3], 1 ≤ p ∧ p ≤ up.hst.ports.length ∧ (up.port p).lost = false) ∧
    (((opened 1 up).hostChannelLoss 2).window 0).isOpen = true ∧ (up.chan 0).st ≠ 0 := by decide +kernel

/-- A part in a phase of its start. -/
def phased (ph : Phase) (d : Dev) : Dev := { d with start := { d.start with phase := ph } }

theorem witness_StartAndReset :
    State.reset.dev.start.phase = .aonOff ∧ (st (phased .porstLow)).dev.start.phase = .porstLow ∧ (st id).dev.start.phase ≠ .aonOff ∧
    (st id).dev.start.phase ≠ .porstLow ∧ up.alarmTick = none ∧ up.pwr.st ≠ 4 ∧ (st (phased .railBad)).dev.start.phase = .railBad ∧
    (let s := st (fun d => { phased .released d with verind := {} })
     s.dev.start.phase = .released ∧ s.dev.start.bootSel ≠ 3 ∧ s.dev.verind = {} ∧ ({ testFails := 1 } : StartIn).testFails < 2 ∧
       2 ≤ ({ testFails := 2 } : StartIn).testFails) ∧
    (st (fun d => { phased .released d with start := { (phased .released d).start with bootSel := 3 } })).dev.start.bootSel = 3 := by decide +kernel

/-! ## The Almanac and the Typecase at work (7, 8) -/

theorem witness_AlmanacRows :
    (let s := st (fun d => (almanac d).setAlm (fun a => { a with ops := [{ kind := .write 0x8001 [1#8], cmd := some {} }], resil := [(1, false, none)] }) |>.setVerind
       (fun v => { v with backlog := [(63, 0, 0x0501)] }))
     let a := s.dev.alm
     (∀ c ∈ s.dev.verind.chans, c.held = []) ∧ a.compacting = false ∧ s.dev.cmp.restarting = false ∧ a.anyValid = true ∧ a.unclean = false ∧
       a.ops = [{ kind := .write 0x8001 [1#8], cmd := some {} }] ∧ ({} : Waiting).recov = false ∧
       a.groupRefused [{ type := 1, key := 0x8001, seq := a.seq, len := 1, body := .user [1#8] }, commitRec (a.seq + 1) 1 0] = none ∧
       s.dev.verind.backlog = [(63, 0, 0x0501)] ∧ (s.dev.quoin 1 0).owner = none ∧ 1 < a.sm.length ∧
       a.resil.find? (fun r => r.1 == 1) = some (1, false, none) ∧ (a.copy 0).valid = true ∧ (a.copy 1).valid = false ∧
       (∀ r ∈ a.resil, r.1 ≠ 0)) ∧
    (let s := st (fun d => (almanac d).setAlm (fun a => { a with ops := [], nextSeq := 3 })); s.dev.alm.groupRefused
       [{ type := 3, key := 63, seq := s.dev.alm.seq, len := 4 }, commitRec (s.dev.alm.seq + 1) 1 0] = none) ∧
    (let s := st (fun d => (almanac d).setAlm (fun a => { a with compacting := true, compactCmd := some {} }))
     s.dev.alm.compacting = true ∧ s.dev.alm.compactCmd = some {}) := by decide +kernel

/-- A part whose first Typecase work is `steps`, with bank `b` busy or idle. -/
def typecase (steps : List TypStep) (b : Nat) (op : Option TypOp) (d : Dev) : Dev :=
  { d with typ := { d.typ with jobs := [{ goal := .dirCopy, steps := steps, begun := true }],
                               banks := upd d.typ.banks b (fun k => { k with op := op, requests := [0] }) } }

theorem witness_TypecaseRows :
    (let s := st (typecase [.prog 1 991 15 (zeros 256)] 1 (some { erase := false }))
     (∀ c ∈ s.dev.verind.chans, c.held = []) ∧ s.dev.busyBank = some (1, { erase := false }) ∧
       s.dev.typ.jobs.map (·.steps) = [[.prog 1 991 15 (zeros 256)]] ∧ 1 < s.dev.typ.banks.length) ∧
    (let s := st (typecase [.erase 1 991] 1 (some {})); s.dev.busyBank = some (1, {}) ∧ ({} : TypOp).erase = true) ∧
    (let s := st (typecase [.stream, .prog 1 991 15 (zeros 256)] 1 none)
     s.dev.typ.jobs.all (·.begun) = true ∧ (s.dev.bank 0).op = none ∧ (s.dev.bank 1).op = none) ∧
    (let s := st (typecase [] 1 (some {})); (s.dev.bank 1).op = some {} ∧ ({} : TypOp).suspended = none ∧ (s.dev.bank 1).requests ≠ []) ∧
    (let s := st (typecase [] 1 (some { suspended := some 5 })); (s.dev.bank 1).op = some { suspended := some 5 }) ∧
    (up.bank 1).op = none ∧ up.committedSector 1 1 = true ∧ up.typ.jobs = [] ∧ (up.bank 0).sectorBad (up.otherSector 1 1) = false := by
  decide +kernel

/-! ## Faults, recovery and the lifecycle (2, 3, 4, 20) -/

theorem witness_MemoryErrorsAndLeases :
    up.pwr.st = 0 ∧ 1 < up.typ.banks.length ∧ 63 < up.eng.plates.length ∧ (((holding 4 63 up).setPlate 63 (fun q => { q with declared := true })).plate 63).declared = true ∧
    3 < up.mbs.length ∧ 127 < (up.mb 3).objs.length ∧ (up.mbObj 3 127).shadow = none ∧ 5 < up.doms.length ∧
    (∀ p ∈ [(1, 0), (5, 511)], let s := st (holding p.1 p.2)
      (∃ q ∈ s.dev.quoins, q.kind = p.1 ∧ q.inst = p.2) ∧ s.dev.cycleLease p.1 p.2 = false ∧ (s.dev.quoin p.1 p.2).owner ≠ none ∧
      (s.dev.quoin p.1 p.2).queue = []) := by decide +kernel

theorem witness_IslandFaults :
    up.pwr.st = 0 ∧ up.probing = true ∧ up.start.phase = .ready ∧ (up.island 1).st = 2 ∧ (up.island 1).id = 1 ∧
    (∀ i ∈ [0x04, 0x05, 0x06, 0x07, 0x08], (up.island i).id = i ∧ (up.island i).st = 2 ∧ (up.island i).stuck = false ∧
      (up.island i).recovering = false ∧ up.unsupplied i = false) ∧
    (let d := up.setIsland 8 (fun x => { x with st := 4 }); (d.island 8).st = 4 ∧ (d.island 8).stuck = false ∧ d.cmp.restarting = false ∧
      d.unsupplied 8 = false) ∧
    (∀ n ∈ [2, 3], ({ up with cmp := { up.cmp with missed := n } } : Dev).cmp.missed = n ∧
      ({ up with cmp := { up.cmp with missed := n } } : Dev).probing = true) ∧
    (let s := st (fun d => { d with cmp := { d.cmp with restarting := true } }); s.dev.cmp.restarting = true ∧
      ∀ c ∈ s.dev.verind.chans, c.held = []) ∧
    (let d : Dev := { up with start := { up.start with osc32k := true, bankClass := [1, 1, 1, 1] } }
     d.start.refPresent = true ∧ d.start.osc32k = true ∧ d.start.supplyBad.getD 3 false = false ∧ d.start.bankClass.getD 3 0 ≠ 0) ∧
    (let d : Dev := { up with start := { up.start with supplyBad := [false, false, true, false] } }; d.start.supplyBad.getD 2 false = true) := by
  decide +kernel

theorem witness_PassagesEnd :
    (∀ k ∈ [1, 3, 5], let s := st (fun d => { d.setFunc 0x0303 (fun f => { f with st := k, starter := some {} }) with
        svc := { d.svc with tests := [{ fid := 0x0303 }, { pe := some 13 }] } })
      (∃ f ∈ s.dev.funcs, f.fid = 0x0303) ∧ (s.dev.func 0x0303).st = k ∧ (s.dev.func 0x0303).queued = none ∧ fclass 0x0303 ≠ 4 ∧
      (s.dev.func 0x0303).starter = some {} ∧ (s.dev.func 0x0303).joined = [] ∧ (s.dev.func 0x0303).retried = false ∧
      s.dev.drained 0x0303 = true ∧ (s.dev.func 0x0303).recovering = false ∧ ownIslands 0x0303 = true ∧
      (∃ x ∈ s.dev.svc.tests, x.pe = some 13 ∧ x.fid = 0) ∧ (∃ x ∈ s.dev.svc.tests, x.pe = none ∧ x.fid = 0x0303)) ∧
    (let s := st (fun d => ((d.setFunc 0x040B (fun f => { f with st := 1 })).setPe 13 (fun e => { e with le := some 11 })).setLe 11 (fun x =>
       { x with pe := some 13, loading := true }))
     (∃ f ∈ s.dev.funcs, f.fid = 0x040B) ∧ (s.dev.pe 13).le = some 11 ∧ (s.dev.le 11).pe = some 13 ∧ (s.dev.le 11).loading = true ∧
       (s.dev.func 0x040B).st = 1 ∧ (s.dev.func 0x040B).queued = none) := by decide +kernel

/-- A state in which logical engine 0, on PE0, is changed by `f`. -/
def le0 (f : Le → Le) : State := st (fun d => d.setLe 0 f)

theorem witness_EngineEvents :
    (let e := up.pe 0; let x := up.le 0
     up.pwr.st = 0 ∧ e.running = true ∧ e.status = 1 ∧ e.le = some 0 ∧ x.pe = some 0 ∧ x.spare = none ∧ x.cutDue = false ∧
       (up.func 0x0400).st = 2 ∧ e.ports.wdHalf = false ∧ 3 < e.ports.tmr.length) ∧
    (let d := up.setPlate 63 (fun q => { q with recalling := true }); 63 < d.eng.plates.length ∧ (d.plate 63).recalling = true ∧
      (d.plate 63).commitAsked = false) ∧
    (let s := le0 (fun x => { x with cutDue := true, joining := 2, spare := some 13 })
     (s.dev.le 0).cutDue = true ∧ (s.dev.le 0).pe = some 0 ∧ (s.dev.pe 0).stall ≠ .held ∧ (s.dev.le 0).takeover = none ∧ (s.dev.le 0).spare ≠ some 0) ∧
    ((le0 (fun x => { x with joining := 3 })).dev.le 0).joining = 3 ∧
    (let s := le0 (fun x => { x with joining := 4, sealed := [{ at_ := 750000 }], spare := some 13, inTime := 1, armCmd := some {} })
     13 < s.dev.eng.pes.length ∧ (s.dev.le 0).joining = 4 ∧ s.dev.tick ≤ 750000 + s.dev.replayAllowance 0 ∧ (s.dev.le 0).inTime = 1) ∧
    (let s := st (fun d => (d.setLe 0 (fun x => { x with takeover := some (1, 13), snap := some {} })).setPe 0 (fun e => { e with stall := .held }))
     (s.dev.le 0).takeover = some (1, 13) ∧ (s.dev.le 0).pe = some 0 ∧ (s.dev.pe 0).stall = .held ∧ ({} : Snap).stall = .none) ∧
    (∀ m ∈ [1, 2], let s := st (fun d => d.setTmr 0 3 (fun t => { t with armed := true, ctl := BitVec.ofNat 32 (m * 2 ^ 28), period := 5#32 }))
      (s.dev.tmr 0 3).armed = true ∧ (s.dev.tmr 0 3).mode ≠ 3 ∧ (s.dev.tmr 0 3).mode = m) := by decide +kernel

/-- A state in which the directory holds line 8191 as `x` says, and PE0 caches it or awaits its write-back. -/
def line (x : DirLine) (cache : List CLine) (evb : List EvLine) : State :=
  st (fun d => { d with eng := { d.eng with dir := [{ x with line := 8191 }] } }.setPe 0 (fun e => { e with cache := cache, evb := evb }))

theorem witness_DirectoryTransactions :
    (up.pe 0).running = true ∧ up.peReach 0 7 = true ∧ (up.pe 0).evb = [] ∧ (up.pe 0).cached 8191 = none ∧ (up.dirLine 8191).st = 0 ∧
    (up.dirLine 8191).sharers = [] ∧ up.mayRead 0 8191 = true ∧
    (let d := (holding 4 63 up).setPlate 63 (fun q => { q with declared := true, base := 8189 * 64, size := 64, wr := 2, com := 0 }); d.mayOwn 0 8191 = true) ∧
    (∀ g ∈ [4, 5], let s := line { st := 2, owner := 0, gen := 5 } [] [{ line := 8191, gen := g, data := zeros 64 }]
      (s.dev.dirLine 8191).st = 2 ∧ (s.dev.dirLine 8191).owner = 0 ∧ (s.dev.dirLine 8191).gen = 5 ∧
        (s.dev.pe 0).evb = [{ line := 8191, gen := g, data := zeros 64 }]) ∧
    (let s := line { st := 2, owner := 0 } [{ line := 8191, owned := true, data := zeros 64 }] []
     (s.dev.dirLine 8191).st = 2 ∧ (s.dev.dirLine 8191).owner = 0 ∧ ((s.dev.pe 0).cached 8191).isSome = true) ∧
    (let s := line { st := 1, sharers := [0] } [{ line := 8191, data := zeros 64 }] []
     (s.dev.dirLine 8191).st ≠ 2 ∧ 0 ∈ (s.dev.dirLine 8191).sharers ∧ (8191 * 64 + 60) / 64 = 8191 ∧ (8191 * 64 + 60) % 64 + [1#8, 2#8, 3#8, 4#8].length ≤ 64) := by
  decide +kernel

/-! ## The switch, the MACs, the buses and the lines at work (12 to 16) -/

/-- A part with E4 and E5 up, no mirror or proof ON, and every port but 4 and 5 in no VLAN. -/
def sw (d : Dev) : Dev :=
  { d with funcs := funcTable.map (fun f => { f with st := if 0x0700 ≤ f.fid && f.fid < 0x0900 then 0 else 2 }),
           macs := List.replicate 4 {} ++ List.replicate 2 { linkUp := true, expired := false },
           cfg := { d.cfg with vlans := [{ vid := 1, members := 0x30, untagged := 0x30 }], macs := List.replicate 6 { mode := 4, flags := 2 } } }

/-- A frame of 64 bytes of an EtherType to a group address or not, with `q` after the EtherType. -/
def frame (da : List Byte) (ty : Nat) (q : List Byte) : List Byte := withFcs (da ++ [2#8, 0#8, 0#8, 0#8, 0#8, 9#8] ++ beb 2 ty ++ q ++ zeros (46 - q.length))

/-- That part with MAC 5 changed. -/
def mac5 (f : Mac → Mac) (d : Dev) : Dev := (sw d).setMac 5 f

theorem witness_SwitchRows :
    (let b := frame [4#8, 0#8, 0#8, 0#8, 0#8, 8#8] 0x0800 []
     let d := sw up
     let r := d.classifyFrame 5 b none none
     5 < d.macs.length ∧ (d.port 3).out = [] ∧ d.macPort 5 = 5 ∧ (d.mac 5).counters.length = 14 ∧ d.macUp 5 = true ∧ d.swc.rx.getD 5 none = none ∧
       fcsGood b = true ∧ b.length = 64 ∧ b.length ≤ (d.cfg.macs.getD 5 {}).maxFrame ∧ beVal (slice b 12 2) ≠ 0x8808 ∧ frType b ≠ 0x8808 ∧
       d.ptpTaken 5 b = false ∧ d.inRing 5 = false ∧ d.swcUp = true ∧ r.dropped = false ∧ r.cls < 7 ∧ r.dests = 2 ^ 4 ∧ d.swc.frames = [] ∧
       slugsFor b.length ≤ d.freeSlugs ∧ (d.cfg.ports.getD 5 {}).limit = 0 ∧ (d.swc.gal.getD (4 * 8 + r.cls) {}).limit = 0 ∧
       d.tooLong 4 r.cls r.vid b = false ∧ d.swc.galleys.length = 64 ∧ d.swc.switchover = none ∧ 5 < d.swc.rx.length ∧
       (∀ f ∈ d.funcs, 0x0700 ≤ f.fid → f.fid < 0x0900 → f.st ≠ 2) ∧ fcsGood (b.drop 1) = false ∧ (withFcs (zeros 59)).length < 64 ∧
       (d.cfg.macs.getD 5 {}).maxFrame < 2049) := by decide +kernel

theorem witness_SwitchRows_more :
    (let d := mac5 (fun m => { m with pausePend := some 0xFFFF }) up; d.macUp 5 = true ∧ d.islandUp 8 = true ∧ (d.mac 5).tx = none ∧
      (d.mac 5).pausePend = some 0xFFFF) ∧
    (let d := (sw up).setSwc (fun w => { w with galleys := upd w.galleys (5 * 8 + 7) (fun _ => [{}]) })
     (d.mac 5).pausePend = none ∧ d.expressNext 5 = none ∧ d.portMac 5 = 5 ∧ d.swc.galley (5 * 8 + 7) = [{}] ∧
       (∀ k < 8, (d.swc.gal.getD (5 * 8 + k) {}).gated = false ∧ (d.swc.gal.getD (5 * 8 + k) {}).sched = 0)) ∧
    (let d := mac5 (fun m => { m with tx := some {} }) up; d.macUp 5 = true ∧ (d.mac 5).tx = some {} ∧ ({} : TxFrame).mirror = none) ∧
    (∀ q ∈ [0, 0xFFFF], let b := frame pauseDa 0x8808 (beb 2 1 ++ beb 2 q)
      fcsGood b = true ∧ b.length = 64 ∧ frDa b = pauseDa ∧ beVal (slice b 12 2) = 0x8808 ∧ beVal (slice b 14 2) = 1 ∧
      beVal (slice b 16 2) = q ∧ bit ((sw up).cfg.macs.getD 5 {}).flags 1 = true) ∧
    ((mac5 (fun m => { m with holdTo := some 7 }) up).mac 5).holdTo = some 7 ∧
    (let d := mac5 (fun m => { m with asserted := true }) up; (d.mac 5).asserted = true ∧ d.macUp 5 = true ∧ (d.mac 5).pausePend = none) ∧
    (sw up).isOn 0x0105 = true ∧ (sw up).verind.freeSlots ≠ 0 ∧ (sw up).cmp.restarting = false ∧ ((sw up).mac 5).linkUp = true ∧
    (let d := mac5 (fun m => { m with linkUp := false }) up; (d.mac 5).linkUp = false ∧ (d.mac 5).expired = false) ∧
    ((sw up).setSwc (fun w => w.setWay 2047 (some {}))).swc.way 2047 = some {} ∧
    up.pipeDown 0 = false ∧ up.pipeDown 1 = false ∧ (up.island 9).id = 9 ∧ (up.island 10).id = 10 ∧ (up.island 10).recovering = false ∧
    (up.island 10).stuck = false ∧ up.swc.pipe ≤ 1 ∧ 1 < up.swc.reload.length ∧ up.islandUp 10 = true ∧
    bit (up.setSwc (fun w => { w with draining := 128 })).swc.draining 7 = true ∧ up.swc.bankUsed 7 = 0 := by decide +kernel

/-- A part in which controller 3 has these flags and timings, and object 127 is set up for use `u`. -/
def bus (flags u : Nat) (d : Dev) : Dev :=
  { d with cfg := { d.cfg with mbs := upd d.cfg.mbs 3 (fun c => { c with flags := flags, nbrp := 4, ntseg1 := 7, ntseg2 := 2, nsjw := 1, wakeMode := 1, objs := upd c.objs 127 (fun o => { o with use := u }) }) } }

/-- That part with a time-triggered table in use: its reference object, and what its first entry is. -/
def timed (ref : Nat) (e : List Byte) (st : Nat) (d : Dev) : Dev :=
  ((bus 0 2 d).setDom 5 (fun x => { x with active := Mem.setBytes 0 [] 0 (leb 4 0 ++ [0x0F#8, 6#8, 1#8, 0#8] ++ leb 4 1000000 ++ leb 4 ref ++ e) })).setTt 3 (fun t => { t with st := st })

/-- That part with a request of object 127 that has begun. -/
def sending (d : Dev) : Dev := (bus 0 2 d).setObj 3 127 (fun o => { o with req := some { content := zeros 76, begun := true } })

theorem witness_MultidropRows :
    3 < up.mbs.length ∧ 3 < up.tts.length ∧ 5 < up.doms.length ∧ (up.mb 3).objs.length = 128 ∧ up.isOn 0x0203 = true ∧ (up.mb 3).asleep = false ∧
    (let d := bus 0 1 up; d.mbHears 3 = true ∧ (d.mb 3).detect = none ∧ (d.mbCfg 3).objMode = false ∧ d.mbCount 3 < (d.mbCfg 3).entries ∧
      (d.mbCfg 3).listen = false ∧ (d.setMb 3 (fun m => { m with pi := 64 })).mbCount 3 ≥ (d.mbCfg 3).entries) ∧
    (let d := bus 0x20 1 up; (d.mbCfg 3).objMode = true ∧ (List.range 128).find? (fun k => d.objMatches 3 k (d.mbFrame 3 {} false)) = some 127 ∧
      (d.mbObj 3 127).lock = none) ∧
    (let d := sending up; d.ttLevel 3 = 0 ∧ d.begunObj 3 = some 127 ∧ (d.mbObj 3 127).req.isSome = true) ∧
    (∀ t ∈ [247, 248], (up.setMb 3 (fun m => { m with tec := t })).mbHears 3 = true ∧ ({ transmitter := true } : MbErr).code ≠ 7) ∧
    ((up.setMb 3 (fun m => { m with busOff := true })).mb 3).busOff = true ∧ ((up.setMb 3 (fun m => { m with integ := true })).mb 3).integ = true ∧
    up.islandUp 0x23 = true ∧ ((up.setObj 3 127 (fun o => { o with lock := some (0, 5), shadow := some (zeros 76, false) })).mbObj 3 127).lock = some (0, 5) ∧
    (∀ a ∈ [none, some 5], ((up.setMb 3 (fun m => { m with detect := some { accepted := a, cand := some 0 } })).mb 3).detect =
      some { accepted := a, cand := some 0 }) ∧ ({} : MbDetect).cmd.recov = false ∧
    (let d := { (bus 0 0 up).setMb 3 (fun m => { m with asleep := true }) with pwr := { up.pwr with st := 2 } }
     (d.mb 3).asleep = true ∧ (d.mbCfg 3).wakeMode % 4 = 1 ∧ d.pwr.st = 2 ∧ d.pwr.leaving = none ∧ d.isOn 0x0203 = true) ∧
    (let d := timed 127 [] 2 up
     d.ttLevel 3 ≠ 0 ∧ d.isOn 0x0203 = true ∧ d.mbHears 3 = true ∧ (d.tt 3).st = 2 ∧ tblRefObj (d.doms.getD 5 {}).active = 127 ∧
       (d.mb 3).busOff = false ∧ (d.mb 3).integ = false ∧ d.begunObj 3 = none ∧ (d.func 0x0203).recovering = false ∧ d.pwr.st = 0) := by decide +kernel

/-- A part in which serial line 3 is configured and in the state `x`. -/
def serial (x : Sl) (d : Dev) : Dev :=
  { d with cfg := { d.cfg with sls := upd d.cfg.sls 3 (fun _ => { rate := 9600, dataBits := 8, stop := 1, lead := 2, lag := 3 }) } }.setSl 3 (fun _ => x)

theorem witness_SerialRows :
    3 < up.sls.length ∧
    (let d := serial { shut := false } up; d.slRuns 3 = true ∧ bit (d.sl 3).ctl 2 = true ∧ bit (d.sl 3).ctl 1 = false ∧ (d.sl 3).drainAt = none ∧
      (d.sl 3).de = false ∧ (d.sl 3).rxf.length < 64) ∧
    ((serial { rxf := List.replicate 64 {} } up).sl 3).rxf.length = 64 ∧ ((serial { cur := some (0x41, 5) } up).sl 3).cur = some (0x41, 5) ∧
    ((serial { fallAt := some 9, de := true } up).sl 3).fallAt = some 9 ∧
    (let x := (serial { startAt := some 900000, txf := [(0x41, 0)] } up).sl 3; x.cur = none ∧ x.startAt = some 900000 ∧ x.txf = [(0x41, 0)]) ∧
    (let x := (serial { gapA := 16, gapB := 40, firedB := true } up).sl 3; x.gapA ≠ 0 ∧ x.firedA = false ∧ x.firedB = true) := by decide +kernel

/-! ## Forme rings, meridians and impositions (18) -/

/-- A part in which logical engine 0 is bound to ring FR-B, whose node is in the state `f`, with its links up. -/
def formes (role : Nat) (f : Fr) (d : Dev) : Dev :=
  { holding 0x0A 1 d with
    cfg := { d.cfg with frs := upd d.cfg.frs 1 (fun _ => { role := role, cycle := 1000000, claim := 7 }), macs := List.replicate 6 { mode := 4 } },
    frs := upd d.frs 1 (fun _ => f), macs := List.replicate 6 { linkUp := true, expired := false } }

/-- A frame of the ring's EtherType with `q` after it. -/
def forme (q : List Byte) : List Byte := frame [3#8, 0#8, 0#8, 0#8, 0#8, 8#8] 0x88B6 q

/-- A claim of `n` by the node of a station. -/
def claim (n : Nat) (station : List Byte) : List Byte := forme ([0x43#8, 0x4C#8, 0x4D#8, 0x31#8] ++ leb 4 n ++ zeros 2 ++ station)

theorem witness_FormeRings :
    (let d := formes 3 {} up
     1 < d.frs.length ∧ 1 < d.doms.length ∧ (∀ o, frMac 1 o < d.macs.length) ∧ d.frTakes 1 = false ∧ d.isOn (frFid 1) = true ∧
       (∀ o, d.macUp (frMac 1 o) = true) ∧ d.isForme 1 (forme []) = true ∧ isClaim (forme []) = false ∧ fcsGood (forme []) = true ∧
       (d.fr 1).loopO = false ∧ (d.func (frFid 1)).st = 2 ∧ d.islandUp (frIsland 1) = true ∧ (d.fr 1).isMaster = false ∧ (d.fr 1).start ≠ 1) ∧
    (let f := (formes 3 { processed := some 999999 } up).fr 1; f.processed = some 999999 ∧ up.tick < 999999 + 1000000 / 2) ∧
    (let d := formes 3 { isActive := true, run := true, processed := some 500000 } up
     (d.fr 1).processed = some 500000 ∧ 500000 + (d.frCfg 1).cycle / 2 ≤ d.tick ∧ (d.fr 1).isActive = true ∧ (d.fr 1).run = true ∧ d.frBound 1 = true ∧
       (d.processForme 1 (forme [])).2.2.1 = false ∧ (d.processForme 1 (forme [])).2.2.2 = false) ∧
    (let d := formes 2 { isActive := true, run := true, tmpl := [0xFF00, 0, 0, 0] } up
     (d.processForme 1 (forme [1#8])).2.2.1 = true ∧ (d.processForme 1 (forme [1#8])).2.2.2 = false) := by decide +kernel

theorem witness_FormeRings_more :
    ((formes 3 { merDue := some 5 } up).fr 1).merDue = some 5 ∧ ((formes 1 { isMaster := true } up).fr 1).isMaster = true ∧
    (∀ n ∈ [0, 3], let f := (formes 3 { processed := some 0, substitutes := n } up).fr 1; f.processed.isSome = true ∧ f.merDue = none ∧ f.substitutes = n) ∧
    (let d := formes 1 { isMaster := true, awaiting := true, lastMer := 500000 } up
     (d.fr 1).awaiting = true ∧ d.tick ≤ (d.fr 1).lastMer + (d.frCfg 1).cycle / 2 ∧ (d.fr 1).copies = []) ∧
    ((formes 1 { isMaster := true, awaiting := true, copies := [(0, 1, [])] } up).fr 1).copies ≠ [] ∧
    (let d := formes 1 { start := 1 } up
     (d.fr 1).start = 1 ∧ (d.fr 1).claimBack = false ∧ slice (claim 7 (zeros 6)) 24 6 = leb 6 (d.cfg.macs.getD (frMac 1 true) {}).station ∧
       (∀ n ∈ [6, 7, 8], let b := claim n (leb 6 5); d.isForme 1 b = true ∧ isClaim b = true ∧ fld b 18 4 = n ∧
         ∀ o, slice b 24 6 ≠ leb 6 (d.cfg.macs.getD (frMac 1 o) {}).station) ∧ (d.frCfg 1).claim = 7) ∧
    (let d := formes 1 { listening := some 5 } up; (d.fr 1).listening = some 5 ∧ (d.frCfg 1).role = 1 ∧ (d.fr 1).start ≠ 1) ∧
    (let d := timed 127 (leb 4 10 ++ [4#8, 0#8, 0#8, 0#8, 127#8, 0#8, 0#8, 0#8] ++ leb 4 9) 3 up
     3 < d.tts.length ∧ 3 < d.mbs.length ∧ d.ttLevel 3 ≠ 0 ∧ d.isOn (mbFid 3) = true ∧ (d.tt 3).st = 3 ∧ 127 = tblRefObj (d.dom 5).active ∧
       127 < (d.mb 3).objs.length ∧ (d.mb 3).busOff = false ∧ (d.mb 3).integ = false ∧ d.begunObj 3 = none ∧
       ((tblEntries (d.dom 5).active).find? (fun e => decide ((d.dom 5).next ≤ e.1) && enApplies e.2 (d.basicCount 5))).map (fun e => (e.1, enKind e.2)) =
         some (1, 4)) ∧
    (let d := (formes 3 {} up).setDom 1 (fun x => { x with active := Mem.setBytes 0 [(4, 0x0F#8)] 16 (leb 4 10 ++ [1#8]) })
     let d := d.setFunc 0x0500 (fun f => { f with st := 0 })
     ((tblEntries (d.dom 1).active).find? (fun e => decide ((d.dom 1).next ≤ e.1) && enApplies e.2 (d.basicCount 1))).map (fun e => (e.1, enKind e.2)) =
       some (1, 1) ∧ d.gateDomain = some 1 ∧ d.isOn (frFid 1) = true) := by decide +kernel

/-! ## The Orrery (17) -/

/-- A part that serves time on E5 with profile 1, and with the Orrery in the state `o`. -/
def timing (o : Orr) (d : Dev) : Dev :=
  { sw d with orr := o, cfg := { (sw d).cfg with time := { profile := 1, clockType := 2, portMask := 0x30, domain := 9, capture := List.replicate 4 { edge := 3, ring := 31 } },
                                                 rings := List.replicate 32 { entries := 8, dir := 1 } } }

/-- A PTP message of a type in domain 9. -/
def ptp (ty : Nat) : List Byte := frame [1#8, 0x1B#8, 0x19#8, 0#8, 0#8, 0#8] 0x88F7 ([BitVec.ofNat 8 ty, 2#8, 0#8, 0#8, 9#8] ++ zeros 40)

theorem witness_TimeRows :
    (∀ ty ∈ [0, 11], let d := timing {} up
      d.ptpAt (ptp ty) 319 = some 14 ∧ d.ptpPort 5 = true ∧ byteAt (ptp ty) (14 + 4) = d.cfg.time.domain ∧ byteAt (ptp ty) (14 + 1) % 16 = 2 ∧
      byteAt (ptp ty) 14 % 16 = ty) ∧
    (timing {} up).cfg.time.clockType ≠ 3 ∧ -3 ≤ (4 : Int) ∧ (-7 : Int) ≤ -7 ∧
    (let o : Orr := { master := some {}, ready := true }; o.master = some {} ∧ o.step = none ∧ o.refLost = false ∧ o.ready = true ∧ o.syncs = [] ∧
      (1000000 : Int).natAbs ≤ (timing o up).cfg.time.slewWindow * 1000) ∧
    (timing {} up).ptpMaster 5 = true ∧ (timing {} up).orr.master = none ∧
    (∀ k ∈ [-1, (1 : Int)], (timing { step := some { at_ := 5, corr := k } } up).orr.step = some { at_ := 5, corr := k }) ∧ up.orr.occ = false ∧
    up.pwr.alarm = none ∧ (timing { master := some {} } up).timeOn = true ∧ 2 ≤ (timing {} up).verind.freeSlots ∧ (timing {} up).cmp.restarting = false ∧
    (∀ q ∈ [0x30, 0x34], (timing { lastAcc := some 5, quality := q } up).orr.quality = q ∧ (timing { lastAcc := some 5, quality := q } up).orr.lastAcc = some 5) ∧
    (let d := timing { walk := 1, pns := 1000000000 } up; d.orr.walk ≠ 0 ∧ 1000000000 ≤ (d.orr.rebase d.tick).pns) ∧
    (∀ a, let p := (timing { pulses := List.replicate 2 { active := a, cfg := { flags := 1, period := 1000000, width := 100 } } } up).orr.pulses.getD 1 {}
      p.active = a ∧ p.next = none ∧ bit p.cfg.flags 0 = true) ∧ (timing {} up).pulsesRun = true ∧
    (let d := timing {} up
     3 < d.orr.evs.length ∧ d.islandUp 0x03 = true ∧ bit (d.cfg.time.capture.getD 3 {}).edge 0 = true ∧ bit (d.cfg.time.capture.getD 3 {}).edge 1 = true ∧
       (d.orr.evs.getD 3 {}).last = none ∧ d.isOn (ringFid 31) = true ∧ (d.ringCfg 31).dir = 1 ∧
       ((d.setEv 3 (fun e => { e with last := some d.tick })).ringPut 31 (.island 0x03) 3 3
         (captureData 3 (d.orr.evs.getD 3 {}).miss true d.timeNow)).1 = true) ∧
    ((timing { evs := List.replicate 4 { last := some 999001 } } up).orr.evs.getD 3 {}).last = some 999001 ∧ up.tick < 999001 + 1000 ∧
    ((timing {} up).setFunc 0x091F (fun f => { f with st := 0 })).isOn (ringFid 31) = false := by decide +kernel

/-! ## Power states (19) -/

/-- A part whose host policy allows power state `p`, whose functions are OFF, and whose power part is changed by `f`. -/
def resting (p : Nat) (f : Pwr → Pwr) (d : Dev) : Dev :=
  { d with funcs := funcTable, cfg := { d.cfg with dev := { d.cfg.dev with policy := p, wakeEnable := 15, wakeEdge := 15 } }, pwr := f d.pwr,
           eng := {}, start := { d.start with osc32k := true } }

theorem witness_PowerStates :
    (∀ p ∈ [1, 2, 3], let d := resting p id up; d.start.phase = .ready ∧ d.pwr.leaving = none ∧ d.pwr.st < 2 ∧ d.choose ≠ d.pwr.st ∧ d.choose = p ∧
      d.verind.freeSlots ≠ 0 ∧ d.cmp.restarting = false) ∧
    (let d := resting 4 (fun w => { w with alarm := some { at_ := 100000000000 } }) up
     d.choose = 4 ∧ d.verind.freeSlots ≠ 0 ∧ d.cmp.restarting = false) ∧
    (∀ k ∈ [1, 2, 3], let d := resting 3 (fun w => { w with st := k, deadlines := upd w.deadlines 0 (fun _ => some 5000000) }) up
      d.earliest k = some 5000000 ∧ d.pwr.leaving = none ∧ d.pwr.raiseAt = none ∧ minList d.hostDeadlines = some 5000000) ∧
    (let d := resting 1 (fun w => { w with st := 2, leaving := some 5, deadlines := upd w.deadlines 0 (fun _ => some 1000001) }) up
     d.pwr.leaving = some 5 ∧ d.returnToRun.choose = 0) ∧
    (∀ ep ∈ [0, 1], let d := resting 1 (fun w => { w with alarm := some { absolute := ep == 1, at_ := 5, epoch := ep } }) up
      d.pwr.alarm = some { absolute := ep == 1, at_ := 5, epoch := ep } ∧ d.start.osc32k = true ∧ d.orr.epoch = 0) ∧
    (let d := phased .hibernate (resting 4 (fun w => { w with st := 4, alarm := some {} }) up)
     d.start.phase = .hibernate ∧ d.pwr.st = 4 ∧ d.pwr.wakeEvent = none ∧ d.pwr.pwrEn = false ∧ d.pwr.raiseAt = none ∧ d.start.osc32k = true) ∧
    (let d := resting 3 (fun w => { w with st := 3 }) up
     bit d.cfg.dev.wakeEnable 3 = true ∧ bit d.cfg.dev.wakeEdge 3 = true ∧ bit d.cfg.dev.wakeLow 3 = !true ∧ d.pwr.st = 3 ∧ 49 < 50) ∧
    (let d := phased .hibernate (resting 4 (fun w => { w with raiseAt := some 5, pwrEn := true }) up)
     d.pwr.raiseAt = some 5 ∧ d.pwr.pwrEn = true ∧ d.start.bootSel ≠ 3 ∧ ({ testFails := 1 } : StartIn).testFails < 2) ∧
    ({ up with sec := { up.sec with challenge := some (zeros 32, 5) } } : Dev).sec.challenge = some (zeros 32, 5) := by decide +kernel

/-! ## The TAP (21, 22) and the machine as a whole -/

/-- A part whose TAP is out of its reset. -/
def tapped (f : Dev → Dev) : Dev := f { up with start := { up.start with trstLow := false, bootSel := 0 }, islands := up.islands }

theorem witness_TapInstructions :
    (∀ ph ∈ [Phase.released, .hold, .dead, .ready], let d := tapped (phased ph)
      d.start.phase = ph ∧ (d.island 0x0F).st = 2 ∧ d.start.trstLow = false ∧ d.sec.unlocked = false) ∧
    (let d := tapped (fun d => phased .hibernate { d with pwr := { d.pwr with st := 4, pwrEn := true } })
     d.start.phase = .hibernate ∧ d.pwr.pwrEn = true) ∧
    ((tapped (fun d => { d with sec := { d.sec with challenge := some (zeros 32, 5) } })).sec.challenge = some (zeros 32, 5)) ∧
    (let d := tapped (fun d => { d with sec := { d.sec with unlocked := true }, svc := { d.svc with log := [{}] } })
     d.sec.unlocked = true ∧ d.cmp.restarting = false ∧ d.islandUp 7 = true ∧ d.islandUp 0x3D = true ∧ d.hasIsland 0x3D = true ∧
       d.svc.log[({} : Tap).flogIndex]? = some {} ∧ d.svc.log.length ≤ ({ flogIndex := 1 } : Tap).flogIndex) ∧
    ({ dbgAddr := 0x0700000000 + 0x7FFFC } : Tap).dbgAddr = 0x0700000000 + 0x7FFFC ∧
    ({ dbgAddr := (0x30 + 13) * 2 ^ 32 + 0xFFFC } : Tap).dbgAddr / 2 ^ 32 = 0x3D ∧ (tapped id).start.phase ≠ .aonOff := by decide +kernel

theorem witness_StepRunsTheFrontCommand : ({ dev := up, pending := [.tickLo 0 1, .wait 0] } : State).pending = .tickLo 0 1 :: [.wait 0] := rfl

theorem witness_CommandsComplete :
    (∀ ns, Instr.porstAssert 10000 = .porstAssert ns → ns < 1000 ∨ 10000 ≤ ns) ∧ (∀ ns, Instr.walkStop = .porstAssert ns → ns < 1000 ∨ 10000 ≤ ns) ∧
    (1000 ≤ 9999 ∧ 9999 < 10000) ∧ (st id).pending = [] := by
  refine ⟨fun ns h => ?_, fun ns h => (nomatch h), ⟨by decide, by decide⟩, rfl⟩
  injection h with h; omega

theorem witness_TapStaysWellFormed : (st id).tap.wf = true ∧ ∃ t, step (st id) = .next t := ⟨by decide +kernel, _, rfl⟩

theorem witness_RevokedStaysRevoked :
    let s : State := { dev := { up with sec := { up.sec with revoked := List.replicate 7 false ++ [true] } } }
    s.dev.sec.revoked.getD 7 false = true ∧ ∃ t, step s = .next t := ⟨by decide +kernel, _, rfl⟩

theorem witness_DebugReadsChangeNothing :
    let s : State := { dev := tapped id }
    s.dev.start.trstLow = false ∧ (s.dev.island 0x0F).st = 2 ∧ s.dev.tapOn = true := by decide +kernel

theorem witness_RowFrames : (∃ t, exec .walkStop (st id) = .next t) ∧ (∃ t, exec (.slCharacterSent 3) (st id) = .next t) := ⟨⟨_, rfl⟩, _, rfl⟩

/-! ## Steps of the spec's worked cases

One step each, with the numbers that the worked case at the end of the file named gives. -/

/-- 04: the header of the DEFERRED reply to FUNC_ENABLE 0x0200, sequence 0x0121; MB0 is draining. -/
theorem test_deferred_reply :
    let s := st (fun d => (d.setFunc 0x0200 (fun f => { f with st := 3 })).setChan 0 (fun c => { c with base := 0x0121 }))
    (match exec (.funcEnable (sealed 0x0100 { seq := 0x0121, fid := 0x0200 })) s with
     | .next t => (t.dev.port 1).out.head?.map (fun o => o.bytes.take 16)
     | _ => none) = some [0xA7#8, 0x01#8, 0x14#8, 0x00#8, 0x21#8, 0x01#8, 0x00#8, 0x81#8, 0x01#8, 0x00#8, 0x02#8, 0x00#8, 0x00#8, 0x02#8, 0x00#8, 0x00#8] := by
  decide +kernel

/-- 05: the reply BAD_STATE to MB_CONFIG, sequence 0x0012, which drops object mode while MB1 is ON: header and parameters. -/
theorem test_bad_state_reply :
    let s := st (fun d => { d with cfg := { d.cfg with mbs := upd d.cfg.mbs 1 (fun c =>
      { c with nbrp := 4, ntseg1 := 63, ntseg2 := 16, nsjw := 16, flags := 0x28 }) } }.setChan 0 (fun c => { c with base := 0x0012 }))
    let p := [4#8, 0#8, 0x3F#8, 0x10#8, 0x10#8, 0#8, 0#8, 0#8, 0#8, 0x08#8, 0#8, 0#8]
    (match exec (.mbConfig (sealed 0x0800 { seq := 0x0012, fid := 0x0201, params := p })) s with
     | .next t => (t.dev.port 1).out.head?.map (fun o => o.bytes.take 20)
     | _ => none) = some [0xA7#8, 0x01#8, 0x18#8, 0x00#8, 0x12#8, 0x00#8, 0x00#8, 0x88#8, 0x01#8, 0x00#8, 0x04#8, 0x01#8, 0x01#8, 0x02#8, 0x00#8, 0x00#8,
       0x19#8, 0x00#8, 0x02#8, 0x01#8] := by decide +kernel

/-- 05: the MB_CONFIG of 125 kbit/s at 80 quanta is taken while MB1 is OFF. -/
theorem test_mb_config_taken :
    let s := st off
    (match exec (.mbConfig (pkt .mbConfig 0x0201 [4#8, 0#8, 0x3F#8, 0x10#8, 0x10#8, 0#8, 0#8, 0#8, 0#8, 0x28#8, 0#8, 0#8])) s with
     | .next t => some ((t.dev.mbCfg 1).ntseg1, (t.dev.mbCfg 1).ntseg2, (t.dev.mbCfg 1).objMode, (t.dev.mbCfg 1).bitNs)
     | _ => none) = some (63, 16, true, 8000) := by decide +kernel

/-- The registers that an instruction of PE0 leaves, from registers 5 and 6. -/
def after56 (i : Instr) (g5 g6 : Word) (k : Nat) : Option Word :=
  match exec i (st (fun d => d.setPe 0 (fun e => { e with regs := { g := upd (upd e.regs.g 5 (fun _ => g5)) 6 (fun _ => g6) } }))) with
  | .next t => some ((t.regs 0).get k)
  | _ => none

/-- 10, Table 10.12: LUI, ORI and the target that wraps. -/
theorem test_deadline : after56 (.lui 0 6 0xBEB#18) 0#32 0#32 6 = some 0x02FAC000#32 ∧
    after56 (.ori 0 6 6 0x3080#18) 0#32 0x02FAC000#32 6 = some 0x02FAF080#32 ∧
    after56 (.add 0 5 5 6) 0xFF000000#32 0x02FAF080#32 5 = some 0x01FAF080#32 := by decide +kernel

/-- 10, Table 10.13: CMP of a lower unsigned number borrows, so that B.NCARRY goes back 4 words. -/
theorem test_loop_branch :
    let s := regs12 0x10010#32 0x10018#32
    (match exec (.cmp 0 1 2) s with
     | .next t => some (t.regs 0).c
     | _ => none) = some false ∧
    (match exec (.b 0 0xA (BitVec.ofInt 22 (-4))) (st (fun d => d.setPe 0 (fun e => { e with regs := { pc := 0x450 } }))) with
     | .next t => some (t.regs 0).pc
     | _ => none) = some 0x440 := by decide +kernel

/-- 06: a digest of 80 bytes takes 3 entries, at slots 57 to 59. -/
theorem test_digest_entries : itemEntries 80 = 3 := by decide

/-- 16: 19,200 bit/s with 8 data bits, even parity and 1 stop bit: a character, the lead and the lag in ns, rounded down where the
case rounds to the nearest. -/
theorem test_serial_times :
    let c : SlCfg := { rate := 19200, dataBits := 8, parity := 1, stop := 1, lead := 8, lag := 16 }
    c.charNs + 1 = 572917 ∧ c.sixteenths 8 + 1 = 26042 ∧ c.sixteenths 16 = 52083 := by decide

/-- 19: the alarm at second 7,201,800 of epoch 0. -/
theorem test_alarm_set :
    (match exec (.alarmSet (pkt .alarmSet 0 [1#8, 0#8, 0#8, 0#8, 0x08#8, 0xE4#8, 0x6D#8, 0#8, 0#8, 0#8, 0#8, 0#8, 0#8, 0#8, 0#8, 0#8])) (st id) with
     | .next t => t.dev.pwr.alarm
     | _ => none) = some { absolute := true, at_ := 7201800 * 1000000000 } := by decide +kernel

/-- 21: the message that revokes key slot 3 in every part. -/
theorem test_revocation_message : revokeMsg 3 (zeros 8) = [0x54#8, 0x5A#8, 0x52#8, 0x56#8, 3#8, 0#8, 0#8, 0#8] ++ zeros 8 := by decide

/-- 14: an acknowledgement error raises TEC by 8, and in error passive, with no dominant bit in the passive flag, not at all. -/
theorem test_ack_errors : ∀ p ∈ [(120, 128), (128, 128)],
    (match exec (.mbBusError 3 { code := 3, transmitter := true, ackPassive := true }) (st (fun d => (sending d).setMb 3 (fun m => { m with tec := p.1 }))) with
     | .next t => some (t.dev.mb 3).tec
     | _ => none) = some p.2 := by decide +kernel

/-- 22, Table 22.12: in HIBERNATE with PWR_EN low every ball of the switched banks is unpowered and RESET_OUT# is low; with PWR_EN high
the balls are in their reset state, the data outputs of E0 with a PD and MB1_STBY with a PU. -/
theorem test_balls_hibernate :
    let d : Dev := { up with start := { phase := .hibernate } }
    let e : Dev := { d with pwr := { d.pwr with pwrEn := true } }
    d.ball (.txd 0 0) = .unpowered ∧ d.ball (.mbStby 1) = .unpowered ∧ d.ball .resetOut = .drives false ∧ d.ball .pwrEn = .drives false ∧
    e.ball (.txd 0 0) = .hiZ .down ∧ e.ball (.mbStby 1) = .hiZ .up ∧ e.ball .pwrEn = .drives true := by decide +kernel

/-- 22, Table 22.7: off levels of a line and a controller that are OFF, with RESET_OUT# high; ATTN0# falls with an event that waits. -/
theorem test_balls_off :
    let d : Dev := { up with funcs := funcTable, start := { phase := .ready, resetOutHigh := true, bankClass := [3, 3, 3, 3] },
                             pwr := { up.pwr with pwrEn := true } }
    d.ball (.slTxd 2) = .drives true ∧ d.ball (.slDe 2) = .drives false ∧ d.ball (.slRe 2) = .drives true ∧
    d.ball (.mbTxd 0) = .drives true ∧ d.ball (.mbStby 0) = .drives true ∧ d.ball (.mbRxd 0) = .ignored .up ∧
    d.ball (.attn 0) = .drives true ∧ (d.setVerind (fun v => { v with events := [{}] })).ball (.attn 0) = .drives false := by decide +kernel

end Sys2Proof.Tests
end

/-! # Engine instructions (10): the register forms, the CRC and the control transfers -/

section
/-! SUPPORT. What the forms of an instruction do to the registers, in the words of `Regs.result` and `Regs.resultNZ`, and the instruction
run on the whole part. -/

namespace Sys2Proof.Machine

/-! ## Forms -/

theorem Regs.opNZ_eq_resultNZ (g : Regs) (rd : Nat) (r : Word) : g.opNZ rd r = g.resultNZ rd r := by
  by_cases h : rd = 0 <;>
    simp [Regs.opNZ, Regs.resultNZ, Regs.set, Regs.flagsNZ, Regs.step, h, BitVec.msb_eq_getLsbD_last]

theorem Regs.set_step (g : Regs) (rd : Nat) (r : Word) : (g.set rd r).step = g.result rd r := by
  by_cases h : rd = 0 <;> simp [Regs.result, Regs.set, Regs.step, h]

/-- Registers after an addition or subtraction of result `r` whose exact value is `value`: V says that `r` is another value. -/
def Regs.arith (g : Regs) (rd : Nat) (r : Word) (carry : Bool) (value : Int) : Regs :=
  { (g.result rd r) with n := r.getLsbD 31, z := decide (r = 0#32), c := carry, v := decide (r.toInt ≠ value) }

/-- Registers after `x + y + c` (R262, R264). -/
def Regs.sum (g : Regs) (rd : Nat) (x y : Word) (c : Nat) : Regs :=
  g.arith rd (BitVec.ofNat 32 (x.toNat + y.toNat + c)) (decide (2 ^ 32 ≤ x.toNat + y.toNat + c)) (x.toInt + y.toInt + c)

/-- Registers after `x - y - b` (R262, R264). -/
def Regs.difference (g : Regs) (rd : Nat) (x y : Word) (b : Nat) : Regs :=
  g.arith rd (BitVec.ofInt 32 (x.toInt - y.toInt - b)) (decide (y.toNat + b ≤ x.toNat)) (x.toInt - y.toInt - b)

theorem Regs.op4_eq_arith (g : Regs) (rd : Nat) (r : Word) (carry : Bool) (value : Int) :
    g.op4 rd (r, carry, decide (r.toInt ≠ value)) = g.arith rd r carry value := by
  by_cases h : rd = 0 <;>
    simp [Regs.op4, Regs.arith, Regs.result, Regs.set, Regs.flags4, Regs.step, h, BitVec.msb_eq_getLsbD_last,
      Bool.beq_eq_decide_eq]

theorem b2n_le_one (b : Bool) : b2n b ≤ 1 := by cases b <;> decide

/-- The overflow of an addition, from the signs of its operands and its result, is that the signed sum leaves the range. -/
theorem addC_eq (x y : Word) (c : Bool) :
    addC x y c =
      let r := BitVec.ofNat 32 (x.toNat + y.toNat + b2n c)
      (r, decide (2 ^ 32 ≤ x.toNat + y.toNat + b2n c), decide (r.toInt ≠ x.toInt + y.toInt + b2n c)) := by
  have hr : x + y + (if c then 1#32 else 0#32) = BitVec.ofNat 32 (x.toNat + y.toNat + b2n c) := by
    cases c <;> simp [b2n, BitVec.ofNat_add]
  have hcarry : (if c then 1 else 0) = b2n c := rfl
  have hle := b2n_le_one c
  simp only [addC, hr, hcarry, Prod.mk.injEq, true_and]
  generalize b2n c = k at hle
  rw [Bool.eq_iff_iff]
  simp only [BitVec.msb_eq_decide, BitVec.toInt_eq_toNat_cond, BitVec.toNat_ofNat, Bool.and_eq_true, beq_iff_eq, bne_iff_ne,
    decide_eq_true_eq, decide_eq_decide, ne_eq]
  have := x.isLt
  have := y.isLt
  omega

/-- The overflow of a subtraction, from the signs of its operands and its result, is that the signed difference leaves the range. -/
theorem subB_eq (x y : Word) (b : Bool) :
    subB x y b =
      let r := BitVec.ofInt 32 (x.toInt - y.toInt - b2n b)
      (r, decide (y.toNat + b2n b ≤ x.toNat), decide (r.toInt ≠ x.toInt - y.toInt - b2n b)) := by
  have hr : x - y - (if b then 1#32 else 0#32) = BitVec.ofInt 32 (x.toInt - y.toInt - b2n b) := by
    apply BitVec.eq_of_toInt_eq
    cases b <;> simp [b2n, BitVec.toInt_ofInt]
  have hborrow : (if b then 1 else 0) = b2n b := rfl
  have hle := b2n_le_one b
  simp only [subB, hr, hborrow, Prod.mk.injEq, true_and]
  generalize b2n b = k at hle
  rw [Bool.eq_iff_iff]
  simp only [BitVec.msb_eq_decide, BitVec.toInt_eq_toNat_cond, BitVec.toNat_ofInt, Bool.and_eq_true, bne_iff_ne,
    decide_eq_true_eq, decide_eq_decide, ne_eq]
  have := x.isLt
  have := y.isLt
  omega

theorem Regs.op4_addC (g : Regs) (rd : Nat) (x y : Word) (c : Bool) : g.op4 rd (addC x y c) = g.sum rd x y (b2n c) := by
  rw [addC_eq]
  exact g.op4_eq_arith rd _ _ _

theorem Regs.op4_subB (g : Regs) (rd : Nat) (x y : Word) (b : Bool) : g.op4 rd (subB x y b) = g.difference rd x y (b2n b) := by
  rw [subB_eq]
  exact g.op4_eq_arith rd _ _ _

/-! ## Bit fields whose bits end inside the word or not (R279) -/

theorem Dev.bitField_of_le (p a b : Nat) (f : Regs → Regs) (h : a + b ≤ 31) : Dev.bitField p a b f = Dev.regOp p f := by
  funext d
  simp only [Dev.bitField, Dev.regOp, if_neg (not_lt.mpr h)]

theorem Dev.bitField_of_lt (p a b : Nat) (f : Regs → Regs) (h : 31 < a + b) :
    Dev.bitField p a b f = Dev.issue p (fun d => d.engineFault p 3 0x02) := by
  funext d
  simp only [Dev.bitField, if_pos h]

/-! ## A form run by an engine that executes -/

section Running

variable {s : State} {p : Nat} (h : s.dev.executes p = true)
include h

theorem State.run_regOp_to {f : Regs → Regs} {g : Regs} (hf : f (s.regs p) = g) (hpc : g.pc = (s.regs p).pc + 4) :
    s.run (Dev.regOp p f) = .next (s.withRegs p g) := by
  subst hf
  exact State.run_regOp s p f h hpc

theorem State.run_opNZ (rd : Nat) {f : Regs → Word} {r : Word} (hr : f (s.regs p) = r) :
    s.run (Dev.regOp p (fun g => g.opNZ rd (f g))) = .next (s.withRegs p ((s.regs p).resultNZ rd r)) :=
  State.run_regOp_to h (by rw [Regs.opNZ_eq_resultNZ, hr]) rfl

theorem State.run_opPlain (rd : Nat) {f : Regs → Word} {r : Word} (hr : f (s.regs p) = r) :
    s.run (Dev.regOp p (fun g => g.opPlain rd (f g))) = .next (s.withRegs p ((s.regs p).result rd r)) :=
  State.run_regOp_to h (by rw [Regs.opPlain, Regs.set_step, hr]) rfl

theorem State.run_addC (rd : Nat) (x y : Regs → Word) (c : Regs → Bool) :
    s.run (Dev.regOp p (fun g => g.op4 rd (addC (x g) (y g) (c g)))) =
      .next (s.withRegs p ((s.regs p).sum rd (x (s.regs p)) (y (s.regs p)) (b2n (c (s.regs p))))) :=
  State.run_regOp_to h (Regs.op4_addC ..) rfl

theorem State.run_subB (rd : Nat) (x y : Regs → Word) {b : Regs → Bool} {k : Nat} (hk : b2n (b (s.regs p)) = k) :
    s.run (Dev.regOp p (fun g => g.op4 rd (subB (x g) (y g) (b g)))) =
      .next (s.withRegs p ((s.regs p).difference rd (x (s.regs p)) (y (s.regs p)) k)) :=
  State.run_regOp_to h (by rw [Regs.op4_subB, hk]) rfl

theorem State.run_bitField (rd : Nat) {a b : Nat} (hab : a + b ≤ 31) {f : Regs → Word} {r : Word} (hr : f (s.regs p) = r) :
    s.run (Dev.bitField p a b (fun g => g.opNZ rd (f g))) = .next (s.withRegs p ((s.regs p).resultNZ rd r)) := by
  rw [Dev.bitField_of_le p a b _ hab]
  exact State.run_opNZ h rd hr

end Running

end Sys2Proof.Machine
end

section
/-! SUPPORT. The results of Tables 10.5 and 10.6: shifts, products and orders as numbers, bit fields and reversals bit by bit. -/

namespace Sys2Proof.Machine

/-! ## Shifts, products and orders -/

theorem sllW_eq (x : Word) (n : Nat) : sllW x n = BitVec.ofNat 32 (x.toNat * 2 ^ n) := by
  apply BitVec.eq_of_toNat_eq
  simp [sllW, Nat.shiftLeft_eq]

theorem srlW_eq (x : Word) (n : Nat) : srlW x n = BitVec.ofNat 32 (x.toNat / 2 ^ n) := by
  apply BitVec.eq_of_toNat_eq
  have : x.toNat / 2 ^ n < 2 ^ 32 := (Nat.div_le_self _ _).trans_lt x.isLt
  rw [srlW, BitVec.toNat_ushiftRight, BitVec.toNat_ofNat, Nat.mod_eq_of_lt this, Nat.shiftRight_eq_div_pow]

theorem sraW_eq (x : Word) (n : Nat) : sraW x n = BitVec.ofInt 32 (x.toInt / 2 ^ n) := by
  simp [sraW, BitVec.sshiftRight_eq, Int.shiftRight_eq_div_pow]

/-- The two parts of a rotation have no bit in common, so that their sum is the rotation. -/
theorem rorW_eq (x : Word) (n : Nat) (h : n < 32) :
    rorW x n = BitVec.ofNat 32 (x.toNat / 2 ^ n + x.toNat * 2 ^ (32 - n)) := by
  have hdisjoint : x >>> n &&& x <<< (32 - n) = 0#32 := by
    ext i hi
    by_cases hlow : i < 32 - n
    · simp [hlow]
    · simp [show 32 ≤ n + i by omega]
  calc rorW x n = x >>> n ||| x <<< (32 - n) := by rw [rorW, BitVec.rotateRight_def, Nat.mod_eq_of_lt h]
    _ = srlW x n + sllW x (32 - n) := (BitVec.add_eq_or_of_and_eq_zero _ _ hdisjoint).symm
    _ = _ := by rw [srlW_eq, sllW_eq, BitVec.ofNat_add]

theorem mul_eq_ofNat (x y : Word) : x * y = BitVec.ofNat 32 (x.toNat * y.toNat) := by
  simp [BitVec.ofNat_mul]

theorem minS_eq (x y : Word) : minS x y = BitVec.ofInt 32 (min x.toInt y.toInt) := by
  by_cases h : x.toInt < y.toInt
  · simp [minS, BitVec.slt_iff_toInt_lt, h, min_eq_left h.le]
  · simp [minS, BitVec.slt_iff_toInt_lt, h, min_eq_right (not_lt.mp h)]

theorem maxS_eq (x y : Word) : maxS x y = BitVec.ofInt 32 (max x.toInt y.toInt) := by
  by_cases h : x.toInt < y.toInt
  · simp [maxS, BitVec.slt_iff_toInt_lt, h, max_eq_right h.le]
  · simp [maxS, BitVec.slt_iff_toInt_lt, h, max_eq_left (not_lt.mp h)]

theorem minU_eq (x y : Word) : minU x y = BitVec.ofNat 32 (min x.toNat y.toNat) := by
  by_cases h : x.toNat < y.toNat
  · simp [minU, BitVec.ult_iff_toNat_lt, h, min_eq_left h.le]
  · simp [minU, BitVec.ult_iff_toNat_lt, h, min_eq_right (not_lt.mp h)]

theorem maxU_eq (x y : Word) : maxU x y = BitVec.ofNat 32 (max x.toNat y.toNat) := by
  by_cases h : x.toNat < y.toNat
  · simp [maxU, BitVec.ult_iff_toNat_lt, h, max_eq_right h.le]
  · simp [maxU, BitVec.ult_iff_toNat_lt, h, max_eq_left (not_lt.mp h)]

theorem uimm_shiftLeft_eq (imm : BitVec 18) : uimm imm <<< 14 = BitVec.ofNat 32 (imm.toNat * 2 ^ 14) := by
  have h := sllW_eq (uimm imm) 14
  rwa [sllW, uimm, BitVec.toNat_setWidth_of_le (by decide)] at h

/-! ## Bit fields -/

theorem fieldMask_getLsbD (b i : Nat) (hi : i < 32) : (fieldMask b).getLsbD i = decide (i ≤ b) := by
  rw [fieldMask, BitVec.getLsbD_ofNat, Nat.testBit_two_pow_sub_one]
  simp [hi]

theorem bfx_getLsbD (x : Word) (a b i : Nat) (hi : i < 32) :
    (bfx x a b).getLsbD i = (decide (i ≤ b) && x.getLsbD (a + i)) := by
  rw [bfx, BitVec.getLsbD_and, BitVec.getLsbD_ushiftRight, fieldMask_getLsbD b i hi, Bool.and_comm]

/-- Bits from b on are copies of bit a + b, the sign that the shift to the left has put at bit 31. -/
theorem bfxs_getLsbD (x : Word) (a b i : Nat) (hab : a + b ≤ 31) (hi : i < 32) :
    (bfxs x a b).getLsbD i = x.getLsbD (a + min i b) := by
  rw [bfxs, BitVec.getLsbD_sshiftRight, BitVec.msb_eq_getLsbD_last, BitVec.getLsbD_shiftLeft, BitVec.getLsbD_shiftLeft]
  by_cases h : i ≤ b
  · rw [min_eq_left h]
    grind
  · rw [min_eq_right (not_le.mp h).le]
    grind

theorem bfi_getLsbD (x y : Word) (a b i : Nat) (hi : i < 32) :
    (bfi x y a b).getLsbD i = if a ≤ i ∧ i ≤ a + b then x.getLsbD (i - a) else y.getLsbD i := by
  have hmask : (fieldMask b).getLsbD (i - a) = decide (i ≤ a + b) := by
    rw [fieldMask_getLsbD b _ (by omega), decide_eq_decide]
    omega
  simp only [bfi, BitVec.getLsbD_or, BitVec.getLsbD_and, BitVec.getLsbD_not, BitVec.getLsbD_shiftLeft, hmask, hi]
  by_cases ha : a ≤ i <;> by_cases hb : i ≤ a + b <;> grind

/-! ## Counts and reversals -/

theorem clz_bounds (x : Word) : ∃ k, clz x = BitVec.ofNat 32 k ∧ k ≤ 32 ∧
    x.toNat < 2 ^ (32 - k) ∧ (k < 32 → 2 ^ (31 - k) ≤ x.toNat) := by
  refine ⟨_, rfl, ?_⟩
  cases hfind : (List.range 32).find? (fun i => x.getLsbD (31 - i)) with
  | none =>
    have hzero : x = 0#32 := by
      refine BitVec.eq_of_getLsbD_eq fun i hi => ?_
      have := List.find?_range_eq_none.mp hfind (31 - i) (by omega)
      simpa [show 31 - (31 - i) = i by omega, -BitVec.getLsbD_eq_getElem] using this
    simp [hzero]
  | some k =>
    obtain ⟨hbit, hmem, habove⟩ := List.find?_range_eq_some.mp hfind
    have hk : k < 32 := List.mem_range.mp hmem
    refine ⟨hk.le, Nat.lt_pow_two_of_testBit _ fun i hi => ?_, fun _ => Nat.ge_two_pow_of_testBit hbit⟩
    change x.getLsbD i = false
    by_cases hi' : i < 32
    · have hik : 31 - i < k := by simp only [Option.getD_some] at hi; omega
      simpa [show 31 - (31 - i) = i by omega] using habove (31 - i) hik
    · exact BitVec.getLsbD_of_ge x i (not_lt.mp hi')

theorem popc_eq (x : Word) :
    popc x = BitVec.ofNat 32 ((Finset.range 32).filter (fun i => x.getLsbD i = true)).card := by
  rw [popc, ← List.toFinset_range, ← List.toFinset_filter, List.toFinset_card_of_nodup (List.nodup_range.filter _)]

/-- Byte by byte: each of the four parts of `rev` gives one byte and is 0 in the other three. -/
theorem rev_getLsbD (x : Word) (i : Nat) (hi : i < 32) :
    (rev x).getLsbD i = x.getLsbD (8 * (3 - i / 8) + i % 8) := by
  have hmask : ∀ j, (0xFF00#32).getLsbD j = (decide (8 ≤ j) && decide (j < 16)) := by
    intro j
    by_cases hj : j < 32
    · revert j; decide
    · rw [BitVec.getLsbD_of_ge _ _ (not_lt.mp hj)]
      grind
  simp only [rev, BitVec.getLsbD_or, BitVec.getLsbD_and, BitVec.getLsbD_shiftLeft, BitVec.getLsbD_ushiftRight, hmask, hi]
  have hbyte : i / 8 = 0 ∨ i / 8 = 1 ∨ i / 8 = 2 ∨ i / 8 = 3 := by omega
  obtain h | h | h | h := hbyte <;> grind

/-- The bits of `f` as a number, `f 0` the most significant of `n`. -/
theorem testBit_mirrored_sum (f : Nat → Bool) (n j : Nat) :
    ((List.range n).map (fun i => b2n (f i) * 2 ^ (n - 1 - i))).sum.testBit j = (decide (j < n) && f (n - 1 - j)) := by
  induction n generalizing j with
  | zero => simp
  | succ n ih =>
    have hdouble : ((List.range n).map (fun i => b2n (f i) * 2 ^ (n + 1 - 1 - i))).sum =
        2 * ((List.range n).map (fun i => b2n (f i) * 2 ^ (n - 1 - i))).sum := by
      rw [← List.sum_map_mul_left]
      refine congrArg List.sum (List.map_congr_left fun i hi => ?_)
      have hi : i < n := List.mem_range.mp hi
      rw [show n + 1 - 1 - i = (n - 1 - i) + 1 by omega, pow_succ]
      ring
    rw [List.range_succ, List.map_append, List.sum_append, hdouble]
    cases j with
    | zero => cases h : f n <;> simp [b2n, h]
    | succ j =>
      have hhalf (m : Nat) : (2 * m + b2n (f n)) / 2 = m := by
        have := b2n_le_one (f n)
        omega
      simp [Nat.testBit_succ, hhalf, ih, show n - 1 - j = n - (j + 1) by omega]

theorem brev_getLsbD (x : Word) (i : Nat) (hi : i < 32) : (brev x).getLsbD i = x.getLsbD (31 - i) := by
  rw [brev, BitVec.getLsbD_ofNat, testBit_mirrored_sum x.getLsbD 32]
  simp only [hi, decide_true, Bool.true_and]

end Sys2Proof.Machine
end

section
/-! SUPPORT. The CRC step as a fold over bits and bytes, most and least significant bit first (R267). -/

namespace Sys2Proof.Machine

theorem crcSteps_eq_iterate (p : Word) (k : Nat) (c : Word) : crcSteps p k c = (crcBit p)^[k] c := by
  induction k generalizing c with
  | zero => rfl
  | succ k ih => exact ih _

/-- One bit step of polynomial 0x1021, most significant bit first. -/
def crcMsbBit (c : Word) : Word :=
  if c.getLsbD 15 then ((c <<< 1) ^^^ 0x1021#32) &&& 0xFFFF#32 else (c <<< 1) &&& 0xFFFF#32

theorem crcMsbSteps_eq_iterate (k : Nat) (c : Word) : crcMsbSteps k c = crcMsbBit^[k] c := by
  induction k generalizing c with
  | zero => rfl
  | succ k ih => exact ih _

theorem crcMsbByte_eq_foldl (c : Word) (b : Nat) : crcMsbByte c b =
    (List.range 8).foldl (fun c _ => crcMsbBit c) ((c &&& 0xFFFF#32) ^^^ BitVec.ofNat 32 (b * 256)) := by
  rw [crcMsbByte, crcMsbSteps_eq_iterate, List.foldl_const, List.length_range]

/-- The width code counts bytes in powers of 2. -/
theorem crcStep_bytes (width : Fin 3) : (if width.val = 0 then 1 else if width.val = 1 then 2 else 4) = 2 ^ width.val := by
  fin_cases width <;> rfl

theorem crcStep_reflected (x y : Word) (poly : Nat) (width : Fin 3) (h : poly ≠ 3) :
    crcStep x y poly width = (List.range (8 * 2 ^ width.val)).foldl (fun c _ => crcBit (crcPoly poly) c)
      (x ^^^ BitVec.ofNat 32 (y.toNat % 2 ^ (8 * 2 ^ width.val))) := by
  simp only [crcStep, beq_iff_eq, crcStep_bytes, if_neg h, crcSteps_eq_iterate, List.foldl_const, List.length_range]

theorem reverse_range_eq_map (n : Nat) : (List.range n).reverse = (List.range n).map (fun k => n - 1 - k) := by
  simpa [List.range_eq_range'] using List.reverse_range' (s := 0) (n := n)

/-- Polynomial 0x1021 takes the bytes of its data from the most significant down. -/
theorem crcStep_msbFirst (x y : Word) (width : Fin 3) :
    crcStep x y 3 width =
      (List.range (2 ^ width.val)).foldl (fun c k => crcMsbByte c (y.toNat / 256 ^ (2 ^ width.val - 1 - k) % 256)) x := by
  simp only [crcStep, beq_iff_eq, crcStep_bytes, if_true, reverse_range_eq_map, List.foldl_map, bits, pow_mul]
  rfl

end Sys2Proof.Machine
end

section
/-! SUPPORT. Conditions and jumps (R263, R274). -/

namespace Sys2Proof.Machine

theorem Regs.cond_eq (g : Regs) (code : Fin 16) :
    g.cond code =
      (let base := [g.z, g.n, g.c, g.v, g.c && !g.z, g.n != g.v, g.z || (g.n != g.v), g.t].getD (code.val % 8) false
       if code.val < 8 then base else !base) := by
  fin_cases code <;> rfl

/-- A target that a control transfer reaches: a multiple of 4 inside IRAM. -/
def InIram (target : Int) : Prop := 0 ≤ target ∧ target ≤ 0xFFFC ∧ target % 4 = 0

theorem Dev.jump_of_inIram (p : Nat) {target : Int} (g : Regs → Regs) (d : Dev) (ht : InIram target) :
    d.jump_ p target g = d.setRegs p (fun r => { g r with pc := target.toNat }) := by
  obtain ⟨hlow, hhigh, haligned⟩ := ht
  simp [Dev.jump_, haligned, not_lt.mpr hlow, not_lt.mpr hhigh]

section Running

variable {s : State} {p : Nat} {e : Dev → Dev} (h : s.dev.executes p = true)
include h

/-- An instruction whose effect is new registers with the pc inside IRAM: the next state whole. -/
theorem State.run_issue_setRegs {g : Regs} (he : e s.dev = s.dev.setRegs p (fun _ => g)) (hpc : g.pc < 0x10000) :
    s.run (Dev.issue p e) = .next (s.withRegs p g) := by
  obtain ⟨hlen, -⟩ := Dev.executes_cases _ p h
  have hissue : s.dev.issue p e = e s.dev := Dev.issue_eq _ _ _ h (by
    simp only [he, Dev.setRegs, Dev.pe_setPe_same _ _ _ hlen]
    omega)
  rw [State.run_eq _ _ (by rw [hissue, he]; rfl), hissue, he]
  rfl

theorem State.run_jump {target : Int} {g : Regs → Regs} (he : e s.dev = s.dev.jump_ p target g) (ht : InIram target) :
    s.run (Dev.issue p e) = .next (s.withRegs p { g (s.regs p) with pc := target.toNat }) := by
  have hpc : target.toNat < 0x10000 := by
    obtain ⟨hlow, hhigh, -⟩ := ht
    omega
  exact State.run_issue_setRegs h (by rw [he, Dev.jump_of_inIram p g _ ht, Dev.setRegs_const]; rfl) hpc

theorem State.run_jumpAndLink {rd : Nat} {target : Int} {link : Word}
    (he : e s.dev = s.dev.jump_ p target (fun g => g.set rd link)) (ht : InIram target) :
    s.run (Dev.issue p e) = .next (s.withRegs p { ((s.regs p).result rd link) with pc := target.toNat }) := by
  rw [State.run_jump h he ht, ← Regs.set_step]
  rfl

end Running

end Sys2Proof.Machine
end

section
/-! The obligations of the engine instructions (10). -/

namespace Sys2Proof.EngineInstructions

open Sys2Proof.Machine

/-- Settles O1: each instruction is one of the forms, with its result as the spec's number or bits. -/
theorem aluAndBitOperations : Obligations.AluAndBitOperations := by
  refine ⟨?_, ?_, ?_, ?_, ?_, ?_⟩
  · intro s pe rd rs1 rs2 imm h
    exact ⟨State.run_addC h rd _ _ _, State.run_addC h rd _ _ _, State.run_addC h rd _ _ _⟩
  · intro s pe rd rs1 rs2 imm h
    have hnot (b : Bool) : b2n (!b) = if b then 0 else 1 := by cases b <;> rfl
    exact ⟨State.run_subB h rd _ _ rfl, State.run_subB h rd _ _ (hnot _), State.run_subB h 0 _ _ rfl, State.run_subB h 0 _ _ rfl⟩
  · intro s pe rd rs1 rs2 imm h
    have hcount : ((s.regs pe).get rs2).toNat % 32 < 32 := Nat.mod_lt _ (by decide)
    exact ⟨State.run_opNZ h rd rfl, State.run_opNZ h rd rfl, State.run_opNZ h rd rfl, State.run_opNZ h rd rfl,
      State.run_opNZ h 0 rfl, State.run_opNZ h rd rfl, State.run_opNZ h rd rfl, State.run_opNZ h rd rfl,
      State.run_opNZ h rd (sllW_eq _ _), State.run_opNZ h rd (srlW_eq _ _), State.run_opNZ h rd (sraW_eq _ _),
      State.run_opNZ h rd (rorW_eq _ _ hcount)⟩
  · intro s pe rd rs1 rs2 h
    exact ⟨State.run_opNZ h rd (mul_eq_ofNat _ _), State.run_opNZ h rd rfl, State.run_opNZ h rd rfl,
      State.run_opNZ h rd (minS_eq _ _), State.run_opNZ h rd (maxS_eq _ _), State.run_opNZ h rd (minU_eq _ _),
      State.run_opNZ h rd (maxU_eq _ _)⟩
  · intro s pe rd rs1 rs2 a b h
    refine ⟨fun hab => ?_, fun hab => ?_⟩
    · exact ⟨⟨_, State.run_bitField h rd hab rfl, bfx_getLsbD _ a b⟩,
        ⟨_, State.run_bitField h rd hab rfl, fun i hi => bfxs_getLsbD _ a b i hab hi⟩,
        ⟨_, State.run_bitField h rd hab rfl, bfi_getLsbD _ _ a b⟩⟩
    · exact ⟨congrArg s.run (Dev.bitField_of_lt pe a b _ hab), congrArg s.run (Dev.bitField_of_lt pe a b _ hab),
        congrArg s.run (Dev.bitField_of_lt pe a b _ hab)⟩
  · intro s pe rd rs1 a imm h
    obtain ⟨k, hclz, hbounds⟩ := clz_bounds ((s.regs pe).get rs1)
    exact ⟨State.run_opPlain h rd (uimm_shiftLeft_eq imm), State.run_opNZ h rd (sllW_eq _ _), State.run_opNZ h rd (srlW_eq _ _),
      State.run_opNZ h rd (sraW_eq _ _), State.run_opNZ h rd (rorW_eq _ _ a.isLt), ⟨k, State.run_opNZ h rd hclz, hbounds⟩,
      State.run_opNZ h rd (popc_eq _), ⟨_, State.run_opNZ h rd rfl, rev_getLsbD _⟩, ⟨_, State.run_opNZ h rd rfl, brev_getLsbD _⟩⟩

/-- Settles O2: both kinds of polynomial as folds, and the check values by evaluation. -/
theorem crcSteps : Obligations.CrcSteps := by
  refine ⟨fun s pe rd rs1 rs2 poly width h => ⟨fun hpoly => ?_, fun hpoly => ?_⟩, by decide +kernel, by decide +kernel⟩
  · refine State.run_opPlain h rd ((crcStep_reflected _ _ poly width (by omega)).trans ?_)
    simp only [crcBit, crcPoly, beq_iff_eq]
  · refine State.run_opPlain h rd ?_
    rw [hpoly, crcStep_msbFirst, Nat.mul_div_cancel_left _ (by decide)]
    simp only [crcMsbByte_eq_foldl]
    rfl

/-- Settles O3: a branch by its condition, and every transfer to a target inside IRAM by the jump it makes. -/
theorem controlTransfers : Obligations.ControlTransfers := by
  intro s pe rd rs1 cond rel imm h g base holds target indirect link inIram
  have hcond : g.cond cond = holds := Regs.cond_eq g cond
  obtain ⟨-, -, -, hpc, -⟩ := Dev.executes_cases _ _ h
  refine ⟨fun hfails => ?_, fun hholds htarget => ?_, fun htarget => ?_, fun htarget => ?_⟩
  · refine State.run_issue_setRegs h ?_ hpc
    exact (if_neg (Bool.eq_false_iff.mp (hcond.trans hfails))).trans (Dev.setRegs_const ..)
  · refine State.run_jump h (g := id) ?_ htarget
    exact if_pos (hcond.trans hholds)
  · exact State.run_jumpAndLink h (by rfl) htarget
  · exact State.run_jumpAndLink h (by rfl) htarget

end Sys2Proof.EngineInstructions
end

section
/-! SUPPORT. The TAP: what each of its rows makes of it, and that no other row touches it. -/

namespace Sys2Proof.Machine

/-- The rows that act on the TAP: its instructions, Test-Logic-Reset, and what resets or powers it (R52, R564). -/
def actsOnTap : Instr → Bool
  | .extest .. | .samplePreload .. | .idcode | .clamp | .highz | .bypass | .dbgChal | .dbgResp _ | .dbgState | .dbgAddr _ | .dbgData
  | .dbgIstat | .dbgFlog | .dbgXstat | .testLogicReset _ | .porstAssert _ | .vddAonPowerOn .. | .lossOfPower => true
  | _ => false

/-- The TAP of the state that an outcome gives, `u` where it gives none. -/
def tapOf (u : Tap) : Host.Outcome State Fault Refusal → Tap
  | .next t => t.tap
  | _ => u

theorem tapOf_exec (c : Instr) (s : State) (h : actsOnTap c = false) : tapOf s.tap (exec c s) = s.tap := by
  cases c
  case extest | samplePreload | idcode | clamp | highz | bypass | dbgChal | dbgResp | dbgState | dbgAddr | dbgData
      | dbgIstat | dbgFlog | dbgXstat | testLogicReset | porstAssert | vddAonPowerOn | lossOfPower => cases h
  case registerWrite t => cases t <;> rfl
  all_goals rfl

theorem exec_tap {c : Instr} {s t : State} (h : exec c s = .next t) (hc : actsOnTap c = false) : t.tap = s.tap := by
  have := tapOf_exec c s hc
  rwa [h] at this

/-! ## The well-formed TAP -/

/-- The lengths of a data register that an instruction may have captured. -/
def drFits (ir n : Nat) : Bool :=
  match ir with
  | 0x02 => n == 0 || n == 4
  | 0x00 => n == 38 || n == 1
  | _ => some n == tapBytes ir

theorem Tap.wf_iff (t : Tap) :
    t.wf = true ↔ t.boundary.length = 300 ∧ t.dbgAddr < 2 ^ 40 ∧ t.dbgAddr % 4 = 0 ∧ drFits t.ir t.dr.length = true := by
  simp only [Tap.wf, drFits, Bool.and_eq_true, beq_iff_eq, decide_eq_true_eq, and_assoc] <;> rfl

theorem Tap.wf_select {t : Tap} {ir : Nat} {dr : List Byte} (h : t.wf = true) (hdr : drFits ir dr.length = true) :
    (t.select ir dr).wf = true := by
  obtain ⟨hcells, haddr, hword, -⟩ := t.wf_iff.mp h
  exact (Tap.wf_iff _).mpr ⟨hcells, haddr, hword, hdr⟩

theorem Tap.wf_load {t : Tap} (h : t.wf = true) (cells : List Bool) : (t.load cells).wf = true := by
  obtain ⟨-, haddr, hword, hdr⟩ := t.wf_iff.mp h
  refine (Tap.wf_iff _).mpr ⟨?_, haddr, hword, hdr⟩
  rw [Tap.load, List.length_take, List.length_append, List.length_replicate]
  omega

theorem Tap.wf_setAddr {t : Tap} (h : t.wf = true) {a : Nat} (ha : a < 2 ^ 40) (hword : a % 4 = 0) :
    ({ t with dbgAddr := a } : Tap).wf = true := by
  obtain ⟨hcells, -, -, hdr⟩ := t.wf_iff.mp h
  exact (Tap.wf_iff _).mpr ⟨hcells, ha, hword, hdr⟩

theorem Tap.wf_setFlog {t : Tap} (h : t.wf = true) (n : Nat) : ({ t with flogIndex := n } : Tap).wf = true := by
  obtain ⟨hcells, haddr, hword, hdr⟩ := t.wf_iff.mp h
  exact (Tap.wf_iff _).mpr ⟨hcells, haddr, hword, hdr⟩

theorem Tap.wf_reset {t : Tap} (h : t.wf = true) : t.reset.wf = true := Tap.wf_setFlog (Tap.wf_select h rfl) 0

theorem Tap.wf_initial : ({} : Tap).wf = true := by decide +kernel

@[simp] theorem cellBytes_length (cells : List Bool) : (cellBytes cells).length = 38 := leb_length _ _

@[simp] theorem ones_length (n : Nat) : (ones n).length = n := List.length_replicate

/-! ## What the rows of the TAP select -/

/-- The effect of a TAP row keeps a TAP well formed. -/
def KeepsTap (f : Tap → Dev → Tap × Dev) : Prop := ∀ t d, t.wf = true → (f t d).1.wf = true

theorem keepsTap_tapRun {f : Tap → Dev → Tap × Dev} (h : KeepsTap f) : KeepsTap (tapRun f) := by
  intro t d ht
  unfold tapRun
  split
  · exact ht
  · exact h t _ ht

theorem keepsTap_tapFixed {ir : Nat} {dr : List Byte} (h : drFits ir dr.length = true) : KeepsTap (tapFixed ir dr) :=
  fun _ _ ht => Tap.wf_select ht h

theorem keepsTap_samplePreload (pins cells : List Bool) : KeepsTap (samplePreload pins cells) :=
  fun _ _ ht => Tap.wf_load (Tap.wf_select ht (by rw [cellBytes_length]; rfl)) cells

theorem keepsTap_extest (pins cells : List Bool) : KeepsTap (extest pins cells) := by
  intro t d ht
  unfold extest
  split
  · exact Tap.wf_load (Tap.wf_select ht (by rw [cellBytes_length]; rfl)) cells
  · exact Tap.wf_select ht rfl

theorem keepsTap_dbgChal : KeepsTap dbgChal := by
  intro t d ht
  unfold dbgChal
  split
  · exact Tap.wf_select ht (by simp [drFits, tapBytes])
  · exact Tap.wf_select ht (by simp [Dev.openBytes, drFits, tapBytes])

theorem keepsTap_dbgResp (sig : List Byte) : KeepsTap (dbgResp sig) := by
  intro t d ht
  unfold dbgResp
  refine Tap.wf_select ht ?_
  split <;> simp [Dev.openBytes, drFits, tapBytes]

theorem keepsTap_dbgState : KeepsTap (fun t d => (t.select 0x42 (leb 1 (b2n d.sec.unlocked)), d)) :=
  fun _ _ ht => Tap.wf_select ht (by rw [leb_length]; rfl)

theorem keepsTap_dbgAddr (v : BitVec 40) : KeepsTap (dbgAddr v) := by
  intro t d ht
  refine Tap.wf_setAddr (Tap.wf_select ht ?_) ?_ (Nat.mul_mod_left _ _)
  · split <;> simp [drFits, tapBytes]
  · omega

/-- A debug read captures the length of its register. -/
theorem keepsTap_dbgRead {ir n : Nat} (h : drFits ir n = true) (f : Dev → Nat → Nat → List Byte × Dev) :
    KeepsTap (dbgRead ir n f) := by
  intro t d ht
  unfold dbgRead
  split
  · exact Tap.wf_select ht (by rwa [ones_length])
  · exact Tap.wf_select ht (by simpa using h)

theorem keepsTap_dbgData : KeepsTap dbgData := by
  intro t d ht
  obtain ⟨-, haddr, hword, -⟩ := t.wf_iff.mp ht
  have hread := keepsTap_dbgRead (ir := 0x44) (n := 4) rfl Dev.dbgWord t d ht
  unfold dbgData
  split
  · exact Tap.wf_setAddr hread (by omega) (by omega)
  · exact hread

theorem keepsTap_dbgFlog : KeepsTap dbgFlog := by
  intro t d ht
  unfold dbgFlog
  split
  · exact Tap.wf_setFlog (keepsTap_dbgRead rfl _ t d ht) _
  · exact keepsTap_dbgRead rfl _ t d ht

theorem keepsTap_testLogicReset (low : Bool) : KeepsTap (testLogicReset low) := by
  intro t d ht
  unfold testLogicReset
  split
  · exact ht
  · exact Tap.wf_reset ht

theorem keepsTap_vddAonPowerOn (boot host : Nat) (porstHigh : Bool) :
    KeepsTap (fun t d => (if d.start.phase == .aonOff then {} else t, d.vddAonOn boot host porstHigh)) := by
  intro t d ht
  dsimp only
  split
  · exact Tap.wf_initial
  · exact ht

theorem keepsTap_porst : KeepsTap (fun t d => (if d.start.phase == .aonOff then t else t.reset, d.porstAssert)) := by
  intro t d ht
  dsimp only
  split
  · exact ht
  · exact Tap.wf_reset ht

theorem keepsTap_lossOfPower : KeepsTap (fun _ d => ({}, d.powerLost)) := fun _ _ _ => Tap.wf_initial

theorem KeepsTap.tapOf {f : Tap → Dev → Tap × Dev} (h : KeepsTap f) {s : State} (hs : s.tap.wf = true) :
    (tapOf s.tap (s.runTap f)).wf = true := h s.tap s.dev hs

theorem tapOf_porstAssert_wf (ns : Nat) {s : State} (hs : s.tap.wf = true) : (tapOf s.tap (execPorstAssert ns s)).wf = true := by
  unfold execPorstAssert
  split
  · exact hs
  · split
    · exact hs
    · exact keepsTap_porst.tapOf hs

/-- Every command keeps the TAP well formed. -/
theorem tapOf_exec_wf (c : Instr) {s : State} (hs : s.tap.wf = true) : (tapOf s.tap (exec c s)).wf = true := by
  by_cases hc : actsOnTap c = false
  · rwa [tapOf_exec c s hc]
  · cases c
    case extest pins cells => exact (keepsTap_tapRun (keepsTap_extest pins cells)).tapOf hs
    case samplePreload pins cells => exact (keepsTap_tapRun (keepsTap_samplePreload pins cells)).tapOf hs
    case idcode => exact (keepsTap_tapRun (keepsTap_tapFixed (by rw [leb_length]; rfl))).tapOf hs
    case clamp => exact (keepsTap_tapRun (keepsTap_tapFixed rfl)).tapOf hs
    case highz => exact (keepsTap_tapRun (keepsTap_tapFixed rfl)).tapOf hs
    case bypass => exact (keepsTap_tapRun (keepsTap_tapFixed rfl)).tapOf hs
    case dbgChal => exact (keepsTap_tapRun keepsTap_dbgChal).tapOf hs
    case dbgResp sig => exact (keepsTap_tapRun (keepsTap_dbgResp sig)).tapOf hs
    case dbgState => exact (keepsTap_tapRun keepsTap_dbgState).tapOf hs
    case dbgAddr v => exact (keepsTap_tapRun (keepsTap_dbgAddr v)).tapOf hs
    case dbgData => exact (keepsTap_tapRun keepsTap_dbgData).tapOf hs
    case dbgIstat => exact (keepsTap_tapRun (keepsTap_dbgRead rfl _)).tapOf hs
    case dbgFlog => exact (keepsTap_tapRun keepsTap_dbgFlog).tapOf hs
    case dbgXstat => exact (keepsTap_tapRun (keepsTap_dbgRead rfl _)).tapOf hs
    case testLogicReset low => exact (keepsTap_testLogicReset low).tapOf hs
    case porstAssert ns => exact tapOf_porstAssert_wf ns hs
    case vddAonPowerOn boot host high => exact (keepsTap_vddAonPowerOn boot host high).tapOf hs
    case lossOfPower => exact keepsTap_lossOfPower.tapOf hs
    all_goals exact absurd rfl hc

end Sys2Proof.Machine
end

section
/-! The obligations of the TAP and of the machine as a whole (21, 22). -/

namespace Sys2Proof.WholeMachine

open Sys2Proof.Machine

/-- Settles O57: no other row touches the TAP, and each of its own keeps it well formed. -/
theorem tapStaysWellFormed : Obligations.TapStaysWellFormed := by
  intro s t hs h
  unfold step at h
  split at h
  · next c rest _ =>
    have := tapOf_exec_wf c (s := { s with pending := rest }) hs
    rwa [h] at this
  · cases h
    unfold State.idle
    split <;> exact hs

/-- Settles O58: whatever a row does to the key slots, the burn of one-time memory keeps a bit. -/
theorem revokedStaysRevoked : Obligations.RevokedStaysRevoked := by
  intro s t k h hk
  unfold step at h
  split at h
  · next c rest _ =>
    obtain ⟨f, hf⟩ | ⟨f, hf⟩ | ⟨ns, -, ⟨-, hf⟩ | ⟨-, -, hf⟩⟩ := exec_cases c { s with pending := rest } <;> rw [hf] at h <;> cases h
    · exact orBits_mono _ _ k hk
    · exact orBits_mono _ _ k hk
    · exact hk
  · cases h
    unfold State.idle
    split <;> exact hk

/-- Settles O54. -/
theorem stepRunsTheFrontCommand : Obligations.StepRunsTheFrontCommand := by
  intro s c rest h
  simp only [step, h]

/-- Settles O55: every row but a forbidden PORST# width runs an effect. -/
theorem commandsComplete : Obligations.CommandsComplete := by
  intro s c
  refine ⟨fun hwidth => ?_, fun ns hlow hhigh => ?_, fun hempty => ?_⟩
  · obtain ⟨f, hf⟩ | ⟨f, hf⟩ | ⟨ns, hns, ⟨-, hf⟩ | ⟨hlow, hhigh, -⟩⟩ := exec_cases c s
    · exact ⟨_, hf, rfl⟩
    · exact ⟨_, hf, rfl⟩
    · exact ⟨_, hf, rfl⟩
    · have := hwidth ns hns
      omega
  · simp only [exec, execPorstAssert, if_neg (not_lt.mpr hlow), if_pos hhigh]
  · simp only [step, hempty, State.idle, beq_iff_eq]

/-- Settles O56, by evaluation of the one state. -/
theorem resetState : Obligations.ResetState := by
  unfold Obligations.ResetState
  decide +kernel

end Sys2Proof.WholeMachine
end

section
/-! SUPPORT. What the TAP's instructions capture while the TAP has its supply and is out of its reset. -/

namespace Sys2Proof.Machine

/-- The TAP takes instructions: it has its supply, PORST# is high, and neither TRST# nor HIBERNATE holds it. -/
structure Dev.TapTakes (d : Dev) : Prop where
  on : d.tapOn = true
  runs : (d.island 0x0F).st = 2
  trst : d.start.trstLow = false
  supplied : d.start.phase = .hibernate → d.pwr.pwrEn = true

theorem Dev.tapLevel_eq {d : Dev} (h : d.TapTakes) : d.tapLevel = d := by
  simp [Dev.tapLevel, h.on, h.runs, h.trst]

theorem tapRun_eq {f : Tap → Dev → Tap × Dev} {d : Dev} (h : d.TapTakes) (t : Tap) : tapRun f t d = f t d := by
  have hfix : ({ d with start := { d.start with trstLow := false } } : Dev) = d := by rw [← h.trst]
  have hpower : (d.start.phase == .hibernate && !d.pwr.pwrEn) = false := by
    by_cases hp : d.start.phase = .hibernate
    · simp [h.supplied hp]
    · simp [hp]
  rw [tapRun, hfix, Dev.tapLevel_eq h, h.on, hpower]
  rfl

/-- A TAP row whose effect leaves the part as it is. -/
theorem State.runTap_tapRun {s : State} {f : Tap → Dev → Tap × Dev} (h : s.dev.TapTakes) {u : Tap} (hf : f s.tap s.dev = (u, s.dev)) :
    s.runTap (tapRun f) = .next { s with tap := u, dev := s.dev.burn s.dev } := by
  simp only [State.runTap, tapRun_eq h, hf]

@[simp] theorem Dev.tapLevel_start (d : Dev) : d.tapLevel.start = d.start := by
  unfold Dev.tapLevel
  dsimp only
  split
  · rfl
  · split
    · split <;> rfl
    · rfl

theorem take_append_zeros {n : Nat} {b : List Byte} (h : b.length = n) : (b ++ zeros n).take n = b := by
  rw [← h, List.take_left]

theorem dbgRead_locked {d : Dev} (h : d.sec.unlocked = false) (ir n : Nat) (f : Dev → Nat → Nat → List Byte × Dev) (t : Tap) :
    dbgRead ir n f t d = (t.select ir (ones n), d) := by
  simp [dbgRead, h]

theorem dbgRead_open {d : Dev} (h : d.sec.unlocked = true) (hreach : d.dbgReach = true) (ir n : Nat)
    (f : Dev → Nat → Nat → List Byte × Dev) (t : Tap) :
    dbgRead ir n f t d = (t.select ir (((f d (t.dbgAddr / 2 ^ 32) (t.dbgAddr % 2 ^ 32)).1 ++ zeros n).take n),
      (f d (t.dbgAddr / 2 ^ 32) (t.dbgAddr % 2 ^ 32)).2) := by
  simp [dbgRead, h, hreach]

theorem dbgData_open {d : Dev} (h : d.sec.unlocked = true) (hreach : d.dbgReach = true) {t : Tap} {i a : Nat} {b : List Byte}
    (haddr : t.dbgAddr = i * 2 ^ 32 + a) (ha : a + 4 < 2 ^ 32) (hword : d.dbgWord i a = (b, d)) (hb : b.length = 4) :
    dbgData t d = ({ t with ir := 0x44, dr := b, dbgAddr := i * 2 ^ 32 + (a + 4) }, d) := by
  have hisland : t.dbgAddr / 2 ^ 32 = i := by omega
  have hoffset : t.dbgAddr % 2 ^ 32 = a := by omega
  have hnext : (t.dbgAddr + 4) % 2 ^ 32 = a + 4 := by omega
  simp only [dbgData, dbgRead_open h hreach, h, if_true, hisland, hoffset, hnext, hword, take_append_zeros hb]
  rfl

theorem dbgData_locked {d : Dev} (h : d.sec.unlocked = false) (t : Tap) : dbgData t d = (t.select 0x44 (ones 4), d) := by
  simp [dbgData, dbgRead_locked h, h]

theorem dbgFlog_locked {d : Dev} (h : d.sec.unlocked = false) (t : Tap) : dbgFlog t d = (t.select 0x46 (ones 32), d) := by
  simp [dbgFlog, dbgRead_locked h, h]

theorem dbgFlog_record {d : Dev} (h : d.sec.unlocked = true) (hreach : d.dbgReach = true) {t : Tap} {r : FaultRec}
    (hr : d.svc.log[t.flogIndex]? = some r) :
    dbgFlog t d = ({ t with ir := 0x46, dr := (r.bytes ++ zeros 32).take 32, flogIndex := t.flogIndex + 1 }, d) := by
  obtain ⟨hlt, -⟩ := List.getElem?_eq_some_iff.mp hr
  simp only [dbgFlog, dbgRead_open h hreach, h, hr, decide_eq_true hlt, Bool.and_self, if_true]
  rfl

theorem dbgFlog_end {d : Dev} (h : d.sec.unlocked = true) (hreach : d.dbgReach = true) {t : Tap}
    (hend : d.svc.log.length ≤ t.flogIndex) :
    dbgFlog t d = ({ t with ir := 0x46, dr := (ones 32 ++ zeros 32).take 32 }, d) := by
  simp only [dbgFlog, dbgRead_open h hreach, h, List.getElem?_eq_none hend, decide_eq_false (not_lt.mpr hend), Bool.and_false]
  rfl

theorem Dev.dbgWord_pim {d : Dev} {a : Nat} (ha : a < 0x80000) (hup : d.islandUp 7 = true) :
    d.dbgWord 7 a = (Mem.getBytes 0 d.eng.pim a 4, d) := by
  simp [Dev.dbgWord, ha, hup]

theorem Dev.dbgWord_iram {d : Dev} {p a : Nat} (hp : p < 14) (ha : a < 0x10000) (hup : d.islandUp (0x30 + p) = true) :
    d.dbgWord (0x30 + p) a = (Mem.getBytes 0 (d.pe p).iram a 4, d) := by
  have hrange : (0x30 ≤ 0x30 + p && 0x30 + p ≤ 0x3D && a < 0x18000) = true := by
    simp only [Bool.and_eq_true, decide_eq_true_eq]
    omega
  rw [Dev.dbgWord, if_pos hrange, if_pos ha, hup, Nat.add_sub_cancel_left]
  rfl

@[simp] theorem Dev.islandWords_length (d : Dev) (x : Island) : (d.islandWords x).length = 8 := by simp [Dev.islandWords]

/-- DBG_XSTAT of an island that exists: GEN in bits 23:12, and nothing in bits 11:0. -/
theorem Dev.dbgXstat_word {d : Dev} {i : Nat} (h : d.hasIsland i = true) (a : Nat) :
    ∃ w, d.dbgXstat i a = (leb 4 w, d) ∧ w / 4096 % 4096 = (d.island i).gen % 4096 ∧ w % 4096 = 0 := by
  refine ⟨_, by rw [Dev.dbgXstat, if_pos h], ?_, ?_⟩ <;> omega

theorem Dev.debugResponse_unlocked (d : Dev) (sig : List Byte) (h : d.sec.unlocked = false) :
    (d.debugResponse sig).2.sec.unlocked = (d.debugResponse sig).1 := by
  have hcases (ok early : Bool) {x y : Sec → Sec} (hx : (x d.sec).unlocked = true) (hy : (y d.sec).unlocked = false) :
      (if ok then (true, d.setSec x) else if early then (false, d) else (false, d.setSec y) : Bool × Dev).2.sec.unlocked =
      (if ok then (true, d.setSec x) else if early then (false, d) else (false, d.setSec y) : Bool × Dev).1 := by
    cases ok
    · cases early
      exacts [hy, h]
    · exact hx
  exact hcases _ _ rfl h

/-- DBG_RESP while locked: the lock opens where the response is right (R547). -/
theorem dbgResp_locked {d : Dev} (h : d.sec.unlocked = false) (hreach : d.dbgReach = true) (sig : List Byte) (t : Tap) :
    dbgResp sig t d = (t.select 0x41 (ones 64), (d.debugResponse ((sig ++ zeros 64).take 64)).2) := by
  simp [dbgResp, h, hreach]

/-! ## What a debug read leaves alone -/

/-- Between `d` and `e` nothing but the counter of open values has moved. -/
def OnlyDraws (d e : Dev) : Prop := ∃ n, e = { d with free := n }

theorem OnlyDraws.refl (d : Dev) : OnlyDraws d d := ⟨d.free, rfl⟩

theorem onlyDraws_openBytes (d : Dev) (n : Nat) : OnlyDraws d (d.openBytes n).2 := ⟨_, rfl⟩

theorem onlyDraws_dbgSwc (d : Dev) (a : Nat) : OnlyDraws d (d.dbgSwc a).2 := by
  unfold Dev.dbgSwc
  dsimp only
  split
  · split
    · exact .refl d
    · exact onlyDraws_openBytes d 4
  · exact onlyDraws_openBytes d 4

theorem onlyDraws_dbgWord (d : Dev) (i a : Nat) : OnlyDraws d (d.dbgWord i a).2 := by
  unfold Dev.dbgWord
  have hmem (m : Mem) (o : Nat) : OnlyDraws d (if d.islandUp i then (Mem.getBytes 0 m o 4, d) else d.openBytes 4).2 := by
    split
    exacts [.refl d, onlyDraws_openBytes d 4]
  dsimp only
  split
  · split
    exacts [hmem _ _, hmem _ _]
  · split
    · exact hmem _ _
    · split
      · exact .refl d
      · split
        · split
          exacts [.refl d, onlyDraws_openBytes d 4]
        · split
          · exact onlyDraws_dbgSwc d a
          · split
            · exact ⟨_, rfl⟩
            · exact .refl d

theorem onlyDraws_dbgIstat (d : Dev) (i a : Nat) : OnlyDraws d (d.dbgIstat i a).2 := by
  unfold Dev.dbgIstat
  split
  · dsimp only
    split
    exacts [⟨_, rfl⟩, .refl d]
  · exact .refl d

theorem onlyDraws_dbgXstat (d : Dev) (i a : Nat) : OnlyDraws d (d.dbgXstat i a).2 := by
  unfold Dev.dbgXstat
  split <;> exact .refl d

/-- A row reads: it changes the TAP but for its boundary cells, and draws open values. -/
def ReadsOnly (f : Tap → Dev → Tap × Dev) : Prop := ∀ t d, (f t d).1.boundary = t.boundary ∧ OnlyDraws d (f t d).2

theorem readsOnly_dbgRead (ir n : Nat) {f : Dev → Nat → Nat → List Byte × Dev} (h : ∀ d i a, OnlyDraws d (f d i a).2) :
    ReadsOnly (dbgRead ir n f) := by
  intro t d
  unfold dbgRead
  split
  · exact ⟨rfl, .refl d⟩
  · refine ⟨rfl, ?_⟩
    dsimp only
    split
    exacts [h d _ _, onlyDraws_openBytes d n]

theorem readsOnly_dbgAddr (v : BitVec 40) : ReadsOnly (dbgAddr v) := fun _ d => ⟨rfl, .refl d⟩

theorem readsOnly_dbgData : ReadsOnly dbgData := by
  intro t d
  unfold dbgData
  split <;> exact readsOnly_dbgRead _ _ onlyDraws_dbgWord t d

theorem readsOnly_dbgFlog : ReadsOnly dbgFlog := by
  intro t d
  unfold dbgFlog
  split <;> exact readsOnly_dbgRead _ _ (fun d _ _ => .refl d) t d

theorem ReadsOnly.runTap {f : Tap → Dev → Tap × Dev} (hf : ReadsOnly f) {s : State} (h : s.dev.TapTakes ∨ ∀ t, tapRun f t s.dev = (t, s.dev)) :
    ∃ u n, s.runTap (tapRun f) = .next { s with tap := u, dev := { s.dev with free := n } } ∧ u.boundary = s.tap.boundary := by
  obtain h | h := h
  · obtain ⟨hcells, n, hdev⟩ := hf s.tap s.dev
    refine ⟨(f s.tap s.dev).1, n, ?_, hcells⟩
    rw [State.runTap_eq _ _ (by rw [tapRun_eq h, hdev]), tapRun_eq h, hdev]
  · refine ⟨s.tap, s.dev.free, ?_, rfl⟩
    rw [State.runTap_eq _ _ (by rw [h]), h]

end Sys2Proof.Machine
end

section
/-! The obligations of the TAP's instructions (21, 22). -/

namespace Sys2Proof.TapInstructions

open Sys2Proof.Machine

/-- Settles O59: a debug read draws open values at most; a TAP without its supply reads nothing. -/
theorem debugReadsChangeNothing : Obligations.DebugReadsChangeNothing := by
  intro s c hc htrst hruns hon
  have htakes (f : Tap → Dev → Tap × Dev) : s.dev.TapTakes ∨ ∀ t, tapRun f t s.dev = (t, s.dev) := by
    by_cases hp : s.dev.start.phase = .hibernate → s.dev.pwr.pwrEn = true
    · exact .inl ⟨hon, hruns, htrst, hp⟩
    · obtain ⟨hphase, hen⟩ := Classical.not_imp.mp hp
      exact .inr fun t => by simp [tapRun, hphase, hen]
  obtain rfl | ⟨v, rfl⟩ | rfl | rfl | rfl := hc
  · exact readsOnly_dbgData.runTap (htakes _)
  · exact (readsOnly_dbgAddr v).runTap (htakes _)
  · exact (readsOnly_dbgRead _ _ onlyDraws_dbgIstat).runTap (htakes _)
  · exact readsOnly_dbgFlog.runTap (htakes _)
  · exact (readsOnly_dbgRead _ _ onlyDraws_dbgXstat).runTap (htakes _)

/-- Settles O53: what each instruction captures, public, locked and unlocked. -/
theorem tapInstructions : Obligations.TapInstructions := by
  intro s pins cells v sig d t on open_ tells cells_
  have takes {ph : Phase} (h : on ph) (h1 : ph ≠ .aonOff) (h2 : ph ≠ .porstLow) (h3 : ph ≠ .railBad) : s.dev.TapTakes := by
    obtain ⟨hphase, hruns, htrst, hpower⟩ := h
    refine ⟨?_, hruns, htrst, fun hp => hpower (hphase.symm.trans hp)⟩
    simp [Dev.tapOn, show s.dev.start.phase = ph from hphase, h1, h2, h3]
  refine ⟨fun ph hph h1 h2 h3 => ?_, fun hready hrun hlocked => ?_, fun ⟨hready, hopen, hrun⟩ => ?_, fun hphase low => ?_⟩
  · have h := takes hph h1 h2 h3
    refine ⟨State.runTap_tapRun h rfl, State.runTap_tapRun h rfl, State.runTap_tapRun h rfl, State.runTap_tapRun h rfl,
      State.runTap_tapRun h rfl, fun hhold => ?_, fun hhold => ?_, State.runTap_tapRun h rfl, fun c x hc => ?_,
      State.runTap_tapRun h rfl, fun hlocked => ?_⟩
    · exact State.runTap_tapRun h (by simp [extest, show s.dev.start.phase = .hold from hph.1.trans hhold]; rfl)
    · exact State.runTap_tapRun h (by simp [extest, show s.dev.start.phase = ph from hph.1, hhold]; rfl)
    · exact State.runTap_tapRun h (by simp [dbgChal, show s.dev.sec.challenge = some (c, x) from hc]; rfl)
    · exact ⟨State.runTap_tapRun h (dbgData_locked hlocked _), State.runTap_tapRun h (dbgRead_locked hlocked _ _ _ _),
        State.runTap_tapRun h (dbgFlog_locked hlocked _), State.runTap_tapRun h (dbgRead_locked hlocked _ _ _ _)⟩
  · have h := takes hready (by decide) (by decide) (by decide)
    have hreach : s.dev.dbgReach = true := by
      simp [Dev.dbgReach, show s.dev.start.phase = .ready from hready.1, show s.dev.cmp.restarting = false from hrun]
    have hresp := (tapRun_eq h s.tap).trans (dbgResp_locked hlocked hreach sig s.tap)
    refine ⟨_, rfl, congrArg Prod.fst hresp, ?_⟩
    exact (congrArg (fun r => r.2.sec.unlocked) hresp).trans (Dev.debugResponse_unlocked _ _ hlocked)
  · have h := takes hready (by decide) (by decide) (by decide)
    have hreach : s.dev.dbgReach = true := by
      simp [Dev.dbgReach, show s.dev.start.phase = .ready from hready.1, show s.dev.cmp.restarting = false from hrun]
    refine ⟨fun a ha haddr hup => ?_, fun p a hp ha haddr hup => ?_, fun i hi hhas hne => ?_, fun r hr => ?_, fun hend => ?_⟩
    · exact State.runTap_tapRun h (dbgData_open (i := 7) hopen hreach haddr (by omega) (Dev.dbgWord_pim ha hup) (Mem.getBytes_length ..))
    · exact State.runTap_tapRun h (dbgData_open hopen hreach haddr (by omega) (Dev.dbgWord_iram hp ha hup) (Mem.getBytes_length ..))
    · have hread : s.dev.dbgIstat i (s.tap.dbgAddr % 2 ^ 32) = (s.dev.islandWords (s.dev.island i), s.dev) := by
        simp [Dev.dbgIstat, show s.dev.hasIsland i = true from hhas, hne]
      refine ⟨State.runTap_tapRun h ((dbgRead_open hopen hreach ..).trans ?_), ?_⟩
      · rw [← hi, hread]
        rfl
      · obtain ⟨w, hxstat, hgen, hrest⟩ := Dev.dbgXstat_word (d := s.dev) hhas (s.tap.dbgAddr % 2 ^ 32)
        refine ⟨_, w, State.runTap_tapRun h ((dbgRead_open hopen hreach ..).trans ?_), rfl, hgen, hrest⟩
        rw [← hi, hxstat, take_append_zeros (leb_length 4 w)]
        rfl
    · exact State.runTap_tapRun h (dbgFlog_record hopen hreach hr)
    · exact State.runTap_tapRun h (dbgFlog_end hopen hreach hend)
  · have hreset : testLogicReset low s.tap s.dev =
        (s.tap.reset, ({ s.dev with start := { s.dev.start with trstLow := low } } : Dev).tapLevel) := by
      simp [testLogicReset, show s.dev.start.phase ≠ .aonOff from hphase]
    refine ⟨_, rfl, congrArg Prod.fst hreset, (congrArg (fun r => r.2.start.trstLow) hreset).trans ?_⟩
    simp only [Dev.tapLevel_start]

end Sys2Proof.TapInstructions
end

section
/-! SUPPORT. What rows of one part leave alone, as a view of the part with everything else blanked: an operation that keeps the view
leaves alone all that the view still shows. -/

namespace Sys2Proof.Machine

/-! ## The rows of the Orrery, of power and of the debug lock -/

/-- The part without its time, its power state, its keys and what leaves to the host. -/
def Dev.settled (d : Dev) : Dev :=
  { d with tick := 0, free := 0, toggles := [], cmp := {}, start := {}, verind := {}, sec := {}, orr := {}, pwr := {},
           hst := { mem := d.hst.mem, rings := d.hst.rings, windows := d.hst.windows } }

@[simp] theorem Dev.settled_burn (old d : Dev) : (old.burn d).settled = d.settled := rfl
@[simp] theorem Dev.settled_advanceTo (d : Dev) (t : Nat) : (d.advanceTo t).settled = d.settled := rfl
@[simp] theorem Dev.settled_setOrr (d : Dev) (f : Orr → Orr) : (d.setOrr f).settled = d.settled := rfl
@[simp] theorem Dev.settled_setPwr (d : Dev) (f : Pwr → Pwr) : (d.setPwr f).settled = d.settled := rfl
@[simp] theorem Dev.settled_setSec (d : Dev) (f : Sec → Sec) : (d.setSec f).settled = d.settled := rfl
@[simp] theorem Dev.settled_setVerind (d : Dev) (f : Verind → Verind) : (d.setVerind f).settled = d.settled := rfl
@[simp] theorem Dev.settled_holdEvent (d : Dev) (e : HeldEvent) : (d.holdEvent e).settled = d.settled := rfl
@[simp] theorem Dev.settled_send (d : Dev) (ch : Option Nat) (dst : Peer) (b : List Byte) : (d.send ch dst b).settled = d.settled := rfl
@[simp] theorem Dev.settled_draw (d : Dev) : d.draw.2.settled = d.settled := rfl

@[simp] theorem Dev.settled_present (d : Dev) (e : Ev) : (d.present e).settled = d.settled := by
  unfold Dev.present
  cases d.verind.eventChannel <;> rfl

@[simp] theorem Dev.settled_pushEvent (d : Dev) (op fid : Nat) (b : List Byte) (rsv : Bool) :
    (d.pushEvent op fid b rsv).settled = d.settled := by
  simp only [Dev.pushEvent, Dev.settled_present, Dev.settled_setVerind]

@[simp] theorem Dev.settled_emit (d : Dev) (op fid : Nat) (b : List Byte) : (d.emit op fid b).settled = d.settled := by
  unfold Dev.emit
  split
  · rfl
  · split
    · rfl
    · exact d.settled_pushEvent ..

@[simp] theorem Dev.settled_timeEvent (d : Dev) (k : Nat) : (d.timeEvent k).settled = d.settled := d.settled_emit ..

@[simp] theorem Dev.settled_setQuality (d : Dev) (q : Nat) : (d.setQuality q).settled = d.settled := by
  unfold Dev.setQuality
  split <;> simp

@[simp] theorem Dev.settled_toHoldover (d : Dev) : d.toHoldover.settled = d.settled := by
  unfold Dev.toHoldover
  split <;> simp

@[simp] theorem Dev.settled_enterOcc (d : Dev) : d.enterOcc.settled = d.settled := by
  unfold Dev.enterOcc
  split <;> simp [Dev.endSlew, Dev.acquire3]

theorem Dev.settled_lossExpiry (d : Dev) : d.lossExpiry.settled = d.settled := by
  unfold Dev.lossExpiry
  split
  · rfl
  · split <;> simp [Dev.deselect]

theorem Dev.settled_holdoverStep (d : Dev) : d.holdoverStep.settled = d.settled := by
  unfold Dev.holdoverStep
  dsimp only
  split
  · split <;> simp
  · rfl

theorem Dev.settled_walkStop (d : Dev) : d.walkStop.settled = d.settled := by
  unfold Dev.walkStop
  dsimp only
  split <;> simp

@[simp] theorem Dev.settled_setPulse (d : Dev) (i : Nat) (f : Pulse → Pulse) : (d.setPulse i f).settled = d.settled := rfl

theorem Dev.settled_pulseEdge (d : Dev) (i : Nat) : (d.pulseEdge i).settled = d.settled := by
  unfold Dev.pulseEdge
  dsimp only
  split
  · simp
  · split
    · rfl
    · split
      · split <;> simp
      · simp
      · simp
      · rfl

@[simp] theorem Dev.settled_accountPwr (d : Dev) : d.accountPwr.settled = d.settled := by
  unfold Dev.accountPwr
  dsimp only
  split <;> rfl

@[simp] theorem Dev.settled_pwrTo (d : Dev) (st : Nat) : (d.pwrTo st).settled = d.settled := by simp [Dev.pwrTo]

@[simp] theorem Dev.settled_sendWake (d : Dev) (src left result : Nat) : (d.sendWake src left result).settled = d.settled := by
  unfold Dev.sendWake
  split
  · split <;> simp
  · simp

@[simp] theorem Dev.settled_beginLeave (d : Dev) : d.beginLeave.settled = d.settled := by
  unfold Dev.beginLeave
  split
  · simp
  · split <;> rfl

@[simp] theorem Dev.settled_wakeRails (d : Dev) : d.wakeRails.settled = d.settled := by
  unfold Dev.wakeRails
  split <;> rfl

@[simp] theorem Dev.settled_wakeBy (d : Dev) (src : Nat) : (d.wakeBy src).settled = d.settled := by
  unfold Dev.wakeBy
  dsimp only
  split
  · simp
  · split <;> simp

theorem Dev.settled_deadlineExit (d : Dev) : d.deadlineExit.settled = d.settled := by
  unfold Dev.deadlineExit
  dsimp only
  split
  · rfl
  · split
    · rfl
    · split
      · simp
      · split
        · simp
        · split <;> simp

@[simp] theorem Dev.settled_fireAlarm (d : Dev) (result : Nat) : (d.fireAlarm result).settled = d.settled := by
  unfold Dev.fireAlarm
  dsimp only
  split <;> simp

theorem Dev.settled_alarmRow (d : Dev) : d.alarmRow.settled = d.settled := by
  unfold Dev.alarmRow Dev.alarmDue
  split
  · split
    · rfl
    · split
      · rfl
      · split <;> simp
  · rfl

theorem Dev.settled_wakePin (d : Dev) (i : Nat) (high : Bool) (held : Option Nat) : (d.wakePin i high held).settled = d.settled := by
  unfold Dev.wakePin
  simp [apply_ite Dev.settled]

theorem Dev.settled_pwrEnRaise (d : Dev) : d.pwrEnRaise.settled = d.settled := by
  unfold Dev.pwrEnRaise
  split <;> rfl

theorem Dev.settled_railTimeout (d : Dev) : d.railTimeout.settled = d.settled := by
  unfold Dev.railTimeout
  split <;> rfl

theorem Dev.settled_expireChallenge (d : Dev) : d.expireChallenge.settled = d.settled := by
  unfold Dev.expireChallenge
  split <;> rfl

/-! ## The rows of a serial line -/

/-- What a serial line's row cannot change of an engine: its memories. -/
def Pe.memories (e : Pe) : Pe := { iram := e.iram, dram := e.dram }

/-- The part without its time, its island bits, line `n`, and the state of the engines but for their memories. -/
def Dev.besideLine (n : Nat) (d : Dev) : Dev :=
  { d with tick := 0, free := 0, toggles := [], islands := [], sls := upd d.sls n (fun _ => {}),
           eng := { d.eng with pes := d.eng.pes.map Pe.memories } }

/-- An update that a view does not see. -/
theorem map_upd {α β : Type} (g : α → β) (f : α → α) (h : ∀ x, g (f x) = g x) (xs : List α) (i : Nat) :
    (upd xs i f).map g = xs.map g := by
  induction xs generalizing i with
  | nil => rfl
  | cons x xs ih =>
    cases i with
    | zero => simp [upd, h]
    | succ i => simp [upd, ih]

variable (n : Nat)

@[simp] theorem Dev.besideLine_advanceTo (d : Dev) (t : Nat) : (d.advanceTo t).besideLine n = d.besideLine n := rfl
@[simp] theorem Dev.besideLine_draw (d : Dev) : d.draw.2.besideLine n = d.besideLine n := rfl
@[simp] theorem Dev.besideLine_setIsland (d : Dev) (i : Nat) (f : Island → Island) : (d.setIsland i f).besideLine n = d.besideLine n := rfl

@[simp] theorem Dev.besideLine_setSl (d : Dev) (f : Sl → Sl) : (d.setSl n f).besideLine n = d.besideLine n := by
  simp [Dev.besideLine, Dev.setSl, upd_upd]

theorem Dev.besideLine_setPe (d : Dev) (p : Nat) (f : Pe → Pe) (h : ∀ e, (f e).memories = e.memories) :
    (d.setPe p f).besideLine n = d.besideLine n := by
  simp [Dev.besideLine, Dev.setPe, map_upd _ _ h]

@[simp] theorem Dev.besideLine_setPorts (d : Dev) (p : Nat) (f : EPorts → EPorts) :
    (d.setPorts p f).besideLine n = d.besideLine n := d.besideLine_setPe n p _ (fun _ => rfl)

@[simp] theorem Dev.besideLine_setTmr (d : Dev) (p i : Nat) (f : Timer → Timer) :
    (d.setTmr p i f).besideLine n = d.besideLine n := d.besideLine_setPorts n p _

theorem Pe.memories_endWait (tick : Nat) (e : Pe) : (e.endWait tick).memories = e.memories := by
  unfold Pe.endWait
  dsimp only
  split
  · rfl
  · rfl
  · split <;> rfl
  · split
    · rfl
    · split <;> rfl

@[simp] theorem Dev.besideLine_setPend (d : Dev) (p b : Nat) : (d.setPend p b).besideLine n = d.besideLine n :=
  d.besideLine_setPe n p _ (fun _ => Pe.memories_endWait _ _)

theorem Dev.besideLine_toggle (d : Dev) (src dst ev : Nat) : (d.toggle src dst ev).2.besideLine n = d.besideLine n := by
  unfold Dev.toggle
  dsimp only
  split
  · rfl
  · split
    · rfl
    · simp only [apply_ite Prod.snd, apply_ite (Dev.besideLine n), Dev.besideLine_setIsland]
      split_ifs <;> rfl

@[simp] theorem Dev.besideLine_raise (d : Dev) (src p b : Nat) : (d.raise src p b).besideLine n = d.besideLine n := by
  unfold Dev.raise
  have htoggle := d.besideLine_toggle n src (peIsland p) b
  dsimp only
  split
  · rfl
  · split
    · simp [htoggle]
    · split <;> simp [htoggle]

@[simp] theorem Dev.besideLine_raiseLe (d : Dev) (src l b : Nat) : (d.raiseLe src l b).besideLine n = d.besideLine n := by
  unfold Dev.raiseLe
  split <;> simp

/-- A loop whose body keeps a view keeps it. -/
theorem forN_keeps {α σ : Type} (v : σ → α) (f : σ → Nat → σ) (h : ∀ s i, v (f s i) = v s) (k : Nat) (s : σ) :
    v (forN k s f) = v s := by
  unfold forN
  induction List.range k generalizing s with
  | nil => rfl
  | cons i is ih => exact (ih (f s i)).trans (h s i)

@[simp] theorem Dev.besideLine_capture (d : Dev) (p src : Nat) : (d.capture p src).besideLine n = d.besideLine n := by
  unfold Dev.capture
  split
  · rfl
  · refine (forN_keeps (Dev.besideLine n) _ (fun d i => ?_) 4 _).trans (Dev.besideLine_setPorts n d.draw.2 p _)
    dsimp only
    split <;> simp

@[simp] theorem Dev.besideLine_unitEvent (d : Dev) (src inst b : Nat) : (d.unitEvent src inst b).besideLine n = d.besideLine n := by
  unfold Dev.unitEvent
  split
  · rfl
  · dsimp only
    split <;> simp

@[simp] theorem Dev.besideLine_slEvent (d : Dev) (b : Nat) : (d.slEvent n b).besideLine n = d.besideLine n := by
  unfold Dev.slEvent
  dsimp only
  split <;> simp

@[simp] theorem Dev.besideLine_slSchedule (d : Dev) : (d.slSchedule n).besideLine n = d.besideLine n := by
  unfold Dev.slSchedule
  dsimp only
  split
  · rfl
  · split <;> simp

@[simp] theorem Dev.besideLine_slBegin (d : Dev) : (d.slBegin n).besideLine n = d.besideLine n := by
  unfold Dev.slBegin
  split <;> simp

@[simp] theorem Dev.besideLine_slTry (d : Dev) : (d.slTry n).besideLine n = d.besideLine n := by
  unfold Dev.slTry
  dsimp only
  split
  · split <;> simp
  · simp

theorem Dev.besideLine_slGapEnds (d : Dev) : (d.slGapEnds n).besideLine n = d.besideLine n := by
  unfold Dev.slGapEnds
  split
  · rfl
  · split <;> simp

theorem Dev.besideLine_slLagEnds (d : Dev) : (d.slLagEnds n).besideLine n = d.besideLine n := by
  unfold Dev.slLagEnds
  split
  · rfl
  · dsimp only
    split <;> simp

@[simp] theorem Dev.besideLine_slIdleRestart (d : Dev) : (d.slIdleRestart n).besideLine n = d.besideLine n := by
  simp [Dev.slIdleRestart]

theorem Dev.besideLine_slSent (d : Dev) : (d.slSent n).besideLine n = d.besideLine n := by
  unfold Dev.slSent
  split
  · rfl
  · simp

@[simp] theorem Dev.besideLine_slStore (d : Dev) (e : SlEnt) : (d.slStore n e).besideLine n = d.besideLine n := by
  unfold Dev.slStore
  dsimp only
  split
  · simp
  · split <;> simp

theorem Dev.besideLine_slReceived (d : Dev) (ch : Nat) (pe fe brk : Bool) (ago : Nat) :
    (d.slReceived n ch pe fe brk ago).besideLine n = d.besideLine n := by
  simp [Dev.slReceived, apply_ite (Dev.besideLine n)]

theorem Dev.besideLine_slHigh (d : Dev) : (d.slHigh n).besideLine n = d.besideLine n := by
  unfold Dev.slHigh
  split <;> simp

theorem Dev.besideLine_slThreshold (d : Dev) : (d.slThreshold n).besideLine n = d.besideLine n := by
  unfold Dev.slThreshold
  dsimp only
  split
  · rfl
  · split
    · rfl
    · simp
    · simp
    · split
      · simp
      · split <;> simp

/-- A view that an effect keeps is the same after the row; `v` blanks the keys, which a row burns. -/
theorem State.run_keeps {α : Type} {v : Dev → α} {s t : State} {f : Dev → Dev} (h : s.run f = .next t)
    (hburn : ∀ d e, v (Dev.burn d e) = v e) (hf : v (f s.dev) = v s.dev) : v t.dev = v s.dev := by
  cases h
  exact (hburn _ _).trans hf

/-- What a row of line `n` leaves alone, with the keys. -/
theorem State.run_besideLine {s t : State} {f : Dev → Dev} (h : unitRow n s f = .next t)
    (hf : (f s.dev).besideLine n = s.dev.besideLine n) : t.dev.besideLine n = s.dev.besideLine n := by
  have hrow : (if 3 < n then s.dev else f s.dev).besideLine n = s.dev.besideLine n := by
    split
    exacts [rfl, hf]
  have hsec : (if 3 < n then s.dev else f s.dev).sec = s.dev.sec := by
    have (d : Dev) : d.sec = (d.besideLine n).sec := rfl
    rw [this, hrow, ← this]
  unfold unitRow at h
  rw [State.run_eq s _ hsec] at h
  cases h
  exact hrow

/-- An engine's memories as the view shows them. -/
theorem Dev.pe_memories_of_besideLine {d e : Dev} (h : e.besideLine n = d.besideLine n) (p : Nat) :
    (e.pe p).iram = (d.pe p).iram ∧ (e.pe p).dram = (d.pe p).dram := by
  have hpes : e.eng.pes.map Pe.memories = d.eng.pes.map Pe.memories := congrArg (fun x => x.eng.pes) h
  have := congrArg (fun xs => xs.getD p (Pe.memories {})) hpes
  simp only [List.getD_map] at this
  have mem {α : Type} (v : Pe → α) : v (e.pe p).memories = v (d.pe p).memories := congrArg v this
  exact ⟨mem (·.iram), mem (·.dram)⟩

theorem Dev.sl_of_besideLine {d e : Dev} (h : e.besideLine n = d.besideLine n) {m : Nat} (hm : m ≠ n) :
    e.sls.getD m {} = d.sls.getD m {} := by
  have hsls : upd e.sls n (fun _ => {}) = upd d.sls n (fun _ => {}) := congrArg Dev.sls h
  rw [← upd_getD_ne e.sls n m (fun _ => {}) {} hm.symm, hsls, upd_getD_ne _ _ _ _ _ hm.symm]

end Sys2Proof.Machine
end

section
/-! The obligation of the rows' frames. -/

namespace Sys2Proof.RowFrames

open Sys2Proof.Machine

/-- Settles O60: each row keeps the view of the part that blanks what it may change. -/
theorem rowFrames : Obligations.RowFrames := by
  intro s t c h
  refine ⟨fun hc => ?_, fun n hc => ?_⟩
  · have htap : actsOnTap c = false := by
      obtain rfl | rfl | ⟨i, rfl⟩ | rfl | rfl | rfl | rfl | ⟨i, high, m, rfl⟩ | rfl | rfl := hc <;> rfl
    have hview : t.dev.settled = s.dev.settled := by
      obtain rfl | rfl | ⟨i, rfl⟩ | rfl | rfl | rfl | rfl | ⟨i, high, m, rfl⟩ | rfl | rfl := hc
      · exact State.run_keeps h Dev.settled_burn (Dev.settled_holdoverStep _)
      · exact State.run_keeps h Dev.settled_burn (Dev.settled_walkStop _)
      · exact State.run_keeps (f := fun d => d.pulseEdge i) h Dev.settled_burn (Dev.settled_pulseEdge _ i)
      · exact State.run_keeps h Dev.settled_burn (Dev.settled_lossExpiry _)
      · exact State.run_keeps h Dev.settled_burn (Dev.settled_expireChallenge _)
      · exact State.run_keeps h Dev.settled_burn (Dev.settled_deadlineExit _)
      · exact State.run_keeps h Dev.settled_burn (Dev.settled_alarmRow _)
      · refine State.run_keeps (f := fun d => if 3 < i then d else d.wakePin i high m) h Dev.settled_burn ?_
        simp only [apply_ite Dev.settled, Dev.settled_wakePin, ite_self]
      · exact State.run_keeps h Dev.settled_burn (Dev.settled_pwrEnRaise _)
      · exact State.run_keeps h Dev.settled_burn (Dev.settled_railTimeout _)
    have view {α : Type} (v : Dev → α) : v t.dev.settled = v s.dev.settled := congrArg v hview
    exact ⟨⟨exec_tap h htap, view (·.alm), view (·.typ), view (·.cfg), view (·.funcs), view (·.quoins), view (·.swc), view (·.macs),
      view (·.frs), view (·.doms), view (·.tts), view (·.mbs), view (·.svc), view (·.hst.mem), view (·.hst.rings),
      view (·.hst.windows)⟩, view (·.eng), view (·.sls), view (·.islands), view (·.crossings)⟩
  · have htap : actsOnTap c = false := by
      obtain ⟨x, p, f, b, a, rfl⟩ | rfl | rfl | rfl | rfl | rfl := hc <;> rfl
    have hview : t.dev.besideLine n = s.dev.besideLine n := by
      obtain ⟨x, p, f, b, a, rfl⟩ | rfl | rfl | rfl | rfl | rfl := hc
      · exact State.run_besideLine n (f := fun d => d.slReceived n x p f b a) h (Dev.besideLine_slReceived n _ x p f b a)
      · exact State.run_besideLine n (f := fun d => d.slSent n) h (Dev.besideLine_slSent n _)
      · exact State.run_besideLine n (f := fun d => d.slLagEnds n) h (Dev.besideLine_slLagEnds n _)
      · exact State.run_besideLine n (f := fun d => d.slThreshold n) h (Dev.besideLine_slThreshold n _)
      · exact State.run_besideLine n (f := fun d => d.slGapEnds n) h (Dev.besideLine_slGapEnds n _)
      · exact State.run_besideLine n (f := fun d => d.slHigh n) h (Dev.besideLine_slHigh n _)
    have view {α : Type} (v : Dev → α) : v (t.dev.besideLine n) = v (s.dev.besideLine n) := congrArg v hview
    exact ⟨⟨exec_tap h htap, view (·.alm), view (·.typ), view (·.cfg), view (·.funcs), view (·.quoins), view (·.swc), view (·.macs),
      view (·.frs), view (·.doms), view (·.tts), view (·.mbs), view (·.svc), view (·.hst.mem), view (·.hst.rings),
      view (·.hst.windows)⟩, view (·.verind), view (·.orr), view (·.pwr), view (·.sec), view (·.eng.pim), view (·.eng.plates),
      view (·.eng.les), fun m hm => Dev.sl_of_besideLine n hview hm, fun p => Dev.pe_memories_of_besideLine n hview p⟩

end Sys2Proof.RowFrames
end

section
/-! SUPPORT. Engine instructions beside their registers: how one is run, its log, and its bytes as numbers. -/

namespace Sys2Proof.Machine

/-! ## Bytes as numbers -/

theorem leVal_lt (bs : List Byte) : leVal bs < 256 ^ bs.length := by
  induction bs with
  | nil => simp [leVal]
  | cons b bs ih =>
    have := b.isLt
    simp only [leVal, List.length_cons, pow_succ]
    omega

theorem leVal_eq_sum (bs : List Byte) : leVal bs = ((List.range bs.length).map (fun i => (bs.getD i 0).toNat * 256 ^ i)).sum := by
  induction bs with
  | nil => rfl
  | cons b bs ih =>
    simp only [leVal, ih, List.length_cons, List.range_succ_eq_map, List.map_cons, List.map_map, List.sum_cons,
      List.getD_cons_zero, pow_zero, mul_one, ← List.sum_map_mul_left]
    congr 2
    refine List.map_congr_left fun i _ => ?_
    simp only [Function.comp_apply, List.getD_cons_succ, pow_succ]
    ring

theorem leb_getD (n v i : Nat) (hi : i < n) : ((leb n v).getD i 0).toNat = v / 256 ^ i % 256 := by
  induction n generalizing v i with
  | zero => omega
  | succ n ih =>
    cases i with
    | zero => simp [leb]
    | succ i =>
      rw [leb, List.getD_cons_succ, ih (v / 256) i (by omega), Nat.div_div_eq_div_mul, pow_succ, mul_comm]

theorem Mem.getBytes_getD (d : Byte) (m : Mem) (a n i : Nat) (hi : i < n) : (Mem.getBytes d m a n).getD i 0 = Mem.get d m (a + i) := by
  induction n generalizing a i with
  | zero => omega
  | succ n ih =>
    cases i with
    | zero => rfl
    | succ i =>
      rw [Mem.getBytes, List.getD_cons_succ, ih (a + 1) i (by omega), Nat.add_assoc, Nat.add_comm 1]

/-! ## The log of an engine (R288) -/

/-- The log changes at most the status of an engine. -/
theorem Dev.peLog_pe (d : Dev) (p n q : Nat) : ∃ st, (d.peLog p n).pe q = { d.pe q with status := st } := by
  have hset (r : Nat) : ∃ st, (d.setPe r (fun e => { e with status := 2 })).pe q = { d.pe q with status := st } := by
    by_cases h : r = q
    · subst h
      by_cases hr : r < d.eng.pes.length
      · exact ⟨2, Dev.pe_setPe_same _ _ _ hr⟩
      · refine ⟨(d.pe r).status, ?_⟩
        have hout : (upd d.eng.pes r (fun e => { e with status := 2 })).length ≤ r := by simp; omega
        simp [Dev.setPe, Dev.pe, List.getElem?_eq_none hout, List.getElem?_eq_none (not_lt.mp hr)]
    · exact ⟨(d.pe q).status, Dev.pe_setPe_ne _ _ _ _ h⟩
  unfold Dev.peLog Dev.logInput Dev.discardLog
  dsimp only
  split
  · split
    · split
      · exact ⟨_, rfl⟩
      · split
        · split
          · exact hset _
          · exact ⟨_, rfl⟩
        · exact ⟨_, rfl⟩
    · exact ⟨_, rfl⟩
  · exact ⟨_, rfl⟩

/-- The log lives in the engines' state. -/
theorem Dev.peLog_eng (d : Dev) (p n : Nat) : ∃ e, d.peLog p n = { d with eng := e } := by
  unfold Dev.peLog Dev.logInput Dev.discardLog
  dsimp only
  split
  · split
    · split
      · exact ⟨_, rfl⟩
      · split
        · split <;> exact ⟨_, rfl⟩
        · exact ⟨_, rfl⟩
    · exact ⟨_, rfl⟩
  · exact ⟨_, rfl⟩

@[simp] theorem Dev.peLog_sec (d : Dev) (p n : Nat) : (d.peLog p n).sec = d.sec := by
  obtain ⟨e, he⟩ := d.peLog_eng p n
  rw [he]

@[simp] theorem Dev.peLog_hst (d : Dev) (p n : Nat) : (d.peLog p n).hst = d.hst := by
  obtain ⟨e, he⟩ := d.peLog_eng p n
  rw [he]

@[simp] theorem Dev.peLog_regs (d : Dev) (p n q : Nat) : ((d.peLog p n).pe q).regs = (d.pe q).regs := by
  obtain ⟨st, h⟩ := d.peLog_pe p n q
  rw [h]

@[simp] theorem Dev.peLog_dram (d : Dev) (p n q : Nat) : ((d.peLog p n).pe q).dram = (d.pe q).dram := by
  obtain ⟨st, h⟩ := d.peLog_pe p n q
  rw [h]

@[simp] theorem Dev.peLog_pes_length (d : Dev) (p n : Nat) : (d.peLog p n).eng.pes.length = d.eng.pes.length := by
  unfold Dev.peLog Dev.logInput Dev.discardLog
  dsimp only
  split
  · split
    · split
      · rfl
      · split
        · split
          · exact upd_length _ _ _
          · rfl
        · rfl
    · rfl
  · rfl

/-! ## Running an instruction -/

theorem Regs.loaded_eq (g : Regs) (rd : Nat) (r : Word) (t : Bool) : g.loaded rd r t = { (g.result rd r) with t := t } := by
  by_cases h : rd = 0 <;> simp [Regs.loaded, Regs.result, Regs.set, Regs.step, h]

/-- An engine that executes runs what the effect is on the part as it stands. -/
theorem Dev.issue_congr {d : Dev} {p : Nat} {f g : Dev → Dev} (h : d.executes p = true) (hfg : f d = g d) :
    d.issue p f = d.issue p g := by
  obtain ⟨-, -, hstall, -, hcut⟩ := Dev.executes_cases d p h
  have hwait : d.setPe p (Pe.endWait d.tick) = d := Dev.setPe_fix _ _ _ (by simp [Pe.endWait, hstall])
  simp only [Dev.issue, hwait, hcut, hfg]

theorem State.run_congr {s : State} {f g : Dev → Dev} (h : f s.dev = g s.dev) : s.run f = s.run g := by
  simp only [State.run, h]

/-- An instruction whose effect leaves the part as `e`, without the pc past IRAM: the next state whole. -/
theorem State.run_issue {s : State} {p : Nat} {f : Dev → Dev} {e : Dev} (h : s.dev.executes p = true) (hf : f s.dev = e)
    (hsec : e.sec = s.dev.sec) (hpc : (e.pe p).regs.pc < 0x10000) : s.run (Dev.issue p f) = .next { s with dev := e } := by
  have hissue : s.dev.issue p f = e := (Dev.issue_eq _ _ _ h (by rw [hf]; omega)).trans hf
  rw [State.run_eq _ _ (by rw [hissue, hsec]), hissue]

/-- An instruction that faults. -/
theorem State.run_issue_fault {s : State} {p : Nat} {f : Dev → Dev} {c : Nat} (h : s.dev.executes p = true)
    (hf : f s.dev = s.dev.engineFault p 3 c) : s.run (Dev.issue p f) = s.run (Dev.issue p (fun d => d.engineFault p 3 c)) :=
  State.run_congr (Dev.issue_congr (f := f) (g := fun d => d.engineFault p 3 c) h hf)

end Sys2Proof.Machine
end

section
/-! SUPPORT. Loads and stores of the engine's own memories, and its atomics. -/

namespace Sys2Proof.Machine

/-! ## Loads (R268) -/

theorem extend_unsigned {size : BitVec 2} (h : size.toNat ≤ 2) {v : Nat} (hv : v < 256 ^ sizeBytes size) :
    extend false (sizeBytes size) v = BitVec.ofNat 32 v := by
  unfold sizeBytes at hv ⊢
  obtain hs | hs | hs : size.toNat = 0 ∨ size.toNat = 1 ∨ size.toNat = 2 := by omega
  all_goals
    rw [hs] at hv ⊢
    simp [extend]
  · rw [Nat.mod_eq_of_lt (by omega)]
  · rw [Nat.mod_eq_of_lt (by omega)]

/-- The byte that an address of the engine's own memories holds. -/
def Pe.byteAt (e : Pe) (x : Nat) : Nat := if x < 0x10000 then (Mem.get 0 e.iram x).toNat else (Mem.get 0 e.dram (dramOff x)).toNat

/-- The little-endian value of `n` bytes of the engine's own memories. -/
def Pe.value (e : Pe) (a n : Nat) : Nat := ((List.range n).map (fun i => e.byteAt (a + i) * 256 ^ i)).sum

theorem leVal_getBytes {m : Mem} {o n : Nat} {f : Nat → Nat} (h : ∀ i < n, (Mem.get 0 m (o + i)).toNat = f i) :
    leVal (Mem.getBytes 0 m o n) = ((List.range n).map (fun i => f i * 256 ^ i)).sum := by
  rw [leVal_eq_sum, Mem.getBytes_length]
  congr 1
  refine List.map_congr_left fun i hi => ?_
  have hi := List.mem_range.mp hi
  rw [Mem.getBytes_getD _ _ _ _ _ hi, h i hi]

/-- An aligned access of 1, 2, 4 or 8 bytes stays inside a range whose bounds are multiples of 8. -/
theorem aligned_end {size : BitVec 2} {a b : Nat} (ha : a % 2 ^ size.toNat = 0) (hlt : a < 8 * b) : a + 2 ^ size.toNat ≤ 8 * b := by
  have hsize : size.toNat < 4 := size.isLt
  interval_cases size.toNat <;> omega

theorem Dev.engLoad_own {d : Dev} {p a : Nat} {size : BitVec 2} (ha : a % 2 ^ size.toNat = 0) (hlt : a < 0x18000) :
    ∃ v, d.engLoad p a (sizeBytes size) = (.data v, d) ∧ v = (d.pe p).value a (2 ^ size.toNat) ∧ v < 256 ^ sizeBytes size := by
  have hmapped : mapped a = true := by simp [mapped, hlt]
  have hbound (m : Mem) (o : Nat) : leVal (Mem.getBytes 0 m o (sizeBytes size)) < 256 ^ sizeBytes size := by
    simpa using leVal_lt (Mem.getBytes 0 m o (sizeBytes size))
  by_cases hiram : a < 0x10000
  · have hend := aligned_end (b := 0x2000) ha hiram
    refine ⟨leVal (Mem.getBytes 0 (d.pe p).iram a (sizeBytes size)), by simp [Dev.engLoad, hmapped, ha, hiram, sizeBytes], leVal_getBytes fun i hi => ?_, hbound _ _⟩
    have hi : i < 2 ^ size.toNat := hi
    rw [Pe.byteAt, if_pos (by omega)]
  · have hend := aligned_end (b := 0x3000) ha hlt
    refine ⟨leVal (Mem.getBytes 0 (d.pe p).dram (dramOff a) (sizeBytes size)), by simp [Dev.engLoad, hmapped, ha, hiram, hlt, sizeBytes],
      leVal_getBytes fun i hi => ?_, hbound _ _⟩
    have hi : i < 2 ^ size.toNat := hi
    rw [Pe.byteAt, if_neg (by omega), show dramOff a + i = dramOff (a + i) by unfold dramOff; omega]

theorem State.run_ld {s : State} {p : Nat} (h : s.dev.executes p = true) (rd base : Nat) {size : BitVec 2} {imm : BitVec 16}
    {signed : Bool} (hsize : ¬ (if signed then 1 else 2) < size.toNat) (ha : s.dev.engAddr p base imm % 2 ^ size.toNat = 0)
    (hlt : s.dev.engAddr p base imm < 0x18000) {w : Word}
    (hw : ∀ v, v < 256 ^ sizeBytes size → v = (s.dev.pe p).value (s.dev.engAddr p base imm) (2 ^ size.toNat) →
      extend signed (sizeBytes size) v = w) :
    s.run (Dev.ld p rd base size imm signed) = .next (s.withRegs p { ((s.regs p).result rd w) with t := false }) := by
  obtain ⟨v, hload, hv, hbound⟩ := Dev.engLoad_own (d := s.dev) (p := p) ha hlt
  obtain ⟨-, -, -, hpc, -⟩ := Dev.executes_cases _ _ h
  refine State.run_issue_setRegs h ?_ hpc
  simp only [if_neg hsize, hload, Dev.loadEnds, hw v hbound hv, Regs.loaded_eq]
  exact Dev.setRegs_const ..

/-! ## Stores -/

theorem State.run_st_dram {s : State} {p : Nat} (h : s.dev.executes p = true) (rd base : Nat) {size : BitVec 2} {imm : BitVec 16}
    (hsize : size.toNat ≤ 2) (ha : s.dev.engAddr p base imm % 2 ^ size.toNat = 0) (hlow : 0x10000 ≤ s.dev.engAddr p base imm)
    (hlt : s.dev.engAddr p base imm < 0x18000) :
    s.run (Dev.st p rd base size imm) = .next { s with dev := s.dev.setPe p (fun e =>
      { e with dram := Mem.setBytes 0 (s.dev.pe p).dram (dramOff (s.dev.engAddr p base imm)) (leb (sizeBytes size) ((s.regs p).get rd).toNat),
               regs := { s.regs p with pc := (s.regs p).pc + 4 } }) } := by
  obtain ⟨hlen, -, -, hpc, -⟩ := Dev.executes_cases _ _ h
  have hmapped : mapped (s.dev.engAddr p base imm) = true := by simp [mapped, hlt]
  have htyp : inTypecase (s.dev.engAddr p base imm) = false := by
    simp only [inTypecase, Bool.and_eq_false_iff, decide_eq_false_iff_not]
    omega
  have hstore (v : Nat) : s.dev.engStore p (s.dev.engAddr p base imm) (sizeBytes size) v =
      (0, s.dev.dramWrite p (dramOff (s.dev.engAddr p base imm)) (leb (sizeBytes size) v)) := by
    simp [Dev.engStore, hmapped, ha, hlow, hlt, htyp, sizeBytes]
  refine State.run_issue h ?_ rfl (by rw [Dev.pe_setPe_same _ _ _ hlen]; exact hpc)
  simp only [if_neg (not_lt.mpr hsize), hstore, Dev.dramWrite, Dev.setRegs, Dev.setPe_setPe]
  exact Dev.setPe_congr _ _ _ _ rfl

/-! ## Faults (R231) -/

theorem Dev.engLoad_fault {d : Dev} {p a n c : Nat} (h : (mapped a = false ∧ c = 0x04) ∨ (mapped a = true ∧ a % n ≠ 0 ∧ c = 0x05)) :
    d.engLoad p a n = (.fault c, d) := by
  obtain ⟨hm, rfl⟩ | ⟨hm, ha, rfl⟩ := h
  · simp [Dev.engLoad, hm]
  · simp [Dev.engLoad, hm, ha]

theorem Dev.engStore_fault {d : Dev} {p a n v c : Nat}
    (h : (mapped a = false ∧ c = 0x04) ∨ (mapped a = true ∧ a % n ≠ 0 ∧ c = 0x05) ∨
      (mapped a = true ∧ a % n = 0 ∧ (a < 0x10000 ∨ inTypecase a = true) ∧ c = 0x04)) :
    d.engStore p a n v = (c, d) := by
  obtain ⟨hm, rfl⟩ | ⟨hm, ha, rfl⟩ | ⟨hm, ha, hro, rfl⟩ := h
  · simp [Dev.engStore, hm]
  · simp [Dev.engStore, hm, ha]
  · simp [Dev.engStore, hm, ha, hro]

section Faults

variable {s : State} {p rd base : Nat} {size : BitVec 2} {imm : BitVec 16} {c : Nat} (h : s.dev.executes p = true) (hsize : size.toNat ≤ 2)
include h hsize

theorem State.run_ld_fault (hload : s.dev.engLoad p (s.dev.engAddr p base imm) (sizeBytes size) = (.fault c, s.dev)) :
    s.run (Dev.ld p rd base size imm false) = s.run (Dev.issue p (fun d => d.engineFault p 3 c)) := by
  refine State.run_issue_fault h ?_
  simp [hsize, hload, Dev.loadEnds]

theorem State.run_st_fault (hc : c ≠ 0) (hstore : ∀ v, s.dev.engStore p (s.dev.engAddr p base imm) (sizeBytes size) v = (c, s.dev)) :
    s.run (Dev.st p rd base size imm) = s.run (Dev.issue p (fun d => d.engineFault p 3 c)) := by
  refine State.run_issue_fault h ?_
  simp [not_lt.mpr hsize, hstore, hc]

end Faults

end Sys2Proof.Machine
end

section
/-! The obligations of the engine's loads and stores (9, 10). -/

namespace Sys2Proof.EngineMemory

open Sys2Proof.Machine

/-- Settles O4: an aligned access stays in one of the two memories, and its bytes are the value. -/
theorem loadsFromOwnMemory : Obligations.LoadsFromOwnMemory := by
  intro s pe rd base size imm h g e a n byte v ha hlt
  refine ⟨fun hsize => ?_, fun hsize => ?_, fun hsize => ?_⟩
  · refine State.run_ld h rd base (not_lt.mpr hsize) ha hlt fun x hbound hx => ?_
    rw [extend_unsigned hsize hbound, hx]
    rfl
  · refine State.run_ld (signed := true) h rd base (by simp [hsize]) ha hlt fun x _ hx => ?_
    rw [show sizeBytes size = 1 by simp [sizeBytes, hsize], hx]
    rfl
  · refine State.run_ld (signed := true) h rd base (by simp [hsize]) ha hlt fun x _ hx => ?_
    rw [show sizeBytes size = 2 by simp [sizeBytes, hsize], hx]
    rfl

/-- Settles O5: the bytes read back as they were written, and the others stay. -/
theorem storesToDram : Obligations.StoresToDram := by
  intro s pe rd base size imm h g e a n hsize ha hlow hlt hwf
  refine ⟨_, State.run_st_dram h rd base hsize ha hlow hlt, Mem.wf_setBytes _ _ _ _ hwf, fun i hi => ?_, fun x hx => ?_⟩
  · exact (congrArg BitVec.toNat (Mem.get_setBytes_in _ _ _ _ _ (by rwa [leb_length]) hwf)).trans (leb_getD _ _ _ hi)
  · exact Mem.get_setBytes_out _ _ _ _ _ (by rwa [leb_length])

/-- Settles O6: the three checks of an access in their order. -/
theorem badAccessesFault : Obligations.BadAccessesFault := by
  intro s pe rd base size imm h a n f outside hsize
  have hmapped : mapped a = true ↔ ¬ outside := by
    simp only [mapped, inPim, inTypecase, outside, Bool.or_eq_true, Bool.and_eq_true, decide_eq_true_eq]
    omega
  refine ⟨fun hout => ?_, fun hin hmis => ?_, fun hal hro => ?_⟩
  · have hm : mapped a = false := Bool.eq_false_iff.mpr fun hm => hmapped.mp hm hout
    exact ⟨State.run_ld_fault h hsize (Dev.engLoad_fault (.inl ⟨hm, rfl⟩)),
      State.run_st_fault h hsize (by decide) fun v => Dev.engStore_fault (.inl ⟨hm, rfl⟩)⟩
  · have hm : mapped a = true := hmapped.mpr hin
    exact ⟨State.run_ld_fault h hsize (Dev.engLoad_fault (.inr ⟨hm, hmis, rfl⟩)),
      State.run_st_fault h hsize (by decide) fun v => Dev.engStore_fault (.inr (.inl ⟨hm, hmis, rfl⟩))⟩
  · have hro' : a < 0x10000 ∨ inTypecase a = true := by simpa [inTypecase] using hro
    have hm : mapped a = true := by
      simp only [mapped, Bool.or_eq_true, decide_eq_true_eq]
      obtain hlt | htyp := hro'
      · exact .inl (.inl (by omega))
      · exact .inr htyp
    exact State.run_st_fault h hsize (by decide) fun v => Dev.engStore_fault (.inr (.inr ⟨hm, hal, hro', rfl⟩))

end Sys2Proof.EngineMemory
end

section
/-! SUPPORT. The atomics in DRAM, the cache operations outside views, and the waits (R269, R270, R275, R276). -/

namespace Sys2Proof.Machine

/-- A view of an engine that an update keeps. -/
theorem Dev.pe_setPe_keeps {α : Type} (v : Pe → α) {f : Pe → Pe} (hf : ∀ e, v (f e) = v e) (d : Dev) (p q : Nat) :
    v ((d.setPe p f).pe q) = v (d.pe q) := by
  by_cases h : p = q
  · subst h
    by_cases hp : p < d.eng.pes.length
    · rw [Dev.pe_setPe_same _ _ _ hp, hf]
    · have hout : (upd d.eng.pes p f).length ≤ p := by simp; omega
      simp [Dev.setPe, Dev.pe, List.getElem?_eq_none hout, List.getElem?_eq_none (not_lt.mp hp)]
  · rw [Dev.pe_setPe_ne _ _ _ _ h]

/-! ## Atomics (R269) -/

theorem Regs.atomEnds_eq (g : Regs) (rd : Nat) (old : Word) (cas stored : Bool) :
    g.atomEnds rd old false cas stored = { (g.result rd old) with t := false, z := if cas then stored else g.z } := by
  rw [Regs.atomEnds, Regs.loaded_eq]
  cases cas <;> by_cases hrd : rd = 0 <;> simp [Regs.result, hrd]

/-- The part after an atomic of engine `p` in DRAM whose memory becomes `m`: the access is logged, and the registers are `g`. -/
def Dev.afterAtomic (d : Dev) (p : Nat) (m : Mem) (g : Regs) : Dev :=
  ((d.setPe p (fun e => { e with dram := m })).peLog p 16).setRegs p (fun _ => g)

section Atomics

variable {s : State} {p : Nat} (h : s.dev.executes p = true) (rd rs1 rs2 : Nat) {cas : Bool} {new : Word → Word → Word → Option Word}
include h

/-- An atomic on an aligned word of DRAM, whose memory becomes `m`: the next state whole. -/
theorem State.run_atom_dram {old : Word} {m : Mem} {a : Nat} {z : Bool} (ha : ((s.regs p).get rs1).toNat = a) (halign : a % 4 = 0)
    (hlow : 0x10000 ≤ a) (hlt : a < 0x18000)
    (hold : BitVec.ofNat 32 (leVal (Mem.getBytes 0 (s.dev.pe p).dram (dramOff a) 4)) = old)
    (hm : (new old ((s.regs p).get rs2) ((s.regs p).get rd)).elim (s.dev.pe p).dram
      (fun w => Mem.setBytes 0 (s.dev.pe p).dram (dramOff a) (leb 4 w.toNat)) = m)
    (hz : (if cas then (new old ((s.regs p).get rs2) ((s.regs p).get rd)).isSome else (s.regs p).z) = z) :
    s.run (Dev.atom p rd rs1 rs2 cas new) =
      .next { s with dev := s.dev.afterAtomic p m { ((s.regs p).result rd old) with t := false, z := z } } := by
  obtain ⟨hlen, -, -, hpc, -⟩ := Dev.executes_cases _ _ h
  have hdram : (a % 4 == 0 && inDram a 4) = true := by
    simp only [inDram, Bool.and_eq_true, beq_iff_eq, decide_eq_true_eq]
    omega
  have hend {d : Dev} (hd : d = s.dev.setPe p (fun e => { e with dram := m })) :
      (d.peLog p 16).setRegs p (fun g => g.atomEnds rd old false cas (new old ((s.regs p).get rs2) ((s.regs p).get rd)).isSome) =
        s.dev.afterAtomic p m { ((s.regs p).result rd old) with t := false, z := z } := by
    subst hd hz
    refine Dev.setRegs_congr _ _ _ _ ?_
    rw [Dev.peLog_regs, Dev.pe_setPe_same _ _ _ hlen, Regs.atomEnds_eq]
    rfl
  refine State.run_issue h ?_ (Dev.peLog_sec ..) ?_
  · dsimp only
    rw [show ((s.dev.pe p).regs.get rs1).toNat = a from ha, if_pos hdram, hold, show (s.dev.pe p).regs = s.regs p from rfl]
    refine hend ?_
    subst hm
    cases new old ((s.regs p).get rs2) ((s.regs p).get rd) with
    | none => exact (Dev.setPe_fix _ _ _ rfl).symm
    | some w => exact Dev.setPe_congr _ _ _ _ rfl
  · rw [Dev.afterAtomic, Dev.setRegs, Dev.pe_setPe_same]
    · exact hpc
    · simpa [Dev.setPe] using hlen

end Atomics

/-! ## CWB and PREF (R270) -/

theorem Dev.cacheLine_outside {d : Dev} {p base : Nat} {imm : BitVec 16} (h : inPim (d.engAddr p base imm) = false) :
    d.cacheLine p base imm = (none, d) := by
  simp [Dev.cacheLine, h]

theorem Dev.cacheLine_static {d : Dev} {p base : Nat} {imm : BitVec 16} (h : inPim (d.engAddr p base imm) = true)
    (harea : d.pimArea (pimOff (d.engAddr p base imm)) = .static) :
    d.cacheLine p base imm = (some (pimOff (d.engAddr p base imm) / 64), d) := by
  simp [Dev.cacheLine, h, Dev.pimTarget, harea]

section CacheOperations

variable {s : State} {p : Nat} (h : s.dev.executes p = true) {base : Nat} {imm : BitVec 16} {e : Dev}
include h

/-- A step of the pc after an effect that leaves the registers and the keys. -/
theorem State.run_issue_step {i f : Dev → Dev} (hi : i s.dev = s.dev.issue p f) (hf : f s.dev = e.setRegs p Regs.step) (hsec : e.sec = s.dev.sec)
    (hlen : e.eng.pes.length = s.dev.eng.pes.length) (hregs : (e.pe p).regs = s.regs p) :
    s.run i = .next { s with dev := e.setRegs p (fun g => { g with pc := g.pc + 4 }) } := by
  obtain ⟨hp, -, -, hpc, -⟩ := Dev.executes_cases _ _ h
  refine (State.run_congr hi).trans (State.run_issue h hf hsec ?_)
  rw [Dev.setRegs, Dev.pe_setPe_same _ _ _ (hlen ▸ hp)]
  simp only [hregs]
  exact hpc

theorem State.run_cwb {o : Option Nat} (hline : s.dev.cacheLine p base imm = (o, s.dev))
    (hcwb : e = match o with | some n => s.dev.cwb p n | none => s.dev) (hsec : e.sec = s.dev.sec)
    (hlen : e.eng.pes.length = s.dev.eng.pes.length) (hregs : (e.pe p).regs = s.regs p) :
    s.run (Dev.cwbOp p base imm) = .next { s with dev := e.setRegs p (fun g => { g with pc := g.pc + 4 }) } := by
  refine State.run_issue_step h rfl ?_ hsec hlen hregs
  simp only [hline]
  cases o <;> rw [hcwb]

/-- PREF of nothing, or of a line that is there, only goes on. -/
theorem State.run_pref {o : Option Nat} (hline : s.dev.cacheLine p base imm = (o, s.dev))
    (hthere : ∀ n, o = some n → ((s.dev.pe p).cached n).isSome = true) :
    s.run (Dev.prefOp p base imm) = .next { s with dev := s.dev.setRegs p (fun g => { g with pc := g.pc + 4 }) } := by
  refine State.run_issue_step h rfl ?_ rfl rfl rfl
  simp only [hline]
  cases o with
  | none => rfl
  | some n => simp [hthere n rfl]

end CacheOperations

theorem Dev.cwb_shared {d : Dev} {p line : Nat} {c : CLine} (hc : (d.pe p).cached line = some c) (hown : c.owned = false) :
    d.cwb p line = d.dropLine p line := by
  simp [Dev.cwb, hc, hown]

theorem Dev.cwb_owned {d : Dev} {p line : Nat} {c : CLine} (hc : (d.pe p).cached line = some c) (hown : c.owned = true)
    (hroom : (d.pe p).evb.length < 4) :
    d.cwb p line = (d.dropLine p line).setPe p (fun e => { e with evb := e.evb ++ [{ line := line, gen := c.gen, data := c.data }] }) := by
  simp [Dev.cwb, hc, hown, not_le.mpr hroom]

/-! ## Waits (R275, R276) -/

theorem waituReached_iff (tick : Nat) (w : Word) (scale : Nat) :
    waituReached tick w.toNat scale = true ↔ 0 ≤ (BitVec.ofNat 32 (tick / 2 ^ scale) - w).toInt := by
  rw [waituReached, BitVec.ofNat_toNat, BitVec.setWidth_eq, ← BitVec.msb_eq_getLsbD_last, Bool.not_eq_true', ← Bool.not_eq_true,
    BitVec.msb_eq_toInt, decide_eq_true_eq, not_lt]

/-- The accepted time of an engine's island is kept in its ports. -/
theorem Dev.accepted_pe (d : Dev) {p : Nat} (h : p < d.eng.pes.length) :
    (d.accepted p).2.pe p = { d.pe p with ports := { (d.pe p).ports with lastTick := (d.accepted p).1 } } :=
  Dev.pe_setPe_same d.draw.2 p _ h

section Waits

variable {s : State} {p : Nat} (h : s.dev.executes p = true)
include h

/-- An instruction that ends by a change of its own engine, logged. -/
theorem State.run_issue_logged {i f : Dev → Dev} {g k : Pe → Pe} {d : Dev} (hi : i s.dev = s.dev.issue p f) (hf : f s.dev = (d.setPe p g).peLog p 16)
    (hsec : d.sec = s.dev.sec) (hlen : d.eng.pes.length = s.dev.eng.pes.length) (hgk : g (d.pe p) = k (d.pe p))
    (hpc : (k (d.pe p)).regs.pc < 0x10000) :
    s.run i = .next { s with dev := (d.setPe p k).peLog p 16 } := by
  obtain ⟨hp, -⟩ := Dev.executes_cases _ _ h
  refine (State.run_congr hi).trans <| State.run_issue h (by rw [hf, Dev.setPe_congr _ _ _ _ hgk]) ((Dev.peLog_sec ..).trans hsec) ?_
  rwa [Dev.peLog_regs, Dev.pe_setPe_same _ _ _ (hlen ▸ hp)]

theorem State.run_wait_ends (hit : (s.dev.pe p).ports.pend &&& (s.dev.pe p).ports.mask ≠ 0#32) :
    s.run (Dev.waitOp p) =
      .next { s with dev := (s.dev.setRegs p (fun _ => { s.regs p with pc := (s.regs p).pc + 4 })).peLog p 16 } := by
  obtain ⟨-, -, hstall, hpc, -⟩ := Dev.executes_cases _ _ h
  refine State.run_issue_logged h rfl rfl rfl rfl ?_ hpc
  simp [Pe.endWait, hit, ← hstall, State.regs]

theorem State.run_wait_stalls (hit : ¬ (s.dev.pe p).ports.pend &&& (s.dev.pe p).ports.mask ≠ 0#32) :
    s.run (Dev.waitOp p) = .next { s with dev := (s.dev.setPe p (fun e => { e with stall := .wait })).peLog p 16 } := by
  obtain ⟨-, -, -, hpc, -⟩ := Dev.executes_cases _ _ h
  refine State.run_issue_logged h rfl rfl rfl rfl ?_ (by dsimp only; omega)
  simp [Pe.endWait, not_not.mp hit]

/-- WAITU compares with the accepted time; `reached` says what comes out. -/
theorem State.run_waitu {rs1 scale : Nat} (hscale : ¬ 16 < scale) {k : Pe → Pe}
    (hk : (({ ((s.dev.accepted p).2.pe p) with stall := .waitu ((s.regs p).get rs1).toNat scale } : Pe).endWait (s.dev.accepted p).1) =
      k ((s.dev.accepted p).2.pe p)) (hpc : (k ((s.dev.accepted p).2.pe p)).regs.pc < 0x10000) :
    s.run (Dev.waituOp p rs1 scale) = .next { s with dev := ((s.dev.accepted p).2.setPe p k).peLog p 16 } := by
  obtain ⟨hp, -⟩ := Dev.executes_cases _ _ h
  have hregs : ((s.dev.accepted p).2.pe p).regs = s.regs p := by rw [Dev.accepted_pe s.dev hp]; rfl
  refine State.run_issue_logged h rfl (g := fun e => ({ e with stall := .waitu (e.regs.get rs1).toNat scale } : Pe).endWait _)
    (if_neg hscale) rfl (upd_length _ _ _) ?_ hpc
  rw [← hregs] at hk
  exact hk

end Waits

/-- What WAITU's compare makes of an engine that nothing stalls. -/
theorem Pe.endWait_waitu {e : Pe} {tick t a : Nat} (hstall : e.stall = .none) :
    (waituReached tick t a = true → e.ports.lastTick = tick → ({ e with stall := .waitu t a } : Pe).endWait tick =
      { e with regs := { e.regs with pc := e.regs.pc + 4, z := true, c := false } }) ∧
    (waituReached tick t a = false → e.ports.pend &&& e.ports.mask ≠ 0#32 → ({ e with stall := .waitu t a } : Pe).endWait tick =
      { e with regs := { e.regs with pc := e.regs.pc + 4, z := false, c := false } }) ∧
    (waituReached tick t a = false → e.ports.pend &&& e.ports.mask = 0#32 → ({ e with stall := .waitu t a } : Pe).endWait tick =
      { e with stall := .waitu t a }) := by
  refine ⟨fun hr ht => ?_, fun hr hit => ?_, fun hr hit => ?_⟩
  · subst ht
    simp [Pe.endWait, hr, ← hstall]
  · simp [Pe.endWait, hr, hit, ← hstall]
  · simp [Pe.endWait, hr, hit]

end Sys2Proof.Machine
end

section
/-! The obligations of atomics, cache operations, waits and words (10). -/

namespace Sys2Proof.EngineMemory

open Sys2Proof.Machine

/-- Settles O7. -/
theorem atomicsAndCacheOperations : Obligations.AtomicsAndCacheOperations := by
  refine ⟨?_, ?_⟩
  · intro s pe rd rs1 rs2 h g e a old y after stores halign hlow hlt hwf
    have hstores {c : Instr} {w : Word} {z : Bool} (hexec : exec c s =
        .next { s with dev := after (Mem.setBytes 0 e.dram (dramOff a) (leb 4 w.toNat)) z }) : stores c w z := by
      refine ⟨_, hexec, ?_, fun x hx => Mem.get_setBytes_out _ _ _ _ _ (by rwa [leb_length])⟩
      simpa using Mem.getBytes_setBytes 0 e.dram (dramOff a) (leb 4 w.toNat) hwf
    refine ⟨hstores ?_, hstores ?_, hstores ?_, hstores ?_, fun heq => hstores ?_, fun hne => ?_⟩
    · exact State.run_atom_dram h rd rs1 rs2 (cas := false) rfl halign hlow hlt rfl rfl rfl
    · exact State.run_atom_dram h rd rs1 rs2 (cas := false) rfl halign hlow hlt rfl rfl rfl
    · exact State.run_atom_dram h rd rs1 rs2 (cas := false) rfl halign hlow hlt rfl rfl rfl
    · exact State.run_atom_dram h rd rs1 rs2 (cas := false) rfl halign hlow hlt rfl rfl rfl
    · have hstore : (if old == g.get rd then some y else none) = some y := if_pos (beq_iff_eq.mpr heq)
      exact State.run_atom_dram h rd rs1 rs2 (cas := true) rfl halign hlow hlt rfl (by rw [hstore]; rfl) (by rw [hstore]; rfl)
    · have hkeep : (if old == g.get rd then some y else none) = none := if_neg (by simpa using hne)
      exact State.run_atom_dram h rd rs1 rs2 (cas := true) rfl halign hlow hlt rfl (by rw [hkeep]; rfl) (by rw [hkeep]; rfl)
  · intro s pe base imm h g a d
    refine ⟨fun hout => ?_, ?_⟩
    · have hnone : s.dev.cacheLine pe base imm = (none, s.dev) := Dev.cacheLine_outside (d := s.dev) (p := pe) (base := base) (imm := imm) (show inPim a = false by simpa [inPim] using hout)
      exact ⟨State.run_cwb h hnone rfl rfl rfl rfl, State.run_pref h hnone (by simp)⟩
    · intro hlow hhigh harea line
      have hline := Dev.cacheLine_static (d := s.dev) (p := pe) (base := base) (imm := imm)
        (by simpa [inPim] using ⟨hlow, hhigh⟩) harea
      refine ⟨fun c hc hown => ⟨?_, ?_⟩, fun c hc hown hroom => ?_⟩
      · refine State.run_cwb h hline (Dev.cwb_shared hc hown).symm rfl (upd_length _ _ _) ?_
        exact Dev.pe_setPe_keeps (·.regs) (by intro e; rfl) _ _ _
      · refine State.run_pref h hline fun n hn => ?_
        cases hn
        exact Option.isSome_iff_exists.mpr ⟨c, hc⟩
      · refine State.run_cwb h hline (Dev.cwb_owned hc hown hroom).symm rfl ?_ ?_
        · rw [Dev.dropLine, Dev.setPe_setPe]
          exact upd_length _ _ _
        · rw [Dev.dropLine, Dev.setPe_setPe]
          exact Dev.pe_setPe_keeps (·.regs) (by intro e; rfl) _ _ _

/-- Settles O8: the wait is entered and its condition looked at once. -/
theorem waits : Obligations.Waits := by
  intro s pe rs1 scale h g q hit now reached ends stalls
  obtain ⟨hp, -, hstall, hpc, -⟩ := Dev.executes_cases _ _ h
  refine ⟨fun hhit => State.run_wait_ends h hhit, fun hno => State.run_wait_stalls h hno, fun hscale => ?_⟩
  have hpe := Dev.accepted_pe s.dev hp
  have hreach := waituReached_iff (s.dev.accepted pe).1 ((s.regs pe).get rs1) scale
  have hregs : ((s.dev.accepted pe).2.pe pe).regs = s.regs pe := by rw [hpe]; rfl
  have hports : ((s.dev.accepted pe).2.pe pe).ports.pend &&& ((s.dev.accepted pe).2.pe pe).ports.mask = q.pend &&& q.mask := by
    rw [hpe]
  obtain ⟨hyes, hends, hstalls⟩ := Pe.endWait_waitu (e := (s.dev.accepted pe).2.pe pe) (tick := (s.dev.accepted pe).1)
    (t := ((s.regs pe).get rs1).toNat) (a := scale) (by rw [hpe]; exact hstall)
  refine ⟨fun hr => ?_, fun hr hhit => ?_, fun hr hno => ?_⟩
  · refine State.run_waitu h (not_lt.mpr hscale) (k := fun e => { e with regs := _ }) ?_ hpc
    rw [hyes (hreach.mpr hr) (by rw [hpe]), hregs]
  · refine State.run_waitu h (not_lt.mpr hscale) (k := fun e => { e with regs := _ }) ?_ hpc
    rw [hends (Bool.eq_false_iff.mpr fun hyes => hr (hreach.mp hyes)) (by rwa [hports]), hregs]
  · refine State.run_waitu h (not_lt.mpr hscale) (k := fun e => { e with stall := _ }) ?_ ?_
    · exact hstalls (Bool.eq_false_iff.mpr fun hyes => hr (hreach.mp hyes)) (by rw [hports]; exact not_not.mp hno)
    · dsimp only
      rw [hregs]
      exact lt_of_le_of_lt (Nat.le_add_right _ 4) hpc

end Sys2Proof.EngineMemory
end

section
/-! SUPPORT. Instruction words (R260, Table 10.11) and the host rings of QPUT and QGET (R153, R272, R273). -/

namespace Sys2Proof.Machine

/-- An effect that leaves the part as it is. -/
theorem State.run_fix {s : State} {f : Dev → Dev} (h : f s.dev = s.dev) : s.run f = .next s := by
  rw [State.run_eq s f (by rw [h]), h]

/-! ## Words -/

theorem wf_major (w : Word) : wf_ w 26 6 = w.toNat / 2 ^ 26 := by
  have := w.isLt
  simp only [wf_, bits]
  omega

/-- The major opcodes of Table 10.3. -/
def majors : List Nat :=
  [0x01, 0x02, 0x03, 0x04, 0x05, 0x06, 0x07, 0x08, 0x09, 0x10, 0x11, 0x12, 0x13, 0x14, 0x18, 0x19, 0x1A, 0x20, 0x21, 0x22, 0x28]

theorem legalWord_of_unassigned {w : Word} (h : w.toNat / 2 ^ 26 ∉ majors) : legalWord w = false := by
  rw [← wf_major] at h
  unfold legalWord
  dsimp only
  split
  case h_22 => rfl
  all_goals
    rename_i heq
    rw [heq] at h
    exact absurd (by decide) h

theorem legalWord_alu {w : Word} (h : w.toNat / 2 ^ 26 = 0x01) :
    legalWord w = (wf_ w 6 8 == 0 && decide (wf_ w 0 6 ≤ 0x14) && !((wf_ w 0 6 == 0x0C || wf_ w 0 6 == 0x0D) && wf_ w 22 4 != 0)) := by
  rw [← wf_major] at h
  simp only [legalWord, h]

end Sys2Proof.Machine
end

section
/-! The obligation of instruction words (10). -/

namespace Sys2Proof.EngineMemory

open Sys2Proof.Machine

/-- Settles O9. -/
theorem legalAndIllegalWords : Obligations.LegalAndIllegalWords := by
  refine ⟨?_, fun w h => legalWord_of_unassigned h, fun w h => ?_⟩
  · intro s pe word rd base rs1 size imm scale f
    have hrow : exec (.illegalInstruction pe word) s =
        s.run (fun d => if legalWord word then d else d.issue pe (fun d => d.engineFault pe 3 0x02)) := rfl
    refine ⟨fun hw => ?_, fun hw => ?_, fun hscale => ?_, fun hsize => ?_, fun hsize => ?_⟩
    · simp only [hrow, hw]
      rfl
    · simp only [hrow, hw, if_true]
      exact State.run_fix rfl
    · exact State.run_congr (congrArg (Dev.issue pe · s.dev) (funext fun d => if_pos hscale))
    · subst hsize
      exact ⟨rfl, rfl⟩
    · have hsize : 1 < size.toNat := hsize
      exact State.run_congr (congrArg (Dev.issue pe · s.dev) (funext fun d => if_pos hsize))
  · rw [legalWord_alu h]
    simp only [wf_, bits, pow_zero, Nat.div_one, Bool.and_eq_true, beq_iff_eq, decide_eq_true_eq, Bool.not_eq_true', Bool.and_eq_false_iff, bne_eq_false_iff_eq,
      Bool.or_eq_false_iff, beq_eq_false_iff_ne]
    omega

end Sys2Proof.EngineMemory
end

section
/-! SUPPORT. Host rings as QPUT and QGET move them (R153 to R155, R272, R273). -/

namespace Sys2Proof.Machine

theorem Dev.ring_setRing_same (d : Dev) (r : Nat) (f : Ring → Ring) (h : r < d.hst.rings.length) : (d.setRing r f).ring r = f (d.ring r) :=
  upd_getD_same _ _ _ _ h

/-- A published item at the front of the reservations, with none behind it: PI passes it. -/
theorem Dev.advanceRing_single {d : Dev} {r : Nat} {v : Resv} (hresv : (d.ring r).resv = [v]) (hdone : v.done = true) :
    d.advanceRing r = d.setRing r (fun _ => { d.ring r with pi := ((d.ring r).pi + v.n) % 65536, resv := [] }) := by
  simp [Dev.advanceRing, hresv, publishRun, hdone, Dev.setHst]

/-- The ring with an item published under its one reservation. -/
def Ring.published (x : Ring) (v : Resv) : Ring :=
  { x with pi := (x.pi + v.n) % 65536, resv := [], lost := x.lost.filter (fun y => y.1 != lostKey v.src v.inst) }

/-- Publishing under the one reservation of a ring (R153, R154). -/
theorem Dev.ringPublish_single {d : Dev} {r : Nat} {v : Resv} (data : List Byte) (hr : r < d.hst.rings.length)
    (hresv : (d.ring r).resv = [v]) :
    ∃ h, d.ringPublish r v.id data = { d with hst := h } ∧ h.rings.getD r {} = (d.ring r).published v ∧
      h.mem = writeEntries (d.ringCfg r) d.hst.mem v.idx
        (itemBytes v.src v.inst ((d.ring r).lostOf (lostKey v.src v.inst)) d.tick data) := by
  let es := itemBytes v.src v.inst ((d.ring r).lostOf (lostKey v.src v.inst)) d.tick data
  let mark (x : Ring) : Ring := { x with
    resv := updFirst x.resv (fun y => y.id == v.id) (fun y => { y with done := true, data := data }),
    lost := x.lost.filter (fun y => y.1 != lostKey v.src v.inst) }
  let w : Dev := d.setHst (fun h => { h with mem := writeEntries (d.ringCfg r) h.mem v.idx es })
  have hring : (w.setRing r mark).ring r = mark (d.ring r) := Dev.ring_setRing_same w r mark hr
  have hmarked : ((w.setRing r mark).ring r).resv = [{ v with done := true, data := data }] := by
    rw [hring]
    simp [mark, hresv, updFirst]
  have hfind : (d.ring r).resv.find? (fun y => y.id == v.id) = some v := by simp [hresv]
  have hpublish : d.ringPublish r v.id data = (w.setRing r mark).advanceRing r := by
    rw [Dev.ringPublish, hfind]
  rw [hpublish, Dev.advanceRing_single hmarked rfl]
  refine ⟨_, rfl, ?_, rfl⟩
  refine (Dev.ring_setRing_same (w.setRing r mark) r _ (by simpa [w, Dev.setRing, Dev.setHst] using hr)).trans ?_
  rw [hring]
  rfl

/-- An item that fits a ring without reservations is published at once: the ring and its memory after it (R153, R154). -/
theorem Dev.ringPut_fits (d : Dev) {r : Nat} (o : Owner) (src inst : Nat) (data : List Byte) (hr : r < d.hst.rings.length)
    (hresv : (d.ring r).resv = []) (hfits : (d.ring r).count + itemEntries data.length ≤ (d.ringCfg r).entries) :
    ∃ h : Hst, d.ringPut r o src inst data = (true, { d with hst := h }) ∧
      h.mem = writeEntries (d.ringCfg r) d.hst.mem ((d.ring r).pi % 65536)
        (itemBytes src inst ((d.ring r).lostOf (lostKey src inst)) d.tick data) ∧
      (h.rings.getD r {}).pi = ((d.ring r).pi % 65536 + itemEntries data.length) % 65536 ∧ (h.rings.getD r {}).ci = (d.ring r).ci := by
  have hpending : (d.ring r).pendingEntries = 0 := by simp [Ring.pendingEntries, hresv]
  have hfree : ¬ (d.ring r).free (d.ringCfg r).entries < itemEntries data.length := by
    rw [Ring.free, hpending]
    omega
  let v : Resv := { id := d.hst.outIds, owner := o, idx := (d.ring r).pi % 65536, n := itemEntries data.length, gen := (d.ring r).gen,
                    lease := d.leaseOf 7 0, expiry := d.tick + d.leaseOf 7 0 * 1000, slot := 0, src := src, inst := inst }
  let e : Dev := (d.setRing r (fun x => { x with resv := x.resv ++ [v] })).setHst (fun h => { h with outIds := h.outIds + 1 })
  have hreserve : d.ringReserve r o (itemEntries data.length) src inst 0 0 = some (v.id, e) := by
    simp [Dev.ringReserve, hfree, hpending, e, v]
  have hring : e.ring r = { d.ring r with resv := [v] } := by
    have := Dev.ring_setRing_same d r (fun x => { x with resv := x.resv ++ [v] }) hr
    simp only [hresv, List.nil_append] at this
    exact this
  obtain ⟨h, hpublish, hafter, hmem⟩ := Dev.ringPublish_single (d := e) (v := v) data
    (by simpa [e, Dev.setHst, Dev.setRing] using hr) (by rw [hring])
  refine ⟨h, ?_, ?_, ?_, ?_⟩
  · simp only [Dev.ringPut, hreserve, hpublish]
    rfl
  · rw [hmem, hring]
    rfl
  · rw [hafter, hring]
    simp only [Ring.published, v]
    omega
  · rw [hafter, hring]
    rfl

/-- An item that lacks entries is discarded and counted (R155). -/
theorem Dev.ringPut_lacks (d : Dev) {r : Nat} (o : Owner) (src inst : Nat) (data : List Byte) (hr : r < d.hst.rings.length)
    (hlacks : (d.ring r).free (d.ringCfg r).entries < itemEntries data.length) :
    ∃ h : Hst, d.ringPut r o src inst data = (false, { d with hst := h }) ∧ h.mem = d.hst.mem ∧
      (h.rings.getD r {}).pi = (d.ring r).pi ∧
      (h.rings.getD r {}).lostOf (lostKey src inst) = min 255 ((d.ring r).lostOf (lostKey src inst) + 1) := by
  have hreserve : d.ringReserve r o (itemEntries data.length) src inst 0 0 = none := if_pos hlacks
  have hset := Dev.ring_setRing_same d r (fun x => { x with
    lost := (x.lost.filter (fun y => y.1 != lostKey src inst)) ++ [(lostKey src inst, min 255 (x.lostOf (lostKey src inst) + 1))] }) hr
  refine ⟨(d.ringLost r src inst).hst, ?_, rfl, (congrArg Ring.pi hset).trans rfl, ?_⟩
  · simp only [Dev.ringPut, hreserve]
    rfl
  · refine (congrArg (fun x : Ring => x.lostOf (lostKey src inst)) hset).trans ?_
    have hnone : ((d.ring r).lost.filter (fun y => y.1 != lostKey src inst)).find? (fun y => y.1 == lostKey src inst) = none := by
      simp [List.find?_eq_none]
    simp [Ring.lostOf, List.find?_append, hnone]

/-! ## Queue instructions -/

theorem queueArg_eq {w : Word} (hlen : w.toNat / 65536 ≤ 16384) (hring : w.toNat % 65536 < 32) :
    queueArg w = (w.toNat / 65536, w.toNat % 65536, true) := by
  have := w.isLt
  have h1 : bits w.toNat 16 16 = w.toNat / 65536 := by simp only [bits]; omega
  have h2 : bits w.toNat 0 5 = w.toNat % 65536 := by simp only [bits, pow_zero, Nat.div_one]; omega
  have h3 : bits w.toNat 5 11 = 0 := by simp only [bits]; omega
  simp [queueArg, h1, h2, h3, hlen]

theorem dramRange_of {a n : Nat} (h : n = 0 ∨ (0x10000 ≤ a ∧ a + n ≤ 0x18000)) : dramRange a n = true := by
  simpa [dramRange, inDram] using h

/-- The end of a queue instruction: what the next state shows of the engine and the rings. -/
theorem State.run_queueEnds {s : State} {p rd bytes : Nat} {v : Word} {f : Dev → Dev} {d : Dev} (h : s.dev.executes p = true)
    (hf : f s.dev = d.queueEnds p rd v false bytes) (hsec : d.sec = s.dev.sec) (hlen : d.eng.pes.length = s.dev.eng.pes.length)
    (hregs : (d.pe p).regs = s.regs p) :
    ∃ t, s.run (Dev.issue p f) = .next t ∧ t.regs p = { ((s.regs p).result rd v) with t := false } ∧ t.pending = s.pending ∧
      t.dev.hst = d.hst ∧ (t.dev.pe p).dram = (d.pe p).dram := by
  obtain ⟨hp, -, -, hpc, -⟩ := Dev.executes_cases _ _ h
  have hpe : (d.queueEnds p rd v false bytes).pe p =
      { (d.peLog p (16 + bytes)).pe p with regs := { ((s.regs p).result rd v) with t := false } } := by
    rw [Dev.queueEnds, Dev.setRegs, Dev.pe_setPe_same _ _ _ (by simpa [hlen] using hp), Dev.peLog_regs, hregs, Regs.loaded_eq]
  refine ⟨_, State.run_issue h hf ((Dev.peLog_sec ..).trans hsec) (by rw [hpe]; exact hpc), ?_, rfl, Dev.peLog_hst .., ?_⟩
  · exact (congrArg (fun e : Pe => e.regs) hpe :)
  · exact (congrArg (fun e : Pe => e.dram) hpe :).trans (Dev.peLog_dram ..)

/-! ## QGET (R273) -/

theorem itemEntries_pos (n : Nat) : 0 < itemEntries n := by simp [itemEntries]

theorem Dev.ringItem_length (d : Dev) (r n : Nat) : (d.ringItem r n).length = n := by
  have hrest : ((List.range (itemEntries n - 1)).flatMap
      (fun i => Mem.getBytes 0 d.hst.mem ((d.ringCfg r).at ((d.ring r).ci + 1 + i)) 32)).length = 32 * (itemEntries n - 1) := by
    simp [List.length_flatMap, mul_comm]
  have hentries : n ≤ 16 + 32 * (itemEntries n - 1) := by
    simp only [itemEntries]
    omega
  simp only [Dev.ringItem, List.length_take, List.length_append, Mem.getBytes_length, hrest]
  omega

/-- No skip entries lie before an item's head, or where nothing waits. -/
theorem Dev.passSkips_eq {d : Dev} {r : Nat} (h : (d.ring r).count = 0 ∨
    (byteAt (Mem.getBytes 0 d.hst.mem ((d.ringCfg r).at (d.ring r).ci) 4) 0 = 1 ∧
      fld (Mem.getBytes 0 d.hst.mem ((d.ringCfg r).at (d.ring r).ci) 4) 2 2 ≤ 16384)) (k : Nat) : Dev.passSkips r k d = d := by
  cases k with
  | zero => rfl
  | succ k =>
    rw [Dev.passSkips]
    dsimp only
    by_cases hc : (d.ring r).count = 0
    · rw [if_pos (beq_iff_eq.mpr hc)]
    · obtain ⟨hkind, hlen⟩ := h.resolve_left hc
      rw [if_neg (by simpa using hc), hkind, if_neg (by decide), if_neg (by simpa using hlen)]

/-- The length of the item whose head lies at CI, and the kind of its entry. -/
def Dev.headLen (d : Dev) (r : Nat) : Nat := fld (Mem.getBytes 0 d.hst.mem ((d.ringCfg r).at (d.ring r).ci) 4) 2 2
def Dev.headKind (d : Dev) (r : Nat) : Nat := byteAt (Mem.getBytes 0 d.hst.mem ((d.ringCfg r).at (d.ring r).ci) 4) 0

/-- What QGET does once it has found the head of a ring: the item taken, left, or not there (R273). -/
def Dev.takeItem (d : Dev) (p rd a room r : Nat) : Dev :=
  if (d.ring r).count == 0 || (d.ring r).count < itemEntries (d.headLen r) then d.queueEnds p rd 0#32 false 0
  else if d.headKind r != 1 then d.queueEnds p rd 0#32 false 0
  else if room < d.headLen r then d.queueEnds p rd (0x40000000#32 + BitVec.ofNat 32 (d.headLen r)) false 0
  else ((d.dramWrite p (dramOff a) (d.ringItem r (d.headLen r))).setRing r
    (fun x => { x with ci := (x.ci + itemEntries (d.headLen r)) % 65536 })).queueEnds p rd
      (0x80000000#32 + BitVec.ofNat 32 (d.headLen r)) false (d.headLen r)

/-- QGET of a ring that its engine has bound and where no skip entry lies at CI. -/
theorem State.run_qget {s : State} {p rd rs1 rs2 r room a : Nat} (h : s.dev.executes p = true) (ha : ((s.regs p).get rs1).toNat = a)
    (harg : queueArg ((s.regs p).get rs2) = (room, r, true)) (hrange : dramRange a room = true)
    (hopen : s.dev.peReach p 4 = true ∧ s.dev.isOn (ringFid r) = true ∧ (s.dev.ringCfg r).dir = 2)
    (hbound : (s.dev.ring r).bound = some (s.dev.leOf p)) (hskip : Dev.passSkips r (s.dev.ring r).count s.dev = s.dev) :
    s.run (Dev.qget p rd rs1 rs2) = s.run (Dev.issue p (fun d => d.takeItem p rd a room r)) := by
  obtain ⟨hreach, hon, hdir⟩ := hopen
  have hfix : s.dev.setRing r (fun x => { x with bound := some (s.dev.leOf p) }) = s.dev := by
    have : upd s.dev.hst.rings r (fun x => { x with bound := some (s.dev.leOf p) }) = s.dev.hst.rings :=
      upd_fix _ _ _ {} (by rw [← hbound]; rfl)
    simp only [Dev.setRing, Dev.setHst, this]
  refine State.run_congr (Dev.issue_congr (g := fun d => d.takeItem p rd a room r) h ?_)
  dsimp only
  rw [show (s.dev.pe p).regs = s.regs p from rfl, harg]
  dsimp only
  rw [ha, hrange, hreach, hon, hdir, hbound, hfix, hskip]
  simp only [Bool.not_true, Bool.false_eq_true, if_false, Option.isSome_some, bne_self_eq_false, Bool.and_false, Bool.or_false]
  rfl

/-- QPUT of an item into a ring that is ON. -/
theorem State.run_qput {s : State} {p rd rs1 rs2 r n a : Nat} (h : s.dev.executes p = true) (ha : ((s.regs p).get rs1).toNat = a)
    (harg : queueArg ((s.regs p).get rs2) = (n, r, true)) (hrange : dramRange a n = true)
    (hopen : s.dev.peReach p 4 = true ∧ s.dev.isOn (ringFid r) = true ∧ (s.dev.ringCfg r).dir = 1) {ok : Bool} {x : Hst}
    (hput : s.dev.ringPut r (.le (s.dev.leOf p)) 1 (s.dev.leOf p) (Mem.getBytes 0 (s.dev.pe p).dram (dramOff a) n) =
      (ok, { s.dev with hst := x })) :
    ∃ t, s.run (Dev.qput p rd rs1 rs2) = .next t ∧ t.regs p = { ((s.regs p).result rd (if ok then 0#32 else 1#32)) with t := false } ∧
      t.pending = s.pending ∧ t.dev.hst = x := by
  obtain ⟨hreach, hon, hdir⟩ := hopen
  have hqueue : Dev.issue p (fun d => Dev.queueEnds { s.dev with hst := x } p rd (if ok then 0#32 else 1#32) false 0) s.dev =
      Dev.qput p rd rs1 rs2 s.dev := by
    refine Dev.issue_congr h ?_
    dsimp only
    rw [show (s.dev.pe p).regs = s.regs p from rfl, harg]
    dsimp only
    rw [ha, hrange, hreach, hon, hdir, hput]
    rfl
  rw [← State.run_congr hqueue]
  obtain ⟨t, hrun, hregs, hpending, hhst, -⟩ := State.run_queueEnds h
    (f := fun _ => Dev.queueEnds { s.dev with hst := x } p rd (if ok then 0#32 else 1#32) false 0) rfl rfl rfl rfl
  exact ⟨t, hrun, hregs, hpending, hhst⟩

end Sys2Proof.Machine
end

section
/-! The obligations of the queue instructions (6, 10). -/

namespace Sys2Proof.EngineMemory

open Sys2Proof.Machine

/-- Settles O11: the item is reserved, written and published in one step, or counted as lost. -/
theorem qputPublishesOrDiscards : Obligations.QputPublishesOrDiscards := by
  intro s pe rd rs1 rs2 h g d a n r l k x ok hn hr hlen hrange hreach hon hdir hresv
  have harg := queueArg_eq hn hr
  have hdata : (Mem.getBytes 0 (s.dev.pe pe).dram (dramOff a) n).length = n := Mem.getBytes_length ..
  have hpending : x.pendingEntries = 0 := by simp [Ring.pendingEntries, hresv]
  refine ⟨fun hfits => ?_, fun hlacks => ?_⟩
  · obtain ⟨y, hput, hmem, hpi, hci⟩ := Dev.ringPut_fits s.dev (.le l) 1 l (Mem.getBytes 0 (s.dev.pe pe).dram (dramOff a) n) hlen hresv
      (by rw [hdata]; exact hfits)
    rw [hdata] at hpi
    obtain ⟨t, hrun, hregs, hpend, rfl⟩ := State.run_qput (rd := rd) h rfl harg (dramRange_of hrange) ⟨hreach, hon, hdir⟩ hput
    exact ⟨t, ⟨hrun, hregs, hpend⟩, hmem, hpi, hci⟩
  · have hpos := itemEntries_pos n
    obtain ⟨y, hput, hmem, hpi, hlost⟩ := Dev.ringPut_lacks s.dev (.le l) 1 l (Mem.getBytes 0 (s.dev.pe pe).dram (dramOff a) n) hlen (by
      rw [hdata]
      show x.free (d.ringCfg r).entries < k
      rw [Ring.free, hpending]
      omega)
    obtain ⟨t, hrun, hregs, hpend, rfl⟩ := State.run_qput (rd := rd) h rfl harg (dramRange_of hrange) ⟨hreach, hon, hdir⟩ hput
    exact ⟨t, ⟨hrun, hregs, hpend⟩, hmem, hpi, hlost⟩

/-- Settles O12: no skip entry lies before the item, so that its head decides. -/
theorem qgetTakesTheOldestItem : Obligations.QgetTakesTheOldestItem := by
  intro s pe rd rs1 rs2 h g d a room r l x head n ok hroom hr hlen hrange hreach hon hdir hbound hwf
  obtain ⟨hp, -⟩ := Dev.executes_cases _ _ h
  have hrun := fun hskip => State.run_qget (rd := rd) h rfl (queueArg_eq hroom hr) (dramRange_of hrange) ⟨hreach, hon, hdir⟩ hbound hskip
  refine ⟨fun hempty => ?_, fun hkind hmax hcount hfull => ⟨fun htakes => ?_, fun hlong => ?_⟩⟩
  · have hskip : Dev.passSkips r (s.dev.ring r).count s.dev = s.dev := Dev.passSkips_eq (.inl hempty) _
    have htake : s.dev.takeItem pe rd a room r = s.dev.queueEnds pe rd 0#32 false 0 := if_pos (by
      rw [Bool.or_eq_true, beq_iff_eq]
      exact .inl hempty)
    obtain ⟨t, hnext, hregs, hpend, hhst, -⟩ := State.run_queueEnds (f := fun d => d.takeItem pe rd a room r) h htake rfl rfl rfl
    refine ⟨t, ⟨(hrun hskip).trans hnext, hregs, by rw [hhst], hpend⟩, ?_⟩
    rw [Dev.ring, hhst]
    rfl
  all_goals
    have hskip : Dev.passSkips r (s.dev.ring r).count s.dev = s.dev := Dev.passSkips_eq (.inr ⟨hkind, hmax⟩) _
    have hthere : ¬ (((s.dev.ring r).count == 0 || decide ((s.dev.ring r).count < itemEntries n)) = true) := by
      simpa using ⟨hcount, hfull⟩
    have hitem : ¬ ((s.dev.headKind r != 1) = true) := by
      rw [show s.dev.headKind r = 1 from hkind]
      decide
  · have htake : s.dev.takeItem pe rd a room r =
        ((s.dev.dramWrite pe (dramOff a) (s.dev.ringItem r n)).setRing r (fun x => { x with ci := (x.ci + itemEntries n) % 65536 })).queueEnds
          pe rd (0x80000000#32 + BitVec.ofNat 32 n) false n :=
      (if_neg hthere).trans ((if_neg hitem).trans (if_neg (not_lt.mpr htakes)))
    obtain ⟨t, hnext, hregs, hpend, hhst, hdram⟩ := State.run_queueEnds (f := fun d => d.takeItem pe rd a room r) h htake rfl
      (upd_length _ _ _) (Dev.pe_setPe_keeps (·.regs) (by intro e; rfl) _ _ _)
    have hwritten : (t.dev.pe pe).dram = Mem.setBytes 0 (s.dev.pe pe).dram (dramOff a) (s.dev.ringItem r n) := by
      rw [hdram]
      exact (congrArg (fun e : Pe => e.dram) (Dev.pe_setPe_same s.dev pe _ hp) :)
    refine ⟨t, ⟨(hrun hskip).trans hnext, hregs, by rw [hhst]; rfl, hpend⟩, ?_, ?_, fun y hy => ?_⟩
    · rw [Dev.ring, hhst]
      exact (congrArg Ring.ci (Dev.ring_setRing_same (s.dev.dramWrite pe (dramOff a) (s.dev.ringItem r n)) r _ hlen) :)
    · rw [hwritten]
      have := Mem.getBytes_setBytes 0 (s.dev.pe pe).dram (dramOff a) (s.dev.ringItem r n) hwf
      rwa [Dev.ringItem_length] at this
    · rw [hwritten]
      exact Mem.get_setBytes_out _ _ _ _ _ (by rwa [Dev.ringItem_length])
  · have htake : s.dev.takeItem pe rd a room r = s.dev.queueEnds pe rd (0x40000000#32 + BitVec.ofNat 32 n) false 0 :=
      (if_neg hthere).trans ((if_neg hitem).trans (if_pos hlong))
    obtain ⟨t, hnext, hregs, hpend, hhst, hdram⟩ := State.run_queueEnds (f := fun d => d.takeItem pe rd a room r) h htake rfl rfl rfl
    refine ⟨t, ⟨(hrun hskip).trans hnext, hregs, by rw [hhst], hpend⟩, ?_, hdram⟩
    rw [Dev.ring, hhst]
    rfl

end Sys2Proof.EngineMemory
end

section
/-! SUPPORT. Port reads and writes of an engine that executes (R244), each as the state after it. -/

namespace Sys2Proof.Machine

section Ports

variable {s : State} {p n : Nat} (h : s.dev.executes p = true)
include h

/-- An effect that leaves the keys and the engine's registers shows as `afterPort`. -/
theorem State.afterEffect_eq {d : Dev} (hsec : d.sec = s.dev.sec) (hregs : (d.pe p).regs = s.regs p)
    (hlen : d.eng.pes.length = s.dev.eng.pes.length) : s.afterEffect p d = s.afterPort p d := by
  obtain ⟨hp, -, -, hpc, -⟩ := Dev.executes_cases _ _ h
  have := State.run_issue (f := fun _ => d.setRegs p (fun g => { g with pc := g.pc + 4 })) h rfl hsec (by
    rw [Dev.setRegs, Dev.pe_setPe_same _ _ _ (hlen ▸ hp)]
    simp only [hregs]
    exact hpc)
  exact Host.Outcome.next.inj this

theorem State.run_pout_effect {v : Word} {d : Dev} (hw : s.dev.portWrite p n v = .ok d) :
    s.run (Dev.poutTo p n v) = .next (s.afterEffect p d) :=
  State.run_congr (f := Dev.poutTo p n v) (g := Dev.issue p (fun _ => d.setRegs p (fun g => { g with pc := g.pc + 4 })))
    (Dev.issue_congr (g := fun _ => d.setRegs p (fun g => { g with pc := g.pc + 4 })) h (by simp only [hw]; rfl))

/-- The same where the word written depends on the state. -/
theorem State.run_pout_of {v : Dev → Word} {d : Dev} (hw : s.dev.portWrite p n (v s.dev) = .ok d) :
    s.run (fun e => e.poutTo p n (v e)) = .next (s.afterEffect p d) :=
  (State.run_congr (f := fun e => e.poutTo p n (v e)) (g := Dev.poutTo p n (v s.dev)) rfl).trans (State.run_pout_effect h hw)

theorem State.run_pout_ok {v : Word} {d : Dev} (hw : s.dev.portWrite p n v = .ok d) (hsec : d.sec = s.dev.sec)
    (hregs : (d.pe p).regs = s.regs p) (hlen : d.eng.pes.length = s.dev.eng.pes.length) :
    s.run (Dev.poutTo p n v) = .next (s.afterPort p d) := by
  rw [State.run_pout_effect h hw, State.afterEffect_eq h hsec hregs hlen]

/-- A write that changes the engine's ports alone. -/
theorem State.run_pout_setPorts {v : Word} {f : EPorts → EPorts} (hw : s.dev.portWrite p n v = .ok (s.dev.setPorts p f)) :
    s.run (Dev.poutTo p n v) = .next (s.afterPort p (s.dev.setPorts p f)) :=
  State.run_pout_ok h hw rfl (Dev.pe_setPe_keeps (·.regs) (by intro e; rfl) _ _ _) (upd_length _ _ _)

theorem State.run_pout_fault {v : Word} {c : Nat} (hw : s.dev.portWrite p n v = .fault c) :
    s.run (Dev.poutTo p n v) = s.run (Dev.issue p (fun d => d.engineFault p 3 c)) :=
  State.run_congr (f := Dev.poutTo p n v) (Dev.issue_congr (g := fun d => d.engineFault p 3 c) h (by simp only [hw]))

/-- An engine that nothing stalls takes an event in its ports alone (R229). -/
theorem Dev.poisonWrite_regs : ((s.dev.poisonWrite p).pe p).regs = s.regs p := by
  obtain ⟨hp, hrun, hstall, -⟩ := Dev.executes_cases _ _ h
  have hpsn := Dev.pe_setPe_same s.dev p (fun e => { e with ports := { e.ports with psn := true } }) hp
  have hlen : p < (s.dev.setPorts p (fun q => { q with psn := true })).eng.pes.length := (upd_length _ _ _).symm ▸ hp
  have hpoison : s.dev.poisonWrite p = (s.dev.setPorts p (fun q => { q with psn := true })).setPend p 23 :=
    if_pos ((congrArg (fun e : Pe => e.running) hpsn).trans hrun)
  rw [hpoison, Dev.setPend, Dev.pe_setPe_same _ _ _ hlen]
  rw [show (s.dev.setPorts p (fun q => { q with psn := true })).pe p = _ from hpsn]
  simp [Pe.endWait, hstall, State.regs]

theorem State.run_pout_poison {v : Word} (hw : s.dev.portWrite p n v = .poison) :
    s.run (Dev.poutTo p n v) = .next (s.afterPort p (s.dev.poisonWrite p)) := by
  have hframe : (s.dev.poisonWrite p).sec = s.dev.sec ∧ (s.dev.poisonWrite p).eng.pes.length = s.dev.eng.pes.length := by
    unfold Dev.poisonWrite Dev.raiseLocal
    split
    · exact ⟨rfl, (upd_length _ _ _).trans (upd_length _ _ _)⟩
    · exact ⟨rfl, upd_length _ _ _⟩
  rw [← State.afterEffect_eq h hframe.1 (Dev.poisonWrite_regs h) hframe.2]
  exact State.run_congr (f := Dev.poutTo p n v)
    (Dev.issue_congr (g := fun _ => (s.dev.poisonWrite p).setRegs p (fun g => { g with pc := g.pc + 4 })) h (by simp only [hw]; rfl))

theorem State.run_pin {rd v : Nat} {d : Dev} (hr : s.dev.portRead p n = (.data v, d)) (hsec : d.sec = s.dev.sec)
    (hregs : (d.pe p).regs = s.regs p) (hlen : d.eng.pes.length = s.dev.eng.pes.length) :
    s.run (Dev.pinTo p rd n) = .next (s.afterRead p rd (BitVec.ofNat 32 v) d) := by
  obtain ⟨hp, -, -, hpc, -⟩ := Dev.executes_cases _ _ h
  have hloaded : (d.peLog p 16).setRegs p (fun g => g.loaded rd (BitVec.ofNat 32 v) false) =
      (d.peLog p 16).setRegs p (fun g => { (g.result rd (BitVec.ofNat 32 v)) with t := false }) :=
    Dev.setRegs_congr _ _ _ _ (Regs.loaded_eq ..)
  refine State.run_issue h ?_ ((Dev.peLog_sec ..).trans hsec) ?_
  · rw [hr]
    exact hloaded
  · rw [Dev.setRegs, Dev.pe_setPe_same _ _ _ (by simpa [hlen] using hp), Dev.peLog_regs, hregs]
    exact hpc

end Ports

/-! ## The engine island's ports (R246 to R258) -/

theorem portWrite_timer (d : Dev) (p : Nat) (n : Fin 4) (v : Word) :
    d.portWrite p (0x10 + 8 * n) v = .ok (d.setTmr p n (fun t => t.arm v)) := by
  fin_cases n <;> rfl

/-- Only the two low bits of TYP_SUSP count. -/
theorem Dev.typSuspWrite_mod (d : Dev) (p v : Nat) : d.typSuspWrite p (v % 2 ^ 32) = d.typSuspWrite p v := by
  have hbit (i : Nat) (hi : i < 2) : bit (v % 2 ^ 32) i = bit v i := by
    rw [bit, Nat.testBit_mod_two_pow, decide_eq_true (by omega), Bool.true_and]
    rfl
  have hlow : v % 2 ^ 32 % 4 = v % 4 := by omega
  have hforN (e : Dev) (f g : Dev → Nat → Dev) (hfg : ∀ e i, i < 2 → f e i = g e i) : forN 2 e f = forN 2 e g := by
    simp only [forN, List.range_succ, List.range_zero, List.nil_append, List.foldl_append, List.foldl_cons, List.foldl_nil]
    rw [hfg e 0 (by decide), hfg _ 1 (by decide)]
  rw [Dev.typSuspWrite, Dev.typSuspWrite, hlow]
  exact hforN _ _ _ fun e i hi => by rw [hbit i hi]

theorem Dev.portWrite_typSusp {d : Dev} {p : Nat} (h : d.peReach p 6 = true) (v : Nat) :
    d.portWrite p 0x48 (BitVec.ofNat 32 v) = .ok (d.typSuspWrite p v) := by
  rw [← Dev.typSuspWrite_mod, ← BitVec.toNat_ofNat]
  exact (show d.portWrite p 0x48 (BitVec.ofNat 32 v) =
    if d.peReach p 6 then .ok (d.typSuspWrite p (BitVec.ofNat 32 v).toNat) else .poison from rfl).trans (if_pos h)

theorem Dev.rxPost_ok {d : Dev} {p n : Nat} (hfree : (d.pe p).ports.rxPosted.length < 16) (hlow : 64 ≤ n) (hhigh : n ≤ 9216)
    (halign : (d.pe p).ports.rxAddr % 4 = 0) (hdram : inDram (d.pe p).ports.rxAddr n = true) :
    d.rxPost p n = .ok (d.setPorts p (fun q => { q with
      rxPosted := q.rxPosted ++ [(q.rxNext, dramOff q.rxAddr, n)], rxNext := (q.rxNext + 1) % 16 })) := by
  refine if_neg ?_
  simp [hdram, halign]
  omega

theorem Dev.rxPost_poison {d : Dev} {p n : Nat} (h : 16 ≤ (d.pe p).ports.rxPosted.length ∨ n < 64 ∨ 9216 < n ∨
    (d.pe p).ports.rxAddr % 4 ≠ 0 ∨ inDram (d.pe p).ports.rxAddr n = false) : d.rxPost p n = .poison := by
  refine if_pos ?_
  simpa [or_assoc] using h

end Sys2Proof.Machine
end

section
/-! The obligations of the engine island's ports (9). -/

namespace Sys2Proof.EnginePorts

open Sys2Proof.Machine

/-- Settles O13: each port by its read or write, with the frame that shows the state whole. -/
theorem engineIslandPorts : Obligations.EngineIslandPorts := by
  intro s pe rd n v bank h d q f1 t
  obtain ⟨hp, -⟩ := Dev.executes_cases _ _ h
  refine ⟨?_, ?_, fun hlow hhigh => ?_, fun hbad => ?_, fun hkey => ?_, fun hkey => ?_, ?_, fun hfree hlow hhigh hal hstart hend => ?_,
    fun hbad => ?_, fun hnone => ?_, fun k i rest hdone => ?_, fun hreach => ⟨?_, ?_⟩⟩
  · have hread : s.dev.portRead pe 0x04 = (.data (t % 4294967296),
        (s.dev.accepted pe).2.setPorts pe (fun q => { q with snap := d.orr.reading t, lastTick := t })) := rfl
    have hword : BitVec.ofNat 32 (t % 4294967296) = BitVec.ofNat 32 t := BitVec.eq_of_toNat_eq (by simp)
    rw [← hword]
    refine State.run_pin h hread rfl ?_ ((upd_length _ _ _).trans (upd_length _ _ _))
    rw [Dev.setPorts, Dev.pe_setPe_keeps (·.regs) (by intro e; rfl), Dev.accepted_pe _ hp]
    rfl
  · exact State.run_pout_setPorts h (portWrite_timer s.dev pe n v)
  · refine State.run_pout_setPorts h (if_neg ?_)
    simp only [Bool.or_eq_true, decide_eq_true_eq]
    omega
  · refine State.run_pout_fault h (if_pos ?_)
    simpa only [Bool.or_eq_true, decide_eq_true_eq] using hbad
  · subst hkey
    exact State.run_pout_setPorts h rfl
  · refine State.run_pout_fault h (if_pos ?_)
    rw [bne_iff_ne]
    exact fun hv => hkey (BitVec.eq_of_toNat_eq hv)
  · have hset := Dev.setPe_congr s.dev pe (fun e => { e with ports := { e.ports with paramAddr := (q.paramAddr + 4) % 4096 } })
      (fun e => { e with ports := { e.ports with paramAddr := (e.ports.paramAddr + 4) % 4096 } }) rfl
    have hread : s.dev.portRead pe 0x3E = (.data (leVal (Mem.getBytes 0 (d.le (d.leOf pe)).params q.paramAddr 4)),
        s.dev.setPorts pe (fun q => { q with paramAddr := (q.paramAddr + 4) % 4096 })) := Prod.ext rfl hset
    exact State.run_pin h hread rfl (Dev.pe_setPe_keeps (·.regs) (by intro e; rfl) _ _ _) (upd_length _ _ _)
  · refine State.run_pout_setPorts h (Dev.rxPost_ok hfree hlow hhigh hal ?_)
    simpa [inDram] using ⟨hstart, hend⟩
  · refine State.run_pout_poison h (Dev.rxPost_poison ?_)
    have hin : q.rxAddr < 0x10000 ∨ 0x18000 < q.rxAddr + v.toNat → inDram q.rxAddr v.toNat = false := by
      simp only [inDram, Bool.and_eq_false_iff, decide_eq_false_iff_not]
      omega
    obtain hfull | hsmall | hbig | hal | hout := hbad
    · exact .inl hfull
    · exact .inr (.inl hsmall)
    · exact .inr (.inr (.inl hbig))
    · exact .inr (.inr (.inr (.inl hal)))
    · exact .inr (.inr (.inr (.inr (hin hout))))
  · have hread : s.dev.portRead pe 0x42 = (.data 0xFFFFFFFF, s.dev) := by
      show (Load.data (s.dev.rxDone pe).1, (s.dev.rxDone pe).2) = _
      simp [Dev.rxDone, show (s.dev.pe pe).ports.rxDone = [] from hnone]
    exact State.run_pin h hread rfl rfl rfl
  · have hread : s.dev.portRead pe 0x42 =
        (.data (k * 65536 + i), (s.dev.setPorts pe (fun q => { q with rxDone := rest })).peLog pe k) := by
      show (Load.data (s.dev.rxDone pe).1, (s.dev.rxDone pe).2) = _
      simp [Dev.rxDone, show (s.dev.pe pe).ports.rxDone = (k, i) :: rest from hdone]
    refine State.run_pin h hread ((Dev.peLog_sec ..).trans rfl) ?_ ((Dev.peLog_pes_length ..).trans (upd_length _ _ _))
    rw [Dev.peLog_regs]
    exact Dev.pe_setPe_keeps (·.regs) (by intro e; rfl) _ _ _
  · exact State.run_pout_of (v := fun d => BitVec.ofNat 32 ((d.pe pe).ports.typSusp ||| 2 ^ bank.val)) h (Dev.portWrite_typSusp hreach _)
  · exact State.run_pout_of (v := fun d => BitVec.ofNat 32 ((d.pe pe).ports.typSusp &&& (3 - 2 ^ bank.val))) h
      (Dev.portWrite_typSusp hreach _)

end Sys2Proof.EnginePorts
end

section
/-! SUPPORT. Quoins and events of an engine (R63, R247, R252, R253): what a raise leaves, and a quoin after its update. -/

namespace Sys2Proof.Machine

theorem updFirst_find {α : Type} (xs : List α) (p : α → Bool) (f : α → α) (hp : ∀ x, p x = true → p (f x) = true) :
    (updFirst xs p f).find? p = (xs.find? p).map f := by
  induction xs with
  | nil => rfl
  | cons x xs ih =>
    cases hx : p x
    · simp [updFirst, hx, ih]
    · simp [updFirst, hx, hp x hx]

/-- A quoin of the table after an update that keeps its kind and number. -/
theorem Dev.quoin_setQuoin {d : Dev} {kind inst : Nat} {f : Quoin → Quoin} (hkeeps : ∀ q, (f q).kind = q.kind ∧ (f q).inst = q.inst)
    (h : d.quoins.any (fun q => q.kind == kind && q.inst == inst) = true) :
    (d.setQuoin kind inst f).quoin kind inst = f (d.quoin kind inst) := by
  have hfind := updFirst_find d.quoins (fun q => q.kind == kind && q.inst == inst) f (fun q hq => by
    obtain ⟨hk, hi⟩ := hkeeps q
    rw [hk, hi]
    exact hq)
  obtain ⟨q, hq⟩ := Option.isSome_iff_exists.mp (List.find?_isSome.mpr (List.any_eq_true.mp h))
  simp only [Dev.quoin, Dev.setQuoin, hfind, hq, Option.map_some, Option.getD_some]

theorem Quoin.start_keeps (q : Quoin) (t : Nat) :
    (q.start t).kind = q.kind ∧ (q.start t).inst = q.inst ∧ (q.start t).owner = q.owner ∧ (q.start t).lease = q.lease ∧
      (q.start t).gen = q.gen := by
  unfold Quoin.start
  split <;> exact ⟨rfl, rfl, rfl, rfl, rfl⟩

/-- The granted quoin. -/
theorem Dev.quoin_grant {d : Dev} {kind inst : Nat} (o : Owner) (lease slot : Nat)
    (h : d.quoins.any (fun q => q.kind == kind && q.inst == inst) = true) :
    ((d.grant kind inst o lease slot).quoin kind inst).owner = some o ∧
      ((d.grant kind inst o lease slot).quoin kind inst).lease = d.leaseOf kind lease ∧
      ((d.grant kind inst o lease slot).quoin kind inst).gen = (d.quoin kind inst).gen := by
  have hkeeps (q : Quoin) := Quoin.start_keeps { q with owner := some o, lease := d.leaseOf kind lease, slot := slot } d.tick
  rw [Dev.grant, Dev.quoin_setQuoin (fun q => ⟨(hkeeps q).1, (hkeeps q).2.1⟩) h]
  exact ⟨(hkeeps _).2.2.1, (hkeeps _).2.2.2.1, (hkeeps _).2.2.2.2⟩

/-- An update of one engine keeps a view of every engine when it keeps that engine's. -/
theorem Dev.pe_setPe_keeps_at {α : Type} (v : Pe → α) {f : Pe → Pe} {d : Dev} {p : Nat} (hf : v (f (d.pe p)) = v (d.pe p)) (q : Nat) :
    v ((d.setPe p f).pe q) = v (d.pe q) := by
  by_cases hq : p = q
  · subst hq
    by_cases hlen : p < d.eng.pes.length
    · rw [Dev.pe_setPe_same _ _ _ hlen, hf]
    · have hout (xs : List Pe) (hxs : xs.length = d.eng.pes.length) : xs.getD p {} = {} := by
        rw [List.getD_eq_default _ _ (by omega)]
      exact congrArg v ((hout _ (upd_length _ _ _)).trans (hout _ rfl).symm :)
  · rw [Dev.pe_setPe_ne _ _ _ _ hq]

theorem Dev.toggle_shape (d : Dev) (src dst ev : Nat) : ∃ ts is, (d.toggle src dst ev).2 = { d with toggles := ts, islands := is } := by
  unfold Dev.toggle
  dsimp only
  split
  · exact ⟨_, _, rfl⟩
  · split
    · exact ⟨_, _, rfl⟩
    · simp only [apply_ite Prod.snd]
      split_ifs <;> exact ⟨_, _, rfl⟩

/-- What an event leaves alone: the registers of every engine that nothing stalls, and all beside the engines and the crossings. -/
theorem Dev.raise_shape (d : Dev) (src p b : Nat) : ∃ ts is, ∃ f : Pe → Pe,
    d.raise src p b = ({ d with toggles := ts, islands := is } : Dev).setPe p f ∧ ∀ e, e.stall = .none → (f e).regs = e.regs := by
  have hfix : d = ({ d with toggles := d.toggles, islands := d.islands } : Dev).setPe p id := (Dev.setPe_fix _ _ _ rfl).symm
  unfold Dev.raise
  obtain ⟨ts, is, htoggle⟩ := d.toggle_shape src (peIsland p) b
  dsimp only
  rw [htoggle]
  split
  · exact ⟨_, _, id, hfix, fun _ _ => rfl⟩
  · split
    · exact ⟨ts, is, _, rfl, fun e he => by simp [Pe.endWait, he]⟩
    · split
      · exact ⟨ts, is, _, rfl, fun _ _ => rfl⟩
      · exact ⟨ts, is, id, (Dev.setPe_fix _ _ _ rfl).symm, fun _ _ => rfl⟩

theorem Dev.raiseLe_keeps (d : Dev) (src l b : Nat) :
    (d.raiseLe src l b).quoins = d.quoins ∧ (d.raiseLe src l b).eng.les = d.eng.les ∧ (d.raiseLe src l b).sec = d.sec ∧
      (d.raiseLe src l b).eng.pes.length = d.eng.pes.length ∧
      ∀ p, (d.pe p).stall = .none → ((d.raiseLe src l b).pe p).regs = (d.pe p).regs := by
  unfold Dev.raiseLe
  split
  · rename_i q _
    obtain ⟨ts, is, f, hraise, hregs⟩ := d.raise_shape src q b
    rw [hraise]
    refine ⟨rfl, rfl, rfl, upd_length _ _ _, fun p hp => ?_⟩
    by_cases hq : q = p
    · subst hq
      exact Dev.pe_setPe_keeps_at (d := { d with toggles := ts, islands := is }) (·.regs) (hregs _ hp) q
    · exact congrArg (·.regs) (Dev.pe_setPe_ne _ _ _ _ hq :)
  · exact ⟨rfl, rfl, rfl, rfl, fun _ _ => rfl⟩

theorem find_range_lt {n i : Nat} {p : Nat → Bool} (h : (List.range n).find? p = some i) : i < n :=
  List.mem_range.mp (List.mem_of_find?_eq_some h)

theorem Dev.slot_setSlot {d : Dev} {l i : Nat} (f : QSlot → QSlot) (hl : l < d.eng.les.length) (hi : i < (d.le l).qslots.length) :
    ((d.setSlot l i f).le l).qslots.getD i {} = f ((d.le l).qslots.getD i {}) := by
  rw [Dev.setSlot, show (d.setLe l _).le l = _ from upd_getD_same _ _ _ _ hl]
  exact upd_getD_same _ _ _ _ hi

/-- A request that finds its quoin free: the grant (R252). -/
theorem Dev.qreq_grants {d : Dev} {l kind inst lease i : Nat} (hkind : kind ≠ 7) (hslot : (d.le l).slotOf kind inst = none)
    (hfree : (d.le l).freeSlot = some i) (hwaits : ∀ q ∈ (d.le l).qslots, q.st ≠ 2) (hinst : reqInstance kind inst = true)
    (hlease : reqLease kind lease = true) (howner : (d.quoin kind inst).owner = none) :
    d.qreq l kind inst lease = (d.grant kind inst (.le l) lease i).tellGrant (.le l) kind inst i := by
  have hany : (d.le l).qslots.any (fun s => s.st == 2) = false := List.any_eq_false.mpr fun q hq => by simpa using hwaits q hq
  simp [Dev.qreq, hslot, hfree, hinst, hlease, hany, hkind, howner]

/-- A request for what is held (R253). -/
theorem Dev.qreq_renews {d : Dev} {l kind inst lease i : Nat} (hkind : kind ≠ 7) (hslot : (d.le l).slotOf kind inst = some i)
    (hst : ((d.le l).qslots.getD i {}).st = 1) : d.qreq l kind inst lease = d.renew kind inst := by
  simp only [Dev.qreq, hslot, hst, beq_self_eq_true, Bool.true_and, bne_iff_ne.mpr hkind, if_true]

/-- A quoin freed under its next generation. -/
def Quoin.freed (q : Quoin) : Quoin := { q with owner := none, gen := (q.gen + 1) % 65536, expiry := 0, cycles := 0 }

theorem Dev.freeQuoin_eq (d : Dev) (kind inst : Nat) : d.freeQuoin kind inst = d.setQuoin kind inst Quoin.freed := rfl

/-- A held quoin released where none waits: free under its next generation, its slot free, and the rest of the engines as it was. -/
theorem Dev.qrel_frees {d : Dev} {l kind inst i : Nat} (hkind : kind ≠ 7) (hslot : (d.le l).slotOf kind inst = some i)
    (hst : ((d.le l).qslots.getD i {}).st = 1) (hqueue : (d.quoin kind inst).queue = [])
    (hmem : d.quoins.any (fun q => q.kind == kind && q.inst == inst) = true) :
    ∃ doms, d.qrel l kind inst = (({ d.setSlot l i (fun s => { s with st := 0, gen := (s.gen + 1) % 65536 }) with
      doms := doms } : Dev).freeQuoin kind inst) := by
  have hgrant (e : Dev) (hquoins : e.quoins = d.quoins) : e.release kind inst = e.freeQuoin kind inst := by
    have hq : (e.freeQuoin kind inst).quoin kind inst = (e.quoin kind inst).freed :=
      Dev.quoin_setQuoin (f := Quoin.freed) (fun q => ⟨rfl, rfl⟩) (hquoins ▸ hmem)
    have hold : e.quoin kind inst = d.quoin kind inst := by simp only [Dev.quoin, hquoins]
    rw [Dev.release, Dev.grantNext, hq, hold]
    simp [Quoin.freed, hqueue]
  by_cases hdoms : kind = 9
  · refine ⟨_, Eq.trans ?_ (hgrant ({ d.setSlot l i (fun s => { s with st := 0, gen := (s.gen + 1) % 65536 }) with
      doms := upd d.doms inst (fun x => { x with committed := x.standby }) } : Dev) rfl)⟩
    subst hdoms
    simp only [Dev.qrel, hslot, hst, beq_self_eq_true, if_true]
    rfl
  · refine ⟨d.doms, Eq.trans ?_ (hgrant (d.setSlot l i (fun s => { s with st := 0, gen := (s.gen + 1) % 65536 })) rfl)⟩
    simp only [Dev.qrel, hslot, hst, beq_false_of_ne hkind, beq_false_of_ne hdoms]
    rfl

end Sys2Proof.Machine
end

section
/-! The obligation of quoins and PLATE_CTL (R252, R253, R235, R236). -/

namespace Sys2Proof.EnginePorts

open Sys2Proof.Machine

theorem kind_of_word (v : Word) : bits v.toNat 24 8 = v.toNat / 2 ^ 24 := by
  have := v.isLt
  unfold bits
  omega

/-- The state after a port write whose effect keeps the engine's registers, through which the pc moves on. -/
theorem pc_afterPort {s : State} {p : Nat} {d : Dev} (hlen : p < d.eng.pes.length) (hregs : (d.pe p).regs = s.regs p) :
    ((s.afterPort p d).regs p).pc = (s.regs p).pc + 4 := by
  rw [State.afterPort, State.regs, Dev.setRegs, Dev.pe_setPe_same _ _ _ hlen, ← hregs]

theorem portWrite_qreq (d : Dev) (p : Nat) (v : Word) :
    d.portWrite p 0x34 v = .ok (d.qreq (d.leOf p) (v.toNat / 2 ^ 24) (v.toNat / 256 % 65536) (d.pe p).ports.qlease) := by
  rw [← kind_of_word]
  rfl

theorem portWrite_qrel (d : Dev) (p : Nat) (v : Word) :
    d.portWrite p 0x35 v = .ok (d.qrel (d.leOf p) (v.toNat / 2 ^ 24) (v.toNat / 256 % 65536)) := by
  rw [← kind_of_word]
  rfl

section Quoins

variable {s : State} {p kind inst i : Nat} {v : Word} (h : s.dev.executes p = true)
  (hkind : kind ≠ 7)
  (hmem : s.dev.quoins.any (fun q => q.kind == kind && q.inst == inst) = true)
  (hk : v.toNat / 2 ^ 24 = kind) (hi : v.toNat / 256 % 65536 = inst)
include h hkind hmem hk hi

theorem qreq_granted (hle : s.dev.leOf p < s.dev.eng.les.length) (hslots : (s.dev.le (s.dev.leOf p)).qslots.length = 16)
    (hslot : (s.dev.le (s.dev.leOf p)).slotOf kind inst = none)
    (hfree : (s.dev.le (s.dev.leOf p)).freeSlot = some i) (hwaits : ∀ q ∈ (s.dev.le (s.dev.leOf p)).qslots, q.st ≠ 2)
    (hinst : reqInstance kind inst = true) (hlease : reqLease kind (s.dev.pe p).ports.qlease = true)
    (howner : (s.dev.quoin kind inst).owner = none) :
    ∃ t, s.run (Dev.poutTo p 0x34 v) = .next t ∧ (t.dev.quoin kind inst).owner = some (.le (s.dev.leOf p)) ∧
      (t.dev.quoin kind inst).lease = s.dev.leaseOf kind (s.dev.pe p).ports.qlease ∧
      ((t.dev.le (s.dev.leOf p)).qslots.getD i {}) = { st := 1, kind := kind, inst := inst, gen := (s.dev.quoin kind inst).gen } ∧
      (t.regs p).pc = (s.regs p).pc + 4 := by
  obtain ⟨hp, -, hstall, -⟩ := Dev.executes_cases _ _ h
  let g := s.dev.grant kind inst (.le (s.dev.leOf p)) (s.dev.pe p).ports.qlease i
  obtain ⟨hgowner, hglease, hggen⟩ := Dev.quoin_grant (.le (s.dev.leOf p)) (s.dev.pe p).ports.qlease i hmem
  let e := g.setSlot (s.dev.leOf p) i (fun _ => { st := 1, kind := kind, inst := inst, gen := (g.quoin kind inst).gen })
  obtain ⟨hquoins, hles, hsec, hlen, hregs⟩ := e.raiseLe_keeps 0x01 (s.dev.leOf p) 11
  have hquoin : (e.raiseLe 0x01 (s.dev.leOf p) 11).quoin kind inst = g.quoin kind inst := by rw [Dev.quoin, hquoins]; rfl
  have hregs' : ((e.raiseLe 0x01 (s.dev.leOf p) 11).pe p).regs = s.regs p := hregs p hstall
  refine ⟨_, State.run_pout_ok h ?_ hsec hregs' hlen, ?_, ?_, ?_, ?_⟩
  · rw [portWrite_qreq, hk, hi, Dev.qreq_grants hkind hslot hfree hwaits hinst hlease howner]
    rfl
  · exact (congrArg (·.owner) hquoin).trans hgowner
  · exact (congrArg (·.lease) hquoin).trans hglease
  · have hslot' := Dev.slot_setSlot (d := g) (fun _ => { st := 1, kind := kind, inst := inst, gen := (g.quoin kind inst).gen }) hle
      (hslots ▸ find_range_lt hfree)
    rw [hggen] at hslot'
    refine Eq.trans ?_ hslot'
    rw [← hggen]
    exact (congrArg (fun xs : List Le => (xs.getD (s.dev.leOf p) {}).qslots.getD i {}) hles :)
  · exact pc_afterPort (hlen ▸ hp) hregs'

omit hmem in
theorem qreq_renewed (hslot : (s.dev.le (s.dev.leOf p)).slotOf kind inst = some i)
    (hst : ((s.dev.le (s.dev.leOf p)).qslots.getD i {}).st = 1) :
    s.run (Dev.poutTo p 0x34 v) = .next (s.afterPort p (s.dev.renew kind inst)) := by
  refine State.run_pout_ok h ?_ rfl rfl rfl
  rw [portWrite_qreq, hk, hi, Dev.qreq_renews hkind hslot hst]

theorem qrel_freed (hle : s.dev.leOf p < s.dev.eng.les.length) (hslots : (s.dev.le (s.dev.leOf p)).qslots.length = 16)
    (hslot : (s.dev.le (s.dev.leOf p)).slotOf kind inst = some i)
    (hst : ((s.dev.le (s.dev.leOf p)).qslots.getD i {}).st = 1) (hqueue : (s.dev.quoin kind inst).queue = []) :
    ∃ t, s.run (Dev.poutTo p 0x35 v) = .next t ∧ (t.dev.quoin kind inst).owner = none ∧
      (t.dev.quoin kind inst).gen = ((s.dev.quoin kind inst).gen + 1) % 65536 ∧
      ((t.dev.le (s.dev.leOf p)).qslots.getD i {}).st = 0 ∧ (t.regs p).pc = (s.regs p).pc + 4 := by
  obtain ⟨hp, -⟩ := Dev.executes_cases _ _ h
  obtain ⟨doms, hrel⟩ := Dev.qrel_frees hkind hslot hst hqueue hmem
  let e : Dev := { s.dev.setSlot (s.dev.leOf p) i (fun s => { s with st := 0, gen := (s.gen + 1) % 65536 }) with doms := doms }
  have hquoin : (e.freeQuoin kind inst).quoin kind inst = (s.dev.quoin kind inst).freed :=
    Dev.quoin_setQuoin (d := e) (f := Quoin.freed) (fun _ => ⟨rfl, rfl⟩) hmem
  have hwrite : s.dev.portWrite p 0x35 v = .ok (e.freeQuoin kind inst) := by rw [portWrite_qrel, hk, hi, hrel]
  refine ⟨_, State.run_pout_ok h hwrite rfl rfl rfl, ?_, ?_, ?_, pc_afterPort hp rfl⟩
  · exact (congrArg Quoin.owner hquoin :)
  · exact (congrArg Quoin.gen hquoin :)
  · exact (congrArg (·.st) (Dev.slot_setSlot (d := s.dev) (fun s => { s with st := 0, gen := (s.gen + 1) % 65536 }) hle
      (hslots ▸ find_range_lt hslot)) :)

end Quoins

/-- PLATE_CTL as `Dev.plateCtl` answers it. -/
theorem portWrite_plateCtl (d : Dev) (p : Nat) (v : Word) : d.portWrite p 0x3B v = d.plateCtl p v.toNat := rfl

theorem plateCtl_poison {d : Dev} {p : Nat} (v : Nat) (h : d.peWrites p (d.pe p).ports.plateSel = false) : d.plateCtl p v = .poison := by
  simp [Dev.plateCtl, h]

/-- Settles O14: the quoin's grant, renewal and release, then PLATE_CTL by the writer and by another. -/
theorem quoinAndPlatePorts : Obligations.QuoinAndPlatePorts := by
  refine ⟨?_, ?_⟩
  · intro s pe v h d l kind inst x lease hle hslots hkind hmem
    refine ⟨fun i hslot hfree hwaits hinst hlease howner => ?_, fun i hslot hst => ⟨?_, fun hqueue => ?_⟩⟩
    · exact qreq_granted h hkind hmem rfl rfl hle hslots hslot hfree hwaits hinst hlease howner
    · exact qreq_renewed h hkind rfl rfl hslot hst
    · exact qrel_freed h hkind hmem rfl rfl hle hslots hslot hst hqueue
  · intro s pe h d q
    refine ⟨fun hreach hwrites => ⟨?_, fun hdeclared hdom => ?_⟩, fun hwrites => ⟨?_, ?_⟩⟩
    · refine State.run_pout_effect h ((portWrite_plateCtl ..).trans ?_)
      simp [Dev.plateCtl, show s.dev.peReach pe 7 = true from hreach,
        show s.dev.peWrites pe (s.dev.pe pe).ports.plateSel = true from hwrites, d, q]
    · refine State.run_pout_effect h ((portWrite_plateCtl ..).trans ?_)
      simp [Dev.plateCtl, show s.dev.peReach pe 7 = true from hreach,
        show s.dev.peWrites pe (s.dev.pe pe).ports.plateSel = true from hwrites,
        show (s.dev.plate (s.dev.pe pe).ports.plateSel).declared = true from hdeclared,
        show (s.dev.plate (s.dev.pe pe).ports.plateSel).dom = none from hdom, d, q]
    · exact State.run_pout_poison h (plateCtl_poison 1 hwrites)
    · exact State.run_pout_poison h (plateCtl_poison 2 hwrites)

end Sys2Proof.EnginePorts
end

section
/-! SUPPORT. Packets and channels (4): a packet row as the outcome of its opcode, channels after their updates, and replies. -/

namespace Sys2Proof.Machine

/-! ## Channels and host ports -/

theorem Dev.chan_setChan_same {d : Dev} {k : Nat} (f : Chan → Chan) (h : k < d.verind.chans.length) :
    (d.setChan k f).chan k = f (d.chan k) :=
  upd_getD_same _ _ _ _ h

theorem Dev.chan_setChan_ne {d : Dev} {k j : Nat} (f : Chan → Chan) (h : k ≠ j) : (d.setChan k f).chan j = d.chan j :=
  upd_getD_ne _ _ _ _ _ h

theorem Dev.setChan_length (d : Dev) (k : Nat) (f : Chan → Chan) : (d.setChan k f).verind.chans.length = d.verind.chans.length :=
  upd_length _ _ _

@[simp] theorem Dev.chan_setPort (d : Dev) (p k : Nat) (f : HostPort → HostPort) : (d.setPort p f).chan k = d.chan k := rfl
@[simp] theorem Dev.chan_setHst (d : Dev) (f : Hst → Hst) (k : Nat) : (d.setHst f).chan k = d.chan k := rfl
@[simp] theorem Dev.chan_send (d : Dev) (ch : Option Nat) (dst : Peer) (bs : List Byte) (k : Nat) : (d.send ch dst bs).chan k = d.chan k := rfl

/-- The Ethernet address of a peer may change with a datagram; who the peer is does not (R143). -/
theorem Dev.chan_touchPeer (d : Dev) (p : Peer) (k : Nat) : ∃ q, (d.touchPeer p).chan k = { d.chan k with peer := q } ∧
    ∀ c, Peer.same q c = Peer.same (d.chan k).peer c := by
  let f (c : Chan) : Chan := if c.st != 0 && c.peer.port == 3 && c.peer.ip == p.ip && c.peer.udp == p.udp then
      { c with peer := { c.peer with mac := p.mac, vid := p.vid } } else c
  have hget : (d.touchPeer p).chan k = f (d.chan k) := List.getD_map (f := f) (d := ({} : Chan)) ..
  rw [hget]
  dsimp only [f]
  split
  · exact ⟨_, rfl, fun _ => rfl⟩
  · exact ⟨_, rfl, fun _ => rfl⟩

/-! ## A packet that executes at once -/

theorem Dev.takesNext_cases {d : Dev} {op : Nat} {c : VCmd} (h : d.takesNext op c = true) :
    d.portEnabled c.src.port = true ∧ d.pwr.st ≤ 1 ∧ d.start.phase = .ready ∧ d.verind.resetReq = none ∧ d.cmp.restarting = false ∧
    16 ≤ c.framed ∧ c.sync = 0xA7#8 ∧ c.channel ≤ 7 ∧ VCmd.check35 op c = none ∧ (d.chan c.channel).st = 2 ∧
    Peer.same (d.chan c.channel).peer c.src = true ∧ (d.chan c.channel).held = [] ∧ c.seq = (d.chan c.channel).base ∧
    c.channel < d.verind.chans.length := by
  simpa [Dev.takesNext, and_assoc] using h

theorem Dev.hostWakes_awake {d : Dev} (h : d.pwr.st ≤ 1) : d.hostWakes = (true, d) := by
  have hnap : (d.pwr.st == 2) = false := by simp; omega
  have hslumber : (d.pwr.st == 3) = false := by simp; omega
  have hhibernate : (d.pwr.st == 4) = false := by simp; omega
  simp [Dev.hostWakes, hnap, hslumber, hhibernate]

/-- The part with a packet's source noted and its port delivering again. -/
def Dev.heard (d : Dev) (c : VCmd) : Dev :=
  (if c.src.port == 3 then d.touchPeer c.src else d).setPort c.src.port (fun q => { q with lost := false })

theorem Dev.chan_heard (d : Dev) (c : VCmd) (k : Nat) : ∃ q, (d.heard c).chan k = { d.chan k with peer := q } ∧
    ∀ p, Peer.same q p = Peer.same (d.chan k).peer p := by
  rw [Dev.heard, Dev.chan_setPort]
  split
  · exact d.chan_touchPeer c.src k
  · exact ⟨_, rfl, fun _ => rfl⟩

theorem Dev.heard_frame (d : Dev) (c : VCmd) :
    (d.heard c).verind.resetReq = d.verind.resetReq ∧ (d.heard c).cmp = d.cmp ∧ (d.heard c).start = d.start ∧
      (d.heard c).verind.chans.length = d.verind.chans.length ∧ (d.heard c).verind.arrivals = d.verind.arrivals := by
  unfold Dev.heard
  split
  · exact ⟨rfl, rfl, rfl, List.length_map .., rfl⟩
  · exact ⟨rfl, rfl, rfl, rfl, rfl⟩

/-- The part with the packet's source the channel's peer and the packet held there. -/
theorem Dev.withPacket_eq (d : Dev) (op : Nat) (c : VCmd) : d.withPacket op c =
    (((d.heard c).setChan c.channel (fun x => { x with peer := c.src })).setVerind (fun v => { v with arrivals := v.arrivals + 1 })).setChan
      c.channel (fun x => { x with held := x.held ++ [{ op := op, cmd := c, arr := d.verind.arrivals }] }) := by
  unfold Dev.withPacket Dev.heard
  split <;> rfl

section Takes

variable {d : Dev} {op : Nat} {c : VCmd} (h : d.takesNext op c = true)
include h

theorem Dev.chan_withPacket : ∃ x : Chan, (d.withPacket op c).chan c.channel = x ∧ x.st = 2 ∧ x.peer = c.src ∧ x.base = c.seq ∧
    x.held = [{ op := op, cmd := c, arr := d.verind.arrivals }] ∧ x.cache = (d.chan c.channel).cache ∧
    x.order = (d.chan c.channel).order := by
  obtain ⟨-, -, -, -, -, -, -, -, -, hst, -, hheld, hseq, hlen⟩ := Dev.takesNext_cases h
  obtain ⟨q, hq, -⟩ := d.chan_heard c c.channel
  obtain ⟨-, -, -, hlen', -⟩ := d.heard_frame c
  let e := ((d.heard c).setChan c.channel (fun x => { x with peer := c.src })).setVerind (fun v => { v with arrivals := v.arrivals + 1 })
  have he : e.chan c.channel = { d.chan c.channel with peer := c.src } :=
    (Dev.chan_setChan_same (fun x => { x with peer := c.src }) (hlen' ▸ hlen)).trans (by rw [hq])
  have hlen'' : c.channel < e.verind.chans.length := (Dev.setChan_length ..).symm ▸ hlen' ▸ hlen
  rw [Dev.withPacket_eq]
  refine ⟨_, Dev.chan_setChan_same _ hlen'', ?_⟩
  rw [he, hheld]
  exact ⟨hst, rfl, hseq.symm, rfl, rfl, rfl⟩

/-- Steps 1 to 6 of Table 4.8 pass, and the packet comes to its classification (R86). -/
theorem Dev.receive_takes (hop : op ≠ 0x0001) :
    (if c.src.port == 3 then d.touchPeer c.src else d).receive execOpcode op c =
      ((d.heard c).setChan c.channel (fun x => { x with peer := c.src })).classify execOpcode op c := by
  obtain ⟨-, -, hphase, hreset, -, hframed, hsync, hch, hcheck, hst, hsame, -, -, -⟩ := Dev.takesNext_cases h
  obtain ⟨q, hq, hqsame⟩ := d.chan_heard c c.channel
  generalize hd : (if c.src.port == 3 then d.touchPeer c.src else d) = e
  have hephase : e.start.phase = .ready := by rw [← hd]; split <;> exact hphase
  have hereset : e.verind.resetReq = none := by rw [← hd]; split <;> exact hreset
  have hadopt (x : Dev) : x.adopt op c = x := by simp [Dev.adopt, beq_false_of_ne hop]
  have hheard : e.setPort c.src.port (fun q => { q with lost := false }) = d.heard c := by rw [← hd]; rfl
  have hframing : (decide (c.framed < 16) || c.sync != 0xA7#8 || decide (7 < c.channel)) = false := by
    simp [hsync]
    omega
  rw [Dev.receive]
  simp only [hephase, hereset, hadopt, hheard, hcheck, hframing, hq, hst, hqsame, hsame, beq_false_of_ne hop]
  rfl

/-- A packet that is the next of its channel is held and executes (R93). -/
theorem Dev.classify_takes (run : OpExec) :
    ((d.heard c).setChan c.channel (fun x => { x with peer := c.src })).classify run op c = (d.withPacket op c).pump run c.channel 17 := by
  obtain ⟨-, -, -, -, -, -, -, -, -, hst, -, hheld, hseq, hlen⟩ := Dev.takesNext_cases h
  obtain ⟨q, hq, -⟩ := d.chan_heard c c.channel
  obtain ⟨-, -, -, hlen', harr⟩ := d.heard_frame c
  have hchan : ((d.heard c).setChan c.channel (fun x => { x with peer := c.src })).chan c.channel =
      { d.chan c.channel with peer := c.src } := by rw [Dev.chan_setChan_same _ (hlen' ▸ hlen), hq]
  have hdist : (c.seq + 65536 - (d.chan c.channel).base) % 65536 = 0 := by rw [hseq]; omega
  rw [Dev.withPacket_eq, ← harr]
  simp only [Dev.classify, Dev.takeIn, hchan, hheld, hdist]
  rfl

/-- The first turn of a channel that holds the packet alone. -/
theorem Dev.pump_takes (run : OpExec) (n : Nat) :
    (d.withPacket op c).pump run c.channel (n + 1) =
      (let r := (d.withPacket op c).runHeld run { op := op, cmd := c, arr := d.verind.arrivals }
       if r.1 then Dev.pump run c.channel n r.2 else r.2) := by
  obtain ⟨-, -, -, hreset, hrestart, -⟩ := Dev.takesNext_cases h
  obtain ⟨x, hx, -, -, hbase, hheld, -⟩ := Dev.chan_withPacket h
  obtain ⟨hreset', hcmp, -⟩ := d.heard_frame c
  have hrestarting : (d.withPacket op c).cmp.restarting = false := by
    rw [Dev.withPacket_eq]
    exact (congrArg Cmp.restarting hcmp).trans hrestart
  have hrequest : (d.withPacket op c).verind.resetReq = none := by
    rw [Dev.withPacket_eq]
    exact hreset'.trans hreset
  rw [Dev.pump, hrestarting, hrequest, hx, hheld, hbase]
  simp

/-- A packet row whose packet executes at once. -/
theorem Dev.verindRow_takes (hop : op ≠ 0x0001) : Dev.verindRow op c d = ((d.withPacket op c).pump execOpcode c.channel 17).udpOut := by
  obtain ⟨hport, hawake, -⟩ := Dev.takesNext_cases h
  rw [Dev.verindRow, hport, Dev.hostWakes_awake hawake]
  simp only [Bool.not_true, Bool.false_eq_true, if_false, if_true]
  rw [Dev.receive_takes h hop, Dev.classify_takes h]

end Takes

/-- Every packet row is its opcode's. -/
theorem exec_verindOf {i : Instr} {op : Nat} {c : VCmd} (h : verindOf i = some (op, c)) (s : State) : exec i s = s.run (Dev.verindRow op c) := by
  cases i <;> cases h <;> rfl

/-- A packet of any opcode but the channel's own two that executes at once: its outcome, answered. -/
theorem exec_answered {i : Instr} {op : Nat} {c : VCmd} {s : State} {o : OpOut} (hi : verindOf i = some (op, c)) (hopen : op ≠ 0x0001)
    (hclose : op ≠ 0x0002) (h : s.dev.takesNext op c = true)
    (hrun : execOpcode { op := op, cmd := c, arr := s.dev.verind.arrivals } (s.packet i) = some o) : exec i s = .next (s.answered i o) := by
  have hpacket : s.packet i = s.dev.withPacket op c := by rw [State.packet, hi]
  rw [hpacket] at hrun
  have hheld : (s.dev.withPacket op c).runHeld execOpcode { op := op, cmd := c, arr := s.dev.verind.arrivals } =
      (let r := o.after (o.dev.settleReply execOpcode { op := op, cmd := c, arr := s.dev.verind.arrivals } o.reply)
       (r.verind.resetReq.isNone, r)) := by
    rw [Dev.runHeld, hrun]
    simp only [beq_false_of_ne hopen, beq_false_of_ne hclose, Bool.false_and, Bool.false_eq_true, if_false]
  have hrow := Dev.verindRow_takes h hopen
  rw [Dev.pump_takes h, hheld] at hrow
  rw [exec_verindOf hi, State.answered, hi, State.run, hrow]

/-! ## Replies (R60, R83, R94) -/

theorem Dev.port_setPort_same {d : Dev} {p : Nat} (f : HostPort → HostPort) (hp : 1 ≤ p) (h : p ≤ d.hst.ports.length) :
    (d.setPort p f).port p = f (d.port p) :=
  upd_getD_same _ _ _ _ (by omega)

/-- What the output queue of a peer's port holds after a send. -/
theorem Dev.port_send {d : Dev} {ch : Option Nat} {dst : Peer} (bs : List Byte) (hp : 1 ≤ dst.port) (h : dst.port ≤ d.hst.ports.length) :
    ((d.send ch dst bs).port dst.port).out.map (·.bytes) = (d.port dst.port).out.map (·.bytes) ++ [bs] := by
  have hout := congrArg (fun q => q.out.map (·.bytes)) (Dev.port_setPort_same (d := d) (p := dst.port) (fun q =>
    { q with out := q.out ++ [{ id := d.hst.outIds, ch := ch, bytes := bs, dst := dst }],
             headSince := if q.out.isEmpty then d.tick else q.headSince }) hp h)
  refine Eq.trans hout ?_
  simp

/-- The packet of a reply of one body. -/
def replyPkt (op : Nat) (c : VCmd) (st : Nat) (b : List Byte) : Pkt :=
  { seq := c.seq, op := op + 0x8000, ch := c.channel, status := st, fid := c.fid, body := b, flags := 1 }

theorem replyPkts_single (op : Nat) (c : VCmd) (st : Nat) (b : List Byte) :
    replyPkts op c { status := st, bodies := [b] } 0 = [replyPkt op c st b] := rfl

/-- The channel after its cache has taken an entry (R60, R94, R95). -/
def Chan.cached (x : Chan) (e : CacheEntry) : Chan := { x with cache := (e :: x.cache.filter (fun y => y.seq != e.seq)).take 64 }

theorem Chan.cached_cache (x : Chan) (e : CacheEntry) :
    (x.cached e).cache.head? = some e ∧ (x.cached e).cache.length ≤ 64 ∧ ∀ y ∈ (x.cached e).cache.tail, y.seq ≠ e.seq := by
  refine ⟨rfl, List.length_take_le _ _, fun y hy => ?_⟩
  have hmem : y ∈ x.cache.filter (fun y => y.seq != e.seq) := List.mem_of_mem_take (i := 63) hy
  simpa using (List.mem_filter.mp hmem).2

/-- The channel whose base has moved past a command that it no longer holds (R96). -/
def Chan.past (x : Chan) (h : Held) : Chan :=
  { x with base := (h.cmd.seq + 1) % 65536, held := x.held.filter (fun y => y.cmd.seq != h.cmd.seq) }

/-- The channel of a command after its reply has been written. -/
theorem Dev.settleReply_single (run : OpExec) (d : Dev) (h : Held) (st : Nat) (b : List Byte) (hrecov : h.recov = false)
    (hdup : h.dup = false) (hlen : h.cmd.channel < d.verind.chans.length) :
    ∃ x : CacheEntry, x.seq = h.cmd.seq ∧ x.op = h.op ∧ x.crc = h.cmd.crc ∧
      d.settleReply run h { status := st, bodies := [b] } =
        (d.setChan h.cmd.channel (fun c => (c.past h).cached x)).send (some h.cmd.channel) (d.chan h.cmd.channel).peer
          (replyPkt h.op h.cmd st b).bytes := by
  let r : Reply := { status := st, bodies := [b] }
  let x : CacheEntry := { seq := h.cmd.seq, op := h.op, crc := h.cmd.crc, full := r.fits, cmd := h.cmd,
                          reply := if r.fits then replyPkt h.op h.cmd st b else { replyPkt h.op h.cmd st b with body := [] } }
  refine ⟨x, rfl, rfl, rfl, ?_⟩
  let d1 := d.setChan h.cmd.channel (fun c => c.past h)
  have hsettle : d.settleReply run h r = (d1.cacheReply h.op h.cmd r).sendReply h.op h.cmd r 0 ((d1.cacheReply h.op h.cmd r).chan h.cmd.channel).peer := by
    simp only [Dev.settleReply, hrecov, hdup, Bool.false_and, Bool.false_eq_true, if_false]
    rfl
  have hcache : d1.cacheReply h.op h.cmd r = d.setChan h.cmd.channel (fun c => (c.past h).cached x) := by
    simp only [Dev.cacheReply, d1, Dev.setChan, Dev.setVerind, upd_upd]
    rfl
  rw [hsettle, hcache, Dev.chan_setChan_same _ hlen]
  rfl

/-! ## The bytes of a packet (R79 to R81) -/

theorem leVal_leb (n v : Nat) (h : v < 256 ^ n) : leVal (leb n v) = v := by
  induction n generalizing v with
  | zero => simp only [Nat.pow_zero, Nat.lt_one_iff] at h; simp [leb, leVal, h]
  | succ n ih =>
    have hrest : v / 256 < 256 ^ n := Nat.div_lt_of_lt_mul (by rwa [Nat.pow_succ'] at h)
    rw [leb, leVal, ih _ hrest, BitVec.toNat_ofNat]
    omega

theorem padTo_of_aligned {b : List Byte} (h : b.length % 4 = 0) : padTo 4 b = b := by
  have hpad : roundUp b.length 4 - b.length = 0 := by
    unfold roundUp
    omega
  rw [padTo, hpad]
  exact List.append_nil b

/-- The 16 bytes before a packet's parameters. -/
def pktHeader (seq op flags ch status fid len : Nat) : List Byte :=
  [0xA7#8, 0x01#8] ++ leb 2 len ++ leb 2 seq ++ leb 2 op ++ leb 1 flags ++ leb 1 ch ++ leb 2 status ++ leb 2 fid ++ leb 2 0

theorem pktHeader_length (seq op flags ch status fid len : Nat) : (pktHeader seq op flags ch status fid len).length = 16 := by
  simp [pktHeader]

theorem pktBytes_aligned (seq op flags ch status fid : Nat) {b : List Byte} (h : b.length % 4 = 0) :
    pktBytes seq op flags ch status fid b = pktHeader seq op flags ch status fid (20 + b.length) ++ (b ++
      leb 4 (crc32c (pktHeader seq op flags ch status fid (20 + b.length) ++ b)).toNat) := by
  simp only [pktBytes, padTo_of_aligned h, pktHeader, List.append_assoc]

end Sys2Proof.Machine
end

section
/-! The obligations of packets (4). -/

namespace Sys2Proof.Packets

open Sys2Proof.Machine

theorem reply_settles (d : Dev) (h : Held) (st : Nat) (b : List Byte) (hrecov : h.recov = false) (hdup : h.dup = false)
    (hlen : h.cmd.channel < d.verind.chans.length) (hlow : 1 ≤ (d.chan h.cmd.channel).peer.port)
    (hhigh : (d.chan h.cmd.channel).peer.port ≤ d.hst.ports.length) :
    let e := d.settleReply execOpcode h { status := st, bodies := [b] }
    let k := h.cmd.channel
    let q := (d.chan k).peer.port
    (e.chan k).base = (h.cmd.seq + 1) % 65536 ∧
    (e.chan k).held = (d.chan k).held.filter (fun x => x.cmd.seq != h.cmd.seq) ∧
    ((e.chan k).cache.head?.map (fun x => (x.seq, x.op, x.crc))) = some (h.cmd.seq, h.op, h.cmd.crc) ∧
    (e.chan k).cache.length ≤ 64 ∧
    (∀ x ∈ (e.chan k).cache.tail, x.seq ≠ h.cmd.seq) ∧
    (e.port q).out.map (·.bytes) = (d.port q).out.map (·.bytes) ++ [pktBytes h.cmd.seq (h.op + 0x8000) 1 k st h.cmd.fid b] ∧
    (∀ j, j ≠ k → e.chan j = d.chan j) := by
  intro e k q
  obtain ⟨x, hseq, hop, hcrc, he⟩ := Dev.settleReply_single execOpcode d h st b hrecov hdup hlen
  have hchan : e.chan k = ((d.chan k).past h).cached x := by
    rw [show e = _ from he, Dev.chan_send, Dev.chan_setChan_same _ hlen]
  obtain ⟨hhead, hcount, htail⟩ := ((d.chan k).past h).cached_cache x
  rw [hchan]
  refine ⟨rfl, rfl, ?_, hcount, fun y hy => hseq ▸ htail y hy, ?_, fun j hj => ?_⟩
  · rw [hhead, Option.map_some, hseq, hop, hcrc]
  · rw [show e = _ from he]
    exact Dev.port_send _ hlow hhigh
  · rw [show e = _ from he, Dev.chan_send, Dev.chan_setChan_ne _ (Ne.symm hj)]

/-- The fields of a packet's bytes. -/
theorem packet_layout (seq op flags ch status fid : Nat) (b : List Byte) (hlen : 20 + b.length ≤ 4096) (halign : b.length % 4 = 0)
    (hseq : seq < 65536) (hop : op < 65536) (hflags : flags < 256) (hch : ch < 256) (hstatus : status < 65536) (hfid : fid < 65536) :
    let p := pktBytes seq op flags ch status fid b
    p.length = 20 + b.length ∧ p.take 2 = [0xA7#8, 0x01#8] ∧ fld p 2 2 = p.length ∧ fld p 4 2 = seq ∧ fld p 6 2 = op ∧
    byteAt p 8 = flags ∧ byteAt p 9 = ch ∧ fld p 10 2 = status ∧ fld p 12 2 = fid ∧ fld p 14 2 = 0 ∧ slice p 16 b.length = b ∧
    fld p (16 + b.length) 4 = (crc32c (p.take (16 + b.length))).toNat := by
  intro p
  let hd := pktHeader seq op flags ch status fid (20 + b.length)
  let crc := leb 4 (crc32c (hd ++ b)).toNat
  have hp : p = hd ++ (b ++ crc) := pktBytes_aligned _ _ _ _ _ _ halign
  have hhd : hd.length = 16 := pktHeader_length ..
  have hplen : p.length = 20 + b.length := by
    rw [hp, List.length_append, List.length_append, hhd, leb_length]
    omega
  have hbytes : p = [0xA7#8, 0x01#8] ++ (leb 2 (20 + b.length) ++ (leb 2 seq ++ (leb 2 op ++ (leb 1 flags ++ (leb 1 ch ++ (leb 2 status ++
      (leb 2 fid ++ (leb 2 0 ++ (b ++ crc))))))))) := hp
  have hbyte (v : Nat) (hv : v < 256) : (BitVec.ofNat 8 v).toNat = v := by rw [BitVec.toNat_ofNat]; omega
  refine ⟨hplen, ?_, ?_, ?_, ?_, ?_, ?_, ?_, ?_, ?_, ?_, ?_⟩
  · rw [hbytes]; rfl
  · rw [hplen, hbytes]; exact leVal_leb 2 _ (by omega)
  · rw [hbytes]; exact leVal_leb 2 _ hseq
  · rw [hbytes]; exact leVal_leb 2 _ hop
  · rw [hbytes]; exact hbyte _ hflags
  · rw [hbytes]; exact hbyte _ hch
  · rw [hbytes]; exact leVal_leb 2 _ hstatus
  · rw [hbytes]; exact leVal_leb 2 _ hfid
  · rw [hbytes]; exact leVal_leb 2 _ (by omega)
  · rw [slice, hp, List.drop_left' hhd, List.take_left]
  · have hbody : p.take (16 + b.length) = hd ++ b := by
      rw [hp, ← List.append_assoc, List.take_left' (by simp [hhd])]
    have hcrc : p.drop (16 + b.length) = crc := by
      rw [hp, ← List.append_assoc, List.drop_left' (by simp [hhd])]
    rw [hbody, fld, slice, hcrc, List.take_of_length_le (by simp [crc])]
    exact leVal_leb 4 _ (crc32c (hd ++ b)).isLt

/-- Settles O17: a packet's turn on its channel, the reply it leaves, and the layout of a packet. -/
theorem packetsExecuteAndAreAnswered : Obligations.PacketsExecuteAndAreAnswered := by
  refine ⟨?_, ?_, packet_layout⟩
  · intro i op c s o hi hopen hclose h hrun
    exact exec_answered hi hopen hclose h hrun
  · intro d h st b hrecov hdup hlen k q hlow hhigh
    exact reply_settles d h st b hrecov hdup hlen hlow hhigh

end Sys2Proof.Packets
end

section
/-! SUPPORT. What a frame that the part sends into the switch leaves alone (R302, R143): the channels, the configuration, the windows and
every other part beside the switch, the MACs, the host rings, the engines' buffers and the events. -/

namespace Sys2Proof.Machine

/-- The part without what a frame through the switch may move. -/
def Dev.besideFrames (d : Dev) : Dev :=
  { d with free := 0, toggles := [], islands := [], eng := {}, swc := {}, macs := [], svc := {}, cmp := { d.cmp with events := [] },
           verind := { d.verind with events := [], evSeq := 0, outstanding := 0, unsent := 0 },
           hst := { d.hst with ports := [], mem := [], rings := [], outIds := 0 } }

@[simp] theorem Dev.besideFrames_setSwc (d : Dev) (f : Swc → Swc) : (d.setSwc f).besideFrames = d.besideFrames := rfl
@[simp] theorem Dev.besideFrames_setMac (d : Dev) (m : Nat) (f : Mac → Mac) : (d.setMac m f).besideFrames = d.besideFrames := rfl
@[simp] theorem Dev.besideFrames_setPe (d : Dev) (p : Nat) (f : Pe → Pe) : (d.setPe p f).besideFrames = d.besideFrames := rfl
@[simp] theorem Dev.besideFrames_setPorts (d : Dev) (p : Nat) (f : EPorts → EPorts) : (d.setPorts p f).besideFrames = d.besideFrames := rfl
@[simp] theorem Dev.besideFrames_setTmr (d : Dev) (p i : Nat) (f : Timer → Timer) : (d.setTmr p i f).besideFrames = d.besideFrames := rfl
@[simp] theorem Dev.besideFrames_setRing (d : Dev) (r : Nat) (f : Ring → Ring) : (d.setRing r f).besideFrames = d.besideFrames := rfl
@[simp] theorem Dev.besideFrames_setPort (d : Dev) (p : Nat) (f : HostPort → HostPort) : (d.setPort p f).besideFrames = d.besideFrames := rfl
@[simp] theorem Dev.besideFrames_draw (d : Dev) : d.draw.2.besideFrames = d.besideFrames := rfl
@[simp] theorem Dev.besideFrames_discard (d : Dev) (n : Nat) : (d.discard n).besideFrames = d.besideFrames := rfl
@[simp] theorem Dev.besideFrames_holdEvent (d : Dev) (e : HeldEvent) : (d.holdEvent e).besideFrames = d.besideFrames := rfl
@[simp] theorem Dev.besideFrames_send (d : Dev) (ch : Option Nat) (dst : Peer) (b : List Byte) :
    (d.send ch dst b).besideFrames = d.besideFrames := rfl
@[simp] theorem Dev.besideFrames_countFwd (d : Dev) (p c : Nat) : (d.countFwd p c).besideFrames = d.besideFrames := rfl
@[simp] theorem Dev.besideFrames_countAdm (d : Dev) (p c : Nat) : (d.countAdm p c).besideFrames = d.besideFrames := rfl
@[simp] theorem Dev.besideFrames_countFull (d : Dev) (p c : Nat) : (d.countFull p c).besideFrames = d.besideFrames := rfl

/-- A fold keeps what each of its steps keeps. -/
theorem foldl_keeps {α β σ : Type} (v : σ → α) (f : σ → β → σ) (h : ∀ s x, v (f s x) = v s) (xs : List β) (s : σ) :
    v (xs.foldl f s) = v s := by
  induction xs generalizing s with
  | nil => rfl
  | cons x xs ih => exact (ih (f s x)).trans (h s x)

/-! ## Events -/

@[simp] theorem Dev.besideFrames_present (d : Dev) (e : Ev) : (d.present e).besideFrames = d.besideFrames := by
  unfold Dev.present
  split <;> rfl

@[simp] theorem Dev.besideFrames_pushEvent (d : Dev) (op fid : Nat) (b : List Byte) (rsv : Bool) :
    (d.pushEvent op fid b rsv).besideFrames = d.besideFrames :=
  Dev.besideFrames_present _ _

@[simp] theorem Dev.besideFrames_complete (d : Dev) (w : Waiting) (st : Nat) (b : List Byte) :
    (d.complete w st b).besideFrames = d.besideFrames := by
  unfold Dev.complete Dev.sendCompletion
  split
  · rfl
  · simp only [Dev.besideFrames_pushEvent]
    rfl

theorem Dev.besideFrames_toggle (d : Dev) (src dst ev : Nat) : (d.toggle src dst ev).2.besideFrames = d.besideFrames := by
  obtain ⟨ts, is, h⟩ := d.toggle_shape src dst ev
  rw [h]
  rfl

@[simp] theorem Dev.besideFrames_raise (d : Dev) (src p b : Nat) : (d.raise src p b).besideFrames = d.besideFrames := by
  obtain ⟨ts, is, f, h, -⟩ := d.raise_shape src p b
  rw [h]
  rfl

@[simp] theorem Dev.besideFrames_capture (d : Dev) (p src : Nat) : (d.capture p src).besideFrames = d.besideFrames := by
  unfold Dev.capture
  split
  · rfl
  · refine (forN_keeps Dev.besideFrames _ (fun d i => ?_) 4 _).trans rfl
    dsimp only
    split <;> simp

/-! ## The pipes, the mirrors and the galleys -/

@[simp] theorem Dev.besideFrames_settlePipe (d : Dev) : d.settlePipe.besideFrames = d.besideFrames := by
  unfold Dev.settlePipe
  split
  · simp only [apply_ite Dev.besideFrames, Dev.completeDone, Dev.completeFailed, Dev.besideFrames_complete, Dev.besideFrames_setSwc, ite_self]
  · rfl

@[simp] theorem Dev.besideFrames_beginLookup (d : Dev) : d.beginLookup.besideFrames = d.besideFrames := by
  unfold Dev.beginLookup
  split
  · rw [Dev.besideFrames_settlePipe]
    split <;> rfl
  · rfl

@[simp] theorem Dev.besideFrames_collect (d : Dev) : d.collect.besideFrames = d.besideFrames := by
  refine (forN_keeps Dev.besideFrames _ (fun d p => ?_) 14 _).trans rfl
  simp only [apply_ite Dev.besideFrames, Dev.besideFrames_raise, Dev.besideFrames_setPorts, ite_self]

@[simp] theorem Dev.besideFrames_dropMirror (d : Dev) (g : Nat) (e : GEnt) : (d.dropMirror g e).besideFrames = d.besideFrames := by
  unfold Dev.dropMirror
  split <;> simp

@[simp] theorem Dev.besideFrames_roomIn (d : Dev) (g n k : Nat) : (d.roomIn g n k).2.besideFrames = d.besideFrames := by
  induction k generalizing d with
  | zero => rfl
  | succ k ih =>
    rw [Dev.roomIn]
    split
    · rfl
    · split
      · simp [ih]
      · rfl

@[simp] theorem Dev.besideFrames_roomFor (d : Dev) (n k : Nat) : (d.roomFor n k).2.besideFrames = d.besideFrames := by
  induction k generalizing d with
  | zero => rfl
  | succ k ih =>
    rw [Dev.roomFor]
    dsimp only
    split
    · rfl
    · split
      · simp [ih]
      · rfl

@[simp] theorem Dev.besideFrames_pauseEval (d : Dev) (m : Nat) : (d.pauseEval m).besideFrames = d.besideFrames := by
  unfold Dev.pauseEval
  simp only [apply_ite Dev.besideFrames, Dev.besideFrames_setMac, ite_self]

@[simp] theorem Dev.besideFrames_pauseAll (d : Dev) : d.pauseAll.besideFrames = d.besideFrames :=
  forN_keeps Dev.besideFrames _ Dev.besideFrames_pauseEval 6 d

@[simp] theorem Dev.besideFrames_mirrorCopy (d : Dev) (k : Nat) (bytes : List Byte) (held : Option Nat) (cls ing vid stamp : Nat) :
    (d.mirrorCopy k bytes held cls ing vid stamp).besideFrames = d.besideFrames := by
  unfold Dev.mirrorCopy
  cases held <;> simp only [apply_ite Dev.besideFrames, Dev.besideFrames_setSwc, ite_self]

@[simp] theorem Dev.besideFrames_mirrorAt (d : Dev) (egress : Bool) (p : Nat) (bytes : List Byte) (held : Option Nat)
    (cls ing vid stamp : Nat) : (d.mirrorAt egress p bytes held cls ing vid stamp).besideFrames = d.besideFrames := by
  refine forN_keeps Dev.besideFrames _ (fun d k => ?_) 4 d
  simp only [apply_ite Dev.besideFrames, Dev.besideFrames_mirrorCopy, ite_self]

/-! ## Host rings, proofs and delivery -/

@[simp] theorem Dev.besideFrames_setHostMemory (d : Dev) (f : Hst → Mem) :
    (d.setHst (fun h => { h with mem := f h })).besideFrames = d.besideFrames := rfl

@[simp] theorem Dev.besideFrames_advanceRing (d : Dev) (r : Nat) : (d.advanceRing r).besideFrames = d.besideFrames := by
  unfold Dev.advanceRing
  rw [Dev.besideFrames_setRing, Dev.besideFrames_setHostMemory]

@[simp] theorem Dev.besideFrames_ringPublish (d : Dev) (r id : Nat) (data : List Byte) :
    (d.ringPublish r id data).besideFrames = d.besideFrames := by
  unfold Dev.ringPublish
  split
  · rfl
  · rw [Dev.besideFrames_advanceRing, Dev.besideFrames_setRing, Dev.besideFrames_setHostMemory]

@[simp] theorem Dev.besideFrames_ringPut (d : Dev) (r : Nat) (o : Owner) (src inst : Nat) (data : List Byte) :
    (d.ringPut r o src inst data).2.besideFrames = d.besideFrames := by
  unfold Dev.ringPut Dev.ringReserve
  dsimp only
  split_ifs
  · rfl
  · simp only [Dev.besideFrames_ringPublish]
    rfl

@[simp] theorem Dev.besideFrames_proof (d : Dev) (egress : Bool) (p : Nat) (bytes : List Byte) (cls from_ stamp : Nat) (lost : Bool) :
    (d.proof egress p bytes cls from_ stamp lost).besideFrames = d.besideFrames := by
  unfold Dev.proof
  dsimp only
  simp only [apply_ite Dev.besideFrames, Dev.besideFrames_setSwc, Dev.besideFrames_ringPut, ite_self]

@[simp] theorem Dev.besideFrames_learn (d : Dev) (p : Nat) (b : List Byte) (vid : Nat) : (d.learn p b vid).besideFrames = d.besideFrames := by
  unfold Dev.learn
  dsimp only
  split
  · rfl
  · split
    · split <;> rfl
    · split <;> rfl

@[simp] theorem Dev.besideFrames_deliverLe (d : Dev) (l cls : Nat) (bytes : List Byte) :
    (d.deliverLe l cls bytes).besideFrames = d.besideFrames := by
  unfold Dev.deliverLe
  split
  · rfl
  · split
    · split <;> simp
    · rfl

@[simp] theorem Dev.besideFrames_deliverRing (d : Dev) (r ing cls : Nat) (bytes : List Byte) :
    (d.deliverRing r ing cls bytes).besideFrames = d.besideFrames := by
  unfold Dev.deliverRing
  dsimp only
  simp only [apply_ite Dev.besideFrames, Dev.besideFrames_countFwd, Dev.besideFrames_countFull, Dev.besideFrames_ringPut, ite_self]

/-! ## A frame taken in -/

@[simp] theorem Dev.besideFrames_expressIn (d : Dev) (p : Nat) (rx : RxFrame) (src : Nat) :
    (d.expressIn p rx src).1.besideFrames = d.besideFrames := by
  refine foldl_keeps (fun a : Dev × Nat => a.1.besideFrames) _ (fun a o => ?_) _ (d, rx.dests)
  dsimp only
  split_ifs <;> rfl

@[simp] theorem Dev.besideFrames_expressWhole (d : Dev) (id vid : Nat) (bytes : List Byte) :
    (d.expressWhole id vid bytes).besideFrames = d.besideFrames :=
  (forN_keeps Dev.besideFrames _ (fun _ _ => Dev.besideFrames_setMac _ _ _) 6 _).trans (Dev.besideFrames_setSwc _ _)

@[simp] theorem Dev.besideFrames_expressBad (d : Dev) (id : Nat) : (d.expressBad id).2.besideFrames = d.besideFrames :=
  (forN_keeps Dev.besideFrames _ (fun _ _ => Dev.besideFrames_setMac _ _ _) 6 _).trans (Dev.besideFrames_setSwc _ _)

@[simp] theorem Dev.besideFrames_expressLong (d : Dev) (p id vid m : Nat) (bytes : List Byte) :
    (d.expressLong p id vid m bytes).1.besideFrames = d.besideFrames := by
  refine foldl_keeps (fun a : Dev × Nat => a.1.besideFrames) _ (fun a o => ?_) _ (d, m)
  dsimp only
  split_ifs <;> rfl

@[simp] theorem Dev.besideFrames_galleyIn (d : Dev) (p : Nat) (rx : RxFrame) (bytes : List Byte) :
    (d.galleyIn p rx bytes).2.besideFrames = d.besideFrames := by
  have hkeep (e : Dev) (f : Nat × Dev → Nat → Nat × Dev) (hf : ∀ a o, (f a o).2.besideFrames = a.2.besideFrames) :
      (((List.range 6).foldl f (rx.dests, e)).2).besideFrames = e.besideFrames := foldl_keeps (fun a => a.2.besideFrames) f hf _ _
  have hjoin (e : Dev) (f : Dev → Nat → Dev) (hf : ∀ e o, (f e o).besideFrames = e.besideFrames) :
      ((List.range 6).foldl f e).besideFrames = e.besideFrames := foldl_keeps Dev.besideFrames f hf _ _
  unfold Dev.galleyIn
  dsimp only
  split
  · simp
  · split
    · exact (hkeep _ _ (fun a o => by split_ifs <;> simp)).trans (Dev.besideFrames_roomFor ..)
    · simp only [apply_ite Dev.besideFrames, Dev.besideFrames_mirrorAt, ite_self]
      refine (hjoin _ _ (fun e o => by split_ifs <;> rfl)).trans ((Dev.besideFrames_setSwc _ _).trans ?_)
      exact (hkeep _ _ (fun a o => by split_ifs <;> simp)).trans (Dev.besideFrames_roomFor ..)

@[simp] theorem Dev.besideFrames_frameIn (d : Dev) (p : Nat) (rx : RxFrame) (bytes : List Byte) (started : Bool) :
    (d.frameIn p rx bytes started).2.besideFrames = d.besideFrames := by
  unfold Dev.frameIn
  dsimp only
  split
  · simp
  · split
    · simp
    · cases rx.toRing <;> cases rx.toLe <;>
        simp only [apply_ite Prod.fst, apply_ite Prod.snd, apply_ite Dev.besideFrames, Dev.besideFrames_pauseAll, Dev.besideFrames_collect,
          Dev.besideFrames_countFwd, Dev.besideFrames_deliverRing, Dev.besideFrames_deliverLe, Dev.besideFrames_proof,
          Dev.besideFrames_learn, Dev.besideFrames_galleyIn, Dev.besideFrames_mirrorAt, Dev.besideFrames_expressLong,
          Dev.besideFrames_expressWhole, Dev.besideFrames_expressIn, ite_self]

@[simp] theorem Dev.besideFrames_inject (d : Dev) (p : Nat) (bytes : List Byte) (cls : Nat) (mask : Option Nat) :
    (d.inject p bytes cls mask).2.2.besideFrames = d.besideFrames := by
  unfold Dev.inject
  simp only [apply_ite Prod.snd, apply_ite Dev.besideFrames, Dev.besideFrames_discard, Dev.besideFrames_frameIn, Dev.besideFrames_setSwc,
    Dev.besideFrames_beginLookup, ite_self]

/-! ## Packets by UDP -/

@[simp] theorem Dev.besideFrames_udpFlush (d : Dev) : d.udpFlush.besideFrames = d.besideFrames := by
  refine foldl_keeps Dev.besideFrames _ (fun d o => ?_) _ d
  dsimp only
  split
  · rfl
  · refine (foldl_keeps (fun a : List Nat × Dev => a.2.besideFrames) _ (fun a b => ?_) _ _).trans rfl
    simp

@[simp] theorem Dev.besideFrames_udpOut (d : Dev) : d.udpOut.besideFrames = d.besideFrames := by
  unfold Dev.udpOut
  split
  · rfl
  · exact d.besideFrames_udpFlush

end Sys2Proof.Machine
end

section
/-! SUPPORT. How windows close (R127, R160, R400), and what that leaves alone. -/

namespace Sys2Proof.Machine

/-- The part without its quoins, its multidrop controllers and its engines, which the end of a holder's access may move. -/
def Dev.besideHolders (d : Dev) : Dev := { d with free := 0, toggles := [], islands := [], eng := {}, quoins := [], mbs := [] }

@[simp] theorem Dev.besideHolders_setQuoin (d : Dev) (k i : Nat) (f : Quoin → Quoin) : (d.setQuoin k i f).besideHolders = d.besideHolders := rfl
@[simp] theorem Dev.besideHolders_setLe (d : Dev) (l : Nat) (f : Le → Le) : (d.setLe l f).besideHolders = d.besideHolders := rfl
@[simp] theorem Dev.besideHolders_setSlot (d : Dev) (l i : Nat) (f : QSlot → QSlot) : (d.setSlot l i f).besideHolders = d.besideHolders := rfl
@[simp] theorem Dev.besideHolders_setPe (d : Dev) (p : Nat) (f : Pe → Pe) : (d.setPe p f).besideHolders = d.besideHolders := rfl
@[simp] theorem Dev.besideHolders_setPorts (d : Dev) (p : Nat) (f : EPorts → EPorts) : (d.setPorts p f).besideHolders = d.besideHolders := rfl
@[simp] theorem Dev.besideHolders_setTmr (d : Dev) (p i : Nat) (f : Timer → Timer) : (d.setTmr p i f).besideHolders = d.besideHolders := rfl
@[simp] theorem Dev.besideHolders_setMb (d : Dev) (n : Nat) (f : Mb → Mb) : (d.setMb n f).besideHolders = d.besideHolders := rfl
@[simp] theorem Dev.besideHolders_setObj (d : Dev) (n k : Nat) (f : MbObj → MbObj) : (d.setObj n k f).besideHolders = d.besideHolders := rfl
@[simp] theorem Dev.besideHolders_draw (d : Dev) : d.draw.2.besideHolders = d.besideHolders := rfl

@[simp] theorem Dev.besideHolders_raise (d : Dev) (src p b : Nat) : (d.raise src p b).besideHolders = d.besideHolders := by
  obtain ⟨ts, is, f, h, -⟩ := d.raise_shape src p b
  rw [h]
  rfl

@[simp] theorem Dev.besideHolders_raiseLe (d : Dev) (src l b : Nat) : (d.raiseLe src l b).besideHolders = d.besideHolders := by
  unfold Dev.raiseLe
  split <;> simp

@[simp] theorem Dev.besideHolders_capture (d : Dev) (p src : Nat) : (d.capture p src).besideHolders = d.besideHolders := by
  unfold Dev.capture
  split
  · rfl
  · refine (forN_keeps Dev.besideHolders _ (fun d i => ?_) 4 _).trans rfl
    simp only [apply_ite Dev.besideHolders, Dev.besideHolders_setTmr, ite_self]

@[simp] theorem Dev.besideHolders_unitEvent (d : Dev) (src inst b : Nat) : (d.unitEvent src inst b).besideHolders = d.besideHolders := by
  unfold Dev.unitEvent
  split
  · rfl
  · dsimp only
    split <;> simp

@[simp] theorem Dev.besideHolders_mbEvent (d : Dev) (n b : Nat) : (d.mbEvent n b).besideHolders = d.besideHolders := by
  simp only [Dev.mbEvent, apply_ite Dev.besideHolders, Dev.besideHolders_unitEvent, Dev.besideHolders_setMb, ite_self]

@[simp] theorem Dev.besideHolders_unshadow (d : Dev) (n k : Nat) (b : Bool) : (d.unshadow n k b).besideHolders = d.besideHolders := by
  unfold Dev.unshadow
  split <;> simp

@[simp] theorem Dev.besideHolders_unlock (d : Dev) (n k : Nat) (b : Bool) : (d.unlock n k b).besideHolders = d.besideHolders := by
  unfold Dev.unlock
  simp only [apply_ite Dev.besideHolders, Dev.besideHolders_unshadow, Dev.besideHolders_mbEvent, Dev.besideHolders_setObj, ite_self]

@[simp] theorem Dev.besideHolders_unlockReader (d : Dev) (rd : Nat) : (d.unlockReader rd).besideHolders = d.besideHolders := by
  refine forN_keeps Dev.besideHolders _ (fun d n => forN_keeps Dev.besideHolders _ (fun d k => ?_) 128 d) 4 d
  split
  · split <;> simp
  · rfl

@[simp] theorem Dev.besideHolders_tellGrant (d : Dev) (o : Owner) (kind inst slot : Nat) :
    (d.tellGrant o kind inst slot).besideHolders = d.besideHolders := by
  unfold Dev.tellGrant
  split <;> simp

@[simp] theorem Dev.besideHolders_release (d : Dev) (kind inst : Nat) : (d.release kind inst).besideHolders = d.besideHolders := by
  unfold Dev.release Dev.grantNext
  dsimp only
  split
  · rw [Dev.besideHolders_tellGrant]
    rfl
  · rfl

/-! ## Windows -/

/-- A window shut beside others: its place is empty, and all else as it was. -/
theorem Dev.besideHolders_shutWindow (d : Dev) (w : Nat) : (d.shutWindow w).besideHolders =
    (if (d.window w).isOpen then d.setHst (fun h => { h with windows := upd h.windows w (fun _ => {}) }) else d).besideHolders := by
  unfold Dev.shutWindow
  by_cases h : (d.window w).isOpen = true
  · have hclose : (d.closeWindow w).2 = (d.setHst (fun h => { h with windows := upd h.windows w (fun _ => {}) })).unlockReader (16 + w) := by
      have hnot : (!(d.hst.windows.getD w {}).isOpen) = false := by rw [show (d.hst.windows.getD w {}).isOpen = true from h]; rfl
      simp only [Dev.closeWindow, hnot, Bool.false_eq_true, if_false]
    rw [if_pos h, if_pos h, Dev.besideHolders_release, hclose, Dev.besideHolders_unlockReader]
  · rw [if_neg h, if_neg h]

theorem forN_succ {σ : Type} (n : Nat) (s : σ) (f : σ → Nat → σ) : forN (n + 1) s f = f (forN n s f) n := by
  simp [forN, List.range_succ]

/-- The part with other windows. -/
def Dev.withWindows (d : Dev) (ws : List Window) : Dev := { d with hst := { d.hst with windows := ws } }

/-- The first `n` windows leave what `p` asks of each, and every window is as it was or shut. -/
def WindowsShut (old ws : List Window) (n : Nat) (p : Window → Bool) : Prop :=
  (∀ w, w < n → (ws.getD w {}).isOpen = true → p (ws.getD w {}) = false) ∧ ∀ w, ws.getD w {} = old.getD w {} ∨ ws.getD w {} = {}

theorem Dev.shutWindows_shape (d : Dev) (p : Window → Bool) (n : Nat) :
    ∃ ws, (forN n d (fun d w => if (d.window w).isOpen && p (d.window w) then d.shutWindow w else d)).besideHolders =
      (d.withWindows ws).besideHolders ∧ WindowsShut d.hst.windows ws n p := by
  induction n with
  | zero => exact ⟨d.hst.windows, rfl, fun _ h => absurd h (Nat.not_lt_zero _), fun _ => .inl rfl⟩
  | succ n ih =>
    obtain ⟨ws, hview, hshut, hsame⟩ := ih
    rw [forN_succ]
    generalize forN n d (fun d w => if (d.window w).isOpen && p (d.window w) then d.shutWindow w else d) = e at hview ⊢
    have hws : e.hst.windows = ws := (congrArg (fun x : Dev => x.hst.windows) hview :)
    have hwin : e.window n = ws.getD n {} := by rw [Dev.window, hws]
    by_cases h : (ws.getD n {}).isOpen = true ∧ p (ws.getD n {}) = true
    · refine ⟨upd ws n (fun _ => {}), ?_, fun w hw hopen => ?_, fun w => ?_⟩
      · have hcond : ((e.window n).isOpen && p (e.window n)) = true := by rw [hwin, h.1, h.2]; rfl
        rw [if_pos hcond, Dev.besideHolders_shutWindow, if_pos (hwin ▸ h.1)]
        subst hws
        exact (congrArg (fun x : Dev => x.withWindows (upd e.hst.windows n (fun _ => {}))) hview :)
      · by_cases hn : n = w
        · subst hn
          by_cases hlen : n < ws.length
          · rw [upd_getD_same _ _ _ _ hlen] at hopen
            exact absurd hopen (by decide)
          · rw [List.getD_eq_default _ _ (not_lt.mp hlen)] at h
            exact absurd h.1 (by decide)
        · rw [upd_getD_ne _ _ _ _ _ hn] at hopen ⊢
          exact hshut w (by omega) hopen
      · by_cases hn : n = w
        · subst hn
          by_cases hlen : n < ws.length
          · exact .inr (upd_getD_same _ _ _ _ hlen)
          · rw [List.getD_eq_default _ _ (not_lt.mp hlen)] at h
            exact absurd h.1 (by decide)
        · rw [upd_getD_ne _ _ _ _ _ hn]
          exact hsame w
    · refine ⟨ws, ?_, fun w hw hopen => ?_, hsame⟩
      · have hcond : ¬ ((e.window n).isOpen && p (e.window n)) = true := by
          rw [hwin, Bool.and_eq_true]
          exact h
        rw [if_neg hcond, hview]
      · by_cases hn : w = n
        · subst hn
          exact Bool.not_eq_true _ ▸ fun hp => h ⟨hopen, hp⟩
        · exact hshut w (by omega) hopen

end Sys2Proof.Machine
end

section
/-! SUPPORT. What an opcode's checks pass (R114, R115), and the first packets that a channel executes. -/

namespace Sys2Proof.Machine

/-! ## Layouts -/

theorem fld_one (b : List Byte) (o : Nat) : fld b o 1 = byteAt b o := by
  have hdrop : (b.drop o).head? = b[o]? := List.head?_drop
  rw [fld, slice, byteAt, List.getD_eq_getElem?_getD, ← hdrop]
  cases b.drop o <;> rfl

theorem firstBad_nil (b : List Byte) : firstBad b [] = none := rfl

/-- A layout passes when each field lies within its limits. -/
theorem firstBad_cons_eq_none {b : List Byte} {f : Fld} {fs : List Fld} :
    firstBad b (f :: fs) = none ↔ (f.lo ≤ fld b f.off f.size ∧ fld b f.off f.size ≤ f.hi) ∧ firstBad b fs = none := by
  rw [firstBad]
  split <;> rename_i h <;> simp only [Bool.or_eq_true, decide_eq_true_eq] at h
  · simp only [reduceCtorEq, false_iff]
    omega
  · exact ⟨fun hrest => ⟨by omega, hrest⟩, fun hrest => hrest.2⟩

/-- A command whose function ID, length and fields pass executes. -/
theorem opFixed_ok {h : Held} {d : Dev} {fidOk : Nat → Bool} {len : Nat} {fs : List Fld} {k : OpResult} (hfid : fidOk h.cmd.fid = true)
    (hlen : h.cmd.params.length = roundUp len 4) (hbad : firstBad h.cmd.params (fs ++ padFields len (roundUp len 4)) = none) :
    opFixed h d fidOk len fs k = k := by
  simp [opFixed, hfid, hlen, hbad]

/-! ## Rows of packets that execute at once -/

theorem State.takes_cases {s : State} {i : Instr} {fid n op : Nat} {c : VCmd} (hi : verindOf i = some (op, c)) (h : s.takes i fid n = true) :
    s.dev.takesNext op c = true ∧ c.fid = fid ∧ c.params.length = n := by
  simpa [State.takes, hi, and_assoc] using h

/-- A packet of function `fid` and `n` bytes that executes at once, its outcome answered. -/
theorem exec_takes {s : State} {i : Instr} {fid n op : Nat} {c : VCmd} {o : OpOut} (hi : verindOf i = some (op, c)) (hopen : op ≠ 0x0001)
    (hclose : op ≠ 0x0002) (h : s.takes i fid n = true)
    (hrun : c.fid = fid → c.params.length = n →
      execOpcode { op := op, cmd := c, arr := s.dev.verind.arrivals } (s.packet i) = some o) : exec i s = .next (s.answered i o) := by
  obtain ⟨hnext, hfid, hlen⟩ := State.takes_cases hi h
  exact exec_answered hi hopen hclose hnext (hrun hfid hlen)

/-! ## What the answers by UDP leave of the channels -/

theorem Dev.of_besideHolders {d e : Dev} (h : e.besideHolders = d.besideHolders) :
    e.verind = d.verind ∧ e.pwr = d.pwr ∧ e.hst = d.hst ∧ e.svc = d.svc ∧ e.start = d.start ∧ e.cmp = d.cmp :=
  ⟨(congrArg Dev.verind h :), (congrArg Dev.pwr h :), (congrArg Dev.hst h :), (congrArg Dev.svc h :), (congrArg Dev.start h :),
    (congrArg Dev.cmp h :)⟩

theorem Dev.window_congr {d e : Dev} (h : e.hst.windows = d.hst.windows) (w : Nat) : e.window w = d.window w := by
  rw [Dev.window, h, ← Dev.window]

theorem Dev.of_besideFrames {d e : Dev} (h : e.besideFrames = d.besideFrames) :
    e.verind.chans = d.verind.chans ∧ e.verind.opens = d.verind.opens ∧ e.verind.resetReq = d.verind.resetReq ∧
      e.hst.windows = d.hst.windows ∧ e.pwr = d.pwr :=
  ⟨(congrArg (fun x : Dev => x.verind.chans) h :), (congrArg (fun x : Dev => x.verind.opens) h :),
    (congrArg (fun x : Dev => x.verind.resetReq) h :), (congrArg (fun x : Dev => x.hst.windows) h :), (congrArg Dev.pwr h :)⟩

theorem Dev.chan_congr {d e : Dev} (h : e.verind.chans = d.verind.chans) (k : Nat) : e.chan k = d.chan k := by
  rw [Dev.chan, h, ← Dev.chan]

/-- A channel's windows shut (R127). -/
theorem Dev.shutChannelWindows_shape (d : Dev) (k : Nat) : ∃ ws,
    (d.shutChannelWindows k).besideHolders = (d.withWindows ws).besideHolders ∧ WindowsShut d.hst.windows ws 16 (fun x => x.ch == k) := by
  unfold Dev.shutChannelWindows
  exact d.shutWindows_shape (fun x => x.ch == k) 16

end Sys2Proof.Machine
end

section
/-! The obligations of channels (R88 to R90). -/

namespace Sys2Proof.Packets

open Sys2Proof.Machine

/-! ## CHANNEL_CLOSE -/

/-- The part whose channel `k`, its windows shut, is closed without a deadline. -/
def closedAfter (e : Dev) (k : Nat) : Dev :=
  (e.setPwr (fun p => { p with deadlines := upd p.deadlines k (fun _ => none) })).closeChannel k

theorem closedAfter_frame (e : Dev) (k : Nat) : (closedAfter e k).hst = e.hst ∧
    (closedAfter e k).verind = (e.setChan k (fun _ => {})).verind ∧
    (closedAfter e k).pwr.deadlines = upd e.pwr.deadlines k (fun _ => none) := ⟨rfl, rfl, rfl⟩

/-- The part after CHANNEL_CLOSE of channel `k` with its reply written: the windows of the channel are shut, its deadline is gone, and it
is closed. -/
def closed (d : Dev) (k : Nat) : Dev := closedAfter (d.shutChannelWindows k) k

theorem closeChannel_endChannel (d : Dev) (k : Nat) : (d.endChannel k).closeChannel k = closed d k := by
  rw [closed, closedAfter, Dev.endChannel]

theorem closed_shape {d : Dev} {k : Nat} (hk : k < d.verind.chans.length) (hdl : k < d.pwr.deadlines.length) :
    (closed d k).chan k = {} ∧ (∀ w, w < 16 → ((closed d k).window w).isOpen = true → ((closed d k).window w).ch ≠ k) ∧
      (closed d k).pwr.deadlines.getD k none = none ∧ ∀ j, j ≠ k → (closed d k).chan j = d.chan j := by
  obtain ⟨ws, hview, hshut, -⟩ := d.shutChannelWindows_shape k
  obtain ⟨hhst, hverind, hdead⟩ := closedAfter_frame (d.shutChannelWindows k) k
  rw [closed]
  generalize d.shutChannelWindows k = e at hview hhst hverind hdead ⊢
  obtain ⟨hverind', hpwr, hhst', -⟩ := Dev.of_besideHolders hview
  have hchans : e.verind.chans = d.verind.chans := congrArg Verind.chans hverind'
  have hchan (j : Nat) : (closedAfter e k).chan j = (e.setChan k (fun _ => {})).chan j := Dev.chan_congr (by rw [hverind]) j
  refine ⟨?_, fun w hw hopen => ?_, ?_, fun j hj => ?_⟩
  · rw [hchan, Dev.chan_setChan_same _ (by rw [hchans]; exact hk)]
  · have hwin : (closedAfter e k).window w = ws.getD w {} := Dev.window_congr (d := d.withWindows ws) (by rw [hhst, hhst']) w
    rw [hwin] at hopen ⊢
    simpa using hshut w hw hopen
  · rw [hdead]
    exact upd_getD_same _ _ _ _ (by rw [hpwr]; exact hdl)
  · rw [hchan, Dev.chan_setChan_ne _ (Ne.symm hj), Dev.chan_congr hchans]

theorem settleReply_keeps (run : OpExec) (d : Dev) (h : Held) (st : Nat) (b : List Byte) (hrecov : h.recov = false)
    (hdup : h.dup = false) (hlen : h.cmd.channel < d.verind.chans.length) :
    (d.settleReply run h { status := st, bodies := [b] }).verind.chans.length = d.verind.chans.length ∧
      (d.settleReply run h { status := st, bodies := [b] }).pwr = d.pwr ∧
      ∀ j, j ≠ h.cmd.channel → (d.settleReply run h { status := st, bodies := [b] }).chan j = d.chan j := by
  obtain ⟨x, -, -, -, he⟩ := Dev.settleReply_single run d h st b hrecov hdup hlen
  rw [he]
  exact ⟨Dev.setChan_length .., rfl, fun j hj => Dev.chan_setChan_ne _ (Ne.symm hj)⟩

theorem withPacket_keeps (d : Dev) (op : Nat) (c : VCmd) : (d.withPacket op c).verind.chans.length = d.verind.chans.length ∧
    (d.withPacket op c).pwr = d.pwr ∧ ∀ j, j ≠ c.channel → ((d.withPacket op c).chan j).st = (d.chan j).st := by
  obtain ⟨-, -, -, hlen, -⟩ := d.heard_frame c
  rw [Dev.withPacket_eq]
  refine ⟨?_, ?_, fun j hj => ?_⟩
  · simpa [Dev.setChan, Dev.setVerind] using hlen
  · show (d.heard c).pwr = d.pwr
    unfold Dev.heard
    split <;> rfl
  · obtain ⟨q, hq, -⟩ := d.chan_heard c j
    rw [Dev.chan_setChan_ne _ (Ne.symm hj)]
    refine (congrArg Chan.st (Dev.chan_setChan_ne (d := d.heard c) (fun x => { x with peer := c.src }) (Ne.symm hj)) :).trans ?_
    rw [hq]

theorem runHeld_close {run : OpExec} {d : Dev} {h : Held} {o : OpOut} (hrun : run h d = some o) (hop : h.op = 0x0002)
    (hst : o.reply.status = stDone) :
    d.runHeld run h = (false, (o.after (o.dev.settleReply run h o.reply)).closeChannel h.cmd.channel) := by
  simp [Dev.runHeld, hrun, hop, hst]

theorem channelClose_row {c : VCmd} {s : State} (h : s.takes (.channelClose c) 0 0 = true) :
    Dev.verindRow 0x0002 c s.dev = (closed ((s.dev.withPacket 0x0002 c).settleReply execOpcode
      { op := 0x0002, cmd := c, arr := s.dev.verind.arrivals } (.done [])) c.channel).udpOut := by
  obtain ⟨hnext, hfid, hlen⟩ := State.takes_cases rfl h
  let hd : Held := { op := 0x0002, cmd := c, arr := s.dev.verind.arrivals }
  let d := s.dev.withPacket 0x0002 c
  have hrun : opChannelClose hd d = some { dev := d, reply := .done [], after := fun d => d.endChannel c.channel } := by
    rw [opChannelClose, opFixed_ok (by rw [show hd.cmd.fid = 0 from hfid]; rfl) hlen rfl]
  have hheld := runHeld_close (run := execOpcode) (h := hd) (d := d) hrun rfl rfl
  rw [closeChannel_endChannel] at hheld
  rw [Dev.verindRow_takes hnext (by decide), Dev.pump_takes hnext, hheld]
  simp only [Bool.false_eq_true, if_false]
  rfl

theorem channelClose_closes (c : VCmd) (s : State) (h : s.takes (.channelClose c) 0 0 = true)
    (hdl : c.channel < s.dev.pwr.deadlines.length) :
    ∃ t, exec (.channelClose c) s = .next t ∧ t.dev.chan c.channel = {} ∧
       (∀ w, w < 16 → (t.dev.window w).isOpen = true → (t.dev.window w).ch ≠ c.channel) ∧
       t.dev.pwr.deadlines.getD c.channel none = none ∧ (∀ j, j ≠ c.channel → (t.dev.chan j).st = (s.dev.chan j).st) := by
  obtain ⟨hnext, -⟩ := State.takes_cases rfl h
  obtain ⟨-, -, -, -, -, -, -, -, -, -, -, -, -, hlen⟩ := Dev.takesNext_cases hnext
  obtain ⟨hplen, hppwr, hpst⟩ := withPacket_keeps s.dev 0x0002 c
  let hd : Held := { op := 0x0002, cmd := c, arr := s.dev.verind.arrivals }
  let e := (s.dev.withPacket 0x0002 c).settleReply execOpcode hd (.done [])
  obtain ⟨helen, hepwr, hechan⟩ := settleReply_keeps execOpcode (s.dev.withPacket 0x0002 c) hd stDone [] rfl rfl (hplen ▸ hlen)
  obtain ⟨hchan, hwin, hdead, hother⟩ := closed_shape (d := e) (k := c.channel) (by rw [show e.verind.chans.length = _ from helen, hplen]; exact hlen)
    (by rw [show e.pwr = _ from hepwr, hppwr]; exact hdl)
  obtain ⟨hchans, -, -, hwindows, hpwr⟩ := Dev.of_besideFrames (closed e c.channel).besideFrames_udpOut
  refine ⟨_, State.run_congr (f := Dev.verindRow 0x0002 c) (g := fun _ => (closed e c.channel).udpOut) (channelClose_row h), ?_⟩
  generalize (closed e c.channel).udpOut = r at hchans hwindows hpwr
  refine ⟨(Dev.chan_congr hchans _).trans hchan, fun w hw hopen => ?_, ?_, fun j hj => ?_⟩
  · have hwindow : r.window w = (closed e c.channel).window w := Dev.window_congr hwindows w
    have hopen' : (r.window w).isOpen = true := hopen
    show (r.window w).ch ≠ c.channel
    rw [hwindow] at hopen' ⊢
    exact hwin w hw hopen'
  · show r.pwr.deadlines.getD c.channel none = none
    rw [hpwr, hdead]
  · show (r.chan j).st = _
    rw [Dev.chan_congr hchans, hother j hj, show e.chan j = _ from hechan j hj, hpst j hj]

/-! ## CHANNEL_OPEN -/

theorem endChannel_verind (d : Dev) (k : Nat) : (d.endChannel k).verind = d.verind ∧ (d.endChannel k).cmp = d.cmp := by
  obtain ⟨ws, hview, -⟩ := d.shutChannelWindows_shape k
  obtain ⟨hverind, -, -, -, -, hcmp⟩ := Dev.of_besideHolders hview
  rw [Dev.endChannel]
  generalize d.shutChannelWindows k = e at hverind hcmp
  exact ⟨hverind, hcmp⟩

theorem presentWaiting_keeps (d : Dev) : d.presentWaiting.verind.chans = d.verind.chans ∧ d.presentWaiting.verind.opens = d.verind.opens ∧
    d.presentWaiting.verind.resetReq = d.verind.resetReq := by
  obtain ⟨hchans, hopens, hreset, -⟩ := Dev.of_besideFrames (foldl_keeps Dev.besideFrames Dev.present Dev.besideFrames_present
    (d.verind.events.filter (fun e => e.shown == 0)) d)
  exact ⟨hchans, hopens, hreset⟩

/-- What CHANNEL_OPEN of `c` leaves of its channel and of the openings counted. -/
structure Opens (d e : Dev) (c : VCmd) : Prop where
  st : (e.chan c.channel).st = 2
  base : (e.chan c.channel).base = (c.seq + 1) % 65536
  held : (e.chan c.channel).held = []
  cache : (e.chan c.channel).cache.map (fun x => (x.seq, x.op)) = [(c.seq, 0x0001)]
  peer : (e.chan c.channel).peer = c.src
  order : bit (byteAt c.params 0) 0 = true → (e.chan c.channel).order = e.verind.opens ∧ e.verind.opens = d.verind.opens + 1

/-- The channel that CHANNEL_OPEN leaves before its reply (R89). -/
theorem chan_openChannel {d : Dev} {c : VCmd} (evt : Bool) (hlen : c.channel < d.verind.chans.length)
    (hheld : (d.chan c.channel).st = 1 → ∀ h ∈ (d.chan c.channel).held, h.cmd.seq = c.seq) :
    (d.openChannel c evt).chan c.channel =
      { st := 2, peer := c.src, base := c.seq, cache := [], held := [], order := if evt then d.verind.opens + 1 else 0 } ∧
    (d.openChannel c evt).verind.opens = d.verind.opens + (if evt then 1 else 0) ∧
    (d.openChannel c evt).verind.resetReq = d.verind.resetReq ∧
    (d.openChannel c evt).verind.chans.length = d.verind.chans.length := by
  have hnone : (if (d.chan c.channel).st == 1 then (d.chan c.channel).held.filter (fun h => h.cmd.seq != c.seq) else []) = [] := by
    split
    · rename_i hst
      refine List.filter_eq_nil_iff.mpr fun h hh => ?_
      simpa using hheld (beq_iff_eq.mp hst) h hh
    · rfl
  cases evt with
  | false =>
    refine ⟨(Dev.chan_setChan_same _ hlen).trans ?_, rfl, rfl, upd_length _ _ _⟩
    rw [hnone]
    rfl
  | true =>
    refine ⟨(Dev.chan_setChan_same (d := d.setVerind (fun v => { v with opens := v.opens + 1 })) _ hlen).trans ?_, rfl, rfl, upd_length _ _ _⟩
    rw [show (d.setVerind (fun v => { v with opens := v.opens + 1 })).chan c.channel = d.chan c.channel from rfl, hnone]
    rfl

theorem channelOpen_runs {d : Dev} {h : Held} (hop : h.op = 0x0001) (hrecov : h.recov = false) (hdup : h.dup = false)
    (hlen : h.cmd.channel < d.verind.chans.length) (hfid : h.cmd.fid = 0) (hparams : h.cmd.params.length = 4)
    (hevt : byteAt h.cmd.params 0 ≤ 1) (hzero : fld h.cmd.params 1 3 = 0)
    (hheld : (d.chan h.cmd.channel).st = 1 → ∀ x ∈ (d.chan h.cmd.channel).held, x.cmd.seq = h.cmd.seq) :
    ∃ e, d.runHeld execOpcode h = (e.verind.resetReq.isNone, e) ∧ Opens d e h.cmd ∧ e.verind.resetReq = d.verind.resetReq := by
  let evt := bit (byteAt h.cmd.params 0) 0
  let d1 := if (d.chan h.cmd.channel).st == 2 then d.endChannel h.cmd.channel else d
  have hd1 : d1.verind = d.verind := by
    dsimp only [d1]
    split
    · exact (endChannel_verind d _).1
    · rfl
  have hchan1 : d1.chan h.cmd.channel = d.chan h.cmd.channel := Dev.chan_congr (by rw [hd1]) _
  obtain ⟨hchan, hopens, hreset, hlen1⟩ := chan_openChannel (d := d1) (c := h.cmd) evt (by rw [hd1]; exact hlen) (by rw [hchan1]; exact hheld)
  let b := leb 1 h.cmd.src.port ++ leb 1 (((d1.openChannel h.cmd evt).verind.eventChannel).getD 0xFF) ++ leb 2 ((h.cmd.seq + 1) % 65536)
  have hexec : execOpcode h d = some { dev := d1.openChannel h.cmd evt, after := Dev.presentWaiting, reply := .done b } := by
    have hlow : execOpcode h d = opChannelOpen h d := by simp [execOpcode, execLow, hop]
    rw [hlow, opChannelOpen, opFixed_ok (by rw [hfid]; rfl) hparams]
    have : fld h.cmd.params 0 1 = byteAt h.cmd.params 0 := fld_one _ _
    exact firstBad_cons_eq_none.mpr ⟨⟨Nat.zero_le _, by rw [show fld h.cmd.params (upTo 0 1 1).off (upTo 0 1 1).size = _ from this]; exact hevt⟩,
      firstBad_cons_eq_none.mpr ⟨⟨Nat.zero_le _, le_of_eq hzero⟩, rfl⟩⟩
  obtain ⟨x, hseq, hxop, -, hsettle⟩ := Dev.settleReply_single execOpcode (d1.openChannel h.cmd evt) h stDone b hrecov hdup
    (by rw [hlen1, hd1]; exact hlen)
  let e := ((d1.openChannel h.cmd evt).settleReply execOpcode h (.done b)).presentWaiting
  have hrun : d.runHeld execOpcode h = (e.verind.resetReq.isNone, e) := by
    simp [Dev.runHeld, hexec, hop, Reply.done, e]
  obtain ⟨hechans, heopens, hereset⟩ := presentWaiting_keeps ((d1.openChannel h.cmd evt).settleReply execOpcode h (.done b))
  have hechan : e.chan h.cmd.channel = (((d1.openChannel h.cmd evt).chan h.cmd.channel).past h).cached x := by
    rw [Dev.chan_congr hechans, show (d1.openChannel h.cmd evt).settleReply execOpcode h (.done b) = _ from hsettle, Dev.chan_send,
      Dev.chan_setChan_same _ (by rw [hlen1, hd1]; exact hlen)]
  have hopens' : e.verind.opens = d.verind.opens + (if evt then 1 else 0) := by
    rw [heopens, show (d1.openChannel h.cmd evt).settleReply execOpcode h (.done b) = _ from hsettle, ← hd1]
    exact hopens
  refine ⟨e, hrun, ⟨?_, ?_, ?_, ?_, ?_, fun hbit => ?_⟩, ?_⟩
  · rw [hechan, hchan]; rfl
  · rw [hechan]; rfl
  · rw [hechan, hchan]; rfl
  · rw [hechan, hchan, ← hseq, ← hop, ← hxop]; rfl
  · rw [hechan, hchan]; rfl
  · rw [hechan, hchan, hopens', show evt = true from hbit, hd1]
    exact ⟨rfl, rfl⟩
  · rw [hereset, show (d1.openChannel h.cmd evt).settleReply execOpcode h (.done b) = _ from hsettle, ← hd1]
    exact hreset

theorem pump_idle {d : Dev} {k : Nat} (h : (d.chan k).held = []) (run : OpExec) (n : Nat) : d.pump run k n = d := by
  cases n with
  | zero => rfl
  | succ n => simp [Dev.pump, h]

/-- A channel that holds a CHANNEL_OPEN alone, opening. -/
theorem channelOpen_pumps {d : Dev} {h : Held} (hop : h.op = 0x0001) (hrecov : h.recov = false) (hdup : h.dup = false)
    (hlen : h.cmd.channel < d.verind.chans.length) (hfid : h.cmd.fid = 0) (hparams : h.cmd.params.length = 4)
    (hevt : byteAt h.cmd.params 0 ≤ 1) (hzero : fld h.cmd.params 1 3 = 0) (hrestart : d.cmp.restarting = false)
    (hreset : d.verind.resetReq = none) (hheld : (d.chan h.cmd.channel).held = [h]) (hbase : (d.chan h.cmd.channel).base = h.cmd.seq)
    (n : Nat) : Opens d (d.pump execOpcode h.cmd.channel (n + 1)) h.cmd := by
  obtain ⟨e, hrun, hopens, hreset'⟩ := channelOpen_runs hop hrecov hdup hlen hfid hparams hevt hzero (fun _ x hx => by
    rw [hheld, List.mem_singleton] at hx
    rw [hx])
  have hpump : d.pump execOpcode h.cmd.channel (n + 1) = e := by
    rw [Dev.pump, hrestart, hreset, hheld, hbase]
    simp [hrun, hreset', hreset, pump_idle hopens.held]
  rw [hpump]
  exact hopens

theorem adopt_keeps (d : Dev) (op : Nat) (c : VCmd) : (d.adopt op c).verind.chans = d.verind.chans ∧
    (d.adopt op c).verind.opens = d.verind.opens ∧ (d.adopt op c).verind.resetReq = d.verind.resetReq ∧ (d.adopt op c).cmp = d.cmp := by
  unfold Dev.adopt
  split
  · split <;> exact ⟨rfl, rfl, rfl, rfl⟩
  · exact ⟨rfl, rfl, rfl, rfl⟩

/-- A CHANNEL_OPEN that passes the checks reaches its execution with its source noted. -/
theorem receive_open {d : Dev} {c : VCmd} (hphase : d.start.phase = .ready) (hreset : d.verind.resetReq = none)
    (hframed : 16 ≤ c.framed) (hsync : c.sync = 0xA7#8) (hch : c.channel ≤ 7) (hcheck : VCmd.check35 0x0001 c = none)
    (hst : (d.chan c.channel).st = 0 ∨ (d.chan c.channel).st = 2 ∧ Peer.same (d.chan c.channel).peer c.src = true) :
    ∃ e : Dev, (if c.src.port == 3 then d.touchPeer c.src else d).receive execOpcode 0x0001 c = e.receiveOpen execOpcode c ∧
      e.verind.opens = d.verind.opens ∧ e.verind.resetReq = none ∧ e.cmp = d.cmp ∧ e.verind.chans.length = d.verind.chans.length ∧
      ((d.chan c.channel).st = 0 → ∃ q, e.chan c.channel = { d.chan c.channel with peer := q }) ∧
      (c.channel < d.verind.chans.length → (d.chan c.channel).st = 2 → e.chan c.channel = { d.chan c.channel with peer := c.src }) := by
  obtain ⟨hreset', hcmp, -, hlen, -⟩ := d.heard_frame c
  obtain ⟨q, hq, hqsame⟩ := d.chan_heard c c.channel
  have hopens : (d.heard c).verind.opens = d.verind.opens := by
    unfold Dev.heard
    split <;> rfl
  generalize hd : (if c.src.port == 3 then d.touchPeer c.src else d) = a
  have haphase : a.start.phase = .ready := by rw [← hd]; split <;> exact hphase
  have hareset : a.verind.resetReq = none := by rw [← hd]; split <;> exact hreset
  have hheard : a.setPort c.src.port (fun q => { q with lost := false }) = d.heard c := by rw [← hd]; rfl
  have hframing : (decide (c.framed < 16) || c.sync != 0xA7#8 || decide (7 < c.channel)) = false := by
    simp [hsync]
    omega
  obtain ⟨hchans, hopens', hreset'', hcmp'⟩ := adopt_keeps (d.heard c) 0x0001 c
  generalize hadopt : (d.heard c).adopt 0x0001 c = e at hchans hopens' hreset'' hcmp'
  have hchan : e.chan c.channel = { d.chan c.channel with peer := q } := (Dev.chan_congr hchans _).trans hq
  have hlen' : e.verind.chans.length = d.verind.chans.length := by rw [hchans, hlen]
  have hereset : e.verind.resetReq = none := by rw [hreset'', hreset', hreset]
  obtain hst | ⟨hst, hsame⟩ := hst
  · refine ⟨e, ?_, hopens'.trans hopens, hereset, hcmp'.trans hcmp, hlen', fun _ => ⟨q, hchan⟩, fun _ h2 => absurd (hst.symm.trans h2) (by decide)⟩
    rw [Dev.receive]
    simp only [haphase, hareset, hheard, hcheck, hframing, hadopt, hchan, hst]
    rfl
  · refine ⟨e.setChan c.channel (fun x => { x with peer := c.src }), ?_, hopens'.trans hopens, hereset, hcmp'.trans hcmp,
      (Dev.setChan_length ..).trans hlen', fun h0 => absurd (hst.symm.trans h0) (by decide), fun hk _ => ?_⟩
    · rw [Dev.receive]
      simp only [haphase, hareset, hheard, hcheck, hframing, hadopt, hchan, hst, hqsame, hsame]
      rfl
    · rw [Dev.chan_setChan_same _ (hlen' ▸ hk), hchan]

theorem verindRow_awake {d : Dev} {op : Nat} {c : VCmd} (hport : d.portEnabled c.src.port = true) (hawake : d.pwr.st ≤ 1) :
    Dev.verindRow op c d = ((if c.src.port == 3 then d.touchPeer c.src else d).receive execOpcode op c).udpOut := by
  rw [Dev.verindRow, hport, Dev.hostWakes_awake hawake]
  rfl

/-- A CHANNEL_OPEN on a closed channel, or on one open to its own source that it does not repeat, as its row executes it. -/
theorem receiveOpen_opens {d : Dev} {c : VCmd} (hlen : c.channel < d.verind.chans.length) (hfid : c.fid = 0) (hparams : c.params.length = 4)
    (hevt : byteAt c.params 0 ≤ 1) (hzero : fld c.params 1 3 = 0) (hrestart : d.cmp.restarting = false) (hreset : d.verind.resetReq = none)
    (h : (d.chan c.channel).st = 0 ∧ (d.chan c.channel).held = [] ∨
      (d.chan c.channel).st = 2 ∧ (c.seq + 65536 - (d.chan c.channel).base) % 65536 < 32768) :
    Opens d (d.receiveOpen execOpcode c) c := by
  obtain ⟨hst, hheld⟩ | ⟨hst, hdist⟩ := h
  · let a := d.setChan c.channel (fun x => { x with st := 1, peer := c.src, base := c.seq })
    let hd : Held := { op := 0x0001, cmd := c, arr := d.verind.arrivals }
    let b := (a.setVerind (fun v => { v with arrivals := v.arrivals + 1 })).setChan c.channel (fun x => { x with held := x.held ++ [hd] })
    have ha : a.chan c.channel = { d.chan c.channel with st := 1, peer := c.src, base := c.seq } := Dev.chan_setChan_same _ hlen
    have halen : c.channel < a.verind.chans.length := by rw [Dev.setChan_length]; exact hlen
    have hb : b.chan c.channel = { d.chan c.channel with st := 1, peer := c.src, base := c.seq, held := [hd] } := by
      rw [Dev.chan_setChan_same (d := a.setVerind (fun v => { v with arrivals := v.arrivals + 1 })) _ halen]
      rw [show (a.setVerind (fun v => { v with arrivals := v.arrivals + 1 })).chan c.channel = _ from ha, hheld]
      rfl
    have hblen : c.channel < b.verind.chans.length := by
      rw [show b.verind.chans.length = _ from Dev.setChan_length ..]
      exact halen
    have hreceive : d.receiveOpen execOpcode c = b.pump execOpcode c.channel 17 := by
      have htake : a.takeIn 0x0001 c = b := by simp only [Dev.takeIn, ha, hheld]; rfl
      rw [Dev.receiveOpen, ← htake]
      simp only [hst]
      rfl
    rw [hreceive]
    have hopens := channelOpen_pumps (d := b) (h := hd) rfl rfl rfl hblen hfid hparams hevt hzero hrestart hreset (by rw [show hd.cmd = c from rfl, hb])
      (by rw [show hd.cmd = c from rfl, hb]) 16
    exact ⟨hopens.st, hopens.base, hopens.held, hopens.cache, hopens.peer, hopens.order⟩
  · let hd : Held := { op := 0x0001, cmd := c, arr := d.verind.arrivals }
    obtain ⟨e, hrun, hopens, -⟩ := channelOpen_runs (d := d) (h := hd) rfl rfl rfl hlen hfid hparams hevt hzero
      (fun h1 => absurd (hst.symm.trans h1) (by decide))
    have hreceive : d.receiveOpen execOpcode c = (d.runHeld execOpcode hd).2 := by
      rw [Dev.receiveOpen]
      simp only [hst, hrestart, hreset, decide_eq_false (not_le.mpr hdist)]
      rfl
    rw [hreceive, hrun]
    exact hopens

/-- Settles O18: CHANNEL_OPEN by its two paths to execution, CHANNEL_CLOSE through its reply. -/
theorem channelsOpenAndClose : Obligations.ChannelsOpenAndClose := by
  refine ⟨?_, channelClose_closes⟩
  intro c s hport hawake hphase hreset hrestart hframed hsync hch hlen hcheck hfid hparams hevt hzero k h
  have hstate : (s.dev.chan k).st = 0 ∨ (s.dev.chan k).st = 2 ∧ Peer.same (s.dev.chan k).peer c.src = true :=
    h.imp (fun h => h.1) (fun h => ⟨h.1, h.2.1⟩)
  obtain ⟨e, hreceive, hopens, hereset, hcmp, helen, hclosed, hopen⟩ := receive_open hphase hreset hframed hsync hch hcheck hstate
  have hstart : (e.chan k).st = 0 ∧ (e.chan k).held = [] ∨ (e.chan k).st = 2 ∧ (c.seq + 65536 - (e.chan k).base) % 65536 < 32768 := by
    obtain ⟨hst, hheld⟩ | ⟨hst, -, hdist⟩ := h
    · obtain ⟨q, hq⟩ := hclosed hst
      exact .inl (by rw [hq]; exact ⟨hst, hheld⟩)
    · exact .inr (by rw [hopen hlen hst]; exact ⟨hst, hdist⟩)
  have ho := receiveOpen_opens (helen ▸ hlen) hfid hparams hevt hzero (by rw [hcmp]; exact hrestart) hereset hstart
  obtain ⟨hchans, hopens', -⟩ := Dev.of_besideFrames (e.receiveOpen execOpcode c).besideFrames_udpOut
  have hchan := Dev.chan_congr hchans k
  have hrow : Dev.verindRow 0x0001 c s.dev = (e.receiveOpen execOpcode c).udpOut := by rw [verindRow_awake hport hawake, hreceive]
  refine ⟨_, State.run_congr (f := Dev.verindRow 0x0001 c) (g := fun _ => (e.receiveOpen execOpcode c).udpOut) hrow, ?_⟩
  generalize (e.receiveOpen execOpcode c).udpOut = r at hchan hopens'
  refine ⟨(congrArg Chan.st hchan).trans ho.st, (congrArg Chan.base hchan).trans ho.base, (congrArg Chan.held hchan).trans ho.held,
    (congrArg (fun x : Chan => x.cache.map _) hchan).trans ho.cache, ?_, fun hbit => ?_⟩
  · have hpeer : (r.chan k).peer = c.src := (congrArg Chan.peer hchan).trans ho.peer
    show Peer.same (r.chan k).peer c.src = true
    simp [hpeer, Peer.same]
  · obtain ⟨horder, hcount⟩ := ho.order hbit
    exact ⟨(congrArg Chan.order hchan).trans (horder.trans hopens'.symm), hopens'.trans (hcount.trans (by rw [hopens]))⟩

end Sys2Proof.Packets
end

section
/-! The obligation of events to the host (R98 to R101). -/

namespace Sys2Proof.Packets

open Sys2Proof.Machine

/-! ## The event channel (R98) -/

/-- Channel `i` is open and was the last opened with EVT. -/
def lastOpened (v : Verind) (i : Nat) : Bool :=
  (v.chans.getD i {}).st == 2 && (v.chans.getD i {}).order != 0 && (v.chans.getD i {}).order == v.opens

theorem eventChannel_eq (v : Verind) : v.eventChannel =
    (match (List.range 8).foldl (fun (a : Option Nat) i => if lastOpened v i then some i else a) none with
     | some i => some i
     | none => if (v.chans.getD 0 {}).st == 2 then some 0 else none) := by
  unfold Verind.eventChannel lastOpened
  rfl

theorem foldl_last_none {p : Nat → Bool} {n : Nat} (h : ∀ i, i < n → p i = false) :
    (List.range n).foldl (fun (a : Option Nat) i => if p i then some i else a) none = none := by
  induction n with
  | zero => rfl
  | succ n ih => simp [List.range_succ, ih (fun i hi => h i (by omega)), h n (by omega)]

theorem foldl_last_unique {p : Nat → Bool} {k n : Nat} (hk : k < n) (h : ∀ i, i < n → (p i = true ↔ i = k)) :
    (List.range n).foldl (fun (a : Option Nat) i => if p i then some i else a) none = some k := by
  induction n with
  | zero => omega
  | succ n ih =>
    rw [List.range_succ, List.foldl_append, List.foldl_cons, List.foldl_nil]
    by_cases hn : n = k
    · rw [if_pos ((h n (by omega)).mpr hn), hn]
    · rw [if_neg (fun hp => hn ((h n (by omega)).mp hp)), ih (by omega) (fun i hi => h i (by omega))]

theorem eventChannel_last {v : Verind} {k : Nat} (hk : k < 8) (hst : (v.chans.getD k {}).st = 2) (horder : (v.chans.getD k {}).order = v.opens)
    (hopens : 0 < v.opens) (hunique : ∀ j, j ≠ k → (v.chans.getD j {}).order ≠ v.opens) : v.eventChannel = some k := by
  rw [eventChannel_eq, foldl_last_unique hk]
  intro i hi
  simp only [lastOpened, Bool.and_eq_true, beq_iff_eq, bne_iff_ne]
  constructor
  · rintro ⟨-, hi⟩
    by_contra hne
    exact hunique i hne hi
  · rintro rfl
    exact ⟨⟨hst, by omega⟩, horder⟩

theorem eventChannel_none {v : Verind} (h : ∀ j, j < 8 → (v.chans.getD j {}).order = v.opens → (v.chans.getD j {}).st ≠ 2) :
    v.eventChannel = if (v.chans.getD 0 {}).st = 2 then some 0 else none := by
  have hnone : ∀ i, i < 8 → lastOpened v i = false := fun i hi => by
    rw [Bool.eq_false_iff]
    simp only [lastOpened, ne_eq, Bool.and_eq_true, beq_iff_eq, bne_iff_ne]
    rintro ⟨⟨hst, -⟩, horder⟩
    exact h i hi horder hst
  rw [eventChannel_eq, foldl_last_none hnone]
  simp only [beq_iff_eq]

/-! ## The event queue (R99 to R101) -/

theorem updFirst_map {α β : Type} (g : α → β) (xs : List α) (p : α → Bool) (f : α → α) (h : ∀ x, g (f x) = g x) :
    (updFirst xs p f).map g = xs.map g := by
  induction xs with
  | nil => rfl
  | cons x xs ih =>
    rw [updFirst]
    split
    · simp [h]
    · simp [ih]

/-- A presentation changes how often an event was shown, and when (R99). -/
theorem present_keeps (d : Dev) (e : Ev) : (d.present e).verind.evSeq = d.verind.evSeq ∧
    (d.present e).verind.events.map (fun x => (x.seq, x.op, x.fid, x.body)) = d.verind.events.map (fun x => (x.seq, x.op, x.fid, x.body)) := by
  unfold Dev.present
  split
  · exact ⟨rfl, rfl⟩
  · exact ⟨rfl, updFirst_map _ _ _ _ (fun _ => rfl)⟩

theorem pushEvent_queues (d : Dev) (op fid : Nat) (b : List Byte) (rsv : Bool) :
    (d.pushEvent op fid b rsv).verind.evSeq = (d.verind.evSeq + 1) % 65536 ∧
    (d.pushEvent op fid b rsv).verind.events.map (fun x => (x.seq, x.op, x.fid, x.body)) =
      d.verind.events.map (fun x => (x.seq, x.op, x.fid, x.body)) ++ [(d.verind.evSeq, op, fid, b)] := by
  obtain ⟨hseq, hevents⟩ := present_keeps (d.setVerind (fun v => { v with
    events := v.events ++ [{ seq := d.verind.evSeq, op := op, fid := fid, body := b, rsv := rsv }], evSeq := (v.evSeq + 1) % 65536 }))
    { seq := d.verind.evSeq, op := op, fid := fid, body := b, rsv := rsv }
  exact ⟨hseq, hevents.trans (List.map_append ..)⟩

theorem emit_queues {d : Dev} (op fid : Nat) (b : List Byte) (hrestart : d.cmp.restarting = false)
    (hfree : d.verind.events.length + d.verind.outstanding < 256) : d.emit op fid b = d.pushEvent op fid b false := by
  have hslots : (d.verind.freeSlots == 0) = false := by
    simp only [Verind.freeSlots, beq_eq_false_iff_ne]
    omega
  simp [Dev.emit, hrestart, hslots]

theorem emit_counts {d : Dev} (op fid : Nat) (b : List Byte) (hrestart : d.cmp.restarting = false)
    (hfull : 256 ≤ d.verind.events.length + d.verind.outstanding) :
    d.emit op fid b = d.setVerind (fun v => { v with unsent := v.unsent + 1 }) := by
  have hslots : (d.verind.freeSlots == 0) = true := by
    simp only [Verind.freeSlots, beq_iff_eq]
    omega
  simp [Dev.emit, hrestart, hslots]

theorem eventQueue (d : Dev) (op fid : Nat) (b : List Byte) :
    (d.cmp.restarting = false → d.verind.events.length + d.verind.outstanding < 256 →
       (d.emit op fid b).verind.events.length = d.verind.events.length + 1 ∧
       (d.emit op fid b).verind.evSeq = (d.verind.evSeq + 1) % 65536 ∧
       (d.emit op fid b).verind.events.getLast?.map (fun e => (e.seq, e.op, e.fid, e.body)) = some (d.verind.evSeq, op, fid, b)) ∧
     (d.cmp.restarting = false → 256 ≤ d.verind.events.length + d.verind.outstanding →
       d.emit op fid b = d.setVerind (fun v => { v with unsent := v.unsent + 1 })) ∧
     (d.cmp.restarting = true → d.emit op fid b = d.holdEvent (.event op fid b)) ∧
     (∀ (h : Held) (f : Waiting → Dev → Dev), 128 ≤ d.verind.reserved → opAccept h d f = opErr d stNoResource 0xFFFF 0) := by
  refine ⟨fun hrestart hfree => ?_, emit_counts op fid b, fun hrestart => ?_, fun h f hreserved => ?_⟩
  · obtain ⟨hseq, hevents⟩ := pushEvent_queues d op fid b false
    rw [emit_queues op fid b hrestart hfree]
    refine ⟨?_, hseq, ?_⟩
    · simpa using congrArg List.length hevents
    · rw [← List.getLast?_map, hevents, List.getLast?_append]
      rfl
  · rw [Dev.emit, if_pos hrestart]
  · have hno : d.verind.canReserve = false := by
      simp [Verind.canReserve, not_lt.mpr hreserved]
    rw [opAccept, hno]
    rfl

/-! ## EVENT_ACK (R99) -/

theorem eventAck_runs {h : Held} {d : Dev} (hfid : h.cmd.fid = 0) (hlen : h.cmd.params.length = 4) (hzero : fld h.cmd.params 2 2 = 0) :
    opEventAck h d =
      (let n := (fld h.cmd.params 0 2 + 65537 - d.verind.ackFrom) % 65536
       if n == 0 || 32768 < n then opDone d
       else if (d.verind.sentTo + 65536 - d.verind.ackFrom) % 65536 < n then opErr d stBadParam 16 0x010A
       else some { dev := d.setVerind (fun v => { v with events := v.events.drop n }), reply := .done [], after := Dev.overflowEvent }) := by
  rw [opEventAck, opFixed_ok (by rw [hfid]; rfl) hlen]
  exact firstBad_cons_eq_none.mpr ⟨⟨Nat.zero_le _, le_of_eq hzero⟩, rfl⟩

/-- Settles O19: the event channel, the queue of 256 slots, and EVENT_ACK by how far it reaches. -/
theorem eventDelivery : Obligations.EventDelivery := by
  refine ⟨fun v k _ => ⟨fun hk hst horder hopens hunique => eventChannel_last hk hst horder hopens hunique, eventChannel_none⟩, eventQueue, ?_⟩
  intro c s h hzero i v n k
  have hrun (o : OpOut) (ho : opEventAck { op := 0x0003, cmd := c, arr := s.dev.verind.arrivals } (s.packet i) = some o) :
      exec i s = .next (s.answered i o) := exec_takes rfl (by decide) (by decide) h (fun _ _ => ho)
  obtain ⟨-, hfid, hlen⟩ := State.takes_cases rfl h
  have hack := eventAck_runs (h := { op := 0x0003, cmd := c, arr := s.dev.verind.arrivals }) (d := s.packet i) hfid hlen hzero
  refine ⟨fun hn => ?_, fun hlow hk hhigh => ?_, fun hk hhigh => ?_⟩
  · refine hrun _ (hack.trans (if_pos ?_))
    simpa using hn
  · refine hrun _ (hack.trans ((if_neg ?_).trans (if_neg (not_lt.mpr hk))))
    simp only [Bool.or_eq_true, beq_iff_eq, decide_eq_true_eq]
    change ¬ (n = 0 ∨ 32768 < n)
    omega
  · refine hrun _ (hack.trans ((if_neg ?_).trans (if_pos hk)))
    simp only [Bool.or_eq_true, beq_iff_eq, decide_eq_true_eq]
    change ¬ (n = 0 ∨ 32768 < n)
    omega

end Sys2Proof.Packets
end

section
/-! SUPPORT. Packet rows by their opcode: the part on which a packet executes, the checks it passes, and changes of the running
configuration (R119, R120, R122). -/

namespace Sys2Proof.Machine

/-- A packet changes of the part only its channels and its ports before it executes. -/
theorem State.packet_shape {i : Instr} {op : Nat} {c : VCmd} (hi : verindOf i = some (op, c)) (s : State) :
    ∃ cs ps, s.packet i = { s.dev with verind := { s.dev.verind with chans := cs, arrivals := s.dev.verind.arrivals + 1 },
                                       hst := { s.dev.hst with ports := ps } } := by
  have htouch (d : Dev) (p : Peer) : d.touchPeer p = { d with verind := { d.verind with chans := (d.touchPeer p).verind.chans } } := rfl
  have hpacket : s.packet i = s.dev.withPacket op c := by rw [State.packet, hi]
  rw [hpacket, Dev.withPacket_eq, Dev.heard]
  by_cases hport : (c.src.port == 3) = true
  · rw [if_pos hport, htouch]
    exact ⟨_, _, rfl⟩
  · rw [if_neg hport]
    exact ⟨_, _, rfl⟩

/-- A command of a row passes its checks and executes. -/
theorem opFixed_row {op arr : Nat} {c : VCmd} {d : Dev} {fidOk : Nat → Bool} {len : Nat} {fs : List Fld} {k : OpResult}
    (hfid : fidOk c.fid = true) (hlen : c.params.length = roundUp len 4)
    (hbad : firstBad c.params (fs ++ padFields len (roundUp len 4)) = none) :
    opFixed { op := op, cmd := c, arr := arr } d fidOk len fs k = k :=
  opFixed_ok hfid hlen hbad

/-! ## Changes of the running configuration -/

theorem opConfig_failed {h : Held} {d : Dev} (hfailed : (d.func h.cmd.fid).st = 5) (o : Option Nat) (k : OpResult) :
    opConfig h d o k = opErr d stBadState 0xFFFF 0x0101 := by
  simp [opConfig, Dev.failedCfg, hfailed]

theorem opConfig_offOnly {h : Held} {d : Dev} (hfailed : (d.func h.cmd.fid).st ≠ 5) (hon : (d.func h.cmd.fid).st ≠ 0) (o : Nat) (k : OpResult) :
    opConfig h d (some o) k = opErr d stBadState (16 + o) 0x0102 := by
  simp [opConfig, Dev.failedCfg, hfailed, hon]

theorem opConfig_off {h : Held} {d : Dev} (hoff : (d.func h.cmd.fid).st = 0) (o : Option Nat) (k : OpResult) : opConfig h d o k = k := by
  cases o <;> simp [opConfig, Dev.failedCfg, hoff]

theorem cfgChange_full {h : Held} {d : Dev} (hfull : d.verind.freeBacklog = none) (key : Nat) (f : RunCfg → RunCfg) (g : Dev → Dev) :
    cfgChange h d key f g = opErr d stNoResource 0xFFFF 0x0100 := by
  rw [cfgChange, hfull]

theorem cfgChange_commits {h : Held} {d : Dev} (hfree : d.verind.freeBacklog.isSome = true) (key : Nat) (f : RunCfg → RunCfg) (g : Dev → Dev) :
    cfgChange h d key f g = some { reply := .done [], dev := g (d.configured h.op key f) } := by
  obtain ⟨k, hk⟩ := Option.isSome_iff_exists.mp hfree
  rw [cfgChange, Dev.configured, hk]
  rfl

theorem freeBacklog_packet {i : Instr} {op : Nat} {c : VCmd} (hi : verindOf i = some (op, c)) (s : State) :
    (s.packet i).verind.freeBacklog = s.dev.verind.freeBacklog := by
  obtain ⟨cs, ps, hp⟩ := State.packet_shape hi s
  rw [hp]
  rfl

theorem func_packet {i : Instr} {op : Nat} {c : VCmd} (hi : verindOf i = some (op, c)) (s : State) (fid : Nat) :
    (s.packet i).func fid = s.dev.func fid := by
  obtain ⟨cs, ps, hp⟩ := State.packet_shape hi s
  rw [hp]
  rfl

/-- The layout of an opcode whose fields fill whole words. -/
theorem firstBad_unpadded {b : List Byte} {fs : List Fld} (h : firstBad b fs = none) (len : Nat) (hlen : roundUp len 4 - len = 0) :
    firstBad b (fs ++ padFields len (roundUp len 4)) = none := by
  rw [padFields, hlen]
  simpa using h

end Sys2Proof.Machine
end

section
/-! The obligations of refusals and queries (R113 to R115, Tables 5.5 to 5.20). -/

namespace Sys2Proof.Packets

open Sys2Proof.Machine

/-! ## An opcode of no table (R113) -/

/-- The opcodes of Table 4.11 and the tables of 05. -/
def opcodes : List Nat :=
  List.range 10 ++ (List.range 5).map (· + 0x0100) ++ (List.range 5).map (· + 0x0200) ++ (List.range 6).map (· + 0x0300) ++
  (List.range 6).map (· + 0x0400) ++ (List.range 8).map (· + 0x0500) ++ (List.range 4).map (· + 0x0600) ++
  (List.range 3).map (· + 0x0700) ++ (List.range 7).map (· + 0x0800) ++ (List.range 2).map (· + 0x0900) ++
  (List.range 6).map (· + 0x0A00) ++ (List.range 4).map (· + 0x0B00) ++ (List.range 5).map (· + 0x0C00) ++
  (List.range 10).map (· + 0x0D00) ++ (List.range 4).map (· + 0x0E00) ++ (List.range 7).map (· + 0x0F00)

/-- The rows that are packets of `c`. -/
def packetRows (c : VCmd) : List Instr :=
  [.deviceInfo c, .channelOpen c, .channelClose c, .eventAck c, .islandStatus c, .islandClear c, .quoinQuery c, .settingGet c,
   .settingSet c, .deviceReset c, .funcEnable c, .funcDisable c, .funcStatus c, .funcClear c, .funcList c, .almanacInfo c, .almanacSave c,
   .almanacRead c, .almanacWrite c, .almanacCompact c, .typecaseInfo c, .imageList c, .imageBegin c, .imageData c, .imageEnd c,
   .imageDelete c, .engineConfig c, .engineStatus c, .spareArm c, .spareDisarm c, .engineMigrate c, .personalityParam c, .portConfig c,
   .vlanSet c, .fdbAdd c, .fdbDelete c, .fdbRead c, .galleyConfig c, .filterSet c, .switchCounters c, .macConfig c, .macCounters c,
   .mdioRead c, .mdioWrite c, .proofConfig c, .mirrorConfig c, .mirrorCounters c, .mbConfig c, .mbRateDetect c, .mbObjectConfig c,
   .mbRingConfig c, .mbTransmit c, .mbWakeConfig c, .mbStatus c, .slConfig c, .slStatus c, .timeGet c, .timeConfig c, .timeStep c,
   .pulseConfig c, .captureConfig c, .timeStatus c, .formeRingConfig c, .impositionWrite c, .impositionSwitch c, .formeStatus c,
   .powerPolicy c, .deadline c, .alarmSet c, .wakeConfig c, .powerStatus c, .faultLogRead c, .serviceCounters c, .repair c,
   .engineReturn c, .bankRetire c, .sectorRetire c, .pipeSwitchover c, .portRemap c, .smRemove c, .smInsert c, .keyInfo c, .keyRevoke c,
   .debugChallenge c, .debugResponse c, .ringConfig c, .ringStatus c, .windowOpen c, .windowCommit c, .windowClose c, .channelBind c,
   .attnConfig c]

theorem verindOf_packetRows (c : VCmd) : (packetRows c).map verindOf = opcodes.map (fun op => some (op, c)) := rfl

/-- An opcode that no row carries is in no table. -/
theorem not_mem_opcodes {op : Nat} {c : VCmd} (h : ∀ i, verindOf i ≠ some (op, c)) : op ∉ opcodes := by
  intro hop
  have hmem : some (op, c) ∈ (packetRows c).map verindOf := by
    rw [verindOf_packetRows]
    exact List.mem_map_of_mem hop
  obtain ⟨i, -, hi⟩ := List.mem_map.mp hmem
  exact h i hi

theorem execLow_none {h : Held} {d : Dev} (hop : h.op ∉ opcodes) : execLow h d = none := by
  unfold execLow
  split
  case h_41 => rfl
  all_goals
    rename_i heq
    exact absurd (heq ▸ (by decide) : h.op ∈ opcodes) hop

theorem execHigh_none {h : Held} {d : Dev} (hop : h.op ∉ opcodes) : execHigh h d = none := by
  unfold execHigh
  split
  case h_53 => rfl
  all_goals
    rename_i heq
    exact absurd (heq ▸ (by decide) : h.op ∈ opcodes) hop

theorem unknown_opcode {h : Held} {d : Dev} (hop : ∀ (i : Instr) (c : VCmd), verindOf i ≠ some (h.op, c)) :
    execOpcode h d = opErr d stBadOpcode 6 0 := by
  have hnot := not_mem_opcodes (fun i => hop i h.cmd)
  rw [execOpcode, execLow_none hnot, execHigh_none hnot]
  rfl

/-! ## SL_CONFIG refused (R114, R115, R120 to R122) -/

theorem fidClass_line {f : Nat} (hlow : 0x0300 ≤ f) (hhigh : f ≤ 0x0303) : fidClass 3 f = true ∧ finst f = f - 0x0300 := by
  interval_cases f <;> decide

theorem fidClass_line_false {f : Nat} (h : f < 0x0300 ∨ 0x0303 < f) : fidClass 3 f = false := by
  have hids : ∀ g ∈ funcIds, fclass g = 3 → 0x0300 ≤ g ∧ g ≤ 0x0303 := by decide
  rw [Bool.eq_false_iff]
  intro hclass
  simp only [fidClass, fidAny, Bool.and_eq_true, beq_iff_eq, List.contains_iff_mem] at hclass
  have := hids f hclass.2 hclass.1
  omega

/-- The line configuration that the parameters of SL_CONFIG give (Table 5.14). -/
def slFields (p : List Byte) : SlCfg :=
  { rate := fld p 0 4, dataBits := byteAt p 4, parity := byteAt p 5, stop := byteAt p 6, lead := fld p 8 2, lag := fld p 10 2 }

theorem opSlConfig_checked {op arr : Nat} {c : VCmd} {d : Dev} (hclass : fidClass 3 c.fid = true) (hlen : c.params.length = 12)
    (hgood : (slFields c.params).bad = none) (hbyte : byteAt c.params 7 = 0) :
    opSlConfig { op := op, cmd := c, arr := arr } d =
      (let x := slFields c.params
       let n := finst c.fid
       let old := d.slCfg n
       opConfig { op := op, cmd := c, arr := arr } d (firstDiff [(0, x.rate != old.rate), (4, x.dataBits != old.dataBits),
         (5, x.parity != old.parity), (6, x.stop != old.stop)]) <|
       cfgChange { op := op, cmd := c, arr := arr } d (0x1C + n) (fun r => { r with sls := upd r.sls n (fun _ => x) })) := by
  rw [opSlConfig, opFixed_row (len := 12) (fs := []) hclass hlen rfl]
  show ifOk d (slFields c.params).bad _ = _
  rw [hgood]
  exact if_neg (by simp [hbyte])

/-- Settles O20: an opcode of no table, then SL_CONFIG by the check that refuses it. -/
theorem commandsRefused : Obligations.CommandsRefused := by
  refine ⟨fun h d hop => ⟨_, unknown_opcode hop, rfl, rfl, rfl⟩, ?_⟩
  intro c s h p i n x no
  obtain ⟨hnext, -, -⟩ := State.takes_cases rfl h
  have hfunc := func_packet (i := i) rfl s c.fid
  have hrun (st off det : Nat) (ho : opSlConfig { op := 0x0900, cmd := c, arr := s.dev.verind.arrivals } (s.packet i) =
      opErr (s.packet i) st off det) : exec i s = .next (no st off det) := exec_answered rfl (by decide) (by decide) hnext ho
  refine ⟨fun hfid => hrun _ _ _ ?_, fun hlow hhigh hlen => hrun _ _ _ ?_, fun hlow hhigh hlen => ?_⟩
  · simp only [opSlConfig, opFixed, fidClass_line_false hfid]
    rfl
  · have hne : (c.params.length != roundUp 12 4) = true := bne_iff_ne.mpr hlen
    simp only [opSlConfig, opFixed, (fidClass_line hlow hhigh).1, hne]
    rfl
  · obtain ⟨hclass, hinst⟩ := fidClass_line hlow hhigh
    refine ⟨fun hrate => hrun _ _ _ ?_, fun hgood hbyte => ⟨fun hfailed => hrun _ _ _ ?_, fun hf hon hdiff => hrun _ _ _ ?_,
      fun hoff hfull => hrun _ _ _ ?_⟩⟩
    · have hbad : (slFields c.params).bad = some 0 := if_pos (by
        rw [Bool.or_eq_true, decide_eq_true_eq, decide_eq_true_eq]
        exact hrate)
      rw [opSlConfig, opFixed_row (len := 12) (fs := []) hclass hlen rfl]
      show ifOk _ (slFields c.params).bad _ = _
      rw [hbad]
      rfl
    · rw [opSlConfig_checked hclass hlen hgood hbyte]
      exact opConfig_failed (hfunc ▸ hfailed) _ _
    · have hslCfg : (s.packet i).slCfg n = s.dev.slCfg n := by
        obtain ⟨cs, ps, hp⟩ := State.packet_shape (i := i) rfl s
        rw [hp]
        rfl
      have hrate : ((slFields c.params).rate != ((s.packet i).slCfg (finst c.fid)).rate) = true := by
        rw [hinst, show (s.packet i).slCfg (c.fid - 0x0300) = _ from hslCfg]
        exact bne_iff_ne.mpr hdiff
      rw [opSlConfig_checked hclass hlen hgood hbyte]
      simp only [firstDiff, hrate, if_true]
      exact opConfig_offOnly (hfunc ▸ hf) (hfunc ▸ hon) 0 _
    · have hnone : (s.packet i).verind.freeBacklog = none := by
        rw [freeBacklog_packet (op := 0x0900) (c := c) rfl]
        exact Option.not_isSome_iff_eq_none.mp (Bool.eq_false_iff.mp hfull)
      rw [opSlConfig_checked hclass hlen hgood hbyte]
      exact (opConfig_off (hfunc ▸ hoff) _ _).trans (cfgChange_full hnone _ _ _)

end Sys2Proof.Packets
end

section
/-! SUPPORT. A packet row of a fixed layout (R114, R115): what it answers once its function ID, length and fields pass. -/

namespace Sys2Proof.Machine

/-- A row of a fixed layout whose checks pass answers what its opcode makes of the part. -/
theorem exec_fixed {s : State} {i : Instr} {fid n op len : Nat} {c : VCmd} {o : OpOut} {fidOk : Nat → Bool} {fs : List Fld}
    {k : Dev → OpResult} (g : Held → Dev → OpResult) (hi : verindOf i = some (op, c)) (h : s.takes i fid n = true)
    (hexec : ∀ d, execOpcode { op := op, cmd := c, arr := s.dev.verind.arrivals } d = g { op := op, cmd := c, arr := s.dev.verind.arrivals } d)
    (hg : ∀ d, g { op := op, cmd := c, arr := s.dev.verind.arrivals } d =
      opFixed { op := op, cmd := c, arr := s.dev.verind.arrivals } d fidOk len fs (k d))
    (hfid : fidOk fid = true) (hlen : n = roundUp len 4) (hbad : firstBad c.params (fs ++ padFields len (roundUp len 4)) = none)
    (hk : k (s.packet i) = some o) (hop : op ≠ 0x0001 ∧ op ≠ 0x0002 := by decide) : exec i s = .next (s.answered i o) :=
  exec_takes hi hop.1 hop.2 h fun hcfid hclen => by
    rw [hexec, hg, opFixed_row (hcfid ▸ hfid) (hclen.trans hlen) hbad, hk]

end Sys2Proof.Machine
end

section
/-! The obligations of queries (Tables 5.5 to 5.20): each is answered with the payload of its table. -/

namespace Sys2Proof.Packets

open Sys2Proof.Machine

/-- Settles O21: each query of the device through its layout. -/
theorem deviceQueriesAnswer : Obligations.DeviceQueriesAnswer := by
  intro c s
  dsimp only
  refine ⟨fun h => ?_, fun h hlow hhigh hzero hno => ?_, fun h hkind hzero => ?_, fun h hkey hzero => ?_, fun hfid h => ?_, fun h => ?_,
    fun h hn hzero => ?_, fun h hlow hhigh => ?_, fun h => ?_, fun h => ?_⟩
  · obtain ⟨cs, ps, hp⟩ := State.packet_shape (i := .deviceInfo c) rfl s
    exact exec_fixed opDeviceInfo rfl h (fun _ => rfl) (fun _ => rfl) (by rfl) (by rfl) (by rfl) (by rw [hp]; rfl)
  · obtain ⟨cs, ps, hp⟩ := State.packet_shape (i := .islandStatus c) rfl s
    refine exec_fixed opIslandStatus rfl h (fun _ => rfl) (fun _ => rfl) rfl rfl ?_ ?_
    · simp [firstBad_cons_eq_none, firstBad_nil, between, rsv, padFields, roundUp, fld_one]
      omega
    · have hwords : ∀ x ∈ s.dev.islands.filter (fun x =>
          decide (byteAt c.params 0 ≤ x.id) && decide (x.id < byteAt c.params 0 + byteAt c.params 1)), (x.id == 0x0F) = false := by
        intro x hx
        obtain ⟨hmem, hrange⟩ := List.mem_filter.mp hx
        have := List.any_eq_false.mp hno x hmem
        rw [hrange, Bool.true_and] at this
        exact Bool.eq_false_iff.mpr this
      rw [hp]
      refine (congrArg some (congrArg₂ doneOut (if_neg (Bool.eq_false_iff.mp hno)) (List.flatMap_congr fun x hx => ?_)) :)
      simp only [Dev.islandWords, hwords x hx, Bool.false_eq_true, if_false, Bool.or_eq_true, beq_iff_eq]
      rfl
  · refine exec_fixed opQuoinQuery rfl h (fun _ => rfl) (fun _ => rfl) rfl rfl ?_ ?_
    · simp [firstBad_cons_eq_none, firstBad_nil, upTo, rsv, padFields, roundUp, fld_one]
      omega
    · simp only [beq_iff_eq]
      rfl
  · obtain ⟨cs, ps, hp⟩ := State.packet_shape (i := .settingGet c) rfl s
    refine exec_fixed (fidOk := fidDev) (len := 4) (fs := []) opSettingGet rfl h (fun _ => rfl) (fun _ => rfl) (by rfl) (by rfl) (by rfl) ?_
    rw [hp, if_neg (by simp [Option.isSome_iff_ne_none.mp hkey]), if_neg (by simpa using hzero)]
    rfl
  · refine exec_fixed opFuncStatus rfl h (fun _ => rfl) (fun _ => rfl) hfid rfl rfl ?_
    rw [func_packet (op := 0x0102) (c := c) rfl]
    rfl
  · have hfuncs : (s.packet (.funcList c)).funcs = s.dev.funcs := by
      obtain ⟨cs, ps, hp⟩ := State.packet_shape (i := .funcList c) rfl s
      rw [hp]
    refine exec_fixed opFuncList rfl h (fun _ => rfl) (fun _ => rfl) (by rfl) (by rfl) (by rfl) ?_
    rw [hfuncs]
    rfl
  · obtain ⟨cs, ps, hp⟩ := State.packet_shape (i := .engineStatus c) rfl s
    refine exec_fixed (fidOk := fidDev) (len := 4) (fs := []) opEngineStatus rfl h (fun _ => rfl) (fun _ => rfl) (by rfl) (by rfl) (by rfl) ?_
    have hall : peOrAll (byteAt c.params 0) = true := by simp [peOrAll, hn]
    have hone : (byteAt c.params 0 == 0xFF) = false := by
      rw [beq_eq_false_iff_ne]
      omega
    rw [hp, if_neg (by simpa using hall), if_neg (by simpa using hzero), hone]
    rfl
  · obtain ⟨cs, ps, hp⟩ := State.packet_shape (i := .faultLogRead c) rfl s
    refine exec_fixed opFaultLogRead rfl h (fun _ => rfl) (fun _ => rfl) rfl rfl ?_ (by rw [hp]; rfl)
    simp [firstBad_cons_eq_none, firstBad_nil, between, padFields, roundUp]
    omega
  · obtain ⟨cs, ps, hp⟩ := State.packet_shape (i := .serviceCounters c) rfl s
    refine exec_fixed (fidOk := fidDev) (len := 0) (fs := []) opServiceCounters rfl h (fun _ => rfl) (fun _ => rfl) (by rfl) (by rfl) (by rfl) ?_
    rw [hp]
    simp [opDone, doneOut, List.flatMap_cons]
  · obtain ⟨cs, ps, hp⟩ := State.packet_shape (i := .keyInfo c) rfl s
    exact exec_fixed opKeyInfo rfl h (fun _ => rfl) (fun _ => rfl) (by rfl) (by rfl) (by rfl) (by rw [hp]; rfl)

/-- Settles O22: each query of the Almanac and the Typecase through its layout. -/
theorem storageQueriesAnswer : Obligations.StorageQueriesAnswer := by
  intro c s
  dsimp only
  refine ⟨fun h => ?_, fun b h hzero hkey hvalue => ?_, fun h hzero hkey hvalue => ?_, fun h => ?_, fun h => ?_⟩
  · obtain ⟨cs, ps, hp⟩ := State.packet_shape (i := .almanacInfo c) rfl s
    refine exec_fixed (fun h d => opFixed h d fidDev 0 [] (opAlmanacInfo h d)) rfl h (fun _ => rfl) (fun _ => rfl) rfl rfl rfl ?_
    have hresil : b2n (!s.dev.alm.resil.isEmpty) = if s.dev.alm.resil = [] then 0 else 1 := by
      cases s.dev.alm.resil <;> rfl
    rw [hp, ← hresil]
    rfl
  · obtain ⟨cs, ps, hp⟩ := State.packet_shape (i := .almanacRead c) rfl s
    refine exec_fixed (fun h d => opFixed h d fidDev 4 [] (opAlmanacRead h d)) rfl h (fun _ => rfl) (fun _ => rfl) rfl rfl rfl ?_
    have hnot : ¬ fld c.params 0 2 < 0x8000 := by omega
    simp only [opAlmanacRead, hp, hzero, hnot, hvalue]
    rfl
  · obtain ⟨cs, ps, hp⟩ := State.packet_shape (i := .almanacRead c) rfl s
    refine exec_fixed (fun h d => opFixed h d fidDev 4 [] (opAlmanacRead h d)) rfl h (fun _ => rfl) (fun _ => rfl) rfl rfl rfl ?_
    have hnot : ¬ fld c.params 0 2 < 0x8000 := by omega
    simp only [opAlmanacRead, hp, hzero, hnot, hvalue]
    rfl
  · obtain ⟨cs, ps, hp⟩ := State.packet_shape (i := .typecaseInfo c) rfl s
    exact exec_fixed (fun h d => opFixed h d fidDev 0 [] (opTypecaseInfo h d)) rfl h (fun _ => rfl) (fun _ => rfl) rfl rfl rfl
      (by rw [hp]; rfl)
  · have htyp : (s.packet (.imageList c)).typ = s.dev.typ := by
      obtain ⟨cs, ps, hp⟩ := State.packet_shape (i := .imageList c) rfl s
      rw [hp]
    refine exec_fixed (fun h d => opFixed h d fidDev 0 [] (opImageList h d)) rfl h (fun _ => rfl) (fun _ => rfl) rfl rfl rfl ?_
    refine congrArg some (congrArg (doneOut _) (List.flatMap_congr fun k _ => ?_))
    rw [htyp]
    cases hw : (s.packet (.imageList c)).writingOf k <;> simp

/-! ## The network's queries -/

theorem fidClass_mac : ∀ n < 6, fidClass 1 (0x0100 + n) = true := by decide
theorem fidClass_mb : ∀ n < 4, fidClass 2 (0x0200 + n) = true := by decide
theorem fidClass_sl : ∀ n < 4, fidClass 3 (0x0300 + n) = true := by decide
theorem fidClass_le : ∀ n < 12, fidClass 4 (0x0400 + n) = true := by decide
theorem fidClass_fr : ∀ n < 2, fidClass 5 (0x0500 + n) = true := by decide
theorem fidClass_mirror : ∀ n < 4, fidClass 7 (0x0700 + n) = true := by decide
theorem fidClass_proof : ∀ n < 8, fidClass 8 (0x0800 + n) = true := by decide
theorem fidClass_ring : ∀ n < 32, fidClass 9 (0x0900 + n) = true := by decide

/-- The number of a function in its class is its low byte. -/
theorem finst_class (k : Nat) {n : Nat} (h : n < 256) : finst (256 * k + n) = n := by
  unfold finst
  omega

theorem finst_takes {s : State} {i : Instr} {op k n m : Nat} {c : VCmd} (hi : verindOf i = some (op, c)) (h : s.takes i (256 * k + n) m = true)
    (hn : n < 256) : finst c.fid = n := by
  obtain ⟨-, hfid, -⟩ := State.takes_cases hi h
  rw [hfid, finst_class k hn]

theorem fclass_takes {s : State} {i : Instr} {op k n m : Nat} {c : VCmd} (hi : verindOf i = some (op, c)) (h : s.takes i (256 * k + n) m = true)
    (hn : n < 256) : fclass c.fid = k := by
  obtain ⟨-, hfid, -⟩ := State.takes_cases hi h
  rw [hfid, fclass]
  omega

/-- Settles O23: each query of the network's units through its layout and its function ID. -/
theorem networkQueriesAnswer : Obligations.NetworkQueriesAnswer := by
  intro c s n hn
  dsimp only
  refine ⟨fun h hfirst hlow hhigh => ?_, fun h hport hzero => ?_, fun hm h => ?_, fun hm h => ?_, fun hm h => ?_, fun hm h => ?_,
    fun hm h => ?_, fun h => ?_, fun h => ?_, fun hm h => ?_, fun hm h => ?_⟩
  · obtain ⟨cs, ps, hp⟩ := State.packet_shape (i := .fdbRead c) rfl s
    refine exec_fixed opFdbRead rfl h (fun _ => rfl) (fun _ => rfl) rfl rfl ?_ (by rw [hp]; rfl)
    simp [firstBad_cons_eq_none, firstBad_nil, between, upTo, padFields, roundUp]
    omega
  · obtain ⟨cs, ps, hp⟩ := State.packet_shape (i := .switchCounters c) rfl s
    refine exec_fixed opSwitchCounters rfl h (fun _ => rfl) (fun _ => rfl) rfl rfl ?_ (by rw [hp]; rfl)
    simp [firstBad_cons_eq_none, firstBad_nil, rsv, upTo, padFields, roundUp, fld_one]
    omega
  · have hinst := finst_takes (k := 1) rfl h hn
    refine exec_fixed (fidOk := fidClass 1) (len := 0) (fs := []) opMacCounters rfl h (fun _ => rfl) (fun _ => rfl) (fidClass_mac n hm) rfl rfl ?_
    simp only [hinst]
    rfl
  · have hinst := finst_takes (k := 7) rfl h hn
    have hclass := fclass_takes (k := 7) rfl h hn
    obtain ⟨cs, ps, hp⟩ := State.packet_shape (i := .mirrorCounters c) rfl s
    refine exec_fixed (fidOk := fun f => fidClass 7 f || fidClass 8 f) (len := 0) (fs := []) opMirrorCounters rfl h (fun _ => rfl)
      (fun _ => rfl) (by rw [fidClass_mirror n hm]; rfl) rfl rfl ?_
    rw [hp]
    simp only [hinst, hclass]
    rfl
  · have hinst := finst_takes (k := 8) rfl h hn
    have hclass := fclass_takes (k := 8) rfl h hn
    obtain ⟨cs, ps, hp⟩ := State.packet_shape (i := .mirrorCounters c) rfl s
    refine exec_fixed (fidOk := fun f => fidClass 7 f || fidClass 8 f) (len := 0) (fs := []) opMirrorCounters rfl h (fun _ => rfl)
      (fun _ => rfl) (by rw [fidClass_proof n hm, Bool.or_true]) rfl rfl ?_
    rw [hp]
    simp only [hinst, hclass]
    rfl
  · have hinst := finst_takes (k := 2) rfl h hn
    obtain ⟨cs, ps, hp⟩ := State.packet_shape (i := .mbStatus c) rfl s
    refine exec_fixed opMbStatus rfl h (fun _ => rfl) (fun _ => rfl) (fidClass_mb n hm) rfl rfl ?_
    rw [hp]
    simp only [hinst]
    rfl
  · have hinst := finst_takes (k := 3) rfl h hn
    obtain ⟨cs, ps, hp⟩ := State.packet_shape (i := .slStatus c) rfl s
    refine exec_fixed opSlStatus rfl h (fun _ => rfl) (fun _ => rfl) (fidClass_sl n hm) rfl rfl ?_
    rw [hp]
    simp only [hinst]
    rfl
  · obtain ⟨cs, ps, hp⟩ := State.packet_shape (i := .timeGet c) rfl s
    obtain h | h := h
    · exact exec_fixed opTimeGet rfl h (fun _ => rfl) (fun _ => rfl) rfl rfl rfl (by rw [hp]; rfl)
    · exact exec_fixed opTimeGet rfl h (fun _ => rfl) (fun _ => rfl) rfl rfl rfl (by rw [hp]; rfl)
  · exact exec_fixed opTimeStatus rfl h (fun _ => rfl) (fun _ => rfl) (by decide) rfl rfl rfl
  · have hinst := finst_takes (k := 5) rfl h hn
    obtain ⟨cs, ps, hp⟩ := State.packet_shape (i := .formeStatus c) rfl s
    refine exec_fixed opFormeStatus rfl h (fun _ => rfl) (fun _ => rfl) (fidClass_fr n hm) rfl rfl ?_
    rw [hp]
    simp only [hinst]
    rfl
  · have hinst := finst_takes (k := 9) rfl h hn
    have hring : (s.packet (.ringStatus c)).ring n = s.dev.ring n := by
      obtain ⟨cs, ps, hp⟩ := State.packet_shape (i := .ringStatus c) rfl s
      rw [hp]
      rfl
    refine exec_fixed (fidOk := fidClass 9) (len := 0) (fs := []) opRingStatus rfl h (fun _ => rfl) (fun _ => rfl) (fidClass_ring n hm) rfl rfl ?_
    simp only [hinst, hring]
    rfl

end Sys2Proof.Packets
end

section
/-! SUPPORT. A packet row that changes the running configuration (R119, R120). -/

namespace Sys2Proof.Machine

theorem fld_two_lt (b : List Byte) (o : Nat) : fld b o 2 < 65536 := by
  have hlen : (slice b o 2).length ≤ 2 := List.length_take_le _ _
  calc fld b o 2 < 256 ^ (slice b o 2).length := leVal_lt _
    _ ≤ 256 ^ 2 := Nat.pow_le_pow_right (by decide) hlen

theorem byteAt_lt (b : List Byte) (o : Nat) : byteAt b o < 256 := (b.getD o 0).isLt

/-- A row that commits a change of the running configuration, which leaves the part as `f` and `g` would. -/
theorem exec_change {s : State} {i : Instr} {fid n op key : Nat} {c : VCmd} {f f' : RunCfg → RunCfg} {g g' : Dev → Dev}
    (hfree : s.backlogFree = true) (hi : verindOf i = some (op, c)) (h : s.takes i fid n = true)
    (hrun : c.fid = fid → c.params.length = n → execOpcode { op := op, cmd := c, arr := s.dev.verind.arrivals } (s.packet i) =
      cfgChange { op := op, cmd := c, arr := s.dev.verind.arrivals } (s.packet i) key f' g')
    (hsame : g' ((s.packet i).configured op key f') = g ((s.packet i).configured op key f))
    (hop : op ≠ 0x0001 ∧ op ≠ 0x0002 := by decide) : exec i s = .next (s.afterConfig i key f g) := by
  have hbacklog : (s.packet i).verind.freeBacklog.isSome = true := by
    rw [freeBacklog_packet hi]
    exact hfree
  obtain ⟨hnext, hfid, hlen⟩ := State.takes_cases hi h
  have hanswer := exec_answered hi hop.1 hop.2 hnext ((hrun hfid hlen).trans (cfgChange_commits hbacklog key f' g'))
  rw [hanswer, State.afterConfig, hi]
  dsimp only
  rw [hsame]

section Config

variable {s : State} {i : Instr} {fid n op len key : Nat} {c : VCmd} {fidOk : Nat → Bool} {fs : List Fld} {k : Dev → OpResult}
  {f g} (row : Held → Dev → OpResult) (hfree : s.backlogFree = true) (hi : verindOf i = some (op, c)) (h : s.takes i fid n = true)
  (hexec : ∀ d, execOpcode { op := op, cmd := c, arr := s.dev.verind.arrivals } d = row { op := op, cmd := c, arr := s.dev.verind.arrivals } d)
  (hrow : ∀ d, row { op := op, cmd := c, arr := s.dev.verind.arrivals } d =
    opFixed { op := op, cmd := c, arr := s.dev.verind.arrivals } d fidOk len fs (k d))
  (hfid : fidOk fid = true) (hlen : n = roundUp len 4) (hbad : firstBad c.params (fs ++ padFields len (roundUp len 4)) = none)

include hfree hi h hexec hrow hfid hlen hbad

/-- A row of a fixed layout whose change of the running configuration leaves the part as another change would. -/
theorem exec_config_as {f' : RunCfg → RunCfg} {g' : Dev → Dev}
    (hk : k (s.packet i) = cfgChange { op := op, cmd := c, arr := s.dev.verind.arrivals } (s.packet i) key f' g')
    (hsame : g' ((s.packet i).configured op key f') = g ((s.packet i).configured op key f))
    (hop : op ≠ 0x0001 ∧ op ≠ 0x0002 := by decide) : exec i s = .next (s.afterConfig i key f g) := by
  refine exec_change hfree hi h (fun hfid' hlen' => ?_) hsame hop
  subst hfid' hlen'
  rw [hexec, hrow, opFixed_row hfid hlen hbad, hk]

/-- A row of a fixed layout that commits a change of the running configuration. -/
theorem exec_config (hk : k (s.packet i) = cfgChange { op := op, cmd := c, arr := s.dev.verind.arrivals } (s.packet i) key f g)
    (hop : op ≠ 0x0001 ∧ op ≠ 0x0002 := by decide) : exec i s = .next (s.afterConfig i key f g) :=
  exec_config_as row hfree hi h hexec hrow hfid hlen hbad hk rfl hop

end Config

end Sys2Proof.Machine
end

section
/-! The obligations of configuring commands (R119 to R122, Tables 5.4 to 5.20). -/

namespace Sys2Proof.Packets

open Sys2Proof.Machine

/-- The layout of GALLEY_CONFIG: the limit of a class 7 galley is 0 (Table 5.10). -/
theorem galley_layout {p : List Byte} (h0 : byteAt p 0 ≤ 63) (h1 : byteAt p 1 ≤ 1) (h2 : 1 ≤ byteAt p 2) (h3 : byteAt p 3 ≤ 1)
    (h4 : fld p 4 2 ≤ 8192) (h7 : byteAt p 0 % 8 = 7 → fld p 4 2 = 0) (h6 : fld p 6 2 = 0) :
    firstBad p ([upTo 0 1 63, upTo 1 1 1, between 2 1 1 255, upTo 3 1 1, upTo 4 2 (if byteAt p 0 % 8 == 7 then 0 else 8192), rsv 6 2] ++
      padFields 8 (roundUp 8 4)) = none := by
  have hbyte := byteAt_lt p 2
  have hlimit : fld p 4 2 ≤ if byteAt p 0 % 8 == 7 then 0 else 8192 := by
    split
    · rename_i h
      exact le_of_eq (h7 (by simpa using h))
    · exact h4
  refine firstBad_unpadded ?_ 8 rfl
  simp only [firstBad_cons_eq_none, firstBad_nil, upTo, rsv, between, fld_one]
  exact ⟨by omega, by omega, by omega, by omega, ⟨Nat.zero_le _, hlimit⟩, by omega, trivial⟩

/-- Settles O24: each command through its layout and its change. -/
theorem deviceConfiguration : Obligations.DeviceConfiguration := by
  intro c s hfree
  dsimp only
  refine ⟨fun lo hi step h hrange hzero hlo hhi hstep => ?_, fun h hpol hzero hguard hst => ?_, fun h h0 h1 h2 h3 => ?_,
    fun h h0 h1 h2 => ?_, fun h h0 h1 h2 h2' h4 h5 h8 h10 => ?_, fun h hlow hhigh => ?_, fun h h0 h1 h2 h3 h4 h4' h6 => ?_,
    fun h h0 h1 h2 hbad => ?_⟩
  · refine exec_config (fidOk := fidDev) (len := 8) (fs := []) opSettingSet hfree rfl h (fun _ => rfl) (fun _ => rfl) rfl rfl rfl ?_
    have hin : ¬ ((decide (fld c.params 4 4 < lo) || decide (hi < fld c.params 4 4) || fld c.params 4 4 % step != 0) = true) := by
      simp only [Bool.or_eq_true, decide_eq_true_eq, bne_iff_ne]
      omega
    simp only [hrange, hzero]
    exact if_neg hin
  · have hst' : (s.packet (.powerPolicy c)).pwr.st ≤ byteAt c.params 0 := by
      obtain ⟨cs, ps, hp⟩ := State.packet_shape (i := .powerPolicy c) rfl s
      rw [hp]
      exact hst
    refine exec_config_as opPowerPolicy hfree rfl h (fun _ => rfl) (fun _ => rfl) rfl rfl ?_ rfl (if_neg (not_lt.mpr hst'))
    simp [firstBad_cons_eq_none, firstBad_nil, upTo, rsv, padFields, roundUp, fld_one]
    omega
  · refine exec_config opWakeConfig hfree rfl h (fun _ => rfl) (fun _ => rfl) rfl rfl ?_ rfl
    simp [firstBad_cons_eq_none, firstBad_nil, upTo, rsv, padFields, roundUp, fld_one]
    omega
  · refine exec_config opAttnConfig hfree rfl h (fun _ => rfl) (fun _ => rfl) rfl rfl ?_ rfl
    simp [firstBad_cons_eq_none, firstBad_nil, upTo, rsv, padFields, roundUp, fld_one]
    omega
  · refine exec_config opPortConfig hfree rfl h (fun _ => rfl) (fun _ => rfl) rfl rfl ?_ rfl
    simp [firstBad_cons_eq_none, firstBad_nil, upTo, rsv, between, padFields, roundUp, fld_one]
    omega
  · refine exec_config opVlanSet hfree rfl h (fun _ => rfl) (fun _ => rfl) rfl rfl ?_ rfl
    simp [firstBad_cons_eq_none, firstBad_nil, between, padFields, roundUp]
    omega
  · refine exec_config_as opGalleyConfig hfree rfl h (fun _ => rfl) (fun _ => rfl) rfl rfl (galley_layout h0 h1 h2 (by omega) h4 h4' h6) rfl ?_
    rw [h3]
    rfl
  · refine exec_config opFilterSet hfree rfl h (fun _ => rfl) (fun _ => rfl) rfl rfl ?_ ?_
    · simp [firstBad_cons_eq_none, firstBad_nil, upTo, rsv, padFields, roundUp, fld_one]
      omega
    · show ifOk _ (filterBad c.params) _ = _
      rw [hbad]
      rfl

/-! ## Engines (Tables 5.9, 5.10) -/

theorem opVar_ok {h : Held} {d : Dev} {fidOk : Nat → Bool} {fixed at_ unit : Nat} {fs : List Fld} {k : OpResult} (hfid : fidOk h.cmd.fid = true)
    (hshort : at_ + 2 ≤ h.cmd.params.length) (hlen : h.cmd.params.length = roundUp (fixed + fld h.cmd.params at_ 2 * unit) 4)
    (hbad : firstBad h.cmd.params (fs ++ padFields (fixed + fld h.cmd.params at_ 2 * unit)
      (roundUp (fixed + fld h.cmd.params at_ 2 * unit) 4)) = none) : opVar h d fidOk fixed at_ unit fs k = k := by
  have hlong : ¬ h.cmd.params.length < at_ + 2 := not_lt.mpr hshort
  rw [← hlen] at hbad
  simp only [opVar, hfid, ← hlen, hbad, hlong]
  simp

theorem roundUp_of_aligned {n : Nat} (h : n % 4 = 0) : roundUp n 4 = n := by
  unfold roundUp
  omega

theorem opConfig_commits {h : Held} {d : Dev} (hfailed : (d.func h.cmd.fid).st ≠ 5) (k : OpResult) : opConfig h d none k = k := by
  simp [opConfig, Dev.failedCfg, hfailed]

/-- SPARE_DISARM of an engine that is not FAILED. -/
theorem opSpareDisarm_frees {op arr l : Nat} {c : VCmd} {d : Dev} (hfid : fidClass 4 c.fid = true) (hlen : c.params.length = 0)
    (hfailed : (d.func c.fid).st ≠ 5) (hfree : d.verind.freeBacklog.isSome = true) (hinst : finst c.fid = l) :
    opSpareDisarm { op := op, cmd := c, arr := arr } d = some
      { reply := .done [], after := fun d => (d.failArm l).failMigrate l,
        dev := (d.configured op (0x20 + l) (fun r => { r with les := upd r.les l (fun x => { x with spare := none }) })).dropSpare l } := by
  rw [opSpareDisarm, opFixed_row (len := 0) (fs := []) hfid hlen rfl, opConfig_commits hfailed, cfgChange_commits hfree]
  simp only [hinst]
  rfl

/-- PERSONALITY_PARAM of a whole number of words, for an engine that is not FAILED: staged where the engine is ON (R248). -/
theorem opPersonalityParam_stages {op arr l len : Nat} {c : VCmd} {d : Dev} (hfid : fidClass 4 c.fid = true) (hplen : c.params.length = 4 + len)
    (hlen : fld c.params 2 2 = len) (hlow : 1 ≤ len) (hhigh : len ≤ 2048) (halign : len % 4 = 0) (hend : fld c.params 0 2 + len ≤ 4096)
    (hfailed : (d.func c.fid).st ≠ 5) (hinst : finst c.fid = l) :
    opPersonalityParam { op := op, cmd := c, arr := arr } d = cfgChange { op := op, cmd := c, arr := arr } d (0x20 + l)
      (fun r => { r with les := upd r.les l (fun x => { x with params := Mem.setBytes 0 x.params (fld c.params 0 2) (slice c.params 4 len) }) })
      (fun d => if d.isOn c.fid then d.setLe l (fun x => { x with stagedParam := true }) else d) := by
  have hround : roundUp (4 + len) 4 = 4 + len := roundUp_of_aligned (by omega)
  have hbad : firstBad c.params ([upTo 0 2 4095, between 2 2 1 2048] ++ padFields (4 + len) (roundUp (4 + len) 4)) = none := by
    simp [hround, padFields, firstBad_cons_eq_none, firstBad_nil, upTo, between]
    omega
  have hvar (k : OpResult) := opVar_ok (h := { op := op, cmd := c, arr := arr }) (d := d) (fixed := 4) (at_ := 2) (unit := 1)
    (fs := [upTo 0 2 4095, between 2 2 1 2048]) (k := k) hfid (by dsimp only; omega)
    (by dsimp only; rw [hlen, Nat.mul_one, hround, hplen]) (by dsimp only; rw [hlen, Nat.mul_one]; exact hbad)
  rw [opPersonalityParam]
  dsimp only
  rw [hvar, hlen, hinst, if_neg (not_lt.mpr hend), opConfig_commits hfailed]

/-- Settles O25: what waits for a meridian or a start, each through its layout. -/
theorem engineConfiguration : Obligations.EngineConfiguration := by
  intro c s l hfree hl hfailed
  dsimp only
  refine ⟨fun h h0 h1 h2 h3 h4 h4' h6 hgate => ?_, fun h h0 hslot h1 h2 h2' h3 => ?_, fun len h hlen hlow hhigh halign hend => ?_, fun h => ?_⟩
  · refine exec_config_as opGalleyConfig hfree rfl h (fun _ => rfl) (fun _ => rfl) rfl rfl (galley_layout h0 h1 h2 (by omega) h4 h4' h6) rfl ?_
    obtain ⟨cs, ps, hp⟩ := State.packet_shape (i := .galleyConfig c) rfl s
    rw [h3]
    refine if_pos ?_
    rw [hp]
    exact hgate
  · have hinst := finst_takes (k := 4) rfl h (by omega)
    have hfid : c.fid = 0x0400 + l := (State.takes_cases rfl h).2.1
    have htyp : (s.packet (.engineConfig c)).typ = s.dev.typ := by
      obtain ⟨cs, ps, hp⟩ := State.packet_shape (i := .engineConfig c) rfl s
      rw [hp]
    have hpref : peOrAll (byteAt c.params 1) = true := by
      simp only [peOrAll, Bool.or_eq_true, decide_eq_true_eq, beq_iff_eq]
      exact h1
    have hdiv : ¬ ((decide (byteAt c.params 2 < 2) || decide (16 < byteAt c.params 2)) = true) := by
      simp only [Bool.or_eq_true, decide_eq_true_eq]
      omega
    refine exec_config opEngineConfig hfree rfl h (fun _ => rfl) (fun _ => rfl) (fidClass_le l hl) rfl ?_ ?_
    · simp [firstBad_cons_eq_none, firstBad_nil, upTo, padFields, roundUp, fld_one]
      omega
    · simp only [htyp, hslot, hpref, h3, hinst, if_neg hdiv]
      refine opConfig_commits ?_ _
      rw [func_packet (op := 0x0400) (c := c) rfl, hfid]
      exact hfailed
  · have hinst := finst_takes (k := 4) rfl h (by omega)
    have hfid : c.fid = 0x0400 + l := (State.takes_cases rfl h).2.1
    refine exec_change hfree rfl h (fun _ hplen => opPersonalityParam_stages (hfid ▸ fidClass_le l hl) hplen hlen hlow hhigh halign hend ?_ hinst) ?_
    · rw [func_packet (op := 0x0405) (c := c) rfl, hfid]
      exact hfailed
    · obtain ⟨cs, ps, hp⟩ := State.packet_shape (i := .personalityParam c) rfl s
      rw [hp, hfid]
      simp only [Dev.isOn, beq_iff_eq]
      rfl
  · have hinst := finst_takes (k := 4) rfl h (by omega)
    refine exec_takes rfl (by decide) (by decide) h fun hfid hlen => ?_
    refine opSpareDisarm_frees (hfid ▸ fidClass_le l hl) hlen ?_ ?_ hinst
    · rw [func_packet (op := 0x0403) (c := c) rfl, hfid]
      exact hfailed
    · rw [freeBacklog_packet (op := 0x0403) (c := c) rfl]
      exact hfree

/-! ## Units that are OFF (Tables 5.11 to 5.14) -/

theorem ifOk_none (d : Dev) (k : OpResult) : ifOk d none k = k := rfl

theorem cfg_packet {i : Instr} {op : Nat} {c : VCmd} (hi : verindOf i = some (op, c)) (s : State) : (s.packet i).cfg = s.dev.cfg := by
  obtain ⟨cs, ps, hp⟩ := State.packet_shape hi s
  rw [hp]

/-- A function that is OFF takes any of its fields (R121). -/
theorem opConfig_off_packet {s : State} {i : Instr} {op arr op' : Nat} {c : VCmd} (hi : verindOf i = some (op, c))
    (hoff : (s.dev.func c.fid).st = 0) (o : Option Nat) (k : OpResult) :
    opConfig { op := op', cmd := c, arr := arr } (s.packet i) o k = k := by
  refine opConfig_off ?_ o k
  rw [func_packet hi]
  exact hoff

/-- An identifier's limit by its extension bit, of a byte that is 0 or 1 (Table 5.13). -/
theorem identMax_bit {b : Nat} (h : b ≤ 1) : identMax (bit b 0) = if b = 1 then 0x1FFFFFFF else 0x7FF := by
  obtain rfl | rfl : b = 0 ∨ b = 1 := by omega
  · rfl
  · rfl

/-- Settles O26: each command through its layout, its limits and its change. -/
theorem unitConfiguration : Obligations.UnitConfiguration := by
  intro c s n hfree hoff
  dsimp only
  refine ⟨fun hn h h11 hbad => ?_, fun hn h h2 h3 => ?_, fun hn h h0 h2 h2' h3 h4 h5 => ?_, fun hn h h10 hbad => ?_,
    fun hn h h0 h1 h2 h3 h4 => ?_, fun hn h h0 h0' halign h2 => ?_, fun hn h h0 h1 h2 h4 h12 h13 => ?_,
    fun hn h h0 h0' h4 h4' h5 h6 h6' h7 h8 h10 h9 => ?_⟩
  · have hinst := finst_takes (k := 1) rfl h (by omega)
    have hstart : (s.packet (.macConfig c)).start = s.dev.start := by
      obtain ⟨cs, ps, hp⟩ := State.packet_shape (i := .macConfig c) rfl s
      rw [hp]
    refine exec_config (len := 12) (fs := []) opMacConfig hfree rfl h (fun _ => rfl) (fun _ => rfl) (fidClass_mac n hn) rfl rfl ?_
    simp only [hinst, hstart, hbad, h11]
    exact opConfig_off_packet rfl hoff _ _
  · have hinst := finst_takes (k := 7) rfl h (by omega)
    have hbad (ing eg : Nat) : MirrorCfg.bad { ingress := ing, egress := eg, dest := byteAt c.params 2, cls := byteAt c.params 3 } = none := by
      simp only [MirrorCfg.bad, if_neg (not_lt.mpr h2), if_neg (not_lt.mpr h3)]
    refine exec_config (len := 4) (fs := []) opMirrorConfig hfree rfl h (fun _ => rfl) (fun _ => rfl) (fidClass_mirror n hn) rfl rfl ?_
    simp only [hinst, hbad, ifOk_none]
    exact opConfig_off_packet (i := .mirrorConfig c) rfl hoff _ _
  · have hinst := finst_takes (k := 8) rfl h (by omega)
    have hbad : ProofCfg.bad { n := fld c.params 0 2, trunc := byteAt c.params 2, dir := byteAt c.params 3, ring := byteAt c.params 4 } = none := by
      have hsize := fld_two_lt c.params 0
      simp only [ProofCfg.bad, Bool.or_eq_true, decide_eq_true_eq]
      repeat' rw [if_neg (by omega)]
    refine exec_config (len := 8) (fs := []) opProofConfig hfree rfl h (fun _ => rfl) (fun _ => rfl) (fidClass_proof n hn) rfl rfl ?_
    simp only [hinst, hbad, h5, ifOk_none, bne_self_eq_false, Bool.false_eq_true, if_false]
    exact opConfig_off_packet (i := .proofConfig c) rfl hoff _ _
  · have hinst := finst_takes (k := 2) rfl h (by omega)
    have hold : (s.packet (.mbConfig c)).mbCfg n = s.dev.mbCfg n := by
      rw [Dev.mbCfg, cfg_packet (op := 0x0800) (c := c) rfl, ← Dev.mbCfg]
    refine exec_config (len := 12) (fs := []) opMbConfig hfree rfl h (fun _ => rfl) (fun _ => rfl) (fidClass_mb n hn) rfl rfl ?_
    simp only [hinst, hold, hbad, h10]
    exact opConfig_off_packet rfl hoff _ _
  · have hinst := finst_takes (k := 2) rfl h (by omega)
    refine exec_config opMbObjectConfig hfree rfl h (fun _ => rfl) (fun _ => rfl) (fidClass_mb n hn) rfl ?_ ?_
    · rw [identMax_bit h3]
      refine firstBad_unpadded ?_ 12 rfl
      simp only [firstBad_cons_eq_none, firstBad_nil, upTo, fld_one]
      exact ⟨by omega, by omega, by omega, by omega, ⟨Nat.zero_le _, h4⟩, trivial⟩
    · simp only [hinst]
      exact opConfig_off_packet rfl hoff _ _
  · have hinst := finst_takes (k := 2) rfl h (by omega)
    have hentries : ringEntriesOk (fld c.params 0 2) = true := by
      simp [ringEntriesOk]
      omega
    refine exec_config (len := 4) (fs := []) opMbRingConfig hfree rfl h (fun _ => rfl) (fun _ => rfl) (fidClass_mb n hn) rfl rfl ?_
    simp only [hinst, hentries, h2]
    exact opConfig_off_packet rfl hoff _ _
  · have hinst := finst_takes (k := 2) rfl h (by omega)
    have hold : (s.packet (.mbWakeConfig c)).mbCfg n = s.dev.mbCfg n := by
      rw [Dev.mbCfg, cfg_packet (op := 0x0805) (c := c) rfl, ← Dev.mbCfg]
    refine exec_config opMbWakeConfig hfree rfl h (fun _ => rfl) (fun _ => rfl) (fidClass_mb n hn) rfl ?_ ?_
    · rw [identMax_bit h1]
      refine firstBad_unpadded ?_ 32 rfl
      simp only [firstBad_cons_eq_none, firstBad_nil, upTo, rsv, fld_one]
      exact ⟨by omega, by omega, by omega, ⟨Nat.zero_le _, h4⟩, by omega, by omega, trivial⟩
    · simp only [hinst, hold]
      exact opConfig_off_packet rfl hoff _ _
  · have hinst := finst_takes (k := 3) rfl h (by omega)
    have hbad : (slFields c.params).bad = none := by
      show SlCfg.bad { rate := _, dataBits := _, parity := _, stop := _, lead := _, lag := _ } = none
      simp only [SlCfg.bad, Bool.or_eq_true, Bool.and_eq_true, decide_eq_true_eq, beq_iff_eq, bne_iff_ne]
      repeat' rw [if_neg (by omega)]
    refine exec_change (g' := fun d => d) hfree rfl h (fun hfid hlen => ?_) rfl
    refine (opSlConfig_checked (hfid ▸ fidClass_sl n hn) hlen hbad h7).trans ?_
    simp only [hinst]
    exact opConfig_off_packet rfl hoff _ _

/-! ## Time, pulses, captures and rings that are OFF (Tables 5.15, 5.16, 5.20) -/

/-- Settles O27: each command through its layout, its limits and its change. -/
theorem timeAndRingConfiguration : Obligations.TimeAndRingConfiguration := by
  intro c s n hfree hoff
  dsimp only
  refine ⟨fun h h7 h14 hbad => ?_, fun h h0 h1 h2 h4 h4' h8 h8' h12 => ?_, fun h h0 h1 h2 h3 => ?_,
    fun hn h h0 h0' h1 h4 h4' => ?_, fun hn h h10 hbad => ?_⟩
  · refine exec_config (len := 16) (fs := []) opTimeConfig hfree rfl h (fun _ => rfl) (fun _ => rfl) rfl rfl rfl ?_
    rw [cfg_packet (op := 0x0A01) (c := c) rfl]
    simp only [hbad, h7, h14]
    exact opConfig_off_packet rfl hoff _ _
  · have hperiod : fld c.params 4 4 ≤ 1000000000 := Nat.le_of_dvd (by decide) (Nat.dvd_of_mod_eq_zero h4')
    have hbad : PulseCfg.bad
        { flags := byteAt c.params 1, period := fld c.params 4 4, width := fld c.params 8 4, phase := fld c.params 12 4 } = none := by
      simp only [PulseCfg.bad, Bool.or_eq_true, decide_eq_true_eq, bne_iff_ne]
      repeat' rw [if_neg (by omega)]
    refine exec_config opPulseConfig hfree rfl h (fun _ => rfl) (fun _ => rfl) rfl rfl ?_ ?_
    · simp [firstBad_cons_eq_none, firstBad_nil, upTo, rsv, padFields, roundUp, fld_one]
      omega
    · simp only [hbad, ifOk_none]
      exact opConfig_off_packet (i := .pulseConfig c) rfl hoff _ _
  · refine exec_config_as opCaptureConfig hfree rfl h (fun _ => rfl) (fun _ => rfl) rfl rfl ?_
      (opConfig_off_packet (i := .captureConfig c) rfl hoff _ _) ?_
    · simp [firstBad_cons_eq_none, firstBad_nil, upTo, rsv, padFields, roundUp, fld_one]
      omega
    · rfl
  · have hinst := finst_takes (k := 5) rfl h (by omega)
    have hbad (ether claim : Nat) : FrCfg.bad
        { role := byteAt c.params 0, rank := byteAt c.params 1, etherType := ether, cycle := fld c.params 4 4, claim := claim } = none := by
      simp only [FrCfg.bad, Bool.or_eq_true, decide_eq_true_eq]
      repeat' rw [if_neg (by omega)]
    refine exec_config (len := 12) (fs := []) opFormeRingConfig hfree rfl h (fun _ => rfl) (fun _ => rfl) (fidClass_fr n hn) rfl rfl ?_
    simp only [hinst, hbad]
    exact opConfig_off_packet rfl hoff _ _
  · have hinst := finst_takes (k := 9) rfl h (by omega)
    refine exec_config (len := 12) (fs := []) opRingConfig hfree rfl h (fun _ => rfl) (fun _ => rfl) (fidClass_ring n hn) rfl rfl ?_
    rw [cfg_packet (op := 0x0F00) (c := c) rfl]
    simp only [hinst, hbad, h10]
    exact opConfig_off_packet rfl hoff _ _

end Sys2Proof.Packets
end

section
/-! SUPPORT. What a packet row finds of the part when it executes: all but the channels and the ports stands as before. -/

namespace Sys2Proof.Machine

/-- A view of the part that the channels, the arrivals and the ports do not show. -/
theorem packet_congr {α : Type} {i : Instr} {op : Nat} {c : VCmd} {s : State} (hi : verindOf i = some (op, c)) (V : Dev → α)
    (hV : ∀ cs n ps, V { s.dev with verind := { s.dev.verind with chans := cs, arrivals := n }, hst := { s.dev.hst with ports := ps } } = V s.dev) :
    V (s.packet i) = V s.dev := by
  obtain ⟨cs, ps, hp⟩ := State.packet_shape hi s
  rw [hp, hV]

theorem tick_packet {i : Instr} {op : Nat} {c : VCmd} (hi : verindOf i = some (op, c)) (s : State) : (s.packet i).tick = s.dev.tick :=
  packet_congr hi Dev.tick fun _ _ _ => rfl

/-- Fields that are all within their limits. -/
theorem firstBad_of_within {b : List Byte} {fs : List Fld} (h : ∀ f ∈ fs, f.lo ≤ fld b f.off f.size ∧ fld b f.off f.size ≤ f.hi) :
    firstBad b fs = none := by
  induction fs with
  | nil => rfl
  | cons f fs ih => exact firstBad_cons_eq_none.mpr ⟨h f List.mem_cons_self, ih fun g hg => h g (List.mem_cons_of_mem _ hg)⟩

end Sys2Proof.Machine
end

section
/-! The obligations of commands that take effect at once (R125, R310, R359, R402, R491, R512, R513, R523). -/

namespace Sys2Proof.Packets

open Sys2Proof.Machine

/-- Settles O28: each command through its layout. -/
theorem deviceCommandsTakeEffect : Obligations.DeviceCommandsTakeEffect := by
  intro c s
  dsimp only
  refine ⟨fun h hisland hmask hzero => ?_, fun hfid h hflag hzero => ?_, fun h hflag hzero => ?_, fun op c' hreset => ?_,
    fun h hflag hzero hfuture => ?_, fun h hflag hzero => ?_, fun h hflag hzero hns hfuture => ?_, fun h hflag hzero hns hepoch hfuture => ?_,
    fun h hflag hzero hns => ?_, fun h => ?_⟩
  · refine exec_fixed (len := 4) (fs := []) opIslandClear rfl h (fun _ => rfl) (fun _ => rfl) rfl rfl rfl ?_
    have hhas : (s.packet (.islandClear c)).hasIsland (byteAt c.params 0) = true :=
      (packet_congr (i := .islandClear c) rfl (fun d => d.hasIsland (byteAt c.params 0)) fun _ _ _ => rfl).trans hisland
    simp only [hhas, not_lt.mpr hmask, hzero]
    rfl
  · refine exec_fixed opFuncClear rfl h (fun _ => rfl) (fun _ => rfl) hfid rfl ?_ ?_
    · simp [firstBad_cons_eq_none, firstBad_nil, upTo, rsv, padFields, roundUp, fld_one]
      omega
    · have hislands : (s.packet (.funcClear c)).funcIslands c.fid = s.dev.funcIslands c.fid :=
        packet_congr (i := .funcClear c) rfl (fun d => d.funcIslands c.fid) fun _ _ _ => rfl
      show opDone (if bit (byteAt c.params 0) 0 then Dev.clearOvr _ (Dev.funcIslands _ c.fid) else _) = _
      rw [hflag, hislands]
      rfl
  · refine exec_fixed opDeviceReset rfl h (fun _ => rfl) (fun _ => rfl) rfl rfl ?_ ?_
    · simp [firstBad_cons_eq_none, firstBad_nil, between, rsv, padFields, roundUp, fld_one]
      omega
    · rw [tick_packet (i := .deviceReset c) rfl]
      rfl
  · rw [Dev.receive, if_pos (by simp [hreset])]
  · refine exec_fixed (fs := [upTo 8 1 1, rsv 9 3]) opDeadline rfl h (fun _ => rfl) (fun _ => rfl) rfl rfl ?_ ?_
    · simp [firstBad_cons_eq_none, firstBad_nil, upTo, rsv, padFields, roundUp, fld_one]
      omega
    · rw [tick_packet (i := .deadline c) rfl, hflag, if_neg (not_le.mpr hfuture)]
      rfl
  · refine exec_fixed (fs := [upTo 8 1 1, rsv 9 3]) opDeadline rfl h (fun _ => rfl) (fun _ => rfl) rfl rfl ?_ ?_
    · simp [firstBad_cons_eq_none, firstBad_nil, upTo, rsv, padFields, roundUp, fld_one]
      omega
    · rw [hflag]
      rfl
  · refine exec_fixed (fs := [upTo 0 1 3, rsv 1 3]) opAlarmSet rfl h (fun _ => rfl) (fun _ => rfl) rfl rfl ?_ ?_
    · simp [firstBad_cons_eq_none, firstBad_nil, upTo, rsv, padFields, roundUp, fld_one]
      omega
    · rw [tick_packet (i := .alarmSet c) rfl]
      have hdue : (fld c.params 4 6 * secNs + fld c.params 12 4 == 0) = false := by
        simp only [secNs, beq_eq_false_iff_ne]
        omega
      simp only [hflag, show bit 0 0 = false from rfl, show bit 0 1 = false from rfl, if_neg (not_lt.mpr hns), hdue]
      rfl
  · refine exec_fixed (fs := [upTo 0 1 3, rsv 1 3]) opAlarmSet rfl h (fun _ => rfl) (fun _ => rfl) rfl rfl ?_ ?_
    · simp [firstBad_cons_eq_none, firstBad_nil, upTo, rsv, padFields, roundUp, fld_one]
      omega
    · have horr : (s.packet (.alarmSet c)).orr = s.dev.orr := packet_congr (i := .alarmSet c) rfl Dev.orr fun _ _ _ => rfl
      have hdue : decide (fld c.params 4 6 * secNs + fld c.params 12 4 ≤ s.dev.orr.nsAt s.dev.tick) = false :=
        decide_eq_false (not_le.mpr hfuture)
      rw [tick_packet (i := .alarmSet c) rfl, horr]
      simp only [hflag, show bit 1 0 = true from rfl, show bit 1 1 = false from rfl, if_neg (not_lt.mpr hns), hdue, hepoch, bne_self_eq_false]
      rfl
  · refine exec_fixed (fs := [upTo 0 1 3, rsv 1 3]) opAlarmSet rfl h (fun _ => rfl) (fun _ => rfl) rfl rfl ?_ ?_
    · simp [firstBad_cons_eq_none, firstBad_nil, upTo, rsv, padFields, roundUp, fld_one]
      omega
    · simp only [hflag, show bit 2 0 = false from rfl, show bit 2 1 = true from rfl, if_neg (not_lt.mpr hns)]
      rfl
  · refine exec_fixed (len := 0) (fs := []) opPowerStatus rfl h (fun _ => rfl) (fun _ => rfl) rfl rfl rfl ?_
    have hpwr : (s.packet (.powerStatus c)).pwr = s.dev.pwr := packet_congr (i := .powerStatus c) rfl Dev.pwr fun _ _ _ => rfl
    rw [hpwr]
    rfl

/-! ## Network commands (R310, R359, R402, R491) -/

theorem swc_packet {i : Instr} {op : Nat} {c : VCmd} (hi : verindOf i = some (op, c)) (s : State) : (s.packet i).swc = s.dev.swc :=
  packet_congr hi Dev.swc fun _ _ _ => rfl

theorem quoin_packet {i : Instr} {op : Nat} {c : VCmd} (hi : verindOf i = some (op, c)) (s : State) (kind inst : Nat) :
    (s.packet i).quoin kind inst = s.dev.quoin kind inst :=
  packet_congr hi (fun d => d.quoin kind inst) fun _ _ _ => rfl

/-- A command that takes a free quoin for itself alone (R124). -/
theorem withQuoin_free {h : Held} {d : Dev} {kind inst : Nat} (hfree : (d.quoin kind inst).owner = none) (off : Nat)
    (k : Dev → Dev × List Byte) : withQuoin h d kind inst off k =
      opDone ((k (d.grant kind inst (.channel h.cmd.channel) 0 0)).1.release kind inst) (k (d.grant kind inst (.channel h.cmd.channel) 0 0)).2 := by
  simp [withQuoin, Dev.acquire, hfree]

theorem needsOn_on {h : Held} {d : Dev} (hon : (d.func h.cmd.fid).st = 2) (k : OpResult) : needsOn h d k = k := by
  simp only [needsOn, hon]

/-- A field of two bytes by its bytes. -/
theorem fld_two (b : List Byte) (o : Nat) : fld b o 2 = fld b o 1 + 256 * fld b (o + 1) 1 := by
  simp only [fld, slice]
  rw [← List.tail_drop]
  rcases b.drop o with - | ⟨x, - | ⟨y, ys⟩⟩
  · rfl
  · simp [leVal]
  · simp [leVal]

/-- Padding that is all 0 passes. -/
theorem padFields_zero {p : List Byte} {len total : Nat} (h : ∀ k, len ≤ k → k < total → byteAt p k = 0) :
    firstBad p (padFields len total) = none := by
  refine firstBad_of_within fun f hf => ?_
  obtain ⟨i, hi, rfl⟩ := List.mem_map.mp hf
  have hzero := h (len + i) (by omega) (by have := List.mem_range.mp hi; omega)
  simp only [fld_one, hzero, le_refl, and_self]

/-- The layout of FDB_ADD. -/
theorem fdbAdd_layout {p : List Byte} (h1 : 1 ≤ fld p 6 2) (h2 : fld p 6 2 ≤ 4094) (h9 : byteAt p 9 ≤ 1) (h10 : fld p 10 2 = 0) :
    firstBad p ([between 6 2 1 4094, upTo 9 1 1, rsv 10 2] ++ padFields 12 (roundUp 12 4)) = none := by
  simp [firstBad_cons_eq_none, firstBad_nil, between, upTo, rsv, padFields, roundUp, fld_one]
  omega

/-- The layout of FDB_DELETE. -/
theorem fdbDelete_layout {p : List Byte} (h1 : 1 ≤ fld p 6 2) (h2 : fld p 6 2 ≤ 4094) :
    firstBad p ([between 6 2 1 4094] ++ padFields 8 (roundUp 8 4)) = none := by
  simp [firstBad_cons_eq_none, firstBad_nil, between, padFields, roundUp]
  omega

/-- MB_TRANSMIT of a frame that its object may take, by a controller that is ON and does not only listen (R402). -/
theorem opMbTransmit_sends {op arr n len : Nat} {c : VCmd} {d : Dev} (hclass : fidClass 2 c.fid = true) (hinst : finst c.fid = n)
    (hdlc : dlcLen true (byteAt c.params 9) = len)
    (hlong : 12 ≤ c.params.length) (hplen : c.params.length = roundUp (12 + len) 4)
    (hobj : byteAt c.params 0 ≤ 127) (hzero : fld c.params 1 3 = 0) (hflags : byteAt c.params 8 ≤ 7) (hzero' : fld c.params 10 2 = 0)
    (hpad : ∀ k, 12 + len ≤ k → k < roundUp (12 + len) 4 → byteAt c.params k = 0)
    (hfault : d.txFault n (byteAt c.params 0) (fld c.params 4 4) (byteAt c.params 8) (byteAt c.params 9) len = none)
    (hon : (d.func c.fid).st = 2) (hlisten : (d.mbCfg n).listen = false)
    (hquoin : (d.quoin 5 (n * 128 + byteAt c.params 0)).owner = none) : opMbTransmit { op := op, cmd := c, arr := arr } d =
      (let o := byteAt c.params 0
       let b := txContent (d.mbObj n o).content (fld c.params 4 4) (byteAt c.params 8) (byteAt c.params 9)
         (slice c.params 12 len)
       opDone (((d.grant 5 (n * 128 + o) (.channel c.channel) 0 0).setObj n o (fun x => { x with content := b })).newRequest n o b |>.release 5
         (n * 128 + o))) := by
  have hlayout : firstBad c.params [upTo 0 1 127, rsv 1 3, upTo 8 1 7, rsv 10 2] = none := by
    simp [firstBad_cons_eq_none, firstBad_nil, upTo, rsv, fld_one]
    omega
  rw [opMbTransmit]
  dsimp only
  rw [hinst, hdlc, hclass, if_neg (by decide), if_neg (not_lt.mpr hlong), hlayout, if_pos (by rw [hplen, beq_self_eq_true])]
  simp only [hfault, padFields_zero hpad, hlisten]
  rw [needsOn_on hon, if_neg (by decide), withQuoin_free hquoin]
  rfl

/-- Settles O29: each command through its layout and what it finds. -/
theorem networkCommandsTakeEffect : Obligations.NetworkCommandsTakeEffect := by
  intro c s n hn
  dsimp only
  refine ⟨fun k h h1 h2 hdyn hzero hnew hplace => ?_, fun k h h1 h2 hstatic hzero hnew hplace hfree => ?_, fun h h1 h2 hnew => ?_,
    fun k e h h1 h2 hfound hdyn => ?_, fun h hmdio hzero hquoin => ?_, fun h hmdio hquoin => ?_, ?_, ?_⟩
  · refine exec_fixed (len := 12) (fs := [between 6 2 1 4094, upTo 9 1 1, rsv 10 2]) opFdbAdd rfl h (fun _ => rfl) (fun _ => rfl) rfl rfl
      (fdbAdd_layout h1 h2 (by omega) hzero) ?_
    simp only [swc_packet (i := .fdbAdd c) rfl, tick_packet (i := .fdbAdd c) rfl, hnew, hplace, hdyn]
    rfl
  · refine exec_config (len := 12) (fs := [between 6 2 1 4094, upTo 9 1 1, rsv 10 2]) opFdbAdd hfree rfl h (fun _ => rfl) (fun _ => rfl) rfl rfl
      (fdbAdd_layout h1 h2 (by omega) hzero) ?_
    simp only [swc_packet (i := .fdbAdd c) rfl, tick_packet (i := .fdbAdd c) rfl, hnew, hplace, hstatic]
    rfl
  · refine exec_fixed (len := 8) (fs := [between 6 2 1 4094]) opFdbDelete rfl h (fun _ => rfl) (fun _ => rfl) rfl rfl (fdbDelete_layout h1 h2) ?_
    simp only [swc_packet (i := .fdbDelete c) rfl, hnew]
    rfl
  · refine exec_fixed (len := 8) (fs := [between 6 2 1 4094]) opFdbDelete rfl h (fun _ => rfl) (fun _ => rfl) rfl rfl (fdbDelete_layout h1 h2) ?_
    simp only [swc_packet (i := .fdbDelete c) rfl, hfound, hdyn]
    rfl
  · refine exec_fixed (len := 6) (fs := []) opMdioRead rfl h (fun _ => rfl) (fun _ => rfl) rfl rfl ?_ ?_
    · have hbytes : fld c.params 6 2 = fld c.params 6 1 + 256 * fld c.params 7 1 := fld_two c.params 6
      simp [padFields, roundUp, firstBad_cons_eq_none, firstBad_nil, List.range, List.range.loop]
      omega
    · have hfree : (s.packet (.mdioRead c)).free = s.dev.free := packet_congr (i := .mdioRead c) rfl Dev.free fun _ _ _ => rfl
      have hquoin' := (congrArg Quoin.owner (quoin_packet (i := .mdioRead c) rfl s 2 0)).trans hquoin
      rw [hmdio, ifOk_none, withQuoin_free hquoin', ← hfree]
      rfl
  · refine exec_fixed (len := 8) (fs := []) opMdioWrite rfl h (fun _ => rfl) (fun _ => rfl) rfl rfl rfl ?_
    rw [hmdio, ifOk_none, withQuoin_free ((congrArg Quoin.owner (quoin_packet rfl s 2 0)).trans hquoin)]
    rfl
  · intro len o h ho hobj hzero hflags hzero' hpad hlen hfault hon hlisten hquoin
    have hinst := finst_takes (k := 2) rfl h (by omega)
    subst ho
    refine exec_takes rfl (by decide) (by decide) h fun hfid hplen => ?_
    have hround : 12 ≤ roundUp (12 + len) 4 := by
      unfold roundUp
      omega
    refine (opMbTransmit_sends (hfid ▸ fidClass_mb n hn) hinst hlen.symm (hplen ▸ hround) hplen hobj hzero hflags hzero'
      (fun k h1 h2 => hpad k h1 (hplen ▸ h2)) ?_ ?_ ?_ ?_).trans ?_
    · exact (packet_congr (i := .mbTransmit c) rfl (fun d => d.txFault n _ _ _ _ _) fun _ _ _ => rfl).trans hfault
    · rw [func_packet (op := 0x0804) (c := c) rfl, hfid]
      exact hon
    · exact (packet_congr (i := .mbTransmit c) rfl (fun d => (d.mbCfg n).listen) fun _ _ _ => rfl).trans hlisten
    · exact (congrArg Quoin.owner (quoin_packet (i := .mbTransmit c) rfl s 5 (n * 128 + byteAt c.params 0))).trans hquoin
    · have hcontent : (s.packet (.mbTransmit c)).mbObj n (byteAt c.params 0) = s.dev.mbObj n (byteAt c.params 0) :=
        packet_congr (i := .mbTransmit c) rfl (fun d => d.mbObj n _) fun _ _ _ => rfl
      dsimp only
      rw [hcontent]
      rfl
  · intro fid m hfid h hm hlow hhigh hend hentries hquoin
    have hclass : fidDomain fid = true := by
      obtain rfl | rfl | rfl := hfid
      · rfl
      · rfl
      · simp [fidDomain, fidClass_mb n hn]
    have hlayout : firstBad c.params ([upTo 0 2 255, between 2 2 1 254] ++ padFields (4 + 16 * m) (4 + 16 * m)) = none := by
      simp [padFields, firstBad_cons_eq_none, firstBad_nil, upTo, between]
      omega
    have hround : roundUp (4 + fld c.params 2 2 * 16) 4 = 4 + 16 * m := by
      rw [hm, Nat.mul_comm]
      exact roundUp_of_aligned (by omega)
    refine exec_takes rfl (by decide) (by decide) h fun hcfid hplen => ?_
    have hquoin' := (congrArg Quoin.owner (quoin_packet (i := .impositionWrite c) rfl s 9 (domOf fid))).trans hquoin
    have hdom : (s.packet (.impositionWrite c)).dom (domOf fid) = s.dev.dom (domOf fid) :=
      packet_congr (i := .impositionWrite c) rfl (fun d => d.dom _) fun _ _ _ => rfl
    subst hcfid
    show opImpositionWrite _ _ = _
    rw [opImpositionWrite]
    dsimp only
    rw [opVar_ok hclass (by dsimp only; omega) (by dsimp only; rw [hplen, hround])
      (by dsimp only; rw [hround, hm, Nat.mul_comm m]; exact hlayout)]
    rw [hm, if_neg (not_lt.mpr hend), hentries, hdom]
    simp only [Dev.acquire, hquoin']
    rfl

end Sys2Proof.Packets
end

section
/-! SUPPORT. Commands that reply ACCEPTED or DEFERRED (R100, R118): the completion's slot is reserved, and what the command begins follows
its reply. -/

namespace Sys2Proof.Machine

theorem opAccept_reserves {h : Held} {d : Dev} (hcan : d.verind.canReserve = true) (f : Waiting → Dev → Dev) (st : Nat) :
    opAccept h d f st = some { reply := { status := st }, dev := d.reserve, after := f h.waiting } := by
  rw [opAccept, if_pos hcan]

theorem canReserve_packet {i : Instr} {op : Nat} {c : VCmd} (hi : verindOf i = some (op, c)) (s : State) :
    (s.packet i).verind.canReserve = s.dev.verind.canReserve :=
  packet_congr hi (fun d => d.verind.canReserve) fun _ _ _ => rfl

theorem waiting_packet {i : Instr} {op : Nat} {c : VCmd} (hi : verindOf i = some (op, c)) (s : State) :
    s.waiting i = Held.waiting { op := op, cmd := c, arr := s.dev.verind.arrivals } := by
  rw [State.waiting, hi]
  rfl

/-- A row of a fixed layout that is accepted on the part as `e`. -/
theorem exec_accepts {s : State} {i : Instr} {fid n op len : Nat} {c : VCmd} {e : Dev} {f : Waiting → Dev → Dev} {fidOk : Nat → Bool}
    {fs : List Fld} {k : Dev → OpResult} (g : Held → Dev → OpResult) (hcan : e.verind.canReserve = true)
    (hi : verindOf i = some (op, c)) (h : s.takes i fid n = true)
    (hexec : ∀ d, execOpcode { op := op, cmd := c, arr := s.dev.verind.arrivals } d = g { op := op, cmd := c, arr := s.dev.verind.arrivals } d)
    (hg : ∀ d, g { op := op, cmd := c, arr := s.dev.verind.arrivals } d =
      opFixed { op := op, cmd := c, arr := s.dev.verind.arrivals } d fidOk len fs (k d))
    (hfid : fidOk fid = true) (hlen : n = roundUp len 4) (hbad : firstBad c.params (fs ++ padFields len (roundUp len 4)) = none)
    (hk : k (s.packet i) = opAccept { op := op, cmd := c, arr := s.dev.verind.arrivals } e f)
    (hop : op ≠ 0x0001 ∧ op ≠ 0x0002 := by decide) : exec i s = .next (s.answered i (acceptOut e (f (s.waiting i)))) := by
  rw [waiting_packet hi]
  exact exec_fixed g hi h hexec hg hfid hlen hbad (hk.trans (opAccept_reserves hcan f _)) hop

end Sys2Proof.Machine
end

section
/-! The obligations of commands that are accepted (Table 4.3, Tables 5.7 to 5.18). -/

namespace Sys2Proof.Packets

open Sys2Proof.Machine

/-- Settles O31: each state of the function in turn. -/
theorem lifecycleCommands : Obligations.LifecycleCommands := by
  intro c s hfid hcan
  dsimp only
  have hefunc := func_packet (i := .funcEnable c) rfl s c.fid
  have hxfunc := func_packet (i := .funcDisable c) rfl s c.fid
  have hecan := (canReserve_packet (i := .funcEnable c) rfl s).trans hcan
  have hxcan := (canReserve_packet (i := .funcDisable c) rfl s).trans hcan
  have hewait := waiting_packet (i := .funcEnable c) rfl s
  have hxwait := waiting_packet (i := .funcDisable c) rfl s
  have hsome : (s.dev.func c.fid).queued ≠ none → (s.dev.func c.fid).queued.isNone = false := by simp [Option.isSome_iff_ne_none]
  have enables {o : OpOut} (h : s.takes (.funcEnable c) c.fid 0 = true) (hk : opFuncEnable { op := 0x0100, cmd := c, arr := s.dev.verind.arrivals }
      (s.packet (.funcEnable c)) = some o) : exec (.funcEnable c) s = .next (s.answered (.funcEnable c) o) :=
    exec_fixed (fun h d => opFixed h d fidAny 0 [] (opFuncEnable h d)) rfl h (fun _ => rfl) (fun _ => rfl) hfid rfl rfl hk
  have disables {o : OpOut} (h : s.takes (.funcDisable c) c.fid 0 = true) (hk : opFuncDisable { op := 0x0101, cmd := c, arr := s.dev.verind.arrivals }
      (s.packet (.funcDisable c)) = some o) : exec (.funcDisable c) s = .next (s.answered (.funcDisable c) o) :=
    exec_fixed (fun h d => opFixed h d fidAny 0 [] (opFuncDisable h d)) rfl h (fun _ => rfl) (fun _ => rfl) hfid rfl rfl hk
  refine ⟨fun h => ⟨fun hst => ?_, fun hst hq => ?_, fun hst hq => ?_, fun hst => ?_, fun hst hq => ?_, fun hst hq => ?_, fun hst => ?_, fun hst => ?_⟩,
    fun h => ⟨fun hst => ?_, fun hst hq => ?_, fun hst hq => ?_, fun hst => ?_, fun hst hq => ?_, fun hst hq => ?_, fun hst => ?_, fun hst => ?_⟩⟩
  · refine enables h ?_
    simp only [opFuncEnable, hefunc, hst, opAccept_reserves hecan, hewait]
    rfl
  · refine enables h ?_
    simp only [opFuncEnable, hefunc, hst, hq]
    rfl
  · refine enables h ?_
    simp only [opFuncEnable, hefunc, hst, hsome hq, opAccept_reserves hecan, hewait]
    rfl
  · refine enables h ?_
    simp only [opFuncEnable, hefunc, hst]
    rfl
  · refine enables h ?_
    simp only [opFuncEnable, hefunc, hst, hq, opAccept_reserves hecan, hewait]
    rfl
  · refine enables h ?_
    simp only [opFuncEnable, hefunc, hst, hsome hq]
    rfl
  · refine enables h ?_
    simp only [opFuncEnable, hefunc, hst]
    rfl
  · refine enables h ?_
    simp only [opFuncEnable, hefunc, hst]
    rfl
  · refine disables h ?_
    simp only [opFuncDisable, hxfunc, hst]
    rfl
  · refine disables h ?_
    simp only [opFuncDisable, hxfunc, hst, hq, opAccept_reserves hxcan, hxwait]
    rfl
  · refine disables h ?_
    simp only [opFuncDisable, hxfunc, hst, hsome hq]
    rfl
  · refine disables h ?_
    simp only [opFuncDisable, hxfunc, hst, opAccept_reserves hxcan, hxwait]
    rfl
  · refine disables h ?_
    simp only [opFuncDisable, hxfunc, hst, hq]
    rfl
  · refine disables h ?_
    simp only [opFuncDisable, hxfunc, hst, hsome hq, opAccept_reserves hxcan, hxwait]
    rfl
  · apply Exists.intro
    refine disables h ?_
    simp only [opFuncDisable, hxfunc, hst, opAccept_reserves hxcan]
    rfl
  · refine disables h ?_
    simp only [opFuncDisable, hxfunc, hst]
    rfl

/-! ## The Almanac, the Typecase and repair (Tables 5.7, 5.8, 5.18) -/

theorem byteAt_past {b : List Byte} {o : Nat} (h : b.length ≤ o) : byteAt b o = 0 := by
  rw [byteAt, List.getD_eq_default _ _ h]
  rfl

/-- ALMANAC_WRITE of a whole number of words, with the Almanac's quoin free. -/
theorem opAlmanacWrite_accepts {op arr len : Nat} {c : VCmd} {d : Dev} (hplen : c.params.length = 4 + len) (hlen : fld c.params 2 2 = len)
    (halign : len % 4 = 0) (hhigh : len ≤ 2048) (hkey : 0x8000 ≤ fld c.params 0 2) (hcan : d.verind.canReserve = true)
    (hquoin : (d.quoin 1 0).owner = none) : opAlmanacWrite { op := op, cmd := c, arr := arr } d =
      opAccept { op := op, cmd := c, arr := arr } (d.grant 1 0 (.channel c.channel) 0 0) (fun w d =>
        if d.alm.anyValid then
          d.setAlm (fun a => { a with ops := a.ops ++ [{ kind := .write (fld c.params 0 2) (slice c.params 4 len), cmd := some w }] })
        else d.almEnd { kind := .write 0 [], cmd := some w } stFailed [] 0x010E) := by
  have hpad : (List.range 4).find? (fun i => byteAt c.params (4 + len + i) != 0) = none := by
    refine List.find?_eq_none.mpr fun i _ => ?_
    rw [byteAt_past (by omega)]
    decide
  have hlayout : ¬ ((decide (c.params.length < 4) || c.params.length != 4 + roundUp len 4) = true) := by
    simp [roundUp_of_aligned halign, hplen]
  rw [opAlmanacWrite]
  dsimp only
  rw [hlen, if_neg hlayout, if_neg (not_lt.mpr hkey), if_neg (not_lt.mpr hhigh), hpad]
  simp only [hcan, Dev.acquire, hquoin, Bool.not_true, Bool.false_eq_true, if_false]
  refine congrArg (opAccept _ _) (funext fun w => funext fun d => ?_)
  cases d.alm.anyValid
  · rfl
  · rfl

/-- IMAGE_DELETE of a slot that holds an image, and that nothing uses (R215). -/
theorem opImageDelete_accepts {op arr : Nat} {c : VCmd} {d : Dev} {e : DirSlot} (hslot : byteAt c.params 0 < 64) (hzero : fld c.params 1 3 = 0)
    (hwriting : d.writingOf (byteAt c.params 0) = none) (hentry : d.typ.slots.getD (byteAt c.params 0) {} = e) (hfull : e.st = 2)
    (hfree : d.slotInUse (byteAt c.params 0) = false) : opImageDelete { op := op, cmd := c, arr := arr } d =
      opAccept { op := op, cmd := c, arr := arr } d (fun w d => (((d.pushJob { goal := .dir (.slot (byteAt c.params 0) {}), cmd := some w }).pushJob
        { goal := .eraseRun 0 e.first0 ((e.length + 4095) / 4096) }).pushJob { goal := .eraseRun 1 e.first1 ((e.length + 4095) / 4096) }).typRun) := by
  simp only [opImageDelete, hzero, hwriting, hentry, hfull, hfree, sectorsOf, if_neg (not_le.mpr hslot), bne_self_eq_false, Option.isSome_none,
    Bool.and_false, Bool.or_false, Bool.false_eq_true, if_false]

/-- Settles O32: each command through its checks and the slot it reserves. -/
theorem storageCommandsAccepted : Obligations.StorageCommandsAccepted := by
  intro c s hcan
  dsimp only
  have hcan' {i : Instr} {op : Nat} (hi : verindOf i = some (op, c)) := (canReserve_packet hi s).trans hcan
  have hquoin {i : Instr} {op kind inst : Nat} (hi : verindOf i = some (op, c)) (hfree : (s.dev.quoin kind inst).owner = none) :
      ((s.packet i).quoin kind inst).owner = none := (congrArg Quoin.owner (quoin_packet hi s kind inst)).trans hfree
  refine ⟨fun len h hlen halign hhigh hkey hfree => ?_, fun h hfree => ?_, fun h hfree => ?_, fun h hfree => ?_,
    fun len h hx hzero hlen hlow hhigh hslot hwriting hfree => ?_, fun w h hx hzero hwriting hphase => ?_,
    fun h hx hzero hwriting hslot => ?_, fun h hx hzero hwriting hslot huse => ?_, fun h hx hzero hsec hret => ?_,
    fun h hx hzero hsec hret => ?_, fun h hx hzero hvalid hops hcompact hresil => ?_, fun h hx hzero => ?_, fun hclass h hst => ?_,
    fun h hx hzero hst => ?_⟩
  · refine exec_takes rfl (by decide) (by decide) h fun hfid hplen => ?_
    have hrfl : verindOf (.almanacWrite c) = some (0x0203, c) := rfl
    show opDev _ _ (opAlmanacWrite _ _) = _
    rw [opDev, hfid, if_pos (show fidDev 0 = true from rfl), opAlmanacWrite_accepts hplen hlen halign hhigh hkey (hcan' hrfl) (hquoin hrfl hfree), waiting_packet hrfl]
    exact opAccept_reserves (d := (s.packet (.almanacWrite c)).grant 1 0 (.channel c.channel) 0 0) (hcan' hrfl) _ _
  · have hrfl : verindOf (.almanacSave c) = some (0x0201, c) := rfl
    refine ⟨_, exec_accepts (len := 0) (fs := []) opAlmanacSave (hcan' hrfl) hrfl h (fun _ => rfl) (fun _ => rfl) rfl rfl rfl
      (by simp only [hcan' hrfl, Dev.acquire, hquoin hrfl hfree, Bool.not_true, Bool.false_eq_true, if_false]; rfl), fun d hvalid => ?_⟩
    rw [hvalid]
    rfl
  · have hrfl : verindOf (.almanacSave c) = some (0x0201, c) := rfl
    refine ⟨_, exec_accepts (len := 0) (fs := []) opAlmanacSave (hcan' hrfl) hrfl h (fun _ => rfl) (fun _ => rfl) rfl rfl rfl
      (by simp only [hcan' hrfl, Dev.acquire, hquoin hrfl hfree, Bool.not_true, Bool.false_eq_true, if_false]; rfl), fun d hvalid => ?_⟩
    refine ⟨_, _, _, ?_, rfl, Eq.trans (if_neg (by rw [hvalid]; decide)) rfl⟩
    split
    · decide
    · decide
  · have hrfl : verindOf (.almanacCompact c) = some (0x0204, c) := rfl
    refine ⟨_, exec_accepts (fun h d => opFixed h d fidDev 0 [] (opAlmanacCompact h d)) (hcan' hrfl) hrfl h (fun _ => rfl) (fun _ => rfl) rfl rfl
      rfl (by simp only [opAlmanacCompact, hcan' hrfl, Dev.acquire, hquoin hrfl hfree, Bool.not_true, Bool.false_eq_true, if_false]; rfl),
      fun d hvalid hseq hidle => ?_⟩
    simp only [hvalid, hidle, not_le.mpr hseq, Bool.not_true, Bool.false_eq_true, Bool.false_and, if_false]
  · have hrfl : verindOf (.imageBegin c) = some (0x0302, c) := rfl
    have htyp : (s.packet (.imageBegin c)).typ = s.dev.typ := packet_congr hrfl Dev.typ fun _ _ _ => rfl
    have hwriting' : (s.packet (.imageBegin c)).writingOf (byteAt c.params 0) = none :=
      (packet_congr hrfl (fun d => d.writingOf _) fun _ _ _ => rfl).trans hwriting
    have hslot' : ((s.dev.typ.slots.getD (byteAt c.params 0) {}).st == 2) = false := by simpa using hslot
    have hlen' : ¬ ((decide (len < 1) || decide (131072 < len)) = true) := by
      simp only [Bool.or_eq_true, decide_eq_true_eq]
      omega
    refine ⟨_, exec_accepts (fun h d => opFixed h d fidDev 8 [] (opImageBegin h d)) (hcan' hrfl) hrfl h (fun _ => rfl) (fun _ => rfl) rfl rfl
      rfl (by
        simp only [opImageBegin, hlen, hzero, htyp, hwriting', hslot', hcan' hrfl, Dev.acquire, homeBank, hquoin hrfl hfree,
          if_neg (not_le.mpr (show byteAt c.params 0 < 64 by omega)), if_neg hlen', bne_self_eq_false, Option.isSome_none, Bool.or_false,
          Bool.not_true, Bool.false_eq_true, if_false]
        rfl), fun d a hrun => ?_⟩
    have hrun' : d.findRun (homeBank (byteAt c.params 0)) (sectorsOf len) = some a := hrun
    simp only [homeBank, sectorsOf] at hrun' ⊢
    simp only [hrun']
  · have hrfl : verindOf (.imageEnd c) = some (0x0304, c) := rfl
    have hwriting' : (s.packet (.imageEnd c)).writingOf (byteAt c.params 0) = some w :=
      (packet_congr hrfl (fun d => d.writingOf _) fun _ _ _ => rfl).trans hwriting
    refine ⟨_, exec_accepts (fun h d => opFixed h d fidDev 4 [] (opImageEnd h d)) (hcan' hrfl) hrfl h (fun _ => rfl) (fun _ => rfl) rfl rfl
      rfl (by
        simp only [opImageEnd, hzero, hwriting', hphase, if_neg (not_le.mpr (show byteAt c.params 0 < 64 by omega)), bne_self_eq_false,
          Bool.false_eq_true, if_false]
        rfl), fun d hbuf => ?_⟩
    have hfull : w.buf.isEmpty = false := by simpa using hbuf
    simp only [hfull, Bool.false_and, Bool.false_eq_true, if_false]
  · have hrfl : verindOf (.imageDelete c) = some (0x0305, c) := rfl
    have htyp : (s.packet (.imageDelete c)).typ = s.dev.typ := packet_congr hrfl Dev.typ fun _ _ _ => rfl
    have hwriting' : (s.packet (.imageDelete c)).writingOf (byteAt c.params 0) = none :=
      (packet_congr hrfl (fun d => d.writingOf _) fun _ _ _ => rfl).trans hwriting
    have hslot' : ((s.dev.typ.slots.getD (byteAt c.params 0) {}).st == 2) = false := by simpa using hslot
    refine exec_fixed (fun h d => opFixed h d fidDev 4 [] (opImageDelete h d)) hrfl h (fun _ => rfl) (fun _ => rfl) rfl rfl rfl ?_
    simp only [opImageDelete, hzero, htyp, hwriting', hslot', bne, if_neg (not_le.mpr (show byteAt c.params 0 < 64 by omega))]
    rfl
  · have hrfl : verindOf (.imageDelete c) = some (0x0305, c) := rfl
    have htyp : (s.packet (.imageDelete c)).typ = s.dev.typ := packet_congr hrfl Dev.typ fun _ _ _ => rfl
    have hwriting' : (s.packet (.imageDelete c)).writingOf (byteAt c.params 0) = none :=
      (packet_congr hrfl (fun d => d.writingOf _) fun _ _ _ => rfl).trans hwriting
    have huse' : (s.packet (.imageDelete c)).slotInUse (byteAt c.params 0) = false :=
      (packet_congr hrfl (fun d => d.slotInUse _) fun _ _ _ => rfl).trans huse
    have hk := opImageDelete_accepts (op := 0x0305) (arr := s.dev.verind.arrivals) (c := c) (d := s.packet (.imageDelete c))
      (show byteAt c.params 0 < 64 by omega) hzero hwriting' (congrArg (fun t : Typ => t.slots.getD (byteAt c.params 0) {}) htyp) hslot huse'
    have hnext := exec_accepts (fun h d => opFixed h d fidDev 4 [] (opImageDelete h d)) (hcan' hrfl) hrfl h (fun _ => rfl) (fun _ => rfl)
      rfl rfl rfl hk
    exact hnext
  · have hrfl : verindOf (.sectorRetire c) = some (0x0D05, c) := rfl
    have hret' : ((s.packet (.sectorRetire c)).bank (byteAt c.params 0)).retired.contains (fld c.params 2 2) = true :=
      (packet_congr hrfl (fun d => (d.bank _).retired.contains _) fun _ _ _ => rfl).trans hret
    refine exec_fixed (fun h d => opFixed h d fidDev 4 [] (opSectorRetire h d)) hrfl h (fun _ => rfl) (fun _ => rfl) rfl rfl rfl ?_
    simp only [opSectorRetire, hzero, hret', if_neg (not_le.mpr (show byteAt c.params 0 < 2 by omega)),
      if_neg (not_le.mpr (show fld c.params 2 2 < 1024 by omega))]
    rfl
  · have hrfl : verindOf (.sectorRetire c) = some (0x0D05, c) := rfl
    have hret' : ((s.packet (.sectorRetire c)).bank (byteAt c.params 0)).retired.contains (fld c.params 2 2) = false :=
      (packet_congr hrfl (fun d => (d.bank _).retired.contains _) fun _ _ _ => rfl).trans hret
    refine ⟨_, exec_accepts (fun h d => opFixed h d fidDev 4 [] (opSectorRetire h d)) (hcan' hrfl) hrfl h (fun _ => rfl) (fun _ => rfl) rfl rfl
      rfl (by
        simp only [opSectorRetire, hzero, hret', if_neg (not_le.mpr (show byteAt c.params 0 < 2 by omega)),
          if_neg (not_le.mpr (show fld c.params 2 2 < 1024 by omega)), bne_self_eq_false, Bool.false_eq_true, if_false]
        rfl), fun d hspare => ?_⟩
    simp only [hspare, Bool.false_eq_true, if_false]
  · have hrfl : verindOf (.smRemove c) = some (0x0D08, c) := rfl
    have halm : (s.packet (.smRemove c)).alm = s.dev.alm := packet_congr hrfl Dev.alm fun _ _ _ => rfl
    refine ⟨_, exec_accepts (fun h d => opFixed h d fidDev 4 [] (opSmRemove h d)) (hcan' hrfl) hrfl h (fun _ => rfl) (fun _ => rfl) rfl rfl
      rfl (by
        simp only [opSmRemove, hzero, halm, hvalid, hops, hcompact, hresil, if_neg (not_le.mpr (show byteAt c.params 0 < 2 by omega)),
          bne_self_eq_false, Bool.not_true, List.isEmpty_nil, List.any_nil, Bool.or_false, Bool.false_eq_true, if_false]
        rfl), fun d hnone => ?_⟩
    simp only [hnone, List.any_nil, Bool.false_eq_true, if_false]
  · have hrfl : verindOf (.smInsert c) = some (0x0D09, c) := rfl
    have hk : opSmInsert { op := 0x0D09, cmd := c, arr := s.dev.verind.arrivals } (s.packet (.smInsert c)) =
        opAccept { op := 0x0D09, cmd := c, arr := s.dev.verind.arrivals } (s.packet (.smInsert c))
          (fun w d => d.beginResilver (byteAt c.params 0) true (some w)) := by
      simp only [opSmInsert, hzero, if_neg (not_le.mpr (show byteAt c.params 0 < 2 by omega)), bne_self_eq_false, Bool.false_eq_true, if_false]
    have hnext := exec_accepts (fun h d => opFixed h d fidDev 4 [] (opSmInsert h d)) (hcan' hrfl) hrfl h (fun _ => rfl) (fun _ => rfl)
      rfl rfl rfl hk
    exact hnext
  · have hrfl : verindOf (.repair c) = some (0x0D02, c) := rfl
    have hst' : ((s.packet (.repair c)).func c.fid).st = 5 := (congrArg Func.st (func_packet hrfl s c.fid)).trans hst
    refine ⟨_, exec_accepts (len := 0) (fs := []) (fun h d => opFixed h d fidAny 0 [] (opRepair h d)) (hcan' hrfl) hrfl h (fun _ => rfl)
      (fun _ => rfl) hclass rfl rfl (by
        simp only [opRepair, hst', bne_self_eq_false, Bool.false_eq_true, if_false]
        rfl), fun d hown hnone => ?_⟩
    simp only [hnone, hown, Bool.false_eq_true, if_false, if_true]
  · have hrfl : verindOf (.engineReturn c) = some (0x0D03, c) := rfl
    have hst' : ((s.packet (.engineReturn c)).pe (byteAt c.params 0)).status = 4 :=
      (packet_congr hrfl (fun d => (d.pe _).status) fun _ _ _ => rfl).trans hst
    have hlayout : firstBad c.params ([upTo 0 1 13, rsv 1 3] ++ padFields 4 (roundUp 4 4)) = none := by
      simp [firstBad_cons_eq_none, firstBad_nil, upTo, rsv, padFields, roundUp, fld_one]
      omega
    refine ⟨_, exec_accepts (fun h d => opFixed h d fidDev 4 [upTo 0 1 13, rsv 1 3] (opEngineReturn h d)) (hcan' hrfl) hrfl h (fun _ => rfl)
      (fun _ => rfl) rfl rfl hlayout (by
        simp only [opEngineReturn, hst', bne_self_eq_false, Bool.false_eq_true, if_false]
        rfl), fun d hnone => ?_⟩
    simp only [hnone, Bool.false_eq_true, if_false]

/-! ## Engines, the switch, controllers, time and domains (Tables 5.9, 5.10, 5.13, 5.15, 5.16, 5.18) -/

/-- A change of the running configuration under a reservation, on a part with a free slot of the backlog and of the completions (R120). -/
theorem cfgAccept_commits {h : Held} {d : Dev} (hcan : d.verind.canReserve = true) (hfree : d.verind.freeBacklog.isSome = true) (key : Nat)
    (f : RunCfg → RunCfg) (g : Waiting → Dev → Dev) : cfgAccept h d key f g = some (acceptOut (d.configured h.op key f) (g h.waiting)) := by
  obtain ⟨k, hk⟩ := Option.isSome_iff_exists.mp hfree
  have hconf : cfgAccept h d key f g = opAccept h (d.configured h.op key f) g := by
    rw [cfgAccept, hcan, Dev.configured, hk]
    rfl
  rw [hconf, opAccept_reserves (d := d.configured h.op key f) hcan]
  rfl

/-- SPARE_ARM of a free engine, of a logical engine that is OFF and has no spare (R286). -/
theorem opSpareArm_accepts {op arr l : Nat} {c : VCmd} {d : Dev} (hclass : fidClass 4 c.fid = true) (hinst : finst c.fid = l)
    (hplen : c.params.length = 4) (hx : byteAt c.params 0 ≤ 13) (hzero : fld c.params 1 3 = 0) (hoff : (d.func c.fid).st = 0)
    (hspare : (d.le l).spare = none) (hpe : (d.pe (byteAt c.params 0)).status = 0) (hcan : d.verind.canReserve = true)
    (hfree : d.verind.freeBacklog.isSome = true) : opSpareArm { op := op, cmd := c, arr := arr } d =
      (let x := byteAt c.params 0
       let e := (d.setPe x (fun e => { e with status := 2, le := some l, div := (d.leCfg l).div })).setLe l
         (fun y => { y with spare := some x, joining := 0 })
       some (acceptOut (e.configured op (0x20 + l) (fun r => { r with les := upd r.les l (fun y => { y with spare := some x }) }))
         (fun d => d.setLe l (fun y => { y with armCmd := some (Held.waiting { op := op, cmd := c, arr := arr }) })))) := by
  have hlayout : firstBad c.params ([upTo 0 1 13, rsv 1 3] ++ padFields 4 (roundUp 4 4)) = none := by
    simp [firstBad_cons_eq_none, firstBad_nil, upTo, rsv, padFields, roundUp, fld_one]
    omega
  have hon : d.isOn c.fid = false := by
    rw [Dev.isOn, hoff]
    rfl
  dsimp only
  generalize hx' : byteAt c.params 0 = x at *
  generalize he : (d.setPe x (fun e => { e with status := 2, le := some l, div := (d.leCfg l).div })).setLe l
    (fun y => { y with spare := some x, joining := 0 }) = e
  have hcan' : e.verind.canReserve = true := he ▸ hcan
  have hfree' : e.verind.freeBacklog.isSome = true := he ▸ hfree
  rw [opSpareArm, opFixed_row (len := 4) hclass hplen hlayout, opConfig_off hoff]
  simp only [hinst, hspare, hpe, hx', hon, Option.isSome_none, bne_self_eq_false, Bool.false_eq_true, if_false, he,
    cfgAccept_commits hcan' hfree']
  rfl

/-- The layout of PIPE_SWITCHOVER. -/
theorem pipe_layout {p : List Byte} (hx : byteAt p 0 ≤ 1) (hzero : fld p 1 3 = 0) :
    firstBad p ([upTo 0 1 1, rsv 1 3] ++ padFields 4 (roundUp 4 4)) = none := by
  simp [firstBad_cons_eq_none, firstBad_nil, upTo, rsv, padFields, roundUp, fld_one]
  omega

/-- Settles O33: each command through its layout, its checks and the slot it reserves. -/
theorem networkCommandsAccepted : Obligations.NetworkCommandsAccepted := by
  intro c s n hcan hn
  dsimp only
  have hcan' {i : Instr} {op : Nat} (hi : verindOf i = some (op, c)) := (canReserve_packet hi s).trans hcan
  have hbacklog {i : Instr} {op : Nat} (hi : verindOf i = some (op, c)) (hfree : s.backlogFree = true) :
      (s.packet i).verind.freeBacklog.isSome = true := (congrArg Option.isSome (freeBacklog_packet hi s)).trans hfree
  refine ⟨fun h hx hzero hst hfree hspare hpe => ?_, fun h hx hzero => ?_, fun hn h hx hzero hret hdrain hout hfree => ?_,
    fun hn h hx hzero hret => ?_, fun h hx hzero hup hidle => ⟨fun hpipe => ?_, fun hpipe => ?_⟩, ?_, ?_, ?_, ?_⟩
  · have hrfl : verindOf (.spareArm c) = some (0x0402, c) := rfl
    have hinst := finst_takes (k := 4) rfl h (by omega)
    have hfid : c.fid = 0x0400 + n := (State.takes_cases rfl h).2.1
    have hoff : (s.dev.func c.fid).st = 0 := hfid ▸ hst
    have hspare' : ((s.packet (.spareArm c)).le n).spare = none := (packet_congr hrfl (fun d => (d.le n).spare) fun _ _ _ => rfl).trans hspare
    have hpe' : ((s.packet (.spareArm c)).pe (byteAt c.params 0)).status = 0 :=
      (packet_congr hrfl (fun d => (d.pe _).status) fun _ _ _ => rfl).trans hpe
    have hcfg : (s.packet (.spareArm c)).leCfg n = s.dev.leCfg n := packet_congr hrfl (fun d => d.leCfg n) fun _ _ _ => rfl
    have hk := exec_takes hrfl (by decide) (by decide) h fun hcfid hplen => opSpareArm_accepts (hcfid ▸ fidClass_le n hn) hinst hplen hx hzero
      ((congrArg Func.st (func_packet hrfl s c.fid)).trans hoff) hspare' hpe' (hcan' hrfl) (hbacklog hrfl hfree)
    rw [hk, hcfg, waiting_packet hrfl]
  · have hrfl : verindOf (.engineMigrate c) = some (0x0404, c) := rfl
    have hinst := finst_takes (k := 4) rfl h (by omega)
    have hfid : c.fid = 0x0400 + n := (State.takes_cases rfl h).2.1
    have hpe : peOrAll (byteAt c.params 0) = true := by
      simp only [peOrAll, Bool.or_eq_true, decide_eq_true_eq, beq_iff_eq]
      exact hx
    refine ⟨_, exec_accepts (len := 4) (fs := []) opEngineMigrate (hcan' hrfl) hrfl h (fun _ => rfl) (fun _ => rfl) (fidClass_le n hn) rfl rfl
      (by
        simp only [hpe, hzero, hinst, Bool.not_true, bne_self_eq_false, Bool.false_eq_true, if_false]
        rfl), fun d r hspare htarget hst hmig => ?_⟩
    have hserves : ((byteAt c.params 0 != 0xFF && byteAt c.params 0 != r) || !(d.isOn c.fid) || (d.le n).migrate.isSome) = false := by
      rw [Dev.isOn, hfid, hst, hmig]
      simpa [or_iff_not_imp_left] using htarget
    simp only [hspare, hserves, Bool.false_eq_true, if_false]
  · have hrfl : verindOf (.bankRetire c) = some (0x0D04, c) := rfl
    have hlayout : firstBad c.params ([upTo 0 1 7, rsv 1 3] ++ padFields 4 (roundUp 4 4)) = none := by
      simp [firstBad_cons_eq_none, firstBad_nil, upTo, rsv, padFields, roundUp, fld_one]
      omega
    have hcfg := cfg_packet hrfl s
    have hswc := swc_packet hrfl s
    have hout' : ¬ 4 ≤ (s.packet (.bankRetire c)).banksOut := by
      rw [packet_congr hrfl Dev.banksOut fun _ _ _ => rfl]
      omega
    refine exec_fixed (len := 4) (fs := [upTo 0 1 7, rsv 1 3]) opBankRetire hrfl h (fun _ => rfl) (fun _ => rfl) rfl rfl hlayout ?_
    simp only [hx, hcfg, hswc, hret, hdrain, if_neg hout', Bool.false_eq_true, if_false, cfgAccept_commits (hcan' hrfl) (hbacklog hrfl hfree),
      waiting_packet hrfl]
  · have hrfl : verindOf (.bankRetire c) = some (0x0D04, c) := rfl
    have hlayout : firstBad c.params ([upTo 0 1 7, rsv 1 3] ++ padFields 4 (roundUp 4 4)) = none := by
      simp [firstBad_cons_eq_none, firstBad_nil, upTo, rsv, padFields, roundUp, fld_one]
      omega
    refine exec_fixed (len := 4) (fs := [upTo 0 1 7, rsv 1 3]) opBankRetire hrfl h (fun _ => rfl) (fun _ => rfl) rfl rfl hlayout ?_
    simp only [hx, cfg_packet hrfl s, hret]
    rfl
  · have hrfl : verindOf (.pipeSwitchover c) = some (0x0D06, c) := rfl
    refine exec_fixed (len := 4) (fs := [upTo 0 1 1, rsv 1 3]) opPipeSwitchover hrfl h (fun _ => rfl) (fun _ => rfl) rfl rfl
      (pipe_layout hx hzero) ?_
    have hup' := (packet_congr hrfl (fun d => d.pipeDown (byteAt c.params 0)) fun _ _ _ => rfl).trans hup
    simp only [hup', swc_packet hrfl s, hpipe, hidle]
    simp
    rfl
  · have hrfl : verindOf (.pipeSwitchover c) = some (0x0D06, c) := rfl
    have hup' := (packet_congr hrfl (fun d => d.pipeDown (byteAt c.params 0)) fun _ _ _ => rfl).trans hup
    have hpipe' : (s.dev.swc.pipe == byteAt c.params 0) = false := by simpa using hpipe
    refine ⟨_, exec_accepts (len := 4) (fs := [upTo 0 1 1, rsv 1 3]) opPipeSwitchover (hcan' hrfl) hrfl h (fun _ => rfl) (fun _ => rfl) rfl rfl
      (pipe_layout hx hzero) (by
        simp only [hup', swc_packet hrfl s, hpipe', Bool.false_and, Bool.false_eq_true, if_false]
        rfl), fun d hnone => ?_⟩
    simp only [hnone]
  · intro m h hx hm hm' hzero hne hoff hoff' hring hring' hfree
    have hrfl : verindOf (.portRemap c) = some (0x0D07, c) := rfl
    have hlayout : firstBad c.params ([upTo 0 1 5, upTo 1 1 5, rsv 2 2] ++ padFields 4 (roundUp 4 4)) = none := by
      simp [firstBad_cons_eq_none, firstBad_nil, upTo, rsv, padFields, roundUp, fld_one]
      omega
    have hport := packet_congr hrfl (s := s) (fun d => d.portMac (byteAt c.params 0)) fun _ _ _ => rfl
    have hmac := packet_congr hrfl (s := s) (fun d => d.macPort m) fun _ _ _ => rfl
    have hin (x : Nat) := packet_congr hrfl (s := s) (fun d => d.inRing x) fun _ _ _ => rfl
    have hne' : (m == s.dev.portMac (byteAt c.params 0)) = false := by simpa using hne
    have hfrees : ∀ x, (s.dev.func (0x0100 + x)).st = 0 → s.dev.inRing x = false →
        (((s.packet (.portRemap c)).func (macFid x)).st == 0 && !((s.packet (.portRemap c)).inRing x)) = true := by
      intro x hst hclear
      rw [func_packet hrfl, hin, macFid, hst, hclear]
      rfl
    refine exec_fixed (len := 4) (fs := [upTo 0 1 5, upTo 1 1 5, rsv 2 2]) opPortRemap hrfl h (fun _ => rfl) (fun _ => rfl) rfl rfl hlayout ?_
    simp only [hm, hport, hmac, hne', hfrees _ hoff hring, hfrees _ hoff' hring', Bool.and_self, Bool.not_true, Bool.false_eq_true, if_false,
      cfgAccept_commits (hcan' hrfl) (hbacklog hrfl hfree), waiting_packet hrfl]
  · intro hn h hlow hhigh hst hidle
    have hrfl : verindOf (.mbRateDetect c) = some (0x0801, c) := rfl
    have hinst := finst_takes (k := 2) rfl h (by omega)
    have hfid : c.fid = 0x0200 + n := (State.takes_cases rfl h).2.1
    have hlayout : firstBad c.params ([between 0 4 100 60000] ++ padFields 4 (roundUp 4 4)) = none := by
      simp [firstBad_cons_eq_none, firstBad_nil, between, padFields, roundUp]
      omega
    have hst' : ((s.packet (.mbRateDetect c)).func c.fid).st = 0 := by
      rw [func_packet hrfl, hfid]
      exact hst
    have hidle' := (packet_congr hrfl (fun d => (d.mb n).detect) fun _ _ _ => rfl).trans hidle
    have hk := exec_accepts (f := fun w d => d.setMb n (fun m =>
      { m with detect := some { cmd := w, start := d.tick, stop := d.tick + fld c.params 0 4 * 1000000 } })) (len := 4)
      (fs := [between 0 4 100 60000]) opMbRateDetect (hcan' hrfl) hrfl h (fun _ => rfl) (fun _ => rfl) (fidClass_mb n hn) rfl hlayout (by
        simp only [hst', hinst, hidle', Option.isSome_none, bne_self_eq_false, Bool.false_eq_true, if_false, msNs])
    exact hk
  · intro h hzero hns hst hstate hstate' hidle
    have hrfl : verindOf (.timeStep c) = some (0x0A02, c) := rfl
    have hfid : c.fid = 0x0600 := (State.takes_cases rfl h).2.1
    have hlayout : firstBad c.params ([rsv 6 2, upTo 8 4 999999999] ++ padFields 12 (roundUp 12 4)) = none := by
      simp [firstBad_cons_eq_none, firstBad_nil, rsv, upTo, padFields, roundUp]
      omega
    have hst' : ((s.packet (.timeStep c)).func c.fid).st = 2 := by
      rw [func_packet hrfl, hfid]
      exact hst
    have htime : (s.packet (.timeStep c)).timeState = s.dev.timeState := packet_congr hrfl Dev.timeState fun _ _ _ => rfl
    have horr : (s.packet (.timeStep c)).orr = s.dev.orr := packet_congr hrfl Dev.orr fun _ _ _ => rfl
    have hstates : (s.dev.timeState == 3 || s.dev.timeState == 4) = false := by simp [hstate, hstate']
    have hk := exec_accepts (f := fun w d => d.setOrr (fun o => { o with
        step := some { at_ := d.stepInstant, target := some (fld c.params 0 6 * 1000000000 + fld c.params 8 4), cmd := some w } })) (len := 12)
      (fs := [rsv 6 2, upTo 8 4 999999999]) opTimeStep (hcan' hrfl) hrfl h (fun _ => rfl) (fun _ => rfl) rfl rfl hlayout (by
        rw [needsOn_on hst']
        simp only [htime, horr, hstates, hidle, Option.isSome_none, Bool.false_eq_true, if_false, secNs])
    exact hk
  · intro fid hclass h hlow hzero hst hpend hquoin htable
    have hrfl : verindOf (.impositionSwitch c) = some (0x0B02, c) := rfl
    have hfid : c.fid = fid := (State.takes_cases rfl h).2.1
    have hlayout : firstBad c.params ([between 0 2 1 65535, rsv 2 2] ++ padFields 4 (roundUp 4 4)) = none := by
      have hsize := fld_two_lt c.params 0
      simp [firstBad_cons_eq_none, firstBad_nil, between, rsv, padFields, roundUp]
      omega
    have hdomain : fidDomain fid = true := by
      obtain rfl | rfl | ⟨hlow', hhigh'⟩ := hclass
      · rfl
      · rfl
      · interval_cases fid <;> rfl
    subst hfid
    have hst' : ((s.packet (.impositionSwitch c)).func c.fid).st = 2 := (congrArg Func.st (func_packet hrfl s c.fid)).trans hst
    have hdom : (s.packet (.impositionSwitch c)).dom (domOf c.fid) = s.dev.dom (domOf c.fid) :=
      packet_congr hrfl (fun d => d.dom _) fun _ _ _ => rfl
    have htable' : (s.packet (.impositionSwitch c)).tableOk (domOf c.fid) (s.dev.dom (domOf c.fid)).standby = true :=
      (packet_congr hrfl (fun d => d.tableOk _ _) fun _ _ _ => rfl).trans htable
    have hfree : ((s.dev.quoin 9 (domOf c.fid)).owner.isSome && (s.dev.quoin 9 (domOf c.fid)).owner != some (.channel c.channel)) = false := by
      obtain hnone | hmine := hquoin
      · rw [hnone]
        rfl
      · rw [hmine]
        simp
    have hk := exec_accepts (f := fun w d => d.setDom (domOf c.fid) (fun y =>
        { y with pendN := some (fld c.params 0 2), pendCmd := some w, pendLe := none })) (len := 4)
      (fs := [between 0 2 1 65535, rsv 2 2]) opImpositionSwitch (hcan' hrfl) hrfl h (fun _ => rfl) (fun _ => rfl) hdomain rfl hlayout (by
        rw [needsOn_on hst']
        simp only [hdom, hpend, quoin_packet hrfl, hfree, htable', Option.isSome_none, Bool.false_or, Bool.not_true, Bool.false_eq_true, if_false])
    exact hk

end Sys2Proof.Packets
end

section
/-! SUPPORT. Wired ports (R135 to R140): a port that hears acts on its transaction. -/

namespace Sys2Proof.Machine

theorem State.run_withDev {s : State} {f : Dev → Dev} {e : Dev} (h : f s.dev = e) : s.run f = .next (s.withDev e) := by
  rw [State.run, State.withDev, h]

/-- A port that hears acts on its transaction at once. -/
theorem Dev.wired_hears {d : Dev} {p : Nat} (h : d.hears p = true) (asleep : List Byte) (f : Dev → Dev) : d.wired p asleep f = f d := by
  simp only [Dev.hears, Bool.and_eq_true, bne_iff_ne, decide_eq_true_eq] at h
  obtain ⟨⟨⟨hport, haon⟩, hporst⟩, hpwr⟩ := h
  simp [Dev.wired, hport, haon, hporst, Dev.hostWakes_awake hpwr]

/-- A transaction of a port that hears, as the state after it. -/
theorem State.run_wired {s : State} {p : Nat} (h : s.dev.hears p = true) {asleep : List Byte} {f : Dev → Dev} {e : Dev} (he : f s.dev = e) :
    s.run (fun d => d.wired p asleep f) = .next (s.withDev e) :=
  State.run_withDev ((Dev.wired_hears h asleep f).trans he)

theorem Dev.setPort_congr {d : Dev} {p : Nat} {f g : HostPort → HostPort} (h : f (d.port p) = g (d.port p)) : d.setPort p f = d.setPort p g := by
  rw [Dev.setPort, Dev.setPort, upd_congr _ _ f g {} h]

/-- What a change of a port leaves of every port. -/
theorem Dev.port_setPort_keeps {α : Type} (v : HostPort → α) {d : Dev} {p : Nat} {f : HostPort → HostPort} (hf : ∀ q, v (f q) = v q) (k : Nat) :
    v ((d.setPort p f).port k) = v (d.port k) := by
  rw [Dev.port, Dev.port, ← List.getD_map (f := v), ← List.getD_map (f := v)]
  exact congrArg (fun xs => List.getD xs _ _) (map_upd v f hf _ _)

/-- The free input space of Table 6.9: 0 before READY. -/
theorem Dev.inFree_words (d : Dev) (p : Nat) :
    d.inFree p / 64 = if d.start.phase = .ready then (8192 - (d.port p).frame.length) / 64 else 0 := by
  simp only [Dev.inFree, Dev.ready, beq_iff_eq]
  split
  · rfl
  · rfl

theorem Dev.outLen_head (d : Dev) (p : Nat) : d.outLen p = (((d.port p).out.head?.map (·.bytes)).map (·.length)).getD 0 := by
  rw [Dev.outLen, Option.map_map]
  rfl

/-- A packet framed on a wired port of a part that is READY and has room for it. -/
theorem Dev.framed_fits {d : Dev} {p : Nat} {bs : List Byte} (hready : d.start.phase = .ready) (hfits : bs.length ≤ 8192) :
    d.framed p bs = d.receiveBytes execOpcode { port := p } none bs := by
  have hroom : ¬ 8192 < bs.length := not_lt.mpr hfits
  simp [Dev.framed, Dev.ready, hready, hroom]

/-- A packet that does not fit is an overrun (R136). -/
theorem Dev.framed_overrun {d : Dev} {p : Nat} {bs : List Byte} (h : d.start.phase ≠ .ready ∨ 8192 < bs.length) :
    d.framed p bs = d.setPort p (fun q => { q with overrun := (q.overrun + 1) % 2 ^ 32 }) := by
  have hlost : (!d.ready || decide (8192 < bs.length)) = true := by simpa [Dev.ready] using h
  rw [Dev.framed, if_pos hlost]
  rfl

end Sys2Proof.Machine
end

section
/-! The obligations of the wired ports and of windows (R135 to R140, R146, R147). -/

namespace Sys2Proof.Ports

open Sys2Proof.Machine

/-- Settles O34: each transaction of Table 6.3 on a port that hears. -/
theorem qspiTransactions : Obligations.QspiTransactions := by
  intro s quad bs n a u hears
  dsimp only
  refine ⟨State.run_wired hears ?_, State.run_wired hears rfl, fun hready hfits => ?_, fun hlost => ?_, State.run_wired hears ?_,
    State.run_wired hears rfl, ⟨fun herr => ?_, fun hok => ?_⟩, fun hu => ?_⟩
  · rw [Dev.inFree_words, Dev.outLen_head]
    rfl
  · refine State.run_withDev (f := fun d => (d.pktWrite bs).udpOut) ?_
    rw [Dev.pktWrite, Dev.wired_hears hears, Dev.framed_fits (d := s.dev.drive 1 []) hready hfits]
  · refine State.run_withDev (f := fun d => (d.pktWrite bs).udpOut) ?_
    rw [Dev.pktWrite, Dev.wired_hears hears, Dev.framed_overrun (d := s.dev.drive 1 []) hlost]
  · have hlen : (((s.dev.port 1).out.head?.map (·.bytes)).map (·.length)).getD 0 = (((s.dev.port 1).out.head?.map (·.bytes)).getD []).length := by
      cases (s.dev.port 1).out.head?.map (·.bytes) <;> rfl
    rw [hlen]
    generalize ((s.dev.port 1).out.head?.map (·.bytes)).getD [] = b
    by_cases hdone : b.length = 0 ∨ n < b.length
    · rw [if_pos hdone, if_neg (by simpa [← List.length_eq_zero_iff, imp_iff_not_or] using hdone)]
      rfl
    · rw [if_neg hdone, if_pos (by simpa [← List.length_eq_zero_iff] using hdone)]
      rfl
  · refine State.run_wired hears ?_
    have hcount : ((Dev.winReads 1 ((n + 3) / 4) a s.dev).2.1 == 0) = false := by simpa using herr
    simp only [hcount]
    rfl
  · obtain ⟨w, hw⟩ : ∃ w, w = (Config.freeValue (Dev.winReads 1 ((n + 3) / 4) a s.dev).2.2.free).toNat := ⟨_, rfl⟩
    refine ⟨1 + w % 64, by omega, by omega, State.run_wired hears ?_⟩
    simp only [hok, hw]
    rfl
  · refine State.run_withDev ?_
    have hunknown : ¬ qspiInstructions.contains u.toNat = true := by simpa [qspiInstructions] using hu
    rw [Dev.unknownInstruction, if_neg hunknown, Dev.wired_hears hears]
    rfl

/-- Settles O35: each register of Table 6.4 on a port that hears. -/
theorem parallelBusTransactions : Obligations.ParallelBusTransactions := by
  intro s w a lo hi hears
  dsimp only
  refine ⟨State.run_wired hears rfl, State.run_wired hears ?_, State.run_wired hears ?_, State.run_wired hears rfl, State.run_wired hears rfl,
    State.run_wired hears rfl, fun ha => State.run_wired hears ?_, fun hroom => State.run_wired hears ?_, fun hready hroom => ?_,
    State.run_wired hears ?_, fun heven => State.run_wired hears ?_, fun hodd hlatch => State.run_wired hears ?_,
    fun v d' heven hread => State.run_wired hears ?_, fun hodd hlatch => State.run_wired hears ?_⟩
  · rw [Dev.outLen]
    cases (s.dev.port 2).out.head? <;> rfl
  · rw [Dev.inFree_words]
    rfl
  · split
    case h_6 => rfl
    all_goals simp at ha
  · refine Dev.setPort_congr ?_
    rw [if_neg (not_lt.mpr hroom)]
  · refine State.run_withDev (f := fun d => d.pktEnd.udpOut) ?_
    rw [Dev.pktEnd, Dev.wired_hears hears, Dev.framed_fits (d := s.dev.setPort 2 _) hready hroom]
  · dsimp only
    cases hb : ((s.dev.port 2).out.head?.map (·.bytes)).getD [] with
    | nil => rfl
    | cons x b =>
      simp only [List.isEmpty_cons, Bool.false_eq_true, reduceCtorEq, if_false]
      split
      · rfl
      · refine Dev.setPort_congr ?_
        have hrd (bs : List Byte) : ((s.dev.drive 2 bs).port 2).rd = (s.dev.port 2).rd :=
          Dev.port_setPort_keeps (f := fun q => { q with driven := bs }) HostPort.rd (fun _ => rfl) 2
        rw [hrd]
  · simp only [heven]
    rfl
  · simp only [hodd, hlatch, beq_self_eq_true, if_true]
    rfl
  · simp only [heven, hread]
    rfl
  · simp only [hodd, hlatch, beq_self_eq_true, if_true]
    rfl

/-- The word of a window that the port reaches (R146). -/
theorem winLoc_some {d : Dev} {port w off : Nat} {write : Bool} (hoff : off < 65536) (hok : off % 4 = 0 ∧ w < 16 ∧ (d.window w).isOpen = true ∧
    (d.chan (d.window w).ch).peer.port = port ∧ off + 4 ≤ (d.window w).len) (hwrite : write = true → (d.window w).rw = true) :
    d.winLoc port (w * 65536 + off) write = some (w, off) := by
  obtain ⟨halign, hw, hopen, hport, hlen⟩ := hok
  have hdiv : (w * 65536 + off) / 65536 = w := by omega
  have hmod : (w * 65536 + off) % 65536 = off := by omega
  have hword : (w * 65536 + off) % 4 = 0 := by omega
  have hmode : (!write || (d.window w).rw) = true := by
    cases write
    · rfl
    · exact hwrite rfl
  simp [Dev.winLoc, hdiv, hmod, hword, hw, hopen, hport, hlen, hmode]

/-- An access that is not of such a word is none (R146). -/
theorem winLoc_none {d : Dev} {port w off : Nat} {write : Bool} (hoff : off < 65536) (hbad : ¬ ((off % 4 = 0 ∧ w < 16 ∧
    (d.window w).isOpen = true ∧ (d.chan (d.window w).ch).peer.port = port ∧ off + 4 ≤ (d.window w).len) ∧
    (write = true → (d.window w).rw = true))) : d.winLoc port (w * 65536 + off) write = none := by
  have hdiv : (w * 65536 + off) / 65536 = w := by omega
  have hmod : (w * 65536 + off) % 65536 = off := by omega
  have hword : (w * 65536 + off) % 4 = off % 4 := by omega
  rw [Dev.winLoc]
  simp only [hdiv, hmod, hword]
  refine if_neg fun h => hbad ?_
  simp only [Bool.and_eq_true, beq_iff_eq, decide_eq_true_eq, Bool.or_eq_true, Bool.not_eq_true'] at h
  obtain ⟨⟨⟨⟨⟨halign, hw⟩, hopen⟩, hport⟩, hlen⟩, hmode⟩ := h
  exact ⟨⟨halign, hw, hopen, hport, hlen⟩, fun hwrite => hmode.resolve_left (by rw [hwrite]; decide)⟩

/-- Settles O36: the word of the window, staged or not. -/
theorem windowAccesses : Obligations.WindowAccesses := by
  intro d port w off v hoff
  dsimp only
  have hrenew : (d.renew 8 w).window w = d.window w := rfl
  refine ⟨fun hok hrw => ?_, fun hbad => ?_, fun hok hstaged => ?_, fun hok hstaged hmem => ?_, fun hbad => ?_⟩
  · rw [Dev.winWrite, winLoc_some hoff hok fun _ => hrw]
  · rw [Dev.winWrite, winLoc_none hoff (by simpa using hbad)]
    rfl
  · rw [Dev.winRead, winLoc_some (write := false) hoff hok (by simp)]
    simp only [hrenew, hstaged]
  · rw [Dev.winRead, winLoc_some (write := false) hoff hok (by simp)]
    simp only [hrenew, hstaged, hmem]
  · rw [Dev.winRead, winLoc_none hoff (by simpa using hbad)]

end Sys2Proof.Ports
end

section
/-! SUPPORT. What telling the host moves (R98 to R102): the event queue, the output queues, and the events that wait for the end of a
Compositor restart. -/

namespace Sys2Proof.Machine

/-- What the part has told the host, and what it has still to tell. -/
structure Notes where
  events : List Ev
  evSeq : Nat
  outstanding : Nat
  unsent : Nat
  ports : List HostPort
  outIds : Nat
  waiting : List HeldEvent

/-- The part with other notes. -/
def Dev.noted (d : Dev) (n : Notes) : Dev :=
  { d with verind := { d.verind with events := n.events, evSeq := n.evSeq, outstanding := n.outstanding, unsent := n.unsent },
           hst := { d.hst with ports := n.ports, outIds := n.outIds }, cmp := { d.cmp with events := n.waiting } }

/-- An event as the host knows it: presenting it again leaves this. -/
def Ev.key (e : Ev) : Nat × Nat × Nat × List Byte := (e.seq, e.op, e.fid, e.body)

/-- A host port but for its output queue. -/
def HostPort.silent (q : HostPort) : HostPort := { q with out := [], headSince := 0 }

/-- `e` is `d` but for what it told the host in between: events joined the queues, and packets the ports. -/
def Dev.Tells (d e : Dev) : Prop :=
  ∃ n : Notes, e = d.noted n ∧ d.verind.events.map Ev.key <+: n.events.map Ev.key ∧ d.cmp.events <+: n.waiting ∧
    n.ports.map HostPort.silent = d.hst.ports.map HostPort.silent

theorem Dev.Tells.refl (d : Dev) : d.Tells d :=
  ⟨⟨d.verind.events, d.verind.evSeq, d.verind.outstanding, d.verind.unsent, d.hst.ports, d.hst.outIds, d.cmp.events⟩, rfl,
    List.prefix_rfl, List.prefix_rfl, rfl⟩

theorem Dev.Tells.trans {d e f : Dev} (h : d.Tells e) (h' : e.Tells f) : d.Tells f := by
  obtain ⟨n, rfl, hevents, hwaiting, hports⟩ := h
  obtain ⟨n', rfl, hevents', hwaiting', hports'⟩ := h'
  exact ⟨n', rfl, hevents.trans hevents', hwaiting.trans hwaiting', hports'.trans hports⟩

theorem Dev.Tells.chan {d e : Dev} (h : d.Tells e) (k : Nat) : e.chan k = d.chan k := by
  obtain ⟨n, rfl, -⟩ := h
  rfl

theorem Dev.Tells.window {d e : Dev} (h : d.Tells e) (w : Nat) : e.window w = d.window w := by
  obtain ⟨n, rfl, -⟩ := h
  rfl

theorem Dev.Tells.lost {d e : Dev} (h : d.Tells e) (p : Nat) : (e.port p).lost = (d.port p).lost := by
  obtain ⟨n, rfl, -, -, hports⟩ := h
  have hlost (xs : List HostPort) (i : Nat) : (xs.getD i {}).lost = ((xs.map HostPort.silent).getD i {}).lost :=
    (congrArg HostPort.lost (List.getD_map (f := HostPort.silent) (l := xs) (n := i) (d := {}))).symm
  rw [Dev.port, Dev.port, hlost, hlost d.hst.ports]
  exact congrArg (fun xs : List HostPort => (xs.getD (p - 1) {}).lost) hports

theorem Dev.tells_send (d : Dev) (ch : Option Nat) (dst : Peer) (b : List Byte) : d.Tells (d.send ch dst b) :=
  ⟨⟨d.verind.events, d.verind.evSeq, d.verind.outstanding, d.verind.unsent, (d.send ch dst b).hst.ports, d.hst.outIds + 1, d.cmp.events⟩, rfl,
    List.prefix_rfl, List.prefix_rfl, map_upd HostPort.silent (fun q =>
      { q with out := q.out ++ [{ id := d.hst.outIds, ch := ch, bytes := b, dst := dst }], headSince := if q.out.isEmpty then d.tick else q.headSince })
      (fun _ => rfl) _ _⟩

theorem Dev.tells_present (d : Dev) (e : Ev) : d.Tells (d.present e) := by
  unfold Dev.present
  split
  · exact Dev.Tells.refl d
  · refine (d.tells_send _ _ _).trans ⟨⟨_, _, _, _, _, _, _⟩, rfl, ?_, List.prefix_rfl, rfl⟩
    refine (Packets.updFirst_map Ev.key _ _ (fun x => { x with shown := x.shown + 1, last := d.tick }) fun _ => rfl) ▸ List.prefix_rfl

/-- An event that joins the queue is its last. -/
theorem Dev.tells_pushEvent (d : Dev) (op fid : Nat) (b : List Byte) (rsv : Bool) : d.Tells (d.pushEvent op fid b rsv) := by
  refine Dev.Tells.trans ⟨⟨d.verind.events ++ [{ seq := d.verind.evSeq, op := op, fid := fid, body := b, rsv := rsv }],
    (d.verind.evSeq + 1) % 65536, d.verind.outstanding, d.verind.unsent, d.hst.ports, d.hst.outIds, d.cmp.events⟩, rfl, ?_,
    List.prefix_rfl, rfl⟩ (Dev.tells_present _ _)
  rw [List.map_append]
  exact List.prefix_append _ _

theorem Dev.tells_holdEvent (d : Dev) (e : HeldEvent) : d.Tells (d.holdEvent e) :=
  ⟨⟨d.verind.events, d.verind.evSeq, d.verind.outstanding, d.verind.unsent, d.hst.ports, d.hst.outIds, d.cmp.events ++ [e]⟩, rfl,
    List.prefix_rfl, List.prefix_append _ _, rfl⟩

theorem Dev.tells_emit (d : Dev) (op fid : Nat) (b : List Byte) : d.Tells (d.emit op fid b) := by
  unfold Dev.emit
  split
  · exact d.tells_holdEvent _
  · split
    · exact ⟨⟨_, _, _, d.verind.unsent + 1, _, _, _⟩, rfl, List.prefix_rfl, List.prefix_rfl, rfl⟩
    · exact d.tells_pushEvent ..

theorem Dev.tells_serviceEvent (d : Dev) (action what : Nat) : d.Tells (d.serviceEvent action what) := d.tells_emit ..

theorem Dev.tells_complete (d : Dev) (w : Waiting) (st : Nat) (b : List Byte) : d.Tells (d.complete w st b) := by
  unfold Dev.complete Dev.sendCompletion
  split
  · exact d.tells_holdEvent _
  · exact Dev.Tells.trans ⟨⟨_, _, d.verind.outstanding - 1, _, _, _, _⟩, rfl, List.prefix_rfl, List.prefix_rfl, rfl⟩ (Dev.tells_pushEvent ..)

theorem Dev.tells_completeDone (d : Dev) (w : Waiting) : d.Tells (d.completeDone w) := d.tells_complete ..
theorem Dev.tells_completeFailed (d : Dev) (w : Waiting) (det : Nat) : d.Tells (d.completeFailed w det) := d.tells_complete ..

theorem Dev.tells_completeOpt (d : Dev) (w : Option Waiting) (st : Nat) (b : List Byte) : d.Tells (d.completeOpt w st b) := by
  cases w with
  | none => exact Dev.Tells.refl d
  | some w => exact d.tells_complete ..

/-! ## What was told stays told -/

/-- The events of `d`, in their order, begin those of `e`, and so do the events that wait. -/
def Dev.Remembers (d e : Dev) : Prop :=
  d.verind.events.map Ev.key <+: e.verind.events.map Ev.key ∧ d.cmp.events <+: e.cmp.events

theorem Dev.Remembers.refl (d : Dev) : d.Remembers d := ⟨List.prefix_rfl, List.prefix_rfl⟩

theorem Dev.Remembers.trans {d e f : Dev} (h : d.Remembers e) (h' : e.Remembers f) : d.Remembers f :=
  ⟨h.1.trans h'.1, h.2.trans h'.2⟩

theorem Dev.Tells.remembers {d e : Dev} (h : d.Tells e) : d.Remembers e := by
  obtain ⟨n, rfl, hevents, hwaiting, -⟩ := h
  exact ⟨hevents, hwaiting⟩

/-! ## The fault log (R77, R530) -/

/-- The record that the log takes next, of a fault answered in `d`. -/
def Dev.nextRecord (d : Dev) (cls island action cause fid detail : Nat) : FaultRec :=
  let ep := d.svc.episode.getD (d.svc.nextRec, d.tick)
  { recno := d.svc.nextRec, tick := ep.2, cls := cls, island := island, action := action, cause := cause, func := fid, gen := (d.func fid).gen,
    detail := detail, episode := ep.1 }

/-- The service set once the log has taken record `r`, in episode `ep`. -/
def Svc.logs (v : Svc) (r : FaultRec) (ep : Nat × Nat) (late : List (Nat × List Byte)) : Svc := { v.append r with episode := some ep, late := late }

/-- A fault is logged, and told. -/
theorem Dev.tells_logFault (d : Dev) (cls island action cause fid detail : Nat) : ∃ late,
    ({ d with svc := d.svc.logs (d.nextRecord cls island action cause fid detail) (d.svc.episode.getD (d.svc.nextRec, d.tick)) late } : Dev).Tells
      (d.logFault cls island action cause fid detail) := by
  unfold Dev.logFault
  dsimp only
  split
  · exact ⟨d.svc.late, Dev.tells_emit _ _ _ _⟩
  · exact ⟨_, Dev.Tells.refl _⟩

/-- A change of the service set beside what is told. -/
theorem Dev.Tells.withSvc {d e : Dev} (h : d.Tells e) (v : Svc) : ({ d with svc := v } : Dev).Tells { e with svc := v } := by
  obtain ⟨n, rfl, hevents, hwaiting, hports⟩ := h
  exact ⟨n, rfl, hevents, hwaiting, hports⟩

/-- A fault of its own, or of the episode under way, is logged and told; the episode stays as it was. -/
theorem Dev.tells_inEpisode_logFault (d : Dev) (cls island action cause fid detail : Nat) : ∃ late,
    ({ d with svc := { d.svc.append (d.nextRecord cls island action cause fid detail) with late := late } } : Dev).Tells
      (d.inEpisode (fun d => d.logFault cls island action cause fid detail)) := by
  unfold Dev.inEpisode
  cases hep : d.svc.episode with
  | some ep =>
    obtain ⟨late, htells⟩ := d.tells_logFault cls island action cause fid detail
    have hsame : d.svc.logs (d.nextRecord cls island action cause fid detail) (d.svc.episode.getD (d.svc.nextRec, d.tick)) late =
        { d.svc.append (d.nextRecord cls island action cause fid detail) with late := late } := by
      rw [Svc.logs, hep, Option.getD_some, ← hep]
      rfl
    exact ⟨late, hsame ▸ htells⟩
  | none =>
    obtain ⟨late, htells⟩ := Dev.tells_logFault { d with svc := { d.svc with episode := none } } cls island action cause fid detail
    refine ⟨late, ?_⟩
    obtain ⟨n, hn, hevents, hwaiting, hports⟩ := htells
    refine ⟨n, ?_, hevents, hwaiting, hports⟩
    have hrecord : Dev.nextRecord { d with svc := { d.svc with episode := none } } cls island action cause fid detail =
        d.nextRecord cls island action cause fid detail := by
      simp only [Dev.nextRecord, hep]
      rfl
    rw [Option.isSome_none, if_neg (by decide), Dev.episode]
    dsimp only
    rw [hn, hrecord]
    rfl

/-! ## Host channel loss (R160) -/

/-- Closing the windows of the channels below `n` that port `p` carries. -/
theorem shutPortWindows_shape (d : Dev) (p n : Nat) : ∃ ws,
    (forN n d (fun d ch => if (d.chan ch).st != 0 && (d.chan ch).peer.port == p then d.shutChannelWindows ch else d)).besideHolders =
      (d.withWindows ws).besideHolders ∧
    ∀ w, w < 16 → (ws.getD w {}).isOpen = true → (ws.getD w {}).ch < n → (d.chan (ws.getD w {}).ch).st ≠ 0 →
      (d.chan (ws.getD w {}).ch).peer.port ≠ p := by
  induction n with
  | zero => exact ⟨d.hst.windows, rfl, fun _ _ _ h => absurd h (Nat.not_lt_zero _)⟩
  | succ n ih =>
    obtain ⟨ws, hview, hshut⟩ := ih
    rw [forN_succ]
    generalize forN n d (fun d ch => if (d.chan ch).st != 0 && (d.chan ch).peer.port == p then d.shutChannelWindows ch else d) = e at hview ⊢
    have hws : e.hst.windows = ws := (congrArg (fun x : Dev => x.hst.windows) hview :)
    have hchan : e.chan n = d.chan n := Dev.chan_congr (congrArg (fun x : Dev => x.verind.chans) hview :) n
    rw [hchan]
    by_cases hmine : (d.chan n).st ≠ 0 ∧ (d.chan n).peer.port = p
    · obtain ⟨ws', hview', hshut', hsame'⟩ := e.shutChannelWindows_shape n
      refine ⟨ws', ?_, fun w hw hopen hlt hst => ?_⟩
      · rw [if_pos (by simpa using hmine), hview']
        exact (congrArg (fun x : Dev => x.withWindows ws') hview :)
      · have hother := hshut' w hw hopen
        have hold : ws'.getD w {} = ws.getD w {} := by
          obtain hsame | hempty := hsame' w
          · rw [hsame, hws]
          · rw [hempty] at hopen
            exact absurd hopen (by decide)
        rw [hold] at hopen hlt hst hother ⊢
        have hne : (ws.getD w {}).ch ≠ n := by simpa using hother
        exact hshut w hw hopen (by omega) hst
    · refine ⟨ws, ?_, fun w hw hopen hlt hst => ?_⟩
      · rw [if_neg (by simpa using hmine), hview]
      · by_cases hn : (ws.getD w {}).ch = n
        · rw [hn] at hst ⊢
          exact fun hport => hmine ⟨hst, hport⟩
        · exact hshut w hw hopen (by omega) hst

end Sys2Proof.Machine
end

section
/-! The obligations of host channel loss, datagrams and the host timers (R99, R141, R159, R160, R163). -/

namespace Sys2Proof.Ports

open Sys2Proof.Machine

/-- Settles O38: the windows shut, then the port lost, then the record. -/
theorem hostChannelLoss : Obligations.HostChannelLoss := by
  intro d p hp hlen hlost
  dsimp only
  rw [Dev.hostChannelLoss, if_neg (by rw [hlost]; decide)]
  obtain ⟨ws, hview, hshut⟩ := shutPortWindows_shape d p 8
  dsimp only
  generalize forN 8 d (fun d ch => if (d.chan ch).st != 0 && (d.chan ch).peer.port == p then d.shutChannelWindows ch else d) = e at hview ⊢
  obtain ⟨late, htells⟩ := (e.setPort p (fun q => { q with lost := true })).tells_inEpisode_logFault 8 0x04 2 0 0 0
  obtain ⟨hverind, -, hhst, -⟩ := Dev.of_besideHolders hview
  have hports : e.hst.ports = d.hst.ports := (congrArg Hst.ports hhst :)
  have hchan (k : Nat) : e.chan k = d.chan k := Dev.chan_congr (congrArg Verind.chans hverind) k
  have hwindow (w : Nat) : Dev.window _ w = ws.getD w {} := htells.window w |>.trans (congrArg (fun h : Hst => h.windows.getD w {}) hhst)
  refine ⟨?_, fun w hw hopen hst hch => ?_, fun k => ?_⟩
  · rw [htells.lost]
    exact congrArg HostPort.lost (Dev.port_setPort_same (d := e) _ hp (hports ▸ hlen))
  · rw [hwindow] at hopen hst hch ⊢
    exact hshut w hw hopen hch hst
  · have hsame : Dev.chan _ k = d.chan k := (htells.chan k).trans (hchan k)
    rw [hsame]
    exact ⟨rfl, rfl, rfl, rfl⟩

/-- A datagram that reaches a part that is awake and READY is taken, and its answers leave. -/
theorem run_udpRow {s : State} {f : Dev → Dev} {e : Dev} (hpwr : s.dev.pwr.st ≤ 1) (hready : s.dev.start.phase = .ready)
    (hreset : s.dev.verind.resetReq = none) (he : f s.dev = e) : s.run (Dev.udpRow f) = .next (s.withDev e.udpOut) := by
  refine State.run_withDev ?_
  simp [Dev.udpRow, Dev.hostWakes_awake hpwr, Dev.ready, hready, hreset, he]

/-- Settles O37: each datagram and each expiry in turn. -/
theorem datagramsAndHostTimers : Obligations.DatagramsAndHostTimers := by
  intro s p b mac vid ip t hpwr hready hreset
  dsimp only
  have hrdy : s.dev.ready = true := by simp [Dev.ready, hready]
  refine ⟨fun hok => run_udpRow hpwr hready hreset ?_, fun hok => run_udpRow hpwr hready hreset ?_, fun hbad => run_udpRow hpwr hready hreset ?_,
    fun port haddr => State.run_withDev ?_, fun hother => State.run_withDev ?_, fun r hr => State.run_withDev ?_,
    fun e k he hk hport => ?_, fun q hq hout hlost => State.run_withDev ?_, fun m hm hdown hlost => State.run_withDev ?_⟩
  · simp only [Dev.windowReadRequest, hrdy, hok]
    rfl
  · simp only [Dev.windowWriteRequest, hrdy, hok]
    rfl
  · simp only [Dev.windowReadRequest, hrdy, hbad]
    rfl
  · simp only [Dev.arpRequest, haddr, hrdy, beq_self_eq_true]
    rfl
  · unfold Dev.arpRequest
    cases haddr : s.dev.cfg.dev.hostAddr with
    | none => rfl
    | some a =>
      have hne : (a.1 == t) = false := by
        rw [beq_eq_false_iff_ne]
        rintro rfl
        exact hother a.2 haddr
      simp [hne]
  · rw [Dev.reassemblyTimeout, hr]
    rfl
  · refine State.run_withDev (f := fun d => (d.eventRetry t).udpOut) ?_
    have hudp : ((((s.dev.advanceTo (e.last + s.dev.cfg.dev.evRetryMs * 1000000)).present e).chan k).peer.port == 3) = false := by simpa using hport
    rw [Dev.eventRetry, he, hk]
    simp only [msNs, hudp, Bool.false_and, Bool.false_eq_true, if_false]
  · have hwired : ((q != 1 && q != 2) || (s.dev.port q).out.isEmpty || (s.dev.port q).lost) = false := by
      rw [hlost]
      obtain rfl | rfl := hq
      · simpa using hout
      · simpa using hout
    rw [Dev.outputQueueTimeout, hwired]
    rfl
  · rw [Dev.udpLinkLoss, hm]
    simp only [hdown, hlost]
    rfl

end Sys2Proof.Ports
end

section
/-! SUPPORT. A serial line as its rows move it (R415, R419 to R426). -/

namespace Sys2Proof.Machine

/-! ## Reading a line after a change -/

theorem Dev.sl_setSl_same {d : Dev} {n : Nat} (h : n < d.sls.length) (f : Sl → Sl) : (d.setSl n f).sl n = f (d.sl n) :=
  upd_getD_same _ _ _ _ h

@[simp] theorem Dev.sls_setSl_length (d : Dev) (n : Nat) (f : Sl → Sl) : (d.setSl n f).sls.length = d.sls.length := upd_length _ _ _
@[simp] theorem Dev.tick_setSl (d : Dev) (n : Nat) (f : Sl → Sl) : (d.setSl n f).tick = d.tick := rfl
@[simp] theorem Dev.slCfg_setSl (d : Dev) (n : Nat) (f : Sl → Sl) : (d.setSl n f).slCfg n = d.slCfg n := rfl
@[simp] theorem Dev.sl_advanceTo (d : Dev) (t n : Nat) : (d.advanceTo t).sl n = d.sl n := rfl
@[simp] theorem Dev.sls_advanceTo (d : Dev) (t : Nat) : (d.advanceTo t).sls = d.sls := rfl
@[simp] theorem Dev.slCfg_advanceTo (d : Dev) (t n : Nat) : (d.advanceTo t).slCfg n = d.slCfg n := rfl
@[simp] theorem Dev.tick_advanceTo (d : Dev) (t : Nat) : (d.advanceTo t).tick = max d.tick t := rfl

@[simp] theorem Dev.besideFrames_raiseLe (d : Dev) (src l b : Nat) : (d.raiseLe src l b).besideFrames = d.besideFrames := by
  unfold Dev.raiseLe
  split <;> simp

@[simp] theorem Dev.besideFrames_unitEvent (d : Dev) (src inst b : Nat) : (d.unitEvent src inst b).besideFrames = d.besideFrames := by
  unfold Dev.unitEvent
  split
  · rfl
  · dsimp only
    split <;> simp

theorem Dev.besideFrames_slEvent (d : Dev) (n b : Nat) :
    (d.slEvent n b).besideFrames = (d.setSl n (fun s => { s with evt := s.evt ||| 2 ^ b })).besideFrames := by
  unfold Dev.slEvent
  dsimp only
  split <;> simp

theorem Dev.sls_slEvent (d : Dev) (n b : Nat) : (d.slEvent n b).sls = (d.setSl n (fun s => { s with evt := s.evt ||| 2 ^ b })).sls :=
  (congrArg Dev.sls (d.besideFrames_slEvent n b) :)

@[simp] theorem Dev.sls_slEvent_length (d : Dev) (n b : Nat) : (d.slEvent n b).sls.length = d.sls.length := by
  rw [Dev.sls_slEvent, Dev.sls_setSl_length]

@[simp] theorem Dev.tick_slEvent (d : Dev) (n b : Nat) : (d.slEvent n b).tick = d.tick :=
  (congrArg Dev.tick (d.besideFrames_slEvent n b) :)

@[simp] theorem Dev.slCfg_slEvent (d : Dev) (n b : Nat) : (d.slEvent n b).slCfg n = d.slCfg n :=
  (congrArg (fun d => d.slCfg n) (d.besideFrames_slEvent n b) :)

/-- A line with bit `b` of SL_EVT set. -/
def Sl.raised (x : Sl) (b : Nat) : Sl := { x with evt := x.evt ||| 2 ^ b }

@[simp] theorem Sl.raised_rxf (x : Sl) (b : Nat) : (x.raised b).rxf = x.rxf := rfl
@[simp] theorem Sl.raised_txf (x : Sl) (b : Nat) : (x.raised b).txf = x.txf := rfl
@[simp] theorem Sl.raised_cur (x : Sl) (b : Nat) : (x.raised b).cur = x.cur := rfl
@[simp] theorem Sl.raised_de (x : Sl) (b : Nat) : (x.raised b).de = x.de := rfl
@[simp] theorem Sl.raised_fallAt (x : Sl) (b : Nat) : (x.raised b).fallAt = x.fallAt := rfl
@[simp] theorem Sl.raised_firedA (x : Sl) (b : Nat) : (x.raised b).firedA = x.firedA := rfl
@[simp] theorem Sl.raised_overruns (x : Sl) (b : Nat) : (x.raised b).overruns = x.overruns := rfl

@[simp] theorem Sl.bit_raised_evt (x : Sl) (b c : Nat) : bit (x.raised b).evt c = (bit x.evt c || decide (b = c)) := by
  simp [Sl.raised, bit, Nat.testBit_two_pow]

/-- An event of a line that exists sets its bit of SL_EVT. -/
theorem Dev.sl_slEvent {d : Dev} {n : Nat} (h : n < d.sls.length) (b : Nat) : (d.slEvent n b).sl n = (d.sl n).raised b := by
  rw [Dev.sl, Dev.sls_slEvent]
  exact Dev.sl_setSl_same h _

/-! ## Receiving -/

/-- A character in a line that is not a break and finds room joins the receive FIFO. -/
theorem Dev.slStore_joins {d : Dev} {n : Nat} (h : n < d.sls.length) {e : SlEnt} (hroom : (d.sl n).rxf.length < 64) :
    ((d.slStore n e).sl n).rxf = (d.sl n).rxf ++ [e] ∧ bit ((d.slStore n e).sl n).evt 0 = true := by
  have hroom' : ¬ 64 ≤ ((d.setSl n (fun s => { s with lastGap := e.gap })).sl n).rxf.length := by
    rw [Dev.sl_setSl_same h]
    exact not_le.mpr hroom
  rw [Dev.slStore, if_neg hroom']
  dsimp only
  split <;> simp [Dev.sl_slEvent, Dev.sl_setSl_same, h]

/-- A character that finds 64 waiting is an overrun. -/
theorem Dev.slStore_overruns {d : Dev} {n : Nat} (h : n < d.sls.length) {e : SlEnt} (hfull : 64 ≤ (d.sl n).rxf.length) :
    ((d.slStore n e).sl n).rxf = (d.sl n).rxf ∧ ((d.slStore n e).sl n).overruns = ((d.sl n).overruns + 1) % 2 ^ 32 ∧
      bit ((d.slStore n e).sl n).evt 2 = true := by
  have hfull' : 64 ≤ ((d.setSl n (fun s => { s with lastGap := e.gap })).sl n).rxf.length := by
    rw [Dev.sl_setSl_same h]
    exact hfull
  rw [Dev.slStore, if_pos hfull']
  simp [Dev.sl_slEvent, Dev.sl_setSl_same, h, wrap32]

@[simp] theorem Dev.slStore_length (d : Dev) (n : Nat) (e : SlEnt) : (d.slStore n e).sls.length = d.sls.length := by
  unfold Dev.slStore
  dsimp only
  split
  · simp
  · split <;> simp

@[simp] theorem Dev.slStore_tick (d : Dev) (n : Nat) (e : SlEnt) : (d.slStore n e).tick = d.tick := by
  unfold Dev.slStore
  dsimp only
  split
  · simp
  · split <;> simp

/-- A character heard, as its error counters take it. -/
def Dev.slHeard (d : Dev) (n : Nat) (pe fe : Bool) : Dev :=
  (d.setSl n (fun s => { s with breakShut := false })).setSl n (fun s =>
    { s with framing := wrap32 (s.framing + b2n fe), parity := wrap32 (s.parity + b2n (pe && (d.slCfg n).parity != 0)) })

@[simp] theorem Dev.slHeard_length (d : Dev) (n : Nat) (pe fe : Bool) : (d.slHeard n pe fe).sls.length = d.sls.length := by
  simp [Dev.slHeard]

@[simp] theorem Dev.slHeard_tick (d : Dev) (n : Nat) (pe fe : Bool) : (d.slHeard n pe fe).tick = d.tick := rfl

/-- A character heard outside address mode, as a line that runs takes it in. -/
theorem Dev.slReceived_heard {d : Dev} {n : Nat} (hruns : d.slRuns n = true) (hshut : (d.sl n).shut = false)
    (hbreak : (d.sl n).breakShut = false) (hdrain : (d.sl n).drainAt = none) (hrx : bit (d.sl n).ctl 2 = true) (hde : (d.sl n).de = false)
    (haddr : bit (d.sl n).ctl 1 = false) (ch : Nat) (pe fe : Bool) (ago : Nat) :
    d.slReceived n ch pe fe false ago =
      ((d.slHeard n pe fe).slStore n
        { gap := d.slIdle n (d.tick - ago), brk := false, fe := fe, pe := pe && (d.slCfg n).parity != 0,
          data := ch % 2 ^ (d.slCfg n).dataBits }).slIdleRestart n := by
  simp [Dev.slReceived, Dev.slHeard, hruns, hshut, hbreak, hdrain, hrx, hde, haddr]

/-! ## Transmitting -/

theorem Dev.slSchedule_idle {d : Dev} {n : Nat} (hcur : (d.sl n).cur = none) (htx : (d.sl n).txf = []) :
    d.slSchedule n = d.setSl n (fun s => { s with startAt := none }) := by
  simp [Dev.slSchedule, hcur, htx]

theorem Dev.slTry_idle {d : Dev} {n : Nat} (h : n < d.sls.length) (hcur : (d.sl n).cur = none) (htx : (d.sl n).txf = []) :
    d.slTry n = d.setSl n (fun s => { s with startAt := none }) := by
  simp [Dev.slTry, Dev.slSchedule_idle hcur htx, Dev.sl_setSl_same h]

/-- The last character's last stop bit ends with nothing waiting: DE falls after the lag. -/
theorem Dev.slSent_last {d : Dev} {n ch v : Nat} (h : n < d.sls.length) (hcur : (d.sl n).cur = some (ch, v)) (htx : (d.sl n).txf = []) :
    d.slSent n = (((((d.advanceTo (v + (d.slCfg n).charNs)).setSl n (fun s => { s with cur := none })).slIdleRestart n).setSl n
      (fun s => { s with fallAt := some ((d.advanceTo (v + (d.slCfg n).charNs)).tick + (d.slCfg n).sixteenths s.lag) }))).setSl n
      (fun s => { s with startAt := none }) := by
  simp only [Dev.slSent, hcur]
  refine Dev.slTry_idle ?_ ?_ ?_
  all_goals simp [Dev.slIdleRestart, Dev.sl_setSl_same, h, htx]

theorem Dev.slSchedule_empty {d : Dev} {n : Nat} (h : n < d.sls.length) (htx : (d.sl n).txf = []) :
    (∃ z, (d.slSchedule n).sl n = { d.sl n with startAt := z }) ∧ (d.slSchedule n).tick = d.tick := by
  cases hcur : (d.sl n).cur with
  | none =>
    rw [Dev.slSchedule_idle hcur htx]
    exact ⟨⟨none, Dev.sl_setSl_same h _⟩, rfl⟩
  | some c =>
    have hstays : d.slSchedule n = d := by simp [Dev.slSchedule, hcur]
    rw [hstays]
    exact ⟨⟨_, rfl⟩, rfl⟩

/-- DE falls with nothing waiting: TXE is raised. -/
theorem Dev.slLagEnds_idle {d : Dev} {n v : Nat} (h : n < d.sls.length) (hfall : (d.sl n).fallAt = some v)
    (htx : (d.sl n).txf = []) :
    d.slLagEnds n = (((d.advanceTo v).setSl n (fun s => { s with de := false, fallAt := none })).slEvent n 1).slSchedule n := by
  simp [Dev.slLagEnds, hfall, Dev.sl_setSl_same, h, htx]

/-- The start bit of the waiting character begins. -/
theorem Dev.slBegin_next {d : Dev} {n ch g v : Nat} {rest : List (Nat × Nat)} (htx : (d.sl n).txf = (ch, g) :: rest)
    (hat : (d.sl n).startAt = some v) :
    d.slBegin n = d.setSl n (fun s => { s with txf := rest, cur := some (ch, v), startAt := none, fallAt := none, de := true }) := by
  simp [Dev.slBegin, htx, hat]

/-- A waiting character whose gap has passed begins, with DE high. -/
theorem Dev.slGapEnds_begins {d : Dev} {n ch g v : Nat} {rest : List (Nat × Nat)} (h : n < d.sls.length) (hruns : d.slRuns n = true)
    (hcur : (d.sl n).cur = none) (hat : (d.sl n).startAt = some v) (htx : (d.sl n).txf = (ch, g) :: rest) :
    (((d.slGapEnds n).sl n).cur = some (ch, v) ∧ ((d.slGapEnds n).sl n).txf = rest ∧ ((d.slGapEnds n).sl n).de = true) ∧
      (d.slGapEnds n).tick = max d.tick (if (d.sl n).de then v else v - (d.slCfg n).sixteenths (d.slCfg n).lead) := by
  obtain ⟨e, he⟩ : ∃ e, e = (d.advanceTo (if (d.sl n).de then v else v - (d.slCfg n).sixteenths (d.slCfg n).lead)).setSl n
    (fun s => { s with de := true, lag := if s.de then s.lag else (d.slCfg n).lag }) := ⟨_, rfl⟩
  have hends : d.slGapEnds n = e.slBegin n := by
    rw [he]
    simp [Dev.slGapEnds, hruns, hcur, hat]
  have hsl : (e.sl n).txf = (d.sl n).txf ∧ (e.sl n).startAt = (d.sl n).startAt ∧ n < e.sls.length := by
    simp [he, Dev.sl_setSl_same, h]
  obtain ⟨htxf, hstart, hlen⟩ := hsl
  rw [hends, Dev.slBegin_next (htxf.trans htx) (hstart.trans hat), Dev.sl_setSl_same hlen, Dev.tick_setSl, he]
  exact ⟨⟨rfl, rfl, rfl⟩, rfl⟩

/-- The row of a line unit that exists, as its lines and the tick show it. -/
theorem unitRow_shows {n : Nat} (h : n < 4) (s : State) (f : Dev → Dev) :
    ∃ t, unitRow n s f = .next t ∧ t.dev.sl n = (f s.dev).sl n ∧ t.dev.tick = (f s.dev).tick := by
  rw [unitRow, State.run, if_neg (by omega)]
  exact ⟨_, rfl, rfl, rfl⟩

end Sys2Proof.Machine
end

section
/-! The obligations of the serial lines (R415, R419 to R426). -/

namespace Sys2Proof.Ports

open Sys2Proof.Machine

/-- Settles O49: each row on a line that runs. -/
theorem serialRows : Obligations.SerialRows := by
  intro s n hn hlen hruns
  dsimp only
  refine ⟨fun ch pe fe ago hshut hbreak hdrain hrx hde haddr => ?_, fun ch v hcur htx => ?_, fun v hfall htx => ?_,
    fun v ch g rest hcur hat htx => ?_, fun hcur hgap hfired hb => ?_, ?_⟩
  · obtain ⟨t, ht, hsl, -⟩ := unitRow_shows hn s (fun d => d.slReceived n ch pe fe false ago)
    rw [Dev.slReceived_heard hruns hshut hbreak hdrain hrx hde haddr ch pe fe ago] at hsl
    refine ⟨fun hroom => ⟨t, ht, ?_⟩, fun hfull => ⟨t, ht, ?_⟩⟩
    · rw [hsl, Dev.slIdleRestart, Dev.sl_setSl_same (by simpa using hlen)]
      obtain ⟨hrxf, hevt⟩ := Dev.slStore_joins (e := { gap := s.dev.slIdle n (s.dev.tick - ago), brk := false, fe := fe,
                                                       pe := pe && (s.dev.slCfg n).parity != 0,
                                                       data := ch % 2 ^ (s.dev.slCfg n).dataBits })
        (d := s.dev.slHeard n pe fe) (n := n) (by simpa [Dev.slHeard] using hlen) (by simpa [Dev.slHeard, Dev.sl_setSl_same, hlen] using hroom)
      refine ⟨by simp [Dev.slHeard], ?_, hevt⟩
      rw [hrxf]
      simp [Dev.slHeard, Dev.sl_setSl_same, hlen]
    · rw [hsl, Dev.slIdleRestart, Dev.sl_setSl_same (by simpa using hlen)]
      obtain ⟨hrxf, hover, hevt⟩ := Dev.slStore_overruns (e := { gap := s.dev.slIdle n (s.dev.tick - ago), brk := false, fe := fe,
                                                                 pe := pe && (s.dev.slCfg n).parity != 0,
                                                                 data := ch % 2 ^ (s.dev.slCfg n).dataBits })
        (d := s.dev.slHeard n pe fe) (n := n) (by simpa [Dev.slHeard] using hlen) (by simpa [Dev.slHeard, Dev.sl_setSl_same, hlen] using hfull)
      refine ⟨hrxf.trans ?_, hover.trans ?_, hevt⟩
      · simp [Dev.slHeard, Dev.sl_setSl_same, hlen]
      · simp [Dev.slHeard, Dev.sl_setSl_same, hlen]
  · obtain ⟨t, ht, hsl, htick⟩ := unitRow_shows hn s (fun d => d.slSent n)
    refine ⟨t, ht, ?_⟩
    have hsent := Dev.slSent_last hlen hcur htx
    rw [hsent] at hsl htick
    rw [hsl, htick]
    simp [Dev.sl_setSl_same, hlen, Dev.slIdleRestart]
  · obtain ⟨t, ht, hsl, htick⟩ := unitRow_shows hn s (fun d => d.slLagEnds n)
    refine ⟨t, ht, ?_⟩
    obtain ⟨e, he⟩ : ∃ e, e = ((s.dev.advanceTo v).setSl n (fun s => { s with de := false, fallAt := none })).slEvent n 1 := ⟨_, rfl⟩
    have hline : e.sl n = Sl.raised { s.dev.sl n with de := false, fallAt := none } 1 := by
      simp [he, Dev.sl_slEvent, Dev.sl_setSl_same, hlen]
    obtain ⟨⟨z, hz⟩, hkeeps⟩ := Dev.slSchedule_empty (d := e) (n := n) (by simpa [he] using hlen) (by rw [hline]; exact htx)
    rw [hsl, htick, Dev.slLagEnds_idle hlen hfall htx, ← he, hz, hkeeps, hline]
    simp [he]
  · obtain ⟨t, ht, hsl, htick⟩ := unitRow_shows hn s (fun d => d.slGapEnds n)
    obtain ⟨⟨hc, hrest, hde⟩, hat'⟩ := Dev.slGapEnds_begins hlen hruns hcur hat htx
    exact ⟨t, ht, hsl ▸ hc, hsl ▸ hrest, hsl ▸ hde, htick.trans hat'⟩
  · obtain ⟨t, ht, hsl, htick⟩ := unitRow_shows hn s (fun d => d.slThreshold n)
    refine ⟨t, ht, ?_⟩
    have hraise : s.dev.slThreshold n = ((s.dev.advanceTo ((s.dev.sl n).idleFrom + (s.dev.slCfg n).sixteenths (s.dev.sl n).gapA)).setSl n
        (fun s => { s with firedA := true })).slEvent n 4 := by
      obtain hb | hb := hb <;> simp [Dev.slThreshold, hruns, hcur, hgap, hfired, hb]
    rw [hsl, htick, hraise, Dev.sl_slEvent (by simpa using hlen)]
    simp [Dev.sl_setSl_same, hlen]
  · obtain ⟨t, ht, hsl, -⟩ := unitRow_shows hn s (fun d => d.slHigh n)
    refine ⟨t, ht, ?_⟩
    rw [hsl, Dev.slHigh, if_pos hruns, Dev.sl_setSl_same hlen]
    exact ⟨rfl, rfl, rfl⟩

end Sys2Proof.Ports
end

section
/-! SUPPORT. The directory and the caches as requests, write-backs and non-caching accesses leave them (R239 to R241, Table 9.3). -/

namespace Sys2Proof.Machine

/-! ## The directory -/

theorem Dev.dirLine_line (d : Dev) (line : Nat) : (d.dirLine line).line = line := by
  unfold Dev.dirLine
  cases h : d.eng.dir.find? (fun x => x.line == line) with
  | none => rfl
  | some x => simpa using List.find?_some h

/-- A directory entry reads as it was set. -/
theorem Dev.dirLine_setDir {d : Dev} {x : DirLine} {line : Nat} (h : x.line = line) : (d.setDir x).dirLine line = x := by
  subst h
  have hgone : (d.eng.dir.filter (fun y => y.line != x.line)).find? (fun y => y.line == x.line) = none := by simp
  simp [Dev.dirLine, Dev.setDir, Dev.setEng, List.find?_append, hgone]

@[simp] theorem Dev.dirLine_setPe (d : Dev) (p line : Nat) (f : Pe → Pe) : (d.setPe p f).dirLine line = d.dirLine line := rfl
@[simp] theorem Dev.dirLine_setPim (d : Dev) (a line : Nat) (bs : List Byte) : (d.setPim a bs).dirLine line = d.dirLine line := rfl
@[simp] theorem Dev.pe_setDir (d : Dev) (p : Nat) (x : DirLine) : (d.setDir x).pe p = d.pe p := rfl
@[simp] theorem Dev.pe_setPim (d : Dev) (p a : Nat) (bs : List Byte) : (d.setPim a bs).pe p = d.pe p := rfl
@[simp] theorem Dev.pim_setDir (d : Dev) (x : DirLine) : (d.setDir x).eng.pim = d.eng.pim := rfl
@[simp] theorem Dev.pim_setPe (d : Dev) (p : Nat) (f : Pe → Pe) : (d.setPe p f).eng.pim = d.eng.pim := rfl
@[simp] theorem Dev.pim_setPim (d : Dev) (a : Nat) (bs : List Byte) : (d.setPim a bs).eng.pim = Mem.setBytes 0 d.eng.pim a bs := rfl
@[simp] theorem Dev.pes_setDir (d : Dev) (x : DirLine) : (d.setDir x).eng.pes = d.eng.pes := rfl

/-! ## The cache of one engine -/

/-- What `cached` says of a line but for its age and generation. -/
def Pe.copy (e : Pe) (line : Nat) : Option (Bool × List Byte) := (e.cached line).map (fun c => (c.owned, c.data))

theorem cached_filter_self (cs : List CLine) (line : Nat) : (cs.filter (fun c => c.line != line)).find? (fun c => c.line == line) = none := by
  simp

/-- With fewer than four lines in the eviction buffer, making room changes the engine alone. -/
theorem Dev.makeRoom_shape {d : Dev} {p : Nat} (line : Nat) (h : (d.pe p).evb.length < 4) : ∃ f, d.makeRoom p line = d.setPe p f := by
  have hstay := (d.setPe_fix p id rfl).symm
  unfold Dev.makeRoom
  dsimp only
  split
  · exact ⟨id, hstay⟩
  · split
    · exact ⟨id, hstay⟩
    · rw [if_neg (by simp [not_le.mpr h])]
      exact ⟨_, rfl⟩

/-- A line brought in is in the cache, and nothing but the engine has changed. -/
theorem Dev.fill_holds {d : Dev} {p : Nat} (hp : p < d.eng.pes.length) (line : Nat) (owned : Bool) (data : List Byte)
    (h : (d.pe p).evb.length < 4) :
    (∃ f, d.fill p line owned data = d.setPe p f) ∧ ((d.fill p line owned data).pe p).copy line = some (owned, data) := by
  obtain ⟨f, hf⟩ : ∃ f, (if ((d.pe p).cached line).isSome then d else d.makeRoom p line) = d.setPe p f := by
    split
    · exact ⟨id, (d.setPe_fix p id rfl).symm⟩
    · exact Dev.makeRoom_shape line h
  rw [Dev.fill, hf, Dev.setPe_setPe]
  refine ⟨⟨_, rfl⟩, ?_⟩
  rw [Dev.pe_setPe_same _ _ _ hp, Pe.copy, Pe.cached, List.find?_append, cached_filter_self]
  simp

theorem Pe.copy_dropped (e : Pe) (line : Nat) : Pe.copy { e with cache := e.cache.filter (fun c => c.line != line) } line = none := by
  rw [Pe.copy, Pe.cached, cached_filter_self]
  rfl

/-! ## Requests of an engine that neither caches nor evicts the line -/

theorem Dev.drainFor_clear {d : Dev} {p : Nat} (h : (d.pe p).evb = []) (line : Nat) : d.drainFor p line = d := by
  have hnone : ((d.pe p).evicting line).isSome = false := by simp [Pe.evicting, h]
  unfold Dev.drainFor forN
  induction List.range 4 with
  | nil => rfl
  | cons i is ih => rw [List.foldl_cons, hnone]; exact ih

theorem Dev.needShared_clear {d : Dev} {p line : Nat} (hevb : (d.pe p).evb = []) (hnone : (d.pe p).cached line = none)
    (hst : (d.dirLine line).st ≠ 2) :
    ∃ x : DirLine, d.needShared p line = (d.setDir x).fill p line false (d.pimLine line) ∧ x.line = line ∧ x.st = 1 ∧ p ∈ x.sharers := by
  have hdir : d.dirShared p line = d.setDir { d.dirLine line with
      st := 1, sharers := if (d.dirLine line).sharers.contains p then (d.dirLine line).sharers else (d.dirLine line).sharers ++ [p] } := by
    simp [Dev.dirShared, hst]
  refine ⟨{ d.dirLine line with
      st := 1, sharers := if (d.dirLine line).sharers.contains p then (d.dirLine line).sharers else (d.dirLine line).sharers ++ [p] },
    ?_, d.dirLine_line line, rfl, ?_⟩
  · simp only [Dev.needShared, Dev.drainFor_clear hevb, hnone, hdir]
    rfl
  · dsimp only
    split <;> simp_all

theorem Dev.needOwned_clear {d : Dev} {p line : Nat} (hevb : (d.pe p).evb = []) (hnone : (d.pe p).cached line = none)
    (hst : (d.dirLine line).st = 0) (hsharers : (d.dirLine line).sharers = []) :
    ∃ e x : DirLine, d.needOwned p line = ((d.setDir e).setDir x).fill p line true (d.pimLine line) ∧ x.line = line ∧ x.st = 2 ∧ x.owner = p ∧
      x.gen = nextGen (d.dirLine line).gen := by
  have hclear : d.invalidateSharers line (some p) = d.setDir (d.dirLine line) := by
    simp only [Dev.invalidateSharers, hsharers, forEach, List.filter_nil, List.foldl_nil]
    rw [← hsharers]
  have hread : (d.setDir (d.dirLine line)).dirLine line = d.dirLine line := Dev.dirLine_setDir (d.dirLine_line line)
  have hdir : d.dirOwned p line = (d.setDir (d.dirLine line)).setDir { d.dirLine line with
      st := 2, sharers := [], owner := p, gen := nextGen (d.dirLine line).gen } := by
    simp [Dev.dirOwned, hst, hclear, hread]
  refine ⟨d.dirLine line, { d.dirLine line with st := 2, sharers := [], owner := p, gen := nextGen (d.dirLine line).gen }, ?_,
    d.dirLine_line line, rfl, rfl, rfl⟩
  simp only [Dev.needOwned, Dev.drainFor_clear hevb, hnone, hdir]
  rfl

/-! ## Recalls and invalidations -/

/-- A cache whose first copy of a line is owned no longer. -/
def Pe.shares (e : Pe) (line : Nat) : Pe :=
  { e with cache := updFirst e.cache (fun c => c.line == line) (fun c => { c with owned := false }) }

theorem Pe.copy_shares {e : Pe} {line : Nat} {c : CLine} (hc : e.cached line = some c) : (e.shares line).copy line = some (false, c.data) := by
  have hfind := updFirst_find e.cache (fun c => c.line == line) (fun c => { c with owned := false }) (fun _ h => h)
  rw [Pe.cached] at hc
  rw [Pe.copy, Pe.cached, Pe.shares, hfind, hc]
  rfl

/-- A recall that leaves the line Shared, from an owner that caches it. -/
theorem Dev.recall_keep {d : Dev} {p line : Nat} {c : CLine} (hst : (d.dirLine line).st = 2) (howner : (d.dirLine line).owner = p)
    (hc : (d.pe p).cached line = some c) :
    d.recall line true = ((d.setPe p (fun e => e.shares line)).setPim (line * 64) c.data).setDir
      { d.dirLine line with st := 1, sharers := [p], owner := 0, gen := nextGen (d.dirLine line).gen } := by
  simp [Dev.recall, hst, howner, hc]
  rfl

theorem Dev.recall_leaves {d : Dev} {p line : Nat} {c : CLine} (hp : p < d.eng.pes.length) (hst : (d.dirLine line).st = 2)
    (howner : (d.dirLine line).owner = p) (hc : (d.pe p).cached line = some c) :
    (d.recall line true).eng.pim = Mem.setBytes 0 d.eng.pim (line * 64) c.data ∧
      (d.recall line true).dirLine line =
        { d.dirLine line with st := 1, sharers := [p], owner := 0, gen := nextGen (d.dirLine line).gen } ∧
      ((d.recall line true).pe p).copy line = some (false, c.data) := by
  rw [Dev.recall_keep hst howner hc]
  refine ⟨rfl, Dev.dirLine_setDir (d.dirLine_line line), ?_⟩
  rw [Dev.pe_setDir, Dev.pe_setPim, Dev.pe_setPe_same _ _ _ hp]
  exact Pe.copy_shares hc

theorem Dev.recall_unowned {d : Dev} {line : Nat} (h : (d.dirLine line).st ≠ 2) (keep : Bool) : d.recall line keep = d := by
  simp [Dev.recall, h]

/-- Dropping a line from engines leaves PIM and the directory, gives no engine a copy, and takes the copies of those engines. -/
theorem Dev.dropLines (line : Nat) (ps : List Nat) (d : Dev) :
    (forEach ps d (fun d p => d.dropLine p line)).eng.pim = d.eng.pim ∧
      (∀ l, (forEach ps d (fun d p => d.dropLine p line)).dirLine l = d.dirLine l) ∧
      ∀ q, q < d.eng.pes.length → (q ∈ ps ∨ (d.pe q).copy line = none) → ((forEach ps d (fun d p => d.dropLine p line)).pe q).copy line = none := by
  induction ps generalizing d with
  | nil => exact ⟨rfl, fun _ => rfl, fun q _ hq => hq.resolve_left List.not_mem_nil⟩
  | cons p ps ih =>
    obtain ⟨hpim, hdir, hcopy⟩ := ih (d.dropLine p line)
    refine ⟨hpim, hdir, fun q hlen hq => hcopy q (by simpa [Dev.dropLine, Dev.setPe] using hlen) ?_⟩
    by_cases hpq : p = q
    · subst hpq
      rw [Dev.dropLine, Dev.pe_setPe_same _ _ _ hlen]
      exact .inr (Pe.copy_dropped _ _)
    · rw [Dev.dropLine, Dev.pe_setPe_ne _ _ _ _ hpq]
      exact hq.imp_left fun hmem => (List.mem_cons.mp hmem).resolve_left (Ne.symm hpq)

theorem Dev.ncWrite_unowned {d : Dev} {a : Nat} (hst : (d.dirLine (a / 64)).st ≠ 2) (bs : List Byte) :
    d.ncWrite a bs = (((forEach ((d.dirLine (a / 64)).sharers.filter (fun p => some p != none)) d (fun d p => d.dropLine p (a / 64))).setDir
      { d.dirLine (a / 64) with sharers := (d.dirLine (a / 64)).sharers.filter (fun p => some p == none) }).setDir
      { d.dirLine (a / 64) with st := 0, sharers := [], owner := 0 }).setPim a bs := by
  have hread (e : Dev) (ps : List Nat) : (e.setDir { d.dirLine (a / 64) with sharers := ps }).dirLine (a / 64) =
      { d.dirLine (a / 64) with sharers := ps } :=
    Dev.dirLine_setDir (d.dirLine_line _)
  simp only [Dev.ncWrite, Dev.recall_unowned hst, Dev.invalidateSharers, hread]

/-- A write by a non-caching agent to a line that no engine owns: the bytes are in PIM, and the line has no copies. -/
theorem Dev.ncWrite_leaves {d : Dev} {a : Nat} (hst : (d.dirLine (a / 64)).st ≠ 2) (bs : List Byte) :
    (d.ncWrite a bs).eng.pim = Mem.setBytes 0 d.eng.pim a bs ∧
      (d.ncWrite a bs).dirLine (a / 64) = { d.dirLine (a / 64) with st := 0, sharers := [], owner := 0 } ∧
      ∀ q, q < d.eng.pes.length → q ∈ (d.dirLine (a / 64)).sharers → ((d.ncWrite a bs).pe q).copy (a / 64) = none := by
  obtain ⟨hpim, -, hcopy⟩ := Dev.dropLines (a / 64) ((d.dirLine (a / 64)).sharers.filter (fun p => some p != none)) d
  have hwrite := Dev.ncWrite_unowned hst bs
  generalize forEach ((d.dirLine (a / 64)).sharers.filter (fun p => some p != none)) d (fun d p => d.dropLine p (a / 64)) = e
    at hpim hcopy hwrite
  rw [hwrite]
  refine ⟨?_, Dev.dirLine_setDir (d.dirLine_line _), fun q hq hmem => hcopy q hq (.inl (by simpa using hmem))⟩
  rw [Dev.pim_setPim, Dev.pim_setDir, Dev.pim_setDir, hpim]

theorem Dev.ncWriteRow_fits {a : Nat} {bs : List Byte} (ha : a < 524288) (hbs : bs ≠ []) (hfits : a % 64 + bs.length ≤ 64) (d : Dev) :
    Dev.ncWriteRow a bs d = d.ncWrite a bs := by
  have hwhole : bs.take (64 - a % 64) = bs := List.take_of_length_le (by omega)
  have hrow : (decide (a < 524288) && !bs.isEmpty) = true := by
    rw [decide_eq_true ha]
    simpa using hbs
  rw [Dev.ncWriteRow, if_pos hrow, hwhole]

/-! ## Write-backs -/

theorem Dev.serveWriteBack_first {d : Dev} {p : Nat} {v : EvLine} {vs : List EvLine} (h : (d.pe p).evb = v :: vs) :
    d.serveWriteBack p = (d.dirWriteBack p v).setPe p (fun e => { e with evb := vs }) := by
  simp only [Dev.serveWriteBack, h]

/-- A write-back of the present owner and generation goes to PIM, and the line is then uncached under its next generation. -/
theorem Dev.dirWriteBack_owner {d : Dev} {p : Nat} {v : EvLine} (hst : (d.dirLine v.line).st = 2) (howner : (d.dirLine v.line).owner = p)
    (hgen : (d.dirLine v.line).gen = v.gen) :
    ∃ x : DirLine, x.line = v.line ∧ x.st = 0 ∧ x.gen = ((d.dirLine v.line).gen + 1) % 65536 ∧
      d.dirWriteBack p v = (d.setPim (v.line * 64) v.data).setDir x :=
  ⟨{ d.dirLine v.line with st := 0, sharers := [], owner := 0, gen := nextGen (d.dirLine v.line).gen }, d.dirLine_line v.line, rfl, rfl,
    by simp [Dev.dirWriteBack, hst, howner, hgen]⟩

theorem Dev.dirWriteBack_stale {d : Dev} {p : Nat} {v : EvLine} (h : (d.dirLine v.line).gen ≠ v.gen) : d.dirWriteBack p v = d := by
  simp [Dev.dirWriteBack, h]

theorem Dev.serveWriteBack_owner {d : Dev} {p : Nat} (hp : p < d.eng.pes.length) {v : EvLine} {vs : List EvLine} (hv : (d.pe p).evb = v :: vs)
    (hst : (d.dirLine v.line).st = 2) (howner : (d.dirLine v.line).owner = p) (hgen : (d.dirLine v.line).gen = v.gen) :
    ((d.serveWriteBack p).pe p).evb = vs ∧ (d.serveWriteBack p).eng.pim = Mem.setBytes 0 d.eng.pim (v.line * 64) v.data ∧
      ((d.serveWriteBack p).dirLine v.line).st = 0 ∧ ((d.serveWriteBack p).dirLine v.line).gen = ((d.dirLine v.line).gen + 1) % 65536 := by
  obtain ⟨x, hxl, hxs, hxg, hback⟩ := Dev.dirWriteBack_owner hst howner hgen
  rw [Dev.serveWriteBack_first hv, hback, Dev.dirLine_setPe, Dev.dirLine_setDir hxl]
  exact ⟨congrArg Pe.evb (Dev.pe_setPe_same _ p _ hp), rfl, hxs, hxg⟩

theorem Dev.serveWriteBack_stale {d : Dev} {p : Nat} (hp : p < d.eng.pes.length) {v : EvLine} {vs : List EvLine} (hv : (d.pe p).evb = v :: vs)
    (hgen : (d.dirLine v.line).gen ≠ v.gen) :
    ((d.serveWriteBack p).pe p).evb = vs ∧ (d.serveWriteBack p).eng.pim = d.eng.pim ∧
      (d.serveWriteBack p).dirLine v.line = d.dirLine v.line := by
  rw [Dev.serveWriteBack_first hv, Dev.dirWriteBack_stale hgen, Dev.dirLine_setPe]
  exact ⟨congrArg Pe.evb (Dev.pe_setPe_same _ p _ hp), rfl, rfl⟩

end Sys2Proof.Machine
end

section
/-! The obligation of the directory (R239 to R241). -/

namespace Sys2Proof.Ports

open Sys2Proof.Machine

/-- Settles O46: each transaction of Table 9.3 on its line. -/
theorem directoryTransactions : Obligations.DirectoryTransactions := by
  intro s p line hp hline
  dsimp only
  refine ⟨fun ⟨hrun, hreach, hevb, hnone⟩ hst hmay => ?_, fun ⟨hrun, hreach, hevb, hnone⟩ hst hsharers hmay => ?_,
    fun v vs hv hvl => ⟨fun hst howner hgen => ?_, fun hgen => ?_⟩, fun c hst howner hc => ?_, fun a bs ha hbs hfits hst => ?_⟩
  · obtain ⟨x, hneed, hxl, hxs, hxp⟩ := Dev.needShared_clear hevb hnone hst
    have hrow : Dev.lineRow p line false s.dev = s.dev.needShared p line := by simp [Dev.lineRow, hrun, hreach, hmay]
    obtain ⟨⟨f, hf⟩, hcopy⟩ := Dev.fill_holds (d := s.dev.setDir x) hp line false (s.dev.pimLine line) (by simp [hevb])
    refine ⟨_, State.run_withDev (hrow.trans hneed), ?_⟩
    have hdir : ((s.dev.setDir x).fill p line false (s.dev.pimLine line)).dirLine line = x := by
      rw [hf, Dev.dirLine_setPe, Dev.dirLine_setDir hxl]
    refine ⟨(congrArg DirLine.st hdir).trans hxs, (congrArg DirLine.sharers hdir).symm ▸ hxp, ?_, hcopy⟩
    exact (congrArg (fun d : Dev => d.eng.pim) hf :)
  · obtain ⟨e, x, hneed, hxl, hxs, hxo, hxg⟩ := Dev.needOwned_clear hevb hnone hst hsharers
    have hrow : Dev.lineRow p line true s.dev = s.dev.needOwned p line := by simp [Dev.lineRow, hrun, hreach, hmay]
    obtain ⟨⟨f, hf⟩, hcopy⟩ := Dev.fill_holds (d := (s.dev.setDir e).setDir x) hp line true (s.dev.pimLine line) (by simp [hevb])
    refine ⟨_, State.run_withDev (hrow.trans hneed), ?_⟩
    have hdir : (((s.dev.setDir e).setDir x).fill p line true (s.dev.pimLine line)).dirLine line = x := by
      rw [hf, Dev.dirLine_setPe, Dev.dirLine_setDir hxl]
    exact ⟨(congrArg DirLine.st hdir).trans hxs, (congrArg DirLine.owner hdir).trans hxo, (congrArg DirLine.gen hdir).trans hxg, hcopy⟩
  · subst hvl
    exact ⟨_, State.run_withDev (f := fun d => d.serveWriteBack p) rfl, Dev.serveWriteBack_owner hp hv hst howner hgen⟩
  · subst hvl
    exact ⟨_, State.run_withDev (f := fun d => d.serveWriteBack p) rfl, Dev.serveWriteBack_stale hp hv hgen⟩
  · obtain ⟨hpim, hdir, hcopy⟩ := Dev.recall_leaves hp hst howner hc
    refine ⟨_, State.run_withDev (f := fun d => if line < 8192 then d.ncRead line else d) (if_pos hline), ?_⟩
    rw [Dev.ncRead]
    generalize s.dev.recall line true = e at hpim hdir hcopy
    exact ⟨hpim, congrArg DirLine.st hdir, congrArg DirLine.sharers hdir, hcopy⟩
  · subst ha
    obtain ⟨hpim, hdir, hcopy⟩ := Dev.ncWrite_leaves hst bs
    have hrow : exec (.noncachingWrite a bs) s = .next (s.withDev (s.dev.ncWrite a bs)) :=
      State.run_withDev (f := Dev.ncWriteRow a bs) (Dev.ncWriteRow_fits (by omega) hbs hfits s.dev)
    refine ⟨_, hrow, ?_⟩
    generalize s.dev.ncWrite a bs = e at hpim hdir hcopy
    refine ⟨hpim, congrArg DirLine.st hdir, congrArg DirLine.sharers hdir, fun hmem => ?_⟩
    exact Option.map_eq_none_iff.mp (hcopy p hp hmem)

end Sys2Proof.Ports
end

section
/-! SUPPORT. What an event for an engine moves (R25, R26, R247, R257): the toggles, the overruns of an island, and the registers and ports
of engines. -/

namespace Sys2Proof.Machine

/-- An engine but for its registers, its stall and its ports. -/
def Pe.quiet (e : Pe) : Pe := { e with regs := {}, stall := .none, ports := {} }

/-- An island but for its merged events. -/
def Island.quiet (i : Island) : Island := { i with ovr := false, ovc := 0 }

/-- The part with other toggles, islands and engines. -/
def Dev.signalled (d : Dev) (n : Nat) (ts : List Toggle) (is : List Island) (es : List Pe) : Dev :=
  { d with free := n, toggles := ts, islands := is, eng := { d.eng with pes := es } }

/-- `e` is `d` but for events raised in engines. -/
def Dev.Signals (d e : Dev) : Prop :=
  ∃ n ts is es, e = d.signalled n ts is es ∧ is.map Island.quiet = d.islands.map Island.quiet ∧ es.map Pe.quiet = d.eng.pes.map Pe.quiet

theorem Dev.Signals.refl (d : Dev) : d.Signals d := ⟨d.free, d.toggles, d.islands, d.eng.pes, rfl, rfl, rfl⟩

theorem Dev.Signals.trans {d e f : Dev} (h : d.Signals e) (h' : e.Signals f) : d.Signals f := by
  obtain ⟨n, ts, is, es, rfl, his, hes⟩ := h
  obtain ⟨n', ts', is', es', rfl, his', hes'⟩ := h'
  exact ⟨n', ts', is', es', rfl, his'.trans his, hes'.trans hes⟩

theorem Dev.signals_setPe {d : Dev} (p : Nat) {f : Pe → Pe} (hf : ∀ e, (f e).quiet = e.quiet) : d.Signals (d.setPe p f) :=
  ⟨d.free, d.toggles, d.islands, _, rfl, rfl, map_upd Pe.quiet f hf _ _⟩

/-- A loop whose steps are related to what they begin from, by a relation that composes, is so as a whole. -/
theorem foldl_relates {α σ : Type} {R : σ → σ → Prop} (hrefl : ∀ s, R s s) (htrans : ∀ {s t u}, R s t → R t u → R s u) {f : σ → α → σ}
    (h : ∀ s x, R s (f s x)) (xs : List α) (s : σ) : R s (xs.foldl f s) := by
  induction xs generalizing s with
  | nil => exact hrefl s
  | cons x xs ih => exact htrans (h s x) (ih (f s x))

theorem Dev.signals_toggles (d : Dev) (ts : List Toggle) : d.Signals { d with toggles := ts } :=
  ⟨d.free, ts, d.islands, d.eng.pes, rfl, rfl, rfl⟩

theorem Dev.signals_toggle (d : Dev) (src dst ev : Nat) : d.Signals (d.toggle src dst ev).2 := by
  unfold Dev.toggle
  dsimp only
  split
  · exact .refl d
  · split
    · exact d.signals_toggles _
    · rename_i t _
      generalize (if (t.pend && decide (t.last + 4 * (d.periodPs src + d.periodPs dst) ≤ d.tick * 1000)) = true then
        { t with pend := false, last := t.last + 4 * (d.periodPs src + d.periodPs dst) } else t : Toggle) = t1
      simp only [apply_ite Prod.snd]
      split_ifs
      · exact d.signals_toggles _
      · exact ⟨d.free, _, _, d.eng.pes, rfl, Packets.updFirst_map Island.quiet _ _ _ (fun _ => rfl), rfl⟩
      · exact d.signals_toggles _

theorem Pe.quiet_endWait (tick : Nat) (e : Pe) : (e.endWait tick).quiet = e.quiet := by
  unfold Pe.endWait
  dsimp only
  split
  · rfl
  · rfl
  · split <;> rfl
  · split
    · rfl
    · split <;> rfl

theorem Dev.signals_setPorts (d : Dev) (p : Nat) (f : EPorts → EPorts) : d.Signals (d.setPorts p f) := Dev.signals_setPe p fun _ => rfl

theorem Dev.signals_setPend (d : Dev) (p b : Nat) : d.Signals (d.setPend p b) := Dev.signals_setPe p fun _ => Pe.quiet_endWait _ _

theorem Dev.signals_raiseLocal (d : Dev) (p b : Nat) : d.Signals (d.raiseLocal p b) := by
  unfold Dev.raiseLocal
  split
  exacts [d.signals_setPend p b, .refl d]

theorem Dev.signals_raise (d : Dev) (src p b : Nat) : d.Signals (d.raise src p b) := by
  unfold Dev.raise
  have htoggle := d.signals_toggle src (peIsland p) b
  dsimp only
  split
  · exact .refl d
  · split
    · exact htoggle.trans (Dev.signals_setPend _ _ _)
    · split
      exacts [htoggle.trans (Dev.signals_setPorts _ _ _), htoggle]

theorem Dev.signals_raiseLe (d : Dev) (src l b : Nat) : d.Signals (d.raiseLe src l b) := by
  unfold Dev.raiseLe
  split
  exacts [d.signals_raise _ _ _, .refl d]

theorem Dev.signals_accepted (d : Dev) (p : Nat) : d.Signals (d.accepted p).2 := by
  have hdraw : d.Signals d.draw.2 := ⟨d.free + 1, d.toggles, d.islands, d.eng.pes, rfl, rfl, rfl⟩
  exact hdraw.trans (d.draw.2.signals_setPorts p (fun q => { q with lastTick := (d.accepted p).1 }))

theorem Dev.signals_capture (d : Dev) (p src : Nat) : d.Signals (d.capture p src) := by
  unfold Dev.capture
  split
  · exact .refl d
  · refine Dev.Signals.trans (d.signals_accepted p) (foldl_relates Dev.Signals.refl Dev.Signals.trans (fun e i => ?_) (List.range 4) _)
    split
    exacts [.refl e, e.signals_setPorts p _]

theorem Dev.signals_unitEvent (d : Dev) (src inst b : Nat) : d.Signals (d.unitEvent src inst b) := by
  unfold Dev.unitEvent
  split
  · exact .refl d
  · dsimp only
    split
    exacts [(d.signals_raiseLe _ _ _).trans (Dev.signals_capture _ _ _), d.signals_raiseLe _ _ _]

/-- An event of a multidrop controller sets its bit of MB_EVT, and signals. -/
theorem Dev.signals_mbEvent (d : Dev) (n b : Nat) : (d.setMb n (fun m => { m with evt := m.evt ||| 2 ^ b })).Signals (d.mbEvent n b) := by
  unfold Dev.mbEvent
  dsimp only
  split
  exacts [Dev.signals_unitEvent _ _ _ _, .refl _]

/-! ## One record -/

/-- `r` is record `n`, of this class, island, action and cause. -/
def FaultRec.says (r : FaultRec) (n cls island action cause : Nat) : Prop :=
  r.recno = n ∧ r.cls = cls ∧ r.island = island ∧ r.action = action ∧ r.cause = cause

/-- `e` is `d` with one record more in its log, and told. -/
def Dev.Logs (d e : Dev) (cls island action cause : Nat) : Prop :=
  ∃ r late, r.says d.svc.nextRec cls island action cause ∧ ({ d with svc := { d.svc.append r with late := late } } : Dev).Tells e

theorem Svc.mem_append (v : Svc) (r : FaultRec) : r ∈ (v.append r).log := List.mem_append_right _ (List.mem_singleton_self r)

theorem Dev.logs_episode (d : Dev) (cls island action cause fid detail : Nat) :
    d.Logs (d.episode (fun d => d.logFault cls island action cause fid detail)) cls island action cause := by
  obtain ⟨late, n, hn, hevents, hwaiting, hports⟩ :=
    Dev.tells_logFault { d with svc := { d.svc with episode := none } } cls island action cause fid detail
  refine ⟨Dev.nextRecord { d with svc := { d.svc with episode := none } } cls island action cause fid detail, late,
    ⟨rfl, rfl, rfl, rfl, rfl⟩, n, ?_, hevents, hwaiting, hports⟩
  rw [Dev.episode]
  dsimp only
  rw [hn]
  rfl

/-- What neither the log nor the host's queues hold is as it was. -/
theorem Dev.Logs.keeps {α : Type} {d e : Dev} {cls island action cause : Nat} (h : d.Logs e cls island action cause) (v : Dev → α)
    (hv : ∀ r late n, v (({ d with svc := { d.svc.append r with late := late } } : Dev).noted n) = v d) : v e = v d := by
  obtain ⟨r, late, -, n, rfl, -⟩ := h
  exact hv r late n

/-- The record of a part that numbers as `s` does stands in its log. -/
theorem State.logged_of_logs {s : State} {d e : Dev} {cls island action cause : Nat} (h : d.Logs e cls island action cause)
    (hnum : d.svc.nextRec = s.dev.svc.nextRec) : s.logged (s.withDev e) cls island action cause := by
  obtain ⟨r, late, ⟨hrec, hsays⟩, n, rfl, -⟩ := h
  exact ⟨r, Svc.mem_append _ r, hrec.trans hnum, hsays⟩

end Sys2Proof.Machine
end

section
/-! SUPPORT. Memory errors and the ends of leases (R57, R58, R65, R71): what each item rolls back to. -/

namespace Sys2Proof.Machine

theorem Dev.mbObj_setObj {d : Dev} {n k : Nat} (hn : n < d.mbs.length) (hk : k < (d.mb n).objs.length) (f : MbObj → MbObj) :
    (d.setObj n k f).mbObj n k = f (d.mbObj n k) := by
  have hmb : (d.setObj n k f).mb n = { d.mb n with objs := upd (d.mb n).objs k f } := upd_getD_same _ _ _ _ hn
  rw [Dev.mbObj, hmb]
  exact upd_getD_same _ _ _ _ hk

/-! ## The rollback of a lease -/

/-- The quoins, the service set and the tick: what no rollback moves. -/
def Dev.accounts (d : Dev) : List Quoin × Svc × Nat := (d.quoins, d.svc, d.tick)

theorem Dev.Signals.accounts {d e : Dev} (h : d.Signals e) : e.accounts = d.accounts := by
  obtain ⟨n, ts, is, es, rfl, -⟩ := h
  rfl

theorem Dev.Tells.accounts {d e : Dev} (h : d.Tells e) : e.accounts = d.accounts := by
  obtain ⟨n, rfl, -⟩ := h
  rfl

theorem Dev.accounts_mbEvent (d : Dev) (n b : Nat) : (d.mbEvent n b).accounts = d.accounts := (d.signals_mbEvent n b).accounts

theorem Dev.accounts_unshadow (d : Dev) (n k : Nat) (b : Bool) : (d.unshadow n k b).accounts = d.accounts := by
  unfold Dev.unshadow
  split
  exacts [rfl, Dev.accounts_mbEvent _ _ _]

theorem Dev.accounts_unlock (d : Dev) (n k : Nat) (b : Bool) : (d.unlock n k b).accounts = d.accounts := by
  unfold Dev.unlock
  split
  · rfl
  · split
    exacts [(Dev.accounts_unshadow _ _ _ _).trans (Dev.accounts_mbEvent _ _ _), Dev.accounts_unshadow _ _ _ _]

theorem Dev.accounts_unlockReader (d : Dev) (rd : Nat) : (d.unlockReader rd).accounts = d.accounts := by
  refine forN_keeps Dev.accounts _ (fun d n => forN_keeps Dev.accounts _ (fun d k => ?_) 128 d) 4 d
  split
  · split
    exacts [Dev.accounts_unlock _ _ _ _, rfl]
  · rfl

theorem Dev.accounts_closeWindow (d : Dev) (w : Nat) : (d.closeWindow w).2.accounts = d.accounts := by
  simp only [Dev.closeWindow, apply_ite Prod.snd, apply_ite Dev.accounts, Dev.accounts_unlockReader]
  split <;> rfl

theorem Dev.accounts_mbWithdraw (d : Dev) (n k : Nat) : (d.mbWithdraw n k).2.accounts = d.accounts := by
  unfold Dev.mbWithdraw
  split
  · rfl
  · split
    exacts [rfl, Dev.accounts_mbEvent _ _ _]

theorem Dev.accounts_discardWrite (d : Dev) (p : Nat) : (d.discardWrite p).2.accounts = d.accounts := by
  unfold Dev.discardWrite
  dsimp only
  split <;> rfl

/-- One quoin, the service set and the tick. -/
def Dev.account (kind inst : Nat) (d : Dev) : Quoin × Svc × Nat := (d.quoin kind inst, d.svc, d.tick)

theorem Dev.account_of_accounts {d e : Dev} (h : e.accounts = d.accounts) (kind inst : Nat) : e.account kind inst = d.account kind inst := by
  obtain ⟨hquoins, hrest⟩ := Prod.mk.inj h
  rw [Dev.account, Dev.account, hrest, Dev.quoin, Dev.quoin, hquoins]

theorem updFirst_find_other {α : Type} (xs : List α) (p q : α → Bool) (f : α → α) (h : ∀ x, p x = true → q x = false ∧ q (f x) = false) :
    (updFirst xs p f).find? q = xs.find? q := by
  induction xs with
  | nil => rfl
  | cons x xs ih =>
    cases hx : p x
    · simp [updFirst, hx, ih, List.find?_cons]
    · obtain ⟨hq, hqf⟩ := h x hx
      simp [updFirst, hx, hq, hqf]

/-- Another quoin's update leaves a quoin as it is. -/
theorem Dev.account_setQuoin_ne {kind inst other : Nat} (h : other ≠ inst) (d : Dev) {f : Quoin → Quoin}
    (hkeeps : ∀ q, (f q).kind = q.kind ∧ (f q).inst = q.inst) : (d.setQuoin kind other f).account kind inst = d.account kind inst := by
  have hfind := updFirst_find_other d.quoins (fun q => q.kind == kind && q.inst == other) (fun q => q.kind == kind && q.inst == inst) f
    (fun q hq => by
      obtain ⟨hk, hi⟩ := hkeeps q
      have hinst : q.inst = other := by simpa using (Bool.and_eq_true_iff.mp hq).2
      simp [hk, hi, hinst, h])
  simp only [Dev.account, Dev.quoin, Dev.setQuoin, hfind]

theorem Dev.account_tellGrant (d : Dev) (o : Owner) (kind inst slot k i : Nat) :
    (d.tellGrant o kind inst slot).account k i = d.account k i := by
  unfold Dev.tellGrant
  split
  · exact Dev.account_of_accounts (Dev.signals_raiseLe _ _ _ _).accounts k i
  · rfl

/-- The release of a quoin leaves the others. -/
theorem Dev.account_release_ne {kind inst other : Nat} (h : other ≠ inst) (d : Dev) :
    (d.release kind other).account kind inst = d.account kind inst := by
  have hfree : (d.freeQuoin kind other).account kind inst = d.account kind inst := d.account_setQuoin_ne h fun _ => ⟨rfl, rfl⟩
  unfold Dev.release Dev.grantNext
  dsimp only
  split
  · rename_i ws _ _
    rw [Dev.account_tellGrant, Dev.grant]
    have hqueue := ((d.freeQuoin kind other).account_setQuoin_ne (f := fun q => { q with queue := ws }) h fun _ => ⟨rfl, rfl⟩).trans hfree
    refine (Dev.account_setQuoin_ne h _ fun q => ?_).trans hqueue
    exact ⟨(Quoin.start_keeps _ _).1, (Quoin.start_keeps _ _).2.1⟩
  · exact hfree

/-- Bank `b`'s quoin, free, stays free while image writes end. -/
theorem Dev.account_dropWriting {d : Dev} {b : Nat} (h : (d.quoin 3 b).owner = none) (slot : Nat) :
    (d.dropWriting slot).account 3 b = d.account 3 b := by
  have hrelease (e : Dev) (k : Nat) (hq : (e.quoin 3 b).owner = none) (hheld : (e.quoin 3 k).owner.isSome = true) :
      (e.release 3 k).account 3 b = e.account 3 b := by
    refine e.account_release_ne ?_
    rintro rfl
    rw [hq] at hheld
    exact absurd hheld (by decide)
  obtain ⟨e, he, haccount⟩ : ∃ e : Dev, (∃ f, e = if (d.quoin 3 (homeBank slot)).owner.isSome then (d.setTyp f).release 3 (homeBank slot) else d.setTyp f) ∧
      d.dropWriting slot = if (e.quoin 3 (mirrorBank slot)).owner == some (.island 1) then e.release 3 (mirrorBank slot) else e :=
    ⟨_, ⟨_, rfl⟩, rfl⟩
  obtain ⟨f, he⟩ := he
  have hhome : e.account 3 b = d.account 3 b := by
    rw [he]
    split
    · rename_i hheld
      exact hrelease (d.setTyp f) _ h hheld
    · rfl
  rw [haccount]
  split
  · rename_i hheld
    have howner : (e.quoin 3 b).owner = none := (congrArg (fun a : Quoin × Svc × Nat => a.1.owner) hhome).trans h
    rw [hrelease e _ howner (by rw [beq_iff_eq.mp hheld]; rfl), hhome]
  · exact hhome

/-- Bank `b`'s quoin, where it is free in `d`, is in `e` as it was, with the counters and the tick. -/
def Dev.SparesBank (b : Nat) (d e : Dev) : Prop := (d.quoin 3 b).owner = none → e.account 3 b = d.account 3 b

theorem Dev.SparesBank.trans {b : Nat} {d e f : Dev} (h : Dev.SparesBank b d e) (h' : Dev.SparesBank b e f) : Dev.SparesBank b d f := by
  intro howner
  have he := h howner
  exact (h' ((congrArg (fun a : Quoin × Svc × Nat => a.1.owner) he).trans howner)).trans he

theorem Dev.SparesBank.of_accounts {d e : Dev} (h : e.accounts = d.accounts) (b : Nat) : Dev.SparesBank b d e :=
  fun _ => Dev.account_of_accounts h 3 b

theorem Dev.sparesBank_typLapse (b : Nat) (d : Dev) : Dev.SparesBank b d (d.typLapse b).2 := by
  have hblank (d : Dev) (js : List TypJob) :
      (forEach js d (fun d j => d.completeOpt j.cmd stFailed (errDetail 0xFFFF 0))).accounts = d.accounts :=
    foldl_keeps Dev.accounts _ (fun d (j : TypJob) => (d.tells_completeOpt j.cmd stFailed (errDetail 0xFFFF 0)).accounts) _ d
  unfold Dev.typLapse
  refine Dev.SparesBank.trans ?_ (foldl_relates (R := Dev.SparesBank b) (fun _ _ => rfl) Dev.SparesBank.trans (fun d w => ?_) _ _)
  · refine .of_accounts ?_ b
    split <;> rfl
  · refine Dev.SparesBank.trans (.of_accounts (hblank d (d.typ.jobs.filter (fun j => j.goal == .blank w.slot false))) b) ?_
    refine Dev.SparesBank.trans (fun h => Dev.account_dropWriting h w.slot) (.of_accounts (Dev.tells_completeOpt _ _ _ _).accounts b)

/-- A rollback leaves its quoin, once that is free, the counters and the tick. -/
theorem Dev.account_rollback {d : Dev} {kind inst : Nat} (h : (d.quoin kind inst).owner = none) (o : Owner) (taken : Bool) :
    (d.rollback kind inst o taken).2.account kind inst = d.account kind inst := by
  unfold Dev.rollback
  split
  · split <;> rfl
  · exact d.sparesBank_typLapse inst h
  · exact Dev.account_of_accounts (d.accounts_discardWrite inst) _ _
  · exact Dev.account_of_accounts (d.accounts_mbWithdraw _ _) _ _
  · rfl
  · exact Dev.account_of_accounts (d.accounts_closeWindow inst) _ _
  · rfl
  · dsimp only
    split <;> rfl
  · rfl

theorem Dev.accounts_dropSlot (d : Dev) (o : Option Owner) (kind inst : Nat) : (d.dropSlot o kind inst).accounts = d.accounts := by
  unfold Dev.dropSlot
  split
  · split
    exacts [(Dev.signals_raiseLe _ _ _ _).accounts, rfl]
  · rfl

/-- A lease that lapses where none waits leaves its quoin free under its next generation, and is counted. -/
theorem Dev.lapse_leaves {d : Dev} {kind inst : Nat} (hmem : d.quoins.any (fun q => q.kind == kind && q.inst == inst) = true)
    (howner : (d.quoin kind inst).owner ≠ none) (hqueue : (d.quoin kind inst).queue = []) :
    (d.lapse kind inst).quoin kind inst = (d.quoin kind inst).freed ∧
      (d.lapse kind inst).svc.revocations = wrap32 (d.svc.revocations + 1) ∧ (d.lapse kind inst).tick = d.tick := by
  obtain ⟨o, ho⟩ := Option.ne_none_iff_exists'.mp howner
  have hdrop := (d.freeQuoin kind inst).accounts_dropSlot (d.quoin kind inst).owner kind inst
  have hrevoked : (d.revokeQuoin kind inst).quoin kind inst = (d.quoin kind inst).freed := by
    have hquoins : (d.revokeQuoin kind inst).quoins = (d.freeQuoin kind inst).quoins := (congrArg Prod.fst hdrop :)
    rw [Dev.quoin, hquoins]
    exact Dev.quoin_setQuoin (f := Quoin.freed) (fun q => ⟨rfl, rfl⟩) hmem
  obtain ⟨e, he⟩ : ∃ e, e = ((d.revokeQuoin kind inst).rollback kind inst o false).2 := ⟨_, rfl⟩
  have haccount : e.account kind inst = (d.revokeQuoin kind inst).account kind inst := by
    rw [he, Dev.account_rollback (by rw [hrevoked]; rfl)]
  have hfreed : e.quoin kind inst = (d.quoin kind inst).freed := (congrArg Prod.fst haccount).trans hrevoked
  have hlapse : d.lapse kind inst = e := by
    rw [Dev.lapse, ho]
    dsimp only
    rw [← he, Dev.grantNext, hfreed]
    simp [Quoin.freed, hqueue]
  rw [hlapse]
  refine ⟨hfreed, (congrArg (fun a => a.2.1.revocations) haccount).trans ?_, (congrArg (fun a => a.2.2) haccount).trans ?_⟩
  · exact (congrArg (fun a : List Quoin × Svc × Nat => wrap32 (a.2.1.revocations + 1)) hdrop :)
  · exact (congrArg (fun a : List Quoin × Svc × Nat => a.2.2) hdrop :)

end Sys2Proof.Machine
end

section
/-! The obligation of memory errors and leases (R49, R57, R58, R66, R71, R77). -/

namespace Sys2Proof.Ports

open Sys2Proof.Machine

/-- Settles O42: each item's rollback, then the lapse of a lease. -/
theorem memoryErrorsAndLeases : Obligations.MemoryErrorsAndLeases := by
  intro s
  dsimp only
  refine ⟨rfl, fun n => rfl, fun hrun => ?_, fun kind inst hmem hkind hcycle howner hqueue => ?_⟩
  · have hawake : s.dev.faultWakes = s.dev := by simp [Dev.faultWakes, hrun]
    have herr {x : MemItem} {e : Dev} (he : Dev.uncorrectable x s.dev = e) : exec (.uncorrectableMemoryError x) s = .next (s.withDev e) :=
      State.run_withDev he
    have hcounts {d e : Dev} {cls island action cause : Nat} (h : d.Logs e cls island action cause) :
        e.svc.uncorrectable = d.svc.uncorrectable := h.keeps (fun d => d.svc.uncorrectable) fun _ _ _ => rfl
    refine ⟨herr ?_, ?_, fun b w hb => ?_, fun p hp hdecl => ?_, fun n k hn hk hshadow => ?_, fun k hk => ?_⟩
    · rw [Dev.uncorrectable, hawake]
      rfl
    · obtain ⟨e, he, hlogs⟩ : ∃ e, Dev.uncorrectable .journalCache s.dev = e ∧ s.dev.countF2.Logs e 2 0x05 1 0 := by
        simp only [Dev.uncorrectable, hawake]
        exact ⟨_, rfl, Dev.logs_episode _ _ _ _ _ _ _⟩
      exact ⟨_, herr he, hcounts hlogs, State.logged_of_logs hlogs rfl⟩
    · obtain ⟨e, he, hlogs⟩ : ∃ e, Dev.uncorrectable (.flashWord b w) s.dev = e ∧
          (s.dev.countF2.setBank b (fun k => { k with bad := k.bad.filter (· != w) ++ [w] })).Logs e 6 0x06 1 3 := by
        simp only [Dev.uncorrectable, hawake]
        exact ⟨_, rfl, Dev.logs_episode _ _ _ _ _ _ _⟩
      have hbank : e.bank b = { s.dev.bank b with bad := (s.dev.bank b).bad.filter (· != w) ++ [w] } :=
        (hlogs.keeps (fun d => d.bank b) fun _ _ _ => rfl).trans (upd_getD_same _ _ _ _ hb)
      refine ⟨_, herr he, hcounts hlogs, ?_, State.logged_of_logs hlogs rfl⟩
      exact (congrArg (fun k : TypBank => w ∈ k.bad) hbank).mpr (List.mem_append_right _ (List.mem_singleton_self w))
    · obtain ⟨e, he, hlogs⟩ : ∃ e, Dev.uncorrectable (.plateCommitted p) s.dev = e ∧ (s.dev.countF2.restorePlate p).Logs e 2 0x07 2 0 := by
        simp only [Dev.uncorrectable, hawake]
        exact ⟨_, if_pos hdecl, Dev.logs_episode _ _ _ _ _ _ _⟩
      have hplate : e.plate p = { s.dev.plate p with com := (s.dev.plate p).prev, prev := (s.dev.plate p).com } :=
        (hlogs.keeps (fun d => d.plate p) fun _ _ _ => rfl).trans (upd_getD_same _ _ _ _ hp)
      exact ⟨_, herr he, hcounts hlogs, congrArg Plate.com hplate, State.logged_of_logs hlogs rfl⟩
    · obtain ⟨e, he, hlogs⟩ : ∃ e, Dev.uncorrectable (.object n k) s.dev = e ∧
          (s.dev.countF2.setObj n k (fun o => { o with content := zeros 76, new := false, lost := true })).Logs e 2 (mbIsland n) 2 0 := by
        have hobject : s.dev.countF2.objectF2 n k =
            s.dev.countF2.setObj n k (fun o => { o with content := zeros 76, new := false, lost := true }) :=
          if_neg (by rw [show (s.dev.countF2.mbObj n k).shadow = none from hshadow]; decide)
        simp only [Dev.uncorrectable, hawake, hobject]
        exact ⟨_, rfl, Dev.logs_episode _ _ _ _ _ _ _⟩
      have hobj : e.mbObj n k = { s.dev.mbObj n k with content := zeros 76, new := false, lost := true } :=
        (hlogs.keeps (fun d => d.mbObj n k) fun _ _ _ => rfl).trans (Dev.mbObj_setObj hn hk _)
      exact ⟨_, herr he, hcounts hlogs, congrArg MbObj.content hobj, congrArg MbObj.lost hobj⟩
    · obtain ⟨e, isl, he, hlogs⟩ : ∃ e isl, Dev.uncorrectable (.standby k) s.dev = e ∧
          ({ s.dev.countF2 with doms := upd s.dev.doms k (fun x => { x with standby := x.committed }) } : Dev).Logs e 2 isl 2 0 := by
        simp only [Dev.uncorrectable, hawake]
        exact ⟨_, _, rfl, Dev.logs_episode _ _ _ _ _ _ _⟩
      have hdom : e.doms.getD k {} = { s.dev.doms.getD k {} with standby := (s.dev.doms.getD k {}).committed } :=
        (hlogs.keeps (fun d => d.doms.getD k {}) fun _ _ _ => rfl).trans (upd_getD_same _ _ _ _ hk)
      exact ⟨_, herr he, hcounts hlogs, congrArg Domain.standby hdom⟩
  · obtain ⟨q, hq, hqk, hqi⟩ := hmem
    have hany : s.dev.quoins.any (fun q => q.kind == kind && q.inst == inst) = true :=
      List.any_eq_true.mpr ⟨q, hq, by simp [hqk, hqi]⟩
    have hlapse := Dev.lapse_leaves (d := s.dev.advanceTo (s.dev.quoin kind inst).expiry) hany howner hqueue
    have hrow : s.dev.leaseExpiry kind inst = (s.dev.advanceTo (s.dev.quoin kind inst).expiry).lapse kind inst := by
      have hheld : (s.dev.quoin kind inst).owner.isNone = false := Option.isNone_eq_false_iff.mpr (Option.isSome_iff_ne_none.mpr howner)
      simp [Dev.leaseExpiry, hkind, hheld, hcycle]
    obtain ⟨hfreed, hrevoked, htick⟩ := hlapse
    refine ⟨_, State.run_withDev (f := fun d => d.leaseExpiry kind inst) hrow, ?_⟩
    exact ⟨congrArg Quoin.owner hfreed, congrArg Quoin.gen hfreed, hrevoked, htick⟩

end Sys2Proof.Ports
end

section
/-! SUPPORT. What the work of the units leaves of the part's own state (03, 04): four relations between a part and the part after an
operation, each of which composes. `Runs`: the start, the time, the power state, the configuration and the channels stay, and what the host
is to be told stays told. `Stands`: beside that, the functions stay. `Holds`: beside that, the islands and the crossings. `Keeps`: beside
that, who runs on which engine. -/

namespace Sys2Proof.Machine

/-- What no fence, start, drain or rollback moves: with the start, the time and the channels, which functions, islands and engines there are. -/
def Dev.core (d : Dev) : (StartSt × Nat × Pwr × Cmp × List Chan × Nat × RunCfg) × List Nat × List Nat × Nat × Nat :=
  ((d.start, d.tick, d.pwr, { d.cmp with events := [] }, d.verind.chans, d.svc.cmpRestarts, d.cfg), d.funcs.map Func.fid,
    d.islands.map Island.id, d.eng.pes.length, d.eng.les.length)

/-- The islands and the crossings. -/
def Dev.posts (d : Dev) : List Island × List Crossing := (d.islands.map Island.quiet, d.crossings)

/-- Who runs on a physical engine, and how it does. -/
def Pe.seat (e : Pe) : Nat × Option Nat × Bool × Nat := (e.status, e.le, e.running, e.faults)

/-- Where a logical engine runs. -/
def Le.seat (l : Le) : Option Nat × Option Nat := (l.pe, l.spare)

def Dev.roster (d : Dev) : List (Nat × Option Nat × Bool × Nat) × List (Option Nat × Option Nat) := (d.eng.pes.map Pe.seat, d.eng.les.map Le.seat)

structure Dev.Runs (d e : Dev) : Prop where
  core : e.core = d.core
  tells : d.Remembers e

structure Dev.Stands (d e : Dev) : Prop extends Dev.Runs d e where
  funcs : e.funcs = d.funcs

structure Dev.Holds (d e : Dev) : Prop extends Dev.Stands d e where
  posts : e.posts = d.posts

structure Dev.Keeps (d e : Dev) : Prop extends Dev.Holds d e where
  roster : e.roster = d.roster

theorem Dev.Runs.refl (d : Dev) : d.Runs d := ⟨rfl, .refl d⟩
theorem Dev.Stands.refl (d : Dev) : d.Stands d := ⟨.refl d, rfl⟩
theorem Dev.Holds.refl (d : Dev) : d.Holds d := ⟨.refl d, rfl⟩
theorem Dev.Keeps.refl (d : Dev) : d.Keeps d := ⟨.refl d, rfl⟩

theorem Dev.Runs.trans {d e f : Dev} (h : d.Runs e) (h' : e.Runs f) : d.Runs f := ⟨h'.core.trans h.core, h.tells.trans h'.tells⟩
theorem Dev.Stands.trans {d e f : Dev} (h : d.Stands e) (h' : e.Stands f) : d.Stands f := ⟨h.toRuns.trans h'.toRuns, h'.funcs.trans h.funcs⟩
theorem Dev.Holds.trans {d e f : Dev} (h : d.Holds e) (h' : e.Holds f) : d.Holds f := ⟨h.toStands.trans h'.toStands, h'.posts.trans h.posts⟩
theorem Dev.Keeps.trans {d e f : Dev} (h : d.Keeps e) (h' : e.Keeps f) : d.Keeps f := ⟨h.toHolds.trans h'.toHolds, h'.roster.trans h.roster⟩

/-! The later step first. -/

theorem Dev.Runs.after {d e f : Dev} (h : e.Runs f) (h' : d.Runs e) : d.Runs f := h'.trans h
theorem Dev.Stands.after {d e f : Dev} (h : e.Stands f) (h' : d.Stands e) : d.Stands f := h'.trans h
theorem Dev.Holds.after {d e f : Dev} (h : e.Holds f) (h' : d.Holds e) : d.Holds f := h'.trans h
theorem Dev.Keeps.after {d e f : Dev} (h : e.Keeps f) (h' : d.Keeps e) : d.Keeps f := h'.trans h

/-- All of these parts, and the events, as one value. -/
def Dev.body (d : Dev) := (d.core, d.funcs, d.posts, d.roster, d.verind.events, d.cmp.events)

theorem Dev.Remembers.of_events {d e : Dev} (h : e.verind.events = d.verind.events) (h' : e.cmp.events = d.cmp.events) : d.Remembers e :=
  ⟨h ▸ List.prefix_rfl, h' ▸ List.prefix_rfl⟩

/-- An operation on any other part. -/
theorem Dev.Keeps.of_body {d e : Dev} (h : e.body = d.body) : d.Keeps e := by
  simp only [Dev.body, Prod.mk.injEq] at h
  obtain ⟨hcore, hfuncs, hposts, hroster, hevents, hwaiting⟩ := h
  exact ⟨⟨⟨⟨hcore, .of_events hevents hwaiting⟩, hfuncs⟩, hposts⟩, hroster⟩

/-- After an operation on any other part. -/
theorem Dev.Keeps.afterBody {d e f : Dev} (h : e.Keeps f) (h' : e.body = d.body) : d.Keeps f := h.after (.of_body h')

theorem Dev.Signals.keeps {d e : Dev} (h : d.Signals e) : d.Keeps e := by
  obtain ⟨n, ts, is, es, rfl, his, hes⟩ := h
  have hids : is.map Island.id = d.islands.map Island.id := by
    have hid := congrArg (List.map Island.id) his
    simp only [List.map_map] at hid
    exact hid
  have hlength : es.length = d.eng.pes.length := by simpa using congrArg List.length hes
  have hseat : es.map Pe.seat = d.eng.pes.map Pe.seat := by
    have hseat := congrArg (List.map Pe.seat) hes
    simp only [List.map_map] at hseat
    exact hseat
  refine ⟨⟨⟨⟨?_, .refl _⟩, rfl⟩, congrArg (fun x => (x, d.crossings)) his⟩, congrArg (fun x => (x, d.eng.les.map Le.seat)) hseat⟩
  simp only [Dev.core, Dev.signalled, hids, hlength]

theorem Dev.Tells.keeps {d e : Dev} (h : d.Tells e) : d.Keeps e := by
  have htells := h.remembers
  obtain ⟨n, rfl, -⟩ := h
  exact ⟨⟨⟨⟨rfl, htells⟩, rfl⟩, rfl⟩, rfl⟩

theorem Dev.keeps_setEng {d : Dev} {f : Eng → Eng} (h : ((f d.eng).pes.map Pe.seat, (f d.eng).les.map Le.seat) = d.roster) :
    d.Keeps (d.setEng f) := by
  have hlength (p : _ × _) (hp : p = d.roster) : p.1.length = d.eng.pes.length ∧ p.2.length = d.eng.les.length := by
    rw [hp]
    simp [Dev.roster]
  obtain ⟨hpes, hles⟩ := hlength _ h
  simp only [List.length_map] at hpes hles
  refine ⟨⟨⟨⟨?_, .refl _⟩, rfl⟩, rfl⟩, h⟩
  simp only [Dev.core, Dev.setEng, hpes, hles]

theorem Dev.keeps_setPe {d : Dev} (p : Nat) {f : Pe → Pe} (hf : ∀ e, (f e).seat = e.seat) : d.Keeps (d.setPe p f) :=
  Dev.keeps_setEng (f := fun e => { e with pes := upd e.pes p f })
    (congrArg (fun x => (x, d.eng.les.map Le.seat)) (map_upd Pe.seat f hf d.eng.pes p))

theorem Dev.keeps_setLe {d : Dev} (l : Nat) {f : Le → Le} (hf : ∀ e, (f e).seat = e.seat) : d.Keeps (d.setLe l f) :=
  Dev.keeps_setEng (f := fun e => { e with les := upd e.les l f })
    (congrArg (fun x => (d.eng.pes.map Pe.seat, x)) (map_upd Le.seat f hf d.eng.les l))

/-- A loop of steps that keep. -/
theorem Dev.keeps_foldl {α : Type} {f : Dev → α → Dev} (h : ∀ (d : Dev) x, d.Keeps (f d x)) (xs : List α) (d : Dev) : d.Keeps (xs.foldl f d) :=
  foldl_relates Dev.Keeps.refl Dev.Keeps.trans h xs d

theorem Dev.keeps_forN {f : Dev → Nat → Dev} (h : ∀ (d : Dev) i, d.Keeps (f d i)) (n : Nat) (d : Dev) : d.Keeps (forN n d f) := Dev.keeps_foldl h _ d

theorem Dev.keeps_forEach {α : Type} {f : Dev → α → Dev} (h : ∀ (d : Dev) x, d.Keeps (f d x)) (xs : List α) (d : Dev) : d.Keeps (forEach xs d f) :=
  Dev.keeps_foldl h xs d

/-- A loop that counts beside its steps. -/
theorem Dev.keeps_foldl_snd {α β : Type} {f : β × Dev → α → β × Dev} (h : ∀ (x : β × Dev) a, x.2.Keeps (f x a).2) (xs : List α) (x : β × Dev) :
    x.2.Keeps (xs.foldl f x).2 :=
  foldl_relates (R := fun x y : β × Dev => x.2.Keeps y.2) (fun x => .refl x.2) (fun h h' => h.trans h') h xs x

theorem Dev.Keeps.ite {c : Prop} [Decidable c] {d e f : Dev} (h : d.Keeps e) (h' : d.Keeps f) : d.Keeps (if c then e else f) := by
  split
  exacts [h, h']

section Setters

variable (d : Dev) (n k : Nat)

theorem Dev.keeps_setQuoin (f : Quoin → Quoin) : d.Keeps (d.setQuoin n k f) := .of_body rfl
theorem Dev.keeps_grant (o : Owner) (lease slot : Nat) : d.Keeps (d.grant n k o lease slot) := .of_body rfl
theorem Dev.keeps_renew : d.Keeps (d.renew n k) := .of_body rfl
theorem Dev.keeps_freeQuoin : d.Keeps (d.freeQuoin n k) := .of_body rfl
theorem Dev.keeps_setSlot (f : QSlot → QSlot) : d.Keeps (d.setSlot n k f) := Dev.keeps_setLe n fun _ => rfl
theorem Dev.keeps_setPorts (f : EPorts → EPorts) : d.Keeps (d.setPorts n f) := Dev.keeps_setPe n fun _ => rfl
theorem Dev.keeps_setMb (f : Mb → Mb) : d.Keeps (d.setMb n f) := .of_body rfl
theorem Dev.keeps_setObj (f : MbObj → MbObj) : d.Keeps (d.setObj n k f) := .of_body rfl
theorem Dev.keeps_setTt (f : Tt → Tt) : d.Keeps (d.setTt n f) := .of_body rfl
theorem Dev.keeps_setSl (f : Sl → Sl) : d.Keeps (d.setSl n f) := .of_body rfl
theorem Dev.keeps_setFr (f : Fr → Fr) : d.Keeps (d.setFr n f) := .of_body rfl
theorem Dev.keeps_setOrr (f : Orr → Orr) : d.Keeps (d.setOrr f) := .of_body rfl
theorem Dev.keeps_setMac (f : Mac → Mac) : d.Keeps (d.setMac n f) := .of_body rfl
theorem Dev.keeps_setSwc (f : Swc → Swc) : d.Keeps (d.setSwc f) := .of_body rfl
theorem Dev.keeps_setHst (f : Hst → Hst) : d.Keeps (d.setHst f) := .of_body rfl
theorem Dev.keeps_setRing (f : Ring → Ring) : d.Keeps (d.setRing n f) := .of_body rfl
theorem Dev.keeps_setTyp (f : Typ → Typ) : d.Keeps (d.setTyp f) := .of_body rfl
theorem Dev.keeps_setBank (f : TypBank → TypBank) : d.Keeps (d.setBank n f) := .of_body rfl
theorem Dev.keeps_setWriting (f : Writing → Writing) : d.Keeps (d.setWriting n f) := .of_body rfl
theorem Dev.keeps_frontJobs (js : List TypJob) : d.Keeps (d.frontJobs js) := .of_body rfl
theorem Dev.keeps_pushJob (j : TypJob) : d.Keeps (d.pushJob j) := .of_body rfl
theorem Dev.keeps_setAlm (f : Alm → Alm) : d.Keeps (d.setAlm f) := .of_body rfl
theorem Dev.keeps_setCopy (f : SmCopy → SmCopy) : d.Keeps (d.setCopy n f) := .of_body rfl
theorem Dev.keeps_setPlate (f : Plate → Plate) : d.Keeps (d.setPlate n f) := .of_body rfl
theorem Dev.keeps_setPim (b : List Byte) : d.Keeps (d.setPim n b) := .of_body rfl
theorem Dev.keeps_setDoms (x : List Domain) : d.Keeps { d with doms := x } := .of_body rfl
theorem Dev.keeps_setFree : d.Keeps { d with free := n } := .of_body rfl
theorem Dev.keeps_discard : d.Keeps (d.discard n) := .of_body rfl

end Setters

/-! ## Events, records and quoins -/

theorem Dev.keeps_emit (d : Dev) (op fid : Nat) (b : List Byte) : d.Keeps (d.emit op fid b) := (d.tells_emit op fid b).keeps
theorem Dev.keeps_complete (d : Dev) (w : Waiting) (st : Nat) (b : List Byte) : d.Keeps (d.complete w st b) := (d.tells_complete w st b).keeps
theorem Dev.keeps_completeOpt (d : Dev) (w : Option Waiting) (st : Nat) (b : List Byte) : d.Keeps (d.completeOpt w st b) :=
  (d.tells_completeOpt w st b).keeps
theorem Dev.keeps_completeFailed (d : Dev) (w : Waiting) (det : Nat) : d.Keeps (d.completeFailed w det) := (d.tells_completeFailed w det).keeps
theorem Dev.keeps_completeDone (d : Dev) (w : Waiting) : d.Keeps (d.completeDone w) := (d.tells_completeDone w).keeps
theorem Dev.keeps_serviceEvent (d : Dev) (action what : Nat) : d.Keeps (d.serviceEvent action what) := (d.tells_serviceEvent action what).keeps
theorem Dev.keeps_timeEvent (d : Dev) (kind : Nat) : d.Keeps (d.timeEvent kind) := d.keeps_emit ..
theorem Dev.keeps_raise (d : Dev) (src p b : Nat) : d.Keeps (d.raise src p b) := (d.signals_raise src p b).keeps
theorem Dev.keeps_raiseLe (d : Dev) (src l b : Nat) : d.Keeps (d.raiseLe src l b) := (d.signals_raiseLe src l b).keeps

theorem Dev.keeps_completeAll (d : Dev) (ws : List Waiting) (f : Waiting → Nat × List Byte) : d.Keeps (d.completeAll ws f) :=
  Dev.keeps_forEach (fun d w => d.keeps_complete w _ _) _ d

theorem Dev.keeps_logFault (d : Dev) (cls island action cause fid detail : Nat) : d.Keeps (d.logFault cls island action cause fid detail) := by
  obtain ⟨late, h⟩ := d.tells_logFault cls island action cause fid detail
  exact h.keeps.afterBody rfl

/-- An effect within an episode keeps what the effect keeps. -/
theorem Dev.keeps_episode (d : Dev) {f : Dev → Dev} (h : ∀ d : Dev, d.Keeps (f d)) : d.Keeps (d.episode f) := by
  have hf := (h { d with svc := { d.svc with episode := none } }).afterBody (d := d) rfl
  exact hf.trans (.of_body rfl)

theorem Dev.keeps_episodeOf (d : Dev) (ep : Option (Nat × Nat)) {f : Dev → Dev} (h : ∀ d : Dev, d.Keeps (f d)) : d.Keeps (d.episodeOf ep f) := by
  have hf := (h { d with svc := { d.svc with episode := ep } }).afterBody (d := d) rfl
  exact hf.trans (.of_body rfl)

theorem Dev.keeps_inEpisode (d : Dev) {f : Dev → Dev} (h : ∀ d : Dev, d.Keeps (f d)) : d.Keeps (d.inEpisode f) := by
  unfold Dev.inEpisode
  split
  exacts [h d, d.keeps_episode h]

theorem Dev.keeps_tellGrant (d : Dev) (o : Owner) (kind inst slot : Nat) : d.Keeps (d.tellGrant o kind inst slot) := by
  unfold Dev.tellGrant
  split
  exacts [(Dev.keeps_raiseLe _ _ _ _).after (Dev.keeps_setSlot _ _ _ _), .refl d]

theorem Dev.keeps_grantNext (d : Dev) (kind inst : Nat) : d.Keeps (d.grantNext kind inst) := by
  unfold Dev.grantNext
  dsimp only
  split
  · exact ((Dev.keeps_tellGrant _ _ _ _ _).after (Dev.keeps_grant _ _ _ _ _ _)).after (Dev.keeps_setQuoin _ _ _ _)
  · exact .refl d

theorem Dev.keeps_release (d : Dev) (kind inst : Nat) : d.Keeps (d.release kind inst) :=
  (d.keeps_freeQuoin kind inst).trans (Dev.keeps_grantNext _ kind inst)

theorem Dev.keeps_dropSlot (d : Dev) (o : Option Owner) (kind inst : Nat) : d.Keeps (d.dropSlot o kind inst) := by
  unfold Dev.dropSlot
  split
  · split
    exacts [(Dev.keeps_raiseLe _ _ _ _).after (Dev.keeps_setSlot _ _ _ _), .refl d]
  · exact .refl d

theorem Dev.keeps_countRevocation (d : Dev) : d.Keeps { d with svc := { d.svc with revocations := wrap32 (d.svc.revocations + 1) } } := .of_body rfl

theorem Dev.keeps_revokeQuoin (d : Dev) (kind inst : Nat) : d.Keeps (d.revokeQuoin kind inst) :=
  (Dev.keeps_countRevocation ((d.freeQuoin kind inst).dropSlot (d.quoin kind inst).owner kind inst)).after
    ((Dev.keeps_dropSlot _ _ _ _).after (d.keeps_freeQuoin kind inst))

theorem Dev.keeps_withdrawQueued (d : Dev) (o : Owner) : d.Keeps (d.withdrawQueued o) := by
  have hquoins (qs : List Quoin) : d.Keeps { d with quoins := qs } := .of_body rfl
  unfold Dev.withdrawQueued
  dsimp only
  split
  · exact Dev.Keeps.after (Dev.keeps_setLe _ fun _ => rfl) (hquoins _)
  · exact hquoins _

/-! ## Controllers, windows and rings -/

theorem Dev.keeps_mbEvent (d : Dev) (n b : Nat) : d.Keeps (d.mbEvent n b) := (d.keeps_setMb n _).trans (d.signals_mbEvent n b).keeps

theorem Dev.keeps_unshadow (d : Dev) (n k : Nat) (b : Bool) : d.Keeps (d.unshadow n k b) := by
  unfold Dev.unshadow
  split
  exacts [.refl d, (Dev.keeps_mbEvent _ _ _).after (Dev.keeps_setObj _ _ _ _)]

theorem Dev.keeps_unlock (d : Dev) (n k : Nat) (b : Bool) : d.Keeps (d.unlock n k b) := by
  unfold Dev.unlock
  split
  · exact .refl d
  · split
    · exact ((Dev.keeps_unshadow _ _ _ _).after (Dev.keeps_mbEvent _ _ _)).after (Dev.keeps_setObj _ _ _ _)
    · exact (Dev.keeps_unshadow _ _ _ _).after (Dev.keeps_setObj _ _ _ _)

theorem Dev.keeps_unlockReader (d : Dev) (rd : Nat) : d.Keeps (d.unlockReader rd) := by
  refine Dev.keeps_forN (fun d n => Dev.keeps_forN (fun d k => ?_) 128 d) 4 d
  split
  · split
    exacts [Dev.keeps_unlock _ _ _ _, .refl d]
  · exact .refl d

theorem Dev.keeps_closeWindow (d : Dev) (w : Nat) : d.Keeps (d.closeWindow w).2 := by
  simp only [Dev.closeWindow, apply_ite Prod.snd]
  split
  exacts [.refl d, (Dev.keeps_unlockReader _ _).after (Dev.keeps_setHst _ _)]

theorem Dev.keeps_mbWithdraw (d : Dev) (n k : Nat) : d.Keeps (d.mbWithdraw n k).2 := by
  unfold Dev.mbWithdraw
  split
  · exact .refl d
  · split
    · exact Dev.keeps_setObj _ _ _ _
    · exact ((Dev.keeps_mbEvent _ _ _).after (Dev.keeps_setObj _ _ _ _)).after (Dev.keeps_setObj _ _ _ _)

theorem Dev.keeps_mbWithdrawAll (d : Dev) (n : Nat) : d.Keeps (d.mbWithdrawAll n).2 := by
  unfold Dev.mbWithdrawAll forN
  generalize List.range 128 = ks
  exact Dev.keeps_foldl_snd (f := fun r k => (r.1 || (r.2.mbWithdraw n k).1, (r.2.mbWithdraw n k).2)) (fun x k => x.2.keeps_mbWithdraw n k) ks
    (false, d)

theorem Dev.keeps_mbReset (d : Dev) (n : Nat) : d.Keeps (d.mbReset n).2 := by
  unfold Dev.mbReset
  refine Dev.Keeps.after (Dev.keeps_setMb _ _ _) ((Dev.keeps_forN (fun d k => d.keeps_unlock n k true) 128 _).after ?_)
  refine (Dev.keeps_forN (fun d k => d.keeps_setObj n k _) 128 _).after ?_
  refine Dev.Keeps.after ?_ (d.keeps_mbWithdrawAll n)
  split
  exacts [Dev.keeps_discard _ 1, .refl _]

theorem Dev.keeps_advanceRing (d : Dev) (r : Nat) : d.Keeps (d.advanceRing r) := (Dev.keeps_setRing _ _ _).after (Dev.keeps_setHst _ _)

theorem Dev.keeps_ringSkip (d : Dev) (r id : Nat) : d.Keeps (d.ringSkip r id) := by
  unfold Dev.ringSkip
  split
  · exact .refl d
  · exact ((Dev.keeps_advanceRing _ _).after (Dev.keeps_setRing _ _ _)).after (Dev.keeps_setHst _ _)

/-! ## Plates -/

theorem Dev.keeps_discardWrite (d : Dev) (p : Nat) : d.Keeps (d.discardWrite p).2 := by
  unfold Dev.discardWrite
  dsimp only
  split
  · exact .refl d
  · refine Dev.Keeps.after (Dev.keeps_setPlate _ _ _) ((Dev.keeps_setPim _ _ _).after (Dev.keeps_setEng ?_))
    simp only [List.map_map]
    rfl

/-! ## The Typecase -/

theorem Dev.keeps_dropWriting (d : Dev) (slot : Nat) : d.Keeps (d.dropWriting slot) := by
  have hrelease (d : Dev) (c : Bool) (kind inst : Nat) : d.Keeps (if c then d.release kind inst else d) := by
    cases c
    exacts [.refl d, d.keeps_release kind inst]
  exact (hrelease _ _ _ _).after ((hrelease _ _ _ _).after (Dev.keeps_setTyp _ _))

theorem Dev.keeps_failWriting (d : Dev) (slot st det : Nat) : d.Keeps (d.failWriting slot st det) :=
  (d.keeps_dropWriting slot).trans (Dev.keeps_completeOpt _ _ _ _)

theorem Dev.keeps_failJobs (d : Dev) (js : List TypJob) : d.Keeps (forEach js d (fun d j => d.completeOpt j.cmd stFailed (errDetail 0xFFFF 0))) :=
  Dev.keeps_forEach (fun d _ => d.keeps_completeOpt _ _ _) js d

theorem Dev.keeps_typLapse (d : Dev) (b : Nat) : d.Keeps (d.typLapse b).2 := by
  unfold Dev.typLapse
  refine Dev.Keeps.after (Dev.keeps_forEach (fun d w => (Dev.keeps_failWriting _ _ _ _).after (Dev.keeps_failJobs _ _)) _ _) ?_
  split
  exacts [.refl d, Dev.keeps_setBank _ _ _]

theorem Dev.keeps_unknownRun (d : Dev) (b a n : Nat) : d.Keeps (d.unknownRun b a n) := (Dev.keeps_setBank _ _ _).after (d.keeps_setFree _)

theorem Dev.keeps_typCutOff (d : Dev) : d.Keeps d.typCutOff := by
  refine Dev.keeps_forN (fun d b => ?_) 2 d
  split
  · refine Dev.Keeps.after (Dev.keeps_setBank _ _ _) ?_
    split <;> exact Dev.keeps_unknownRun _ _ _ _
  · exact .refl d

theorem Dev.keeps_typReset (d : Dev) : d.Keeps d.typReset := by
  unfold Dev.typReset
  exact (Dev.keeps_setTyp _ _).after ((Dev.keeps_forEach (fun d w => d.keeps_failWriting _ _ _) _ _).after ((Dev.keeps_failJobs _ _).after d.keeps_typCutOff))

theorem Dev.keeps_countRetirement (d : Dev) : d.Keeps { d with svc := { d.svc with retirements := wrap32 (d.svc.retirements + 1) } } := .of_body rfl

theorem Dev.keeps_retireSector (d : Dev) (b s : Nat) : d.Keeps (d.retireSector b s) := by
  unfold Dev.retireSector
  dsimp only
  split
  · exact ((Dev.keeps_serviceEvent _ _ _).after (Dev.keeps_countRetirement _)).after (Dev.keeps_setBank _ _ _)
  · exact (Dev.keeps_inEpisode _ fun d => d.keeps_logFault ..).after (Dev.keeps_setBank _ _ _)

theorem Dev.keeps_startStep (k : Nat) (d : Dev) : d.Keeps (d.startStep k) := by
  induction k generalizing d with
  | zero => exact .refl d
  | succ k ih =>
    unfold Dev.startStep
    split
    · exact .refl d
    · split
      · dsimp only
        split
        · exact ((ih _).after (Dev.keeps_setTyp _ _)).after (Dev.keeps_inEpisode _ fun d => d.keeps_retireSector _ _)
        · exact Dev.keeps_setBank _ _ _
      · exact Dev.keeps_setBank _ _ _
      · exact .refl d

end Sys2Proof.Machine
end

section
/-! SUPPORT. What rollbacks, discards and the work of the units keep (Table 3.5, 08, 12, 17). -/

namespace Sys2Proof.Machine

/-! ## The Typecase's jobs -/

theorem Dev.keeps_retireDone (d : Dev) (b : Nat) (cmd : Option Waiting) : d.Keeps (d.retireDone b cmd) := d.keeps_completeOpt ..



theorem Dev.keeps_finishJob (d : Dev) (j : TypJob) : d.Keeps (d.finishJob j) := by
  unfold Dev.finishJob
  split
  · exact (Dev.keeps_completeOpt _ _ _ _).after (Dev.keeps_setWriting _ _ _)
  · exact d.keeps_frontJobs _
  · extract_lets e
    have he : d.Keeps e := (Dev.keeps_renew _ _ _).after (Dev.keeps_setWriting _ _ _)
    refine he.trans ?_
    split
    · split
      exacts [Dev.keeps_pushJob _ _, .refl _]
    · exact .refl _
  · split
    · exact .refl d
    · dsimp only
      split
      · exact d.keeps_failWriting _ _ _
      · split
        · exact d.keeps_frontJobs _
        · split
          · exact d.keeps_failWriting _ _ _
          · exact (Dev.keeps_frontJobs _ _).after (Dev.keeps_setWriting _ _ _)
  · split
    · exact .refl d
    · split
      exacts [d.keeps_frontJobs _, d.keeps_failWriting _ _ _]
  · extract_lets e f g
    have hf : d.Keeps f := (Dev.keeps_frontJobs _ _).after (Dev.keeps_setTyp _ _)
    have hg : f.Keeps g := by
      dsimp only [g]
      split
      exacts [f.keeps_dropWriting _, .refl f]
    refine hf.trans ?_
    split
    · split
      exacts [(Dev.keeps_completeOpt _ _ _ _).after (Dev.keeps_dropWriting _ _), Dev.keeps_completeOpt _ _ _ _]
    · split
      · exact (Dev.keeps_completeOpt _ _ _ _).after hg
      · exact .refl f
    · exact .of_body rfl
    · exact .refl _
  · exact d.keeps_setTyp _
  · exact .refl d
  · exact .refl d
  · exact .refl d
  · exact .refl d
  · dsimp only
    split
    · exact (Dev.keeps_retireDone _ _ _).after (Dev.keeps_retireSector _ _ _)
    · exact d.keeps_completeOpt _ _ _
    · exact d.keeps_retireDone _ _

theorem Dev.keeps_typAdvance (n : Nat) (d : Dev) : d.Keeps (d.typAdvance n) := by
  induction n generalizing d with
  | zero => exact .refl d
  | succ n ih =>
    unfold Dev.typAdvance
    split
    · split
      · split
        · exact ((ih _).after (Dev.keeps_finishJob _ _)).after (Dev.keeps_setTyp _ _)
        · split
          exacts [.refl d, d.keeps_startStep 16]
      · split
        · exact .refl d
        · dsimp only
          refine (ih _).after ?_
          split
          · exact (Dev.Keeps.ite (Dev.keeps_grant _ _ _ _ _ _) (Dev.keeps_renew _ _ _)).after (d.keeps_setTyp _)
          · exact d.keeps_setTyp _
    · exact .refl d

theorem Dev.keeps_typRun (d : Dev) : d.Keeps d.typRun := d.keeps_typAdvance 64

theorem Dev.keeps_typResume (d : Dev) (b : Nat) : d.Keeps (d.typResume b) := d.keeps_setBank _ _

theorem Dev.keeps_typRelease (d : Dev) (b l : Nat) : d.Keeps (d.typRelease b l) := by
  unfold Dev.typRelease
  dsimp only
  split
  · exact .refl d
  · split
    exacts [(Dev.keeps_typResume _ _).after (Dev.keeps_setBank _ _ _), Dev.keeps_setBank _ _ _]

/-! ## The switch and the MACs -/

theorem Dev.keeps_collect (d : Dev) : d.Keeps d.collect := by
  unfold Dev.collect
  refine Dev.Keeps.after (Dev.keeps_forN (fun d p => ?_) 14 _) (d.keeps_setSwc _)
  dsimp only
  split
  exacts [.refl d, (Dev.keeps_raise _ _ _ _).after (Dev.keeps_setPorts _ _ _)]

theorem Dev.keeps_dropMirror (d : Dev) (g : Nat) (e : GEnt) : d.Keeps (d.dropMirror g e) := by
  unfold Dev.dropMirror
  dsimp only
  split
  · exact ((Dev.keeps_collect _).after (Dev.keeps_setSwc _ _)).after (Dev.keeps_setSwc _ _)
  · exact (Dev.keeps_collect _).after (Dev.keeps_setSwc _ _)

theorem Dev.keeps_dropPortMirrors (d : Dev) (p : Nat) : d.Keeps (d.dropPortMirrors p) :=
  Dev.keeps_forN (fun d _ => Dev.keeps_forEach (fun d e => d.keeps_dropMirror _ e) _ d) 8 d

theorem Dev.keeps_expressBad (d : Dev) (id : Nat) : d.Keeps (d.expressBad id).2 := by
  unfold Dev.expressBad
  exact (Dev.keeps_forN (fun d m => d.keeps_setMac m _) 6 _).after (d.keeps_setSwc _)

theorem Dev.keeps_cutFrames (d : Dev) (m : Nat) : d.Keeps (d.cutFrames m).2 := by
  unfold Dev.cutFrames
  extract_lets p tx rx n e f g h
  have he : d.Keeps e := by
    dsimp only [e, rx]
    split
    exacts [.ite (d.keeps_expressBad _) (.refl d), .refl d]
  have hf : e.Keeps f := by
    dsimp only [f, tx]
    clear_value e
    split
    exacts [.ite (e.keeps_setSwc _) (.refl e), .refl e]
  clear_value f e
  dsimp only
  exact (Dev.keeps_collect h).after ((Dev.keeps_discard _ n).after ((Dev.keeps_setMac g _ _).after ((f.keeps_setSwc _).after (hf.after he))))

theorem Dev.keeps_portDown (d : Dev) (m : Nat) : d.Keeps (d.portDown m).2 := by
  have hcut : d.Keeps ((d.accountHold m).cutFrames m).2 := (Dev.keeps_cutFrames _ m).after (d.keeps_setMac m _)
  unfold Dev.portDown
  generalize (d.accountHold m).cutFrames m = r at hcut
  obtain ⟨cut, f⟩ := r
  dsimp only at hcut ⊢
  exact (Dev.keeps_dropPortMirrors _ _).after ((Dev.keeps_setMac _ m _).after hcut)

theorem Dev.keeps_swcReset (d : Dev) : d.Keeps d.swcReset.2 := by
  unfold Dev.swcReset
  dsimp only
  exact (Dev.keeps_collect _).after ((Dev.keeps_discard _ _).after (d.keeps_setSwc _))

theorem Dev.keeps_pauseEval (d : Dev) (m : Nat) : d.Keeps (d.pauseEval m) := by
  unfold Dev.pauseEval
  dsimp only
  split
  · exact .refl d
  · split
    · split
      exacts [d.keeps_setMac _ _, .refl d]
    · split
      exacts [d.keeps_setMac _ _, .refl d]

theorem Dev.keeps_pauseAll (d : Dev) : d.Keeps d.pauseAll := Dev.keeps_forN Dev.keeps_pauseEval 6 d

theorem Dev.keeps_countFull (d : Dev) (p c : Nat) : d.Keeps (d.countFull p c) := .of_body rfl
theorem Dev.keeps_countMac (d : Dev) (m c n : Nat) : d.Keeps (d.countMac m c n) := .of_body rfl

theorem Dev.keeps_frClears (d : Dev) (r : Nat) : d.Keeps (d.frClears r) := by
  unfold Dev.frClears
  refine (Dev.keeps_pauseAll _).after ((Dev.keeps_collect _).after (Dev.keeps_forEach (fun d pc => ?_) _ d))
  exact (Dev.keeps_setSwc _ _).after (Dev.keeps_forN (fun d _ => d.keeps_countFull _ _) _ d)

theorem Dev.keeps_lastPause (d : Dev) (m : Nat) : d.Keeps (d.lastPause m) := by
  unfold Dev.lastPause
  split
  exacts [(Dev.keeps_countMac _ _ _ _).after (Dev.keeps_setMac _ _ _), .refl d]

/-! ## The time service -/

theorem Dev.keeps_setQuality (d : Dev) (q : Nat) : d.Keeps (d.setQuality q) := by
  unfold Dev.setQuality
  split
  exacts [.refl d, (Dev.keeps_timeEvent _ _).after (Dev.keeps_setOrr _ _)]

theorem Dev.keeps_toHoldover (d : Dev) : d.Keeps d.toHoldover := by
  unfold Dev.toHoldover
  split
  exacts [d.keeps_setQuality _, .refl d]

theorem Dev.keeps_timeStops (d : Dev) : d.Keeps d.timeStops := by
  unfold Dev.timeStops
  dsimp only
  split
  · exact (Dev.keeps_toHoldover _).after ((Dev.keeps_setOrr _ _).after (d.keeps_setOrr _))
  · exact (Dev.keeps_setOrr _ _).after (d.keeps_setOrr _)

theorem Dev.keeps_orrReset (d : Dev) : d.Keeps d.orrReset :=
  (Dev.keeps_completeOpt _ _ _ _).after ((Dev.keeps_setOrr _ _).after ((Dev.keeps_setOrr _ _).after (d.keeps_setOrr _)))

/-! ## Rollback -/

theorem Dev.keeps_slAbort (d : Dev) (n : Nat) : d.Keeps (d.slAbort n).2 := d.keeps_setSl n _
theorem Dev.keeps_slReset (d : Dev) (n : Nat) : d.Keeps (d.slReset n) := (Dev.keeps_setSl _ _ _).after (d.keeps_discard _)

theorem Dev.keeps_rollback (d : Dev) (kind inst : Nat) (o : Owner) (taken : Bool) : d.Keeps (d.rollback kind inst o taken).2 := by
  unfold Dev.rollback
  split
  · split
    · dsimp only
      exact (Dev.keeps_setPorts _ _ _).after (d.keeps_setAlm _)
    · exact .refl d
  · exact d.keeps_typLapse inst
  · exact d.keeps_discardWrite inst
  · exact d.keeps_mbWithdraw _ _
  · exact d.keeps_slAbort inst
  · exact d.keeps_closeWindow inst
  · exact d.keeps_setDoms _
  · dsimp only
    split
    exacts [d.keeps_setFr _ _, .refl d]
  · exact .refl d

theorem Dev.keeps_stripOwner (d : Dev) (o : Owner) (cls isl cause fid : Nat) (log taken : Bool) :
    d.Keeps (d.stripOwner o cls isl cause fid log taken) := by
  have hrecord (d : Dev) (act det : Nat) : d.Keeps (if log then d.logFault cls isl act cause fid det else d) := by
    split
    exacts [d.keeps_logFault .., .refl d]
  unfold Dev.stripOwner
  refine (Dev.keeps_forEach (fun d q => d.keeps_grantNext _ _) _ _).after ?_
  refine (Dev.keeps_forEach (fun d q => (hrecord _ _ _).after ((Dev.keeps_dropSlot _ _ _ _).after (Dev.keeps_ringSkip _ _ _))) _ _).after ?_
  refine (Dev.keeps_forEach (fun d q => ?_) _ _).after ?_
  · dsimp only
    split
    exacts [(hrecord _ _ _).after (Dev.keeps_rollback _ _ _ _ _), Dev.keeps_rollback _ _ _ _ _]
  refine (Dev.keeps_forEach (fun d q => (hrecord _ _ _).after (Dev.keeps_countRevocation _)) _ _).after ?_
  exact (Dev.keeps_forEach (fun d q => (hrecord _ _ _).after (Dev.keeps_revokeQuoin _ _ _)) _ _).after (d.keeps_withdrawQueued o)

end Sys2Proof.Machine
end

section
/-! SUPPORT. What an island loses, and what moves islands, crossings and engines without moving a function (R69, R107). -/

namespace Sys2Proof.Machine

theorem Dev.holds_setEng {d : Dev} {f : Eng → Eng} (hpes : (f d.eng).pes.length = d.eng.pes.length) (hles : (f d.eng).les.length = d.eng.les.length) :
    d.Holds (d.setEng f) := by
  refine ⟨⟨⟨?_, .refl _⟩, rfl⟩, rfl⟩
  simp only [Dev.core, Dev.setEng, hpes, hles]

theorem Dev.holds_setPe (d : Dev) (p : Nat) (f : Pe → Pe) : d.Holds (d.setPe p f) :=
  Dev.holds_setEng (f := fun e => { e with pes := upd e.pes p f }) (upd_length _ _ _) rfl
theorem Dev.holds_setLe (d : Dev) (l : Nat) (f : Le → Le) : d.Holds (d.setLe l f) :=
  Dev.holds_setEng (f := fun e => { e with les := upd e.les l f }) rfl (upd_length _ _ _)

/-- A loop of steps that hold. -/
theorem Dev.holds_forEach {α : Type} {f : Dev → α → Dev} (h : ∀ (d : Dev) x, d.Holds (f d x)) (xs : List α) (d : Dev) : d.Holds (forEach xs d f) :=
  foldl_relates Dev.Holds.refl Dev.Holds.trans h xs d

theorem Dev.holds_forN {f : Dev → Nat → Dev} (h : ∀ (d : Dev) i, d.Holds (f d i)) (n : Nat) (d : Dev) : d.Holds (forN n d f) :=
  Dev.holds_forEach h _ d

/-- A loop that notes whether something was cut beside its steps. -/
theorem Dev.holds_foldl_snd {α β : Type} {f : β × Dev → α → β × Dev} (h : ∀ (x : β × Dev) a, x.2.Holds (f x a).2) (xs : List α) (x : β × Dev) :
    x.2.Holds (xs.foldl f x).2 :=
  foldl_relates (R := fun x y : β × Dev => x.2.Holds y.2) (fun x => .refl x.2) (fun h h' => h.trans h') h xs x

theorem Dev.holds_discardLog (d : Dev) (l : Nat) : d.Holds (d.discardLog l) := by
  unfold Dev.discardLog
  dsimp only
  refine (Dev.holds_setLe _ _ _).after ?_
  split
  exacts [d.holds_setPe _ _, .refl d]

/-- What plates lose when PIM is fenced. -/
theorem Dev.keeps_discardWrites (d : Dev) :
    d.Keeps (forN 64 (false, d) (fun x p => (x.1 || (x.2.discardWrite p).1, (x.2.discardWrite p).2)) : Bool × Dev).2 := by
  unfold forN
  generalize List.range 64 = ps
  exact Dev.keeps_foldl_snd (f := fun x p => (x.1 || (x.2.discardWrite p).1, (x.2.discardWrite p).2)) (fun x p => x.2.keeps_discardWrite p) ps
    (false, d)

theorem Dev.keeps_frReset (d : Dev) (r : Nat) : d.Keeps (d.frReset r) := d.keeps_setFr r _

theorem Dev.holds_islandLoses (d : Dev) (i : Nat) : d.Holds (d.islandLoses i).2 := by
  unfold Dev.islandLoses
  split
  · split
    exacts [(d.keeps_portDown _).toHolds, (d.keeps_cutFrames _).toHolds]
  split
  · exact (d.keeps_mbReset _).toHolds
  split
  · exact (d.keeps_slReset _).toHolds
  split
  · exact ((Dev.keeps_frReset _ _).after (d.keeps_discard _)).toHolds
  split
  · exact d.keeps_orrReset.toHolds
  · dsimp only
    exact ((Dev.keeps_setHst _ _).after ((Dev.keeps_discard _ _).after (Dev.keeps_forN (fun d w => d.keeps_closeWindow w) 16 d))).toHolds
  · exact d.keeps_typReset.toHolds
  · dsimp only
    refine Dev.Holds.trans (Dev.holds_forN Dev.holds_discardLog 12 d) ?_
    exact (Dev.keeps_discardWrites _).toHolds
  · dsimp only
    exact ((Dev.keeps_swcReset _).after ((Dev.keeps_setSwc _ _).after (d.keeps_discard _))).toHolds
  · exact .refl d

/-! ## Islands and crossings -/

/-- An operation on islands, crossings and engines. -/
theorem Dev.Stands.of_core {d e : Dev} (hcore : e.core = d.core) (hevents : e.verind.events = d.verind.events)
    (hwaiting : e.cmp.events = d.cmp.events) (hfuncs : e.funcs = d.funcs) : d.Stands e := ⟨⟨hcore, .of_events hevents hwaiting⟩, hfuncs⟩

theorem Dev.stands_islands {d : Dev} {is : List Island} {cs : List Crossing} {ts : List Toggle} (h : is.map Island.id = d.islands.map Island.id) :
    d.Stands { d with islands := is, crossings := cs, toggles := ts } := by
  refine .of_core ?_ rfl rfl rfl
  simp only [Dev.core, h]

theorem Dev.stands_setIsland (d : Dev) (i : Nat) {f : Island → Island} (h : ∀ x, (f x).id = x.id) : d.Stands (d.setIsland i f) :=
  Dev.stands_islands (Packets.updFirst_map Island.id _ _ _ h)

theorem Dev.stands_setIslands (d : Dev) (is : List Nat) {f : Island → Island} (h : ∀ x, (f x).id = x.id) : d.Stands (d.setIslands is f) := by
  refine Dev.stands_islands ?_
  simp only [updIf, List.map_map]
  refine List.map_congr_left fun x _ => ?_
  simp only [Function.comp_apply, apply_ite Island.id, h, ite_self]

theorem Dev.stands_closeCrossings (d : Dev) (i : Nat) : d.Stands (d.closeCrossings i) := Dev.stands_islands rfl
theorem Dev.stands_openCrossings (d : Dev) (i : Nat) : d.Stands (d.openCrossings i) := Dev.stands_islands rfl
theorem Dev.stands_resetHalves (d : Dev) (i : Nat) : d.Stands (d.resetHalves i) := Dev.stands_islands rfl

theorem Dev.Stands.ite {c : Prop} [Decidable c] {d e f : Dev} (h : d.Stands e) (h' : d.Stands f) : d.Stands (if c then e else f) := by
  split
  exacts [h, h']

/-- A loop of steps that leave the functions. -/
theorem Dev.stands_forEach {α : Type} {f : Dev → α → Dev} (h : ∀ (d : Dev) x, d.Stands (f d x)) (xs : List α) (d : Dev) : d.Stands (forEach xs d f) :=
  foldl_relates Dev.Stands.refl Dev.Stands.trans h xs d

theorem Dev.stands_foldl_snd {α β : Type} {f : β × Dev → α → β × Dev} (h : ∀ (x : β × Dev) a, x.2.Stands (f x a).2) (xs : List α) (x : β × Dev) :
    x.2.Stands (xs.foldl f x).2 :=
  foldl_relates (R := fun x y : β × Dev => x.2.Stands y.2) (fun x => .refl x.2) (fun h h' => h.trans h') h xs x

theorem Dev.stands_powerOn (d : Dev) (i : Nat) : d.Stands (d.powerOn i) :=
  .ite ((Dev.stands_setIsland _ i (by intro _; rfl)).after (d.stands_resetHalves i)) (.refl d)

theorem Dev.stands_powerOff (d : Dev) (i : Nat) : d.Stands (d.powerOff i) :=
  (Dev.stands_setIsland _ i (by intro _; rfl)).after ((Dev.stands_resetHalves _ i).after (d.stands_closeCrossings i))

/-! ## Engines -/

theorem Dev.holds_dirForget (d : Dev) (p : Nat) : d.Holds (d.dirForget p) := (Dev.holds_setPe _ p _).after (Dev.holds_setEng rfl rfl)

theorem Dev.keeps_bankReleases (d : Dev) (p : Nat) :
    d.Keeps (forN 2 d (fun d b => match (d.pe p).le with | some l => if (d.le l).pe == some p then d.typRelease b l else d | none => d)) := by
  refine Dev.keeps_forN (fun d b => ?_) 2 d
  split
  · exact .ite (d.keeps_typRelease b _) (.refl d)
  · exact .refl d

theorem Dev.stands_fencePe (d : Dev) (p : Nat) : d.Stands (d.fencePe p) :=
  (Dev.stands_powerOff _ _).after (((Dev.holds_setPe _ _ _).after (Dev.holds_dirForget _ _)).after (d.keeps_bankReleases p).toHolds).toStands

theorem Dev.stands_freePe (d : Dev) (p : Nat) : d.Stands (d.freePe p) :=
  (Dev.stands_powerOff _ _).after ((Dev.holds_setPe _ _ _).after (d.holds_dirForget p)).toStands

theorem Dev.stands_leUnbind (d : Dev) (l : Nat) : d.Stands (d.leUnbind l) := by
  unfold Dev.leUnbind
  extract_lets e f
  have he : d.Stands e := by
    dsimp only [e]
    split
    · exact .ite (.refl d) (d.stands_freePe _)
    · exact .refl d
  have hf : e.Stands f := by
    dsimp only [f]
    clear_value e
    split
    · exact (Dev.stands_powerOff _ _).after (Dev.holds_setPe _ _ _).toStands
    · exact .refl e
  exact (f.holds_setLe l _).toStands.after (hf.after he)

theorem Dev.stands_leBegin (d : Dev) (l : Nat) : d.Stands (d.leBegin l).2 := by
  unfold Dev.leBegin
  dsimp only
  split
  · exact .refl d
  split
  · exact .refl d
  split
  · exact .refl d
  split
  · exact .refl d
  · exact ((Dev.holds_setLe _ _ _).after (Dev.holds_setPe _ _ _)).toStands.after (d.stands_powerOn _)

theorem Dev.stands_loadPe (d : Dev) (l p : Nat) : d.Stands (d.loadPe l p) := (Dev.holds_setPe _ _ _).toStands.after (d.stands_powerOn _)

theorem Dev.keeps_failMigrate (d : Dev) (l : Nat) : d.Keeps (d.failMigrate l) := by
  unfold Dev.failMigrate
  split
  exacts [(Dev.keeps_setLe _ (by intro _; rfl)).after (d.keeps_completeFailed _ _), .refl d]

theorem Dev.keeps_failArm (d : Dev) (l : Nat) : d.Keeps (d.failArm l) := by
  unfold Dev.failArm
  split
  exacts [(Dev.keeps_setLe _ (by intro _; rfl)).after (d.keeps_completeFailed _ _), .refl d]

/-! ## The classes -/

theorem Dev.stands_classEnds (d : Dev) (fid : Nat) : d.Stands (d.classEnds fid) := by
  unfold Dev.classEnds
  dsimp only
  split
  · exact .ite (d.keeps_portDown _).toStands (d.keeps_cutFrames _).toStands
  · exact d.stands_leUnbind _
  · exact (d.keeps_setFr _ _).toStands
  · exact d.keeps_timeStops.toStands
  · exact .refl d

theorem Dev.stands_classBegins (d : Dev) (fid : Nat) : d.Stands (d.classBegins fid).2.2 := by
  unfold Dev.classBegins
  extract_lets i e
  have he : d.Stands e :=
    .ite (Dev.stands_forEach (fun d x => (Dev.stands_openCrossings _ x).after (d.stands_powerOn x)) _ d) (.refl d)
  refine he.trans ?_
  clear_value e
  split
  · exact .refl e
  split
  · exact .refl e
  split
  · exact (e.keeps_setMb _ _).toStands
  · have hbegin := e.stands_leBegin i
    generalize e.leBegin i = r at hbegin
    obtain ⟨n, f⟩ := r
    refine hbegin.trans ?_
    dsimp only
    split
    exacts [f.stands_openCrossings _, .refl f]
  · split <;> exact .refl e
  · exact (e.keeps_setRing _ _).toStands
  · exact .refl e

theorem Dev.keeps_classOn (d : Dev) (fid : Nat) : d.Keeps (d.classOn fid) := by
  unfold Dev.classOn
  dsimp only
  split
  · exact (Dev.keeps_setTt _ _ _).after (d.keeps_setMb _ _)
  · exact d.keeps_setSl _ _
  · exact (Dev.keeps_setFr _ _ _).after (.ite (d.keeps_grant _ _ _ _ _) (.refl d))
  · exact .refl d

theorem Dev.stands_drainBegins (d : Dev) (fid : Nat) : d.Stands (d.drainBegins fid) := by
  unfold Dev.drainBegins
  dsimp only
  split
  · exact (d.keeps_mbWithdrawAll _).toStands
  · exact (d.keeps_setSl _ _).toStands
  · exact (Dev.holds_setPe _ _ _).toStands.after ((Dev.keeps_failArm _ _).after (d.keeps_failMigrate _)).toStands
  · exact (d.keeps_setFr _ _).toStands
  · exact .refl d

/-! ## The fence of a function -/

theorem Dev.stands_fenceBody (d : Dev) (fid cls isl cause detail : Nat) (log taken : Bool) :
    d.Stands (d.fenceBody fid cls isl cause detail log taken) := by
  have hrecord (d : Dev) (c : Bool) (act det : Nat) : d.Stands (if c then d.logFault cls isl act cause fid det else d) :=
    .ite (d.keeps_logFault ..).toStands (.refl d)
  unfold Dev.fenceBody
  extract_lets owners is e f g h
  have he : d.Stands e := Dev.stands_forEach (fun d i => (Dev.stands_setIsland _ i (by intro x; split <;> rfl)).after (d.stands_closeCrossings i)) is d
  have hf : e.Stands f := by
    dsimp only [f]
    clear_value e
    split
    · refine (Dev.keeps_unlockReader _ _).toStands.after ?_
      split
      exacts [(Dev.stands_fencePe _ _).after (e.stands_closeCrossings _), .refl e]
    · exact .refl e
  have hg : f.Stands g := hrecord f log 3 detail
  have hh : g.Stands h := (Dev.keeps_forEach (fun d o => d.keeps_stripOwner o cls isl cause fid log taken) owners g).toStands
  have hlost : h.Stands (forEach is (false, h) (fun x i => (x.1 || (x.2.islandLoses i).1, (x.2.islandLoses i).2)) : Bool × Dev).2 :=
    Dev.stands_foldl_snd (f := fun x i => (x.1 || (x.2.islandLoses i).1, (x.2.islandLoses i).2))
      (fun x i => (x.2.holds_islandLoses i).toStands) is (false, h)
  exact (hrecord _ _ 2 0).after (hlost.after (hh.after (hg.after (hf.after he))))

end Sys2Proof.Machine
end

section
/-! SUPPORT. The functions and their passages (R103 to R109): what a transition leaves of the other parts, and what the host is told of a
passage that ends. -/

namespace Sys2Proof.Machine

/-! ## The table of functions -/

/-- The table lists function `fid`. -/
def Dev.lists (d : Dev) (fid : Nat) : Prop := ∃ f ∈ d.funcs, f.fid = fid

theorem Dev.Runs.lists {d e : Dev} (h : d.Runs e) {fid : Nat} (hfid : d.lists fid) : e.lists fid := by
  have hids : e.funcs.map Func.fid = d.funcs.map Func.fid := congrArg (fun x => x.2.1) h.core
  have hmem : fid ∈ d.funcs.map Func.fid := List.mem_map.mpr hfid
  exact List.mem_map.mp (hids ▸ hmem)

theorem Dev.Stands.func {d e : Dev} (h : d.Stands e) (fid : Nat) : e.func fid = d.func fid := by rw [Dev.func, Dev.func, h.funcs]

theorem Dev.func_setFunc {d : Dev} {fid : Nat} (hfid : d.lists fid) {f : Func → Func} (hf : ∀ x, (f x).fid = x.fid) :
    (d.setFunc fid f).func fid = f (d.func fid) := by
  have hfind := updFirst_find d.funcs (fun x => x.fid == fid) f (by simp [hf])
  obtain ⟨x, hx⟩ : ∃ x, d.funcs.find? (fun x => x.fid == fid) = some x := by
    obtain ⟨x, hmem, hx⟩ := hfid
    exact Option.isSome_iff_exists.mp (List.find?_isSome.mpr ⟨x, hmem, by simp [hx]⟩)
  simp only [Dev.func, Dev.setFunc, hfind, hx, Option.map_some, Option.getD_some]

/-! ## What changes functions, and tells of it -/

/-- `e` is `d` but for its functions' states and what it told the host in between. -/
def Dev.Reports (d e : Dev) : Prop := ∃ fs : List Func, ({ d with funcs := fs } : Dev).Tells e ∧ fs.map Func.fid = d.funcs.map Func.fid

theorem Dev.Tells.reports {d e : Dev} (h : d.Tells e) : d.Reports e := ⟨d.funcs, h, rfl⟩
theorem Dev.Reports.refl (d : Dev) : d.Reports d := (Dev.Tells.refl d).reports

theorem Dev.Reports.trans {d e f : Dev} (h : d.Reports e) (h' : e.Reports f) : d.Reports f := by
  obtain ⟨fs, ⟨n, rfl, hevents, hwaiting, hports⟩, hids⟩ := h
  obtain ⟨fs', ⟨n', rfl, hevents', hwaiting', hports'⟩, hids'⟩ := h'
  exact ⟨fs', ⟨n', rfl, hevents.trans hevents', hwaiting.trans hwaiting', hports'.trans hports⟩, hids'.trans hids⟩

theorem Dev.Reports.after {d e f : Dev} (h : e.Reports f) (h' : d.Reports e) : d.Reports f := h'.trans h

theorem Dev.Reports.runs {d e : Dev} (h : d.Reports e) : d.Runs e := by
  obtain ⟨fs, htells, hids⟩ := h
  have hruns : d.Runs { d with funcs := fs } := by
    refine ⟨?_, .refl _⟩
    simp only [Dev.core, hids]
  exact hruns.trans htells.keeps.toRuns

/-- The islands, the crossings and the engines. -/
def Dev.engines (d : Dev) : List Island × List Crossing × Eng × Svc × Alm := (d.islands, d.crossings, d.eng, d.svc, d.alm)

theorem Dev.Reports.engines {d e : Dev} (h : d.Reports e) : e.engines = d.engines := by
  obtain ⟨fs, ⟨n, rfl, -⟩, -⟩ := h
  rfl

theorem Dev.reports_setFunc (d : Dev) (fid : Nat) {f : Func → Func} (hf : ∀ x, (f x).fid = x.fid) : d.Reports (d.setFunc fid f) :=
  ⟨_, .refl _, Packets.updFirst_map Func.fid _ _ _ hf⟩

theorem Dev.reports_transition (d : Dev) (fid st cause : Nat) : d.Reports (d.transition fid st cause) := by
  unfold Dev.transition
  extract_lets f gen e
  have he : d.Reports e := d.reports_setFunc fid (by intro _; rfl)
  split
  · exact he
  · exact (Dev.tells_emit _ _ _ _).reports.after ((e.reports_setFunc fid (by intro _; rfl)).after he)

theorem Dev.reports_completeAll (d : Dev) (ws : List Waiting) (f : Waiting → Nat × List Byte) : d.Reports (d.completeAll ws f) :=
  foldl_relates Dev.Reports.refl Dev.Reports.trans (fun d w => (d.tells_complete w _ _).reports) _ d

/-- The function after its transition. -/
theorem Dev.func_transition {d : Dev} {fid : Nat} (hfid : d.lists fid) (st cause : Nat) :
    ∃ gen reported, (d.transition fid st cause).func fid = { d.func fid with st := st, cause := cause, gen := gen, reported := reported } := by
  unfold Dev.transition
  extract_lets f gen e
  have hset : e.func fid = { d.func fid with st := st, cause := cause, gen := gen } := Dev.func_setFunc hfid (by intro _; rfl)
  have hlists : e.lists fid := (d.reports_setFunc fid (by intro _; rfl)).runs.lists hfid
  split
  · exact ⟨_, _, hset⟩
  · rw [(Dev.keeps_emit _ _ _ _).toStands.func, Dev.func_setFunc hlists (by intro _; rfl), hset]
    exact ⟨_, _, rfl⟩

theorem Dev.stands_completeAll (d : Dev) (ws : List Waiting) (f : Waiting → Nat × List Byte) : d.Stands (d.completeAll ws f) :=
  (d.keeps_completeAll ws f).toStands

theorem Dev.completeAll_one (d : Dev) (w : Waiting) (f : Waiting → Nat × List Byte) :
    d.completeAll [w] f = d.complete w (f w).1 (f w).2 := by
  simp [Dev.completeAll, orderCompletions, insertArr, fillCh, takeCh, forEach]

/-! ## What the host is told -/

/-- An event that has joined the queue, and what was told after it. -/
theorem mem_drop_of_prefix {xs ys zs : List Ev} {k : Nat × Nat × Nat × List Byte} (hxs : xs.map Ev.key <+: ys.map Ev.key)
    (hys : ys.map Ev.key ++ [k] <+: zs.map Ev.key) : ∃ e ∈ zs.drop xs.length, Ev.key e = k := by
  obtain ⟨us, hus⟩ := hxs
  obtain ⟨vs, hvs⟩ := hys
  have hdrop : (zs.drop xs.length).map Ev.key = us ++ k :: vs := by
    rw [List.map_drop, ← hvs, ← hus, List.append_assoc, List.append_assoc, List.drop_append_of_le_length (by simp)]
    simp
  exact List.mem_map.mp (by rw [hdrop]; simp)

theorem Dev.pushEvent_key (d : Dev) (op fid : Nat) (b : List Byte) (rsv : Bool) :
    (d.pushEvent op fid b rsv).verind.events.map Ev.key = d.verind.events.map Ev.key ++ [(d.verind.evSeq, op, fid, b)] := by
  have hqueues := (Packets.present_keeps ((d.setVerind (fun v => { v with
    events := v.events ++ [{ seq := v.evSeq, op := op, fid := fid, body := b, rsv := rsv }], evSeq := (v.evSeq + 1) % 65536 })))
    { seq := d.verind.evSeq, op := op, fid := fid, body := b, rsv := rsv }).2
  exact hqueues.trans (List.map_append ..)

/-- A completion that was sent is told, whatever is told after it. -/
theorem State.completed_of_complete {s t : State} {d : Dev} {w : Waiting} {st : Nat} {b : List Byte} (hbefore : s.dev.Remembers d)
    (hrestart : d.cmp.restarting = s.dev.cmp.restarting) (hw : w.recov = false) (hafter : (d.complete w st b).Remembers t.dev) :
    s.completed t w st := by
  refine ⟨fun hr => ?_, fun hr => ?_⟩
  · have hsend : d.complete w st b = d.sendCompletion w st b := by rw [Dev.complete, hrestart, hr]; rfl
    have hkey : (d.sendCompletion w st b).verind.events.map Ev.key = d.verind.events.map Ev.key ++
        [(d.verind.evSeq, 0xF001, w.fid, leb 2 w.op ++ leb 2 w.seq ++ leb 1 w.ch ++ [0#8] ++ leb 2 st ++ b)] := by
      simp only [Dev.sendCompletion, hw, Bool.and_false, Bool.false_eq_true, if_false]
      exact Dev.pushEvent_key ..
    obtain ⟨e, he, hk⟩ := mem_drop_of_prefix hbefore.1 (hkey ▸ hsend ▸ hafter.1)
    simp only [Ev.key, Prod.mk.injEq] at hk
    obtain ⟨-, hop, hfid, hbody⟩ := hk
    refine ⟨e, he, hop, hfid, ?_⟩
    have hlength : (leb 2 w.op ++ leb 2 w.seq ++ leb 1 w.ch ++ [0#8] ++ leb 2 st).length = 8 := by simp [leb_length]
    rw [hbody, List.take_left' hlength]
  · refine ⟨b, hafter.2.subset ?_⟩
    rw [Dev.complete, hrestart, hr]
    exact List.mem_append_right _ (List.mem_singleton_self _)

end Sys2Proof.Machine
end

section
/-! SUPPORT. The ends of the passages (R105 to R109): what reaching ON and OFF, and the fence of a fault, leave of a function. -/

namespace Sys2Proof.Machine

theorem Dev.Runs.restarting {d e : Dev} (h : d.Runs e) : e.cmp.restarting = d.cmp.restarting :=
  congrArg (fun x => x.1.2.2.2.1.restarting) h.core

theorem Dev.Runs.tick {d e : Dev} (h : d.Runs e) : e.tick = d.tick := congrArg (fun x => x.1.2.1) h.core
theorem Dev.Runs.pwr {d e : Dev} (h : d.Runs e) : e.pwr = d.pwr := congrArg (fun x => x.1.2.2.1) h.core
theorem Dev.Runs.start {d e : Dev} (h : d.Runs e) : e.start = d.start := congrArg (fun x => x.1.1) h.core

/-! ## A function reaches ON or OFF -/

/-- A completion as one step of what the host is told: the part just before, and how it went on. -/
def Dev.Completes (d : Dev) (w : Waiting) (e : Dev) : Prop := ∃ c : Dev, d.Runs c ∧ e = c.complete w stDone []

theorem Dev.reachOn_leaves {d : Dev} {fid : Nat} (hfid : d.lists fid) (hq : (d.func fid).queued = none) :
    ((d.reachOn fid).func fid).st = 2 ∧ (d.classOn fid).Reports (d.reachOn fid) ∧
      ∀ w, (d.func fid).starter = some w → (d.func fid).joined = [] → (d.func fid).retried = false → d.Completes w (d.reachOn fid) := by
  unfold Dev.reachOn
  extract_lets f d1 ws d2 d3 d4
  have h1 : d.Keeps d1 := d.keeps_classOn fid
  have h2 : d1.Reports d2 := d1.reports_setFunc fid (by intro _; rfl)
  have h3 : d2.Reports d3 := d2.reports_transition fid 2 f.cause
  have h4 : d3.Reports d4 := d3.reports_completeAll ws _
  have hlists : d2.lists fid := h2.runs.lists (h1.toRuns.lists hfid)
  simp only [show f.queued = none from hq]
  refine ⟨?_, h2.trans (h3.trans h4), fun w hw hjoined hretried => ?_⟩
  · obtain ⟨gen, reported, hf⟩ := Dev.func_transition hlists 2 f.cause
    rw [show d4.func fid = d3.func fid from (d3.stands_completeAll ws _).func fid, show d3.func fid = _ from hf]
  · refine ⟨d3, h1.toRuns.trans (h2.runs.trans h3.runs), ?_⟩
    have hws : ws = [w] := by simp only [ws, f, hw, hjoined]; rfl
    have hst : f.retried = false := hretried
    simp only [d4, hws, Dev.completeAll_one, hst, Bool.false_eq_true, if_false]

theorem Dev.keeps_releaseAll (d : Dev) (fid : Nat) : d.Keeps (d.releaseAll fid) := by
  refine .ite (Dev.keeps_forEach (fun d o => ?_) _ d) (.refl d)
  exact (Dev.keeps_forEach (fun d q => (Dev.keeps_grantNext _ _ _).after ((Dev.keeps_rollback _ _ _ _ _).after (d.keeps_freeQuoin _ _))) _ _).after
    (d.keeps_withdrawQueued o)

theorem Dev.reachOff_leaves {d : Dev} {fid : Nat} (hfid : d.lists fid) (hq : (d.func fid).queued = none) (cause : Nat) :
    ((d.reachOff fid cause).func fid).st = 0 ∧ ((d.reachOff fid cause).func fid).cause = cause ∧ d.Runs (d.reachOff fid cause) ∧
      ∀ w, (d.func fid).starter = some w → (d.func fid).joined = [] → d.Completes w (d.reachOff fid cause) := by
  unfold Dev.reachOff
  extract_lets f d1 is d2 d3 d4 d5
  have h1 : d.Stands d1 := (Dev.stands_classEnds _ fid).after (d.keeps_releaseAll fid).toStands
  have h2 : d1.Stands d2 := Dev.stands_forEach (fun d i => .ite (.refl d) (d.stands_powerOff i)) is d1
  have h3 : d2.Reports d3 := d2.reports_setFunc fid (by intro _; rfl)
  have h4 : d3.Reports d4 := d3.reports_transition fid 0 cause
  have h5 : d4.Reports d5 := d4.reports_completeAll _ _
  have h3' : d.Runs d3 := (h1.trans h2).toRuns.trans h3.runs
  obtain ⟨gen, reported, hf⟩ := Dev.func_transition (h3'.lists hfid) 0 cause
  have hfunc : d5.func fid = { d3.func fid with st := 0, cause := cause, gen := gen, reported := reported } :=
    ((d4.stands_completeAll _ _).func fid).trans hf
  simp only [show f.queued = none from hq]
  refine ⟨by rw [hfunc], by rw [hfunc], h3'.trans (h4.runs.trans h5.runs), fun w hw hjoined => ⟨d4, h3'.trans h4.runs, ?_⟩⟩
  have hws : f.starter.toList ++ f.joined = [w] := by simp only [f, hw, hjoined]; rfl
  simp only [d5, hws, Dev.completeAll_one]

/-! ## The fence of a fault -/

theorem Dev.keeps_sendLate (d : Dev) : d.Keeps d.sendLate :=
  (Dev.keeps_forEach (fun d _ => d.keeps_emit _ _ _) _ _).afterBody rfl

/-- Steps that hold fault events back: what comes before them and after them keeps. -/
theorem Dev.holdingFaults_steps (d : Dev) (f g : Dev → Dev) : ∃ e, d.Keeps e ∧ (g (f e)).Keeps (d.holdingFaults f g) := by
  refine ⟨{ d with svc := { d.svc with holding := true } }, .of_body rfl, ?_⟩
  unfold Dev.holdingFaults
  generalize g (f { d with svc := { d.svc with holding := true } }) = e
  exact .ite ((Dev.keeps_sendLate _).afterBody rfl) (.of_body rfl)

theorem Dev.episode_steps (d : Dev) (f : Dev → Dev) : ∃ e, d.Keeps e ∧ (f e).Keeps (d.episode f) :=
  ⟨{ d with svc := { d.svc with episode := none } }, .of_body rfl, .of_body rfl⟩

theorem Dev.inEpisode_steps (d : Dev) (f : Dev → Dev) : ∃ e, d.Keeps e ∧ (f e).Keeps (d.inEpisode f) := by
  unfold Dev.inEpisode
  split
  exacts [⟨d, .refl d, .refl _⟩, d.episode_steps f]

/-- The fence of a function by a fault, before the function moves (R69). -/
def Dev.fenceSteps (fid isl cls cause detail code : Nat) (d : Dev) : Dev :=
  let d := d.fenceBody fid cls isl cause detail true false
  let ep := d.svc.episode
  (d.setFunc fid (fun f => { f with fault := cls, isl := isl, why := cause, detail := code, ep := ep })).classEnds fid

/-- The function then moves to FENCED, and is to restart. -/
def Dev.fenceMoves (fid : Nat) (retried : Bool) (d : Dev) : Dev :=
  (d.transition fid 4 1).setFunc fid (fun g => { g with recovering := true, retried := retried })

theorem Dev.fenceSteps_leaves {d : Dev} {fid : Nat} (hfid : d.lists fid) (isl cls cause detail code : Nat) :
    d.Runs (d.fenceSteps fid isl cls cause detail code) ∧
      ∃ ep, (d.fenceSteps fid isl cls cause detail code).func fid =
        { d.func fid with fault := cls, isl := isl, why := cause, detail := code, ep := ep } := by
  unfold Dev.fenceSteps
  extract_lets e ep
  have he : d.Stands e := d.stands_fenceBody _ _ _ _ _ _ _
  have hset : e.Reports (e.setFunc fid (fun f => { f with fault := cls, isl := isl, why := cause, detail := code, ep := ep })) :=
    e.reports_setFunc fid (by intro _; rfl)
  have hend := Dev.stands_classEnds (e.setFunc fid (fun f => { f with fault := cls, isl := isl, why := cause, detail := code, ep := ep })) fid
  refine ⟨he.toRuns.trans (hset.runs.trans hend.toRuns), ep, ?_⟩
  rw [hend.func, Dev.func_setFunc (he.toRuns.lists hfid) (by intro _; rfl), he.func]

theorem Dev.reports_fenceMoves (d : Dev) (fid : Nat) (retried : Bool) : d.Reports (d.fenceMoves fid retried) :=
  (Dev.reports_setFunc _ fid (by intro _; rfl)).after (d.reports_transition fid 4 1)

theorem Dev.func_fenceMoves {d : Dev} {fid : Nat} (hfid : d.lists fid) (retried : Bool) : ∃ gen reported,
    (d.fenceMoves fid retried).func fid = { d.func fid with st := 4, cause := 1, gen := gen, reported := reported, recovering := true,
                                                            retried := retried } := by
  obtain ⟨gen, reported, hf⟩ := Dev.func_transition hfid 4 1
  refine ⟨gen, reported, ?_⟩
  rw [Dev.fenceMoves, Dev.func_setFunc ((d.reports_transition fid 4 1).runs.lists hfid) (by intro _; rfl), hf]

theorem Dev.faultFence_again {d : Dev} {fid : Nat} (hst : (d.func fid).st = 1 ∨ (d.func fid).st = 2) (hrec : (d.func fid).recovering = false)
    (isl cls cause detail code : Nat) : d.faultFence fid isl cls cause detail code false =
      (true, d.holdingFaults (Dev.fenceSteps fid isl cls cause detail code) (Dev.fenceMoves fid ((d.func fid).st == 1))) := by
  unfold Dev.faultFence
  rcases hst with h | h <;> simp [h, hrec] <;> rfl

/-- A function in STARTING or ON that a fault fences goes to FENCED, and is to restart. -/
theorem Dev.faultFence_leaves {d : Dev} {fid : Nat} (hfid : d.lists fid) (hst : (d.func fid).st = 1 ∨ (d.func fid).st = 2)
    (hrec : (d.func fid).recovering = false) (isl cls cause detail code : Nat) :
    ∃ c e, d.faultFence fid isl cls cause detail code false = (true, e) ∧ d.Keeps c ∧ d.Runs e ∧
      e.roster = (c.fenceSteps fid isl cls cause detail code).roster ∧
      (e.func fid).st = 4 ∧ (e.func fid).cause = 1 ∧ (e.func fid).recovering = true ∧ (e.func fid).queued = (d.func fid).queued := by
  rw [Dev.faultFence_again hst hrec isl cls cause detail code]
  generalize ((d.func fid).st == 1) = retried
  obtain ⟨c, hheld, hkeeps⟩ := d.holdingFaults_steps (Dev.fenceSteps fid isl cls cause detail code) (Dev.fenceMoves fid retried)
  obtain ⟨hsteps, ep, hfunc⟩ := Dev.fenceSteps_leaves (hheld.toRuns.lists hfid) isl cls cause detail code
  rw [hheld.toStands.func] at hfunc
  have hruns : d.Runs _ := hheld.toRuns.trans hsteps
  refine ⟨c, _, rfl, hheld, ?_⟩
  generalize d.holdingFaults _ _ = t at hkeeps ⊢
  generalize c.fenceSteps fid isl cls cause detail code = e at *
  obtain ⟨gen, reported, hmoved⟩ := Dev.func_fenceMoves (hruns.lists hfid) retried
  have hmoves := e.reports_fenceMoves fid retried
  generalize e.fenceMoves fid retried = m at *
  rw [hkeeps.toStands.func, hmoved, hfunc]
  refine ⟨hruns.trans (hmoves.runs.trans hkeeps.toRuns), ?_, rfl, rfl, rfl, rfl⟩
  exact hkeeps.roster.trans (congrArg (fun x => (x.2.2.1.pes.map Pe.seat, x.2.2.1.les.map Le.seat)) hmoves.engines :)

/-- The answer to a fault of a function with islands of its own: it is FENCED, and its islands' resets restart it. -/
theorem Dev.funcFaultAt_leaves {d : Dev} {fid : Nat} (hfid : d.lists fid) (hst : (d.func fid).st = 1 ∨ (d.func fid).st = 2)
    (hrec : (d.func fid).recovering = false) (hpwr : d.pwr.st = 0) (hown : ownIslands fid = true) (isl cls cause detail code : Nat) :
    d.Runs (d.funcFaultAt fid isl cls cause detail code false) ∧ ((d.funcFaultAt fid isl cls cause detail code false).func fid).st = 4 ∧
      ((d.funcFaultAt fid isl cls cause detail code false).func fid).cause = 1 := by
  unfold Dev.funcFaultAt
  rw [show d.faultWakes = d by simp [Dev.faultWakes, hpwr]]
  obtain ⟨e, he, hend⟩ := d.inEpisode_steps (fun d =>
    let was := (d.func fid).st
    let (again, d) := d.faultFence fid isl cls cause detail code false
    if was == 3 && (d.func fid).st == 4 then d.reachOff fid 1
    else if again && d.restartsAtOnce fid then d.restart fid
    else d)
  generalize d.inEpisode _ = t at hend ⊢
  have hfunc := he.toStands.func fid
  obtain ⟨c, f, hfence, -, hruns, -, hf, hcause, -⟩ := Dev.faultFence_leaves (he.toRuns.lists hfid) (by rwa [hfunc]) (by rw [hfunc, hrec])
    isl cls cause detail code
  have hwas : ((e.func fid).st == 3) = false := by rw [hfunc]; rcases hst with h | h <;> simp [h]
  simp only [hwas, hfence, Dev.restartsAtOnce, hown, Bool.false_and, Bool.not_true, Bool.and_false, Bool.false_eq_true, if_false] at hend
  exact ⟨he.toRuns.trans (hruns.trans hend.toRuns), by rw [hend.toStands.func, hf], by rw [hend.toStands.func, hcause]⟩

/-! ## Self-tests -/

/-- A test that ends leaves its engine free or out of service. -/
theorem Dev.selfTestDone_engine {d : Dev} {p : Nat} (hp : p < d.eng.pes.length) {x : SelfTest}
    (hx : d.svc.tests.find? (fun t => t.pe == some p && t.fid == 0) = some x) (pass : Bool) :
    ((d.selfTestDone (some p) 0 pass).pe p).status = (if pass then 0 else 5) ∧
      ((d.selfTestDone (some p) 0 pass).pe p).faults = (d.pe p).faults ∧
      ∀ t ∈ (d.selfTestDone (some p) 0 pass).svc.tests, ¬ (t.pe = some p ∧ t.fid = 0) := by
  unfold Dev.selfTestDone
  simp only [hx]
  have hset := Dev.pe_setPe_same { d with svc := { d.svc with tests := d.svc.tests.filter (fun x => !(x.pe == some p && x.fid == 0)) } } p
    (fun e => { faults := e.faults, status := if pass then 0 else 5 }) hp
  generalize hd1 : ({ d with svc := { d.svc with tests := d.svc.tests.filter (fun x => !(x.pe == some p && x.fid == 0)) } } : Dev).setPe p
    (fun e => { faults := e.faults, status := if pass then 0 else 5 }) = d1 at hset ⊢
  have htests : d1.svc.tests = d.svc.tests.filter (fun x => !(x.pe == some p && x.fid == 0)) := hd1 ▸ rfl
  have hdone := (Dev.reports_completeAll ((d1.resetHalves (peIsland p)).setIsland (peIsland p)
    (fun x => { x with st := 0, gen := (x.gen + 1) % 4096, cause := 1 })) x.cmds
    (fun _ => if pass then (stDone, []) else (stFailed, errDetail 0xFFFF 0))).engines
  generalize Dev.completeAll _ x.cmds _ = e at hdone ⊢
  have hpe : e.pe p = d1.pe p := congrArg (fun x => x.2.2.1.pes.getD p {}) hdone
  rw [hpe, hset, show e.svc.tests = d1.svc.tests from congrArg (fun x => x.2.2.2.1.tests) hdone, htests]
  refine ⟨rfl, rfl, fun t ht => ?_⟩
  have hkept := (List.mem_filter.mp ht).2
  rintro ⟨hpe, hfid⟩
  simp [hpe, hfid] at hkept

/-- A function that was FAILED is OFF once its islands pass. -/
theorem Dev.selfTestDone_func {d : Dev} {fid : Nat} (hfid : d.lists fid) (hst : (d.func fid).st = 5) {x : SelfTest}
    (hx : d.svc.tests.find? (fun t => t.pe == none && t.fid == fid) = some x) :
    ((d.selfTestDone none fid true).func fid).st = 0 ∧ ((d.selfTestDone none fid true).func fid).cause = 5 := by
  obtain ⟨e, f, he, hrow⟩ : ∃ e f, d.Stands e ∧ d.selfTestDone none fid true = (e.transition fid 0 5).completeAll x.cmds f := by
    have htests : d.Keeps { d with svc := { d.svc with tests := d.svc.tests.filter (fun x => !(x.pe == none && x.fid == fid)) } } := .of_body rfl
    have hreset (d : Dev) (i : Nat) : d.Stands ((d.resetHalves i).setIsland i (fun x => { x with
        st := if i == 0x03 then 2 else 0, gen := (x.gen + 1) % 4096, cause := 1, recovering := false })) :=
      (Dev.stands_setIsland _ i (by intro _; rfl)).after (d.stands_resetHalves i)
    have hpassed (e : Dev) (h : (e.func fid).st = 5) : ¬ (((!true) || (e.func fid).st != 5) = true) := by simp [h]
    refine ⟨_, _, ?_, by unfold Dev.selfTestDone; rw [hx]; exact congrArg (fun e : Dev => e.completeAll x.cmds _) (if_neg (hpassed _ hst))⟩
    refine Dev.Stands.after (.ite (Dev.keeps_setRing _ _ _).toStands (.refl _)) ?_
    refine Dev.Stands.after (.ite (Dev.holds_setLe _ _ _).toStands (.refl _)) ?_
    refine Dev.Stands.after (.ite (Dev.stands_openCrossings _ _) (.refl _)) ?_
    exact (Dev.stands_forEach hreset _ _).after htests.toStands
  obtain ⟨gen, reported, hf⟩ := Dev.func_transition (he.toRuns.lists hfid) 0 5
  rw [hrow, (Dev.stands_completeAll _ _ _).func, hf]
  exact ⟨rfl, rfl⟩

/-! ## The load of an engine -/

theorem Dev.keeps_declarePlate (d : Dev) (l : Nat) (e : ImgDecl) : d.Keeps (d.declarePlate l e) := by
  unfold Dev.declarePlate
  dsimp only
  exact .ite (.refl d) ((Dev.keeps_setPim _ _ _).after (d.keeps_setPlate _ _))

theorem Dev.keeps_takeWriter (d : Dev) (l : Nat) (e : ImgDecl) : d.Keeps (d.takeWriter l e) := by
  unfold Dev.takeWriter
  split
  exacts [(Dev.keeps_setSlot _ _ _ _).after (d.keeps_grant _ _ _ _ _), .refl d]

/-- The engines' own records. -/
theorem Dev.pes_declarePlate (d : Dev) (l : Nat) (e : ImgDecl) : (d.declarePlate l e).eng.pes = d.eng.pes := by
  unfold Dev.declarePlate
  dsimp only
  split <;> rfl

theorem Dev.pes_takeWriter (d : Dev) (l : Nat) (e : ImgDecl) : (d.takeWriter l e).eng.pes = d.eng.pes := by
  unfold Dev.takeWriter
  split <;> rfl

theorem Dev.regs_loadPe {d : Dev} {p : Nat} (hp : p < d.eng.pes.length) (l : Nat) :
    ((d.loadPe l p).pe p).regs = { pc := (d.imageOf (d.le l).image).entry } := by
  have hon : (d.powerOn (peIsland p)).eng = d.eng := by unfold Dev.powerOn; split <;> rfl
  unfold Dev.loadPe
  dsimp only
  rw [Dev.pe_setPe_same _ _ _ (hon ▸ hp)]

/-- An engine that is loaded runs from its image's entry point, its registers 0. -/
theorem Dev.leLoaded_leaves {d : Dev} {l p : Nat} (hp : p < d.eng.pes.length) :
    d.Stands (d.leLoaded l p) ∧ ((d.leLoaded l p).pe p).running = true ∧
      ((d.leLoaded l p).pe p).regs = { pc := (d.imageOf (d.le l).image).entry } := by
  unfold Dev.leLoaded
  extract_lets im d1 gone d2 d3
  have h1 : d.Stands d1 := d.stands_loadPe l p
  have h2 : d1.Keeps d2 := Dev.keeps_forN (fun d n => .ite (d.keeps_setPlate n _) (.refl d)) 64 d1
  have h3 : d2.Keeps d3 := Dev.keeps_forEach (fun d e => (Dev.keeps_takeWriter _ l e).after (d.keeps_declarePlate l e)) im.decls d2
  have hpes2 : d2.eng.pes = d1.eng.pes := foldl_keeps (fun d : Dev => d.eng.pes) _ (fun d n => by split <;> rfl) _ d1
  have hpes3 : d3.eng.pes = d2.eng.pes :=
    foldl_keeps (fun d : Dev => d.eng.pes) _ (fun d e => (Dev.pes_takeWriter _ l e).trans (d.pes_declarePlate l e)) _ d2
  have hpes : d3.eng.pes = d1.eng.pes := hpes3.trans hpes2
  have hp1 : p < d1.eng.pes.length := by rw [show d1.eng.pes.length = d.eng.pes.length from congrArg (fun x => x.2.2.2.1) h1.core]; exact hp
  have hregs : (d3.pe p).regs = { pc := im.entry } := by
    rw [Dev.pe, hpes]
    exact Dev.regs_loadPe hp l
  have hpe := Dev.pe_setPe_same d3 p (fun e => { e with running := true, ports := { e.ports with wdKick := d3.tick } }) (hpes ▸ hp1)
  refine ⟨((Dev.holds_setLe _ l _).after (d3.holds_setPe p _)).toStands.after ((h3.after h2).toStands.after h1), ?_, ?_⟩
  · exact congrArg Pe.running hpe
  · exact (congrArg Pe.regs hpe).trans hregs

/-! ## Completions of a row -/

theorem State.completed_of_completes {s : State} {d e : Dev} {w : Waiting} (hbefore : s.dev.Runs d) (h : d.Completes w e) (hw : w.recov = false) :
    s.completed (s.withDev e) w 0x0000 := by
  obtain ⟨c, hruns, rfl⟩ := h
  have hall := hbefore.trans hruns
  exact State.completed_of_complete hall.tells hall.restarting hw (.refl _)

end Sys2Proof.Machine
end

section
/-! The obligation of the passages (R105 to R109, R171, R284, R526, R527). -/

namespace Sys2Proof.Ports

open Sys2Proof.Machine

/-- Settles O44: each passage ends in the state that the rules give, and its command completes. -/
theorem passagesEnd : Obligations.PassagesEnd := by
  intro s fid hfid
  dsimp only
  replace hfid : s.dev.lists fid := hfid
  refine ⟨fun hq hclass hst => ?_, fun hq hst hdrained => ?_, fun hq hst => ?_, fun hst hpwr hrec hown => ?_,
    fun p pass hp htest => ?_, fun hst htest => ?_, fun p l hl hl12 hp hle hpe hloading hst hq => ?_⟩
  · obtain ⟨d, hd, hrow⟩ : ∃ d, s.dev.Keeps d ∧ Dev.startComplete fid s.dev = d.reachOn fid := by
      refine ⟨if fclass fid == 5 then s.dev.frClears (finst fid) else s.dev, .ite (s.dev.keeps_frClears _) (.refl _), ?_⟩
      simp [Dev.startComplete, hst, hclass]
    have hfunc := hd.toStands.func fid
    obtain ⟨hon, -, htold⟩ := Dev.reachOn_leaves (hd.toRuns.lists hfid) (by rw [hfunc, hq])
    rw [hfunc] at htold
    exact ⟨_, State.run_withDev hrow, hon, fun w hw hj hr hv => State.completed_of_completes hd.toRuns (htold w hw hj hr) hv⟩
  · obtain ⟨d, hd, hrow⟩ : ∃ d, s.dev.Keeps d ∧ Dev.drainComplete fid s.dev = d.reachOff fid 0 := by
      refine ⟨if fclass fid == 1 then s.dev.lastPause (finst fid) else s.dev, .ite (s.dev.keeps_lastPause _) (.refl _), ?_⟩
      simp [Dev.drainComplete, hst, hdrained]
    have hfunc := hd.toStands.func fid
    obtain ⟨hoff, -, -, htold⟩ := Dev.reachOff_leaves (hd.toRuns.lists hfid) (by rw [hfunc, hq]) 0
    rw [hfunc] at htold
    exact ⟨_, State.run_withDev hrow, hoff, fun w hw hj hv => State.completed_of_completes hd.toRuns (htold w hw hj) hv⟩
  · obtain ⟨d, hd, hrow⟩ : ∃ d, (s.dev.advanceTo (s.dev.func fid).limit).Stands d ∧ Dev.drainExpiry fid s.dev = d.reachOff fid 2 :=
      ⟨_, Dev.stands_fenceBody _ fid 4 ((s.dev.advanceTo (s.dev.func fid).limit).funcIsland fid) 0 0 false false, by simp [Dev.drainExpiry, hst]⟩
    have hfunc : d.func fid = s.dev.func fid := hd.func fid
    obtain ⟨hoff, hcause, hruns, -⟩ := Dev.reachOff_leaves (hd.toRuns.lists hfid) (by rw [hfunc, hq]) 2
    exact ⟨_, State.run_withDev hrow, hoff, hcause, hruns.tick.trans hd.toRuns.tick⟩
  · have hrow : Dev.startExpiry fid s.dev = (s.dev.advanceTo (s.dev.func fid).limit).funcFault fid 4 0 0 0 false := by simp [Dev.startExpiry, hst]
    obtain ⟨hruns, hf, hcause⟩ := Dev.funcFaultAt_leaves (d := s.dev.advanceTo (s.dev.func fid).limit) (fid := fid) hfid (.inl hst) hrec hpwr hown
      ((s.dev.advanceTo (s.dev.func fid).limit).funcIsland fid) 4 0 0 0
    exact ⟨_, State.run_withDev hrow, hf, hcause, hruns.tick⟩
  · obtain ⟨x, hx⟩ := Option.isSome_iff_exists.mp ((List.find?_isSome (p := fun t : SelfTest => t.pe == some p && t.fid == 0)).mpr
      (by obtain ⟨x, hmem, hpe, hf⟩ := htest; exact ⟨x, hmem, by simp [hpe, hf]⟩))
    obtain ⟨hstatus, hfaults, htests⟩ := Dev.selfTestDone_engine hp hx pass
    exact ⟨_, State.run_withDev (f := fun d => d.selfTestDone (some p) 0 pass) rfl, hstatus, hfaults, htests⟩
  · obtain ⟨x, hx⟩ := Option.isSome_iff_exists.mp ((List.find?_isSome (p := fun t : SelfTest => t.pe == none && t.fid == fid)).mpr
      (by obtain ⟨x, hmem, hpe, hf⟩ := htest; exact ⟨x, hmem, by simp [hpe, hf]⟩))
    obtain ⟨hoff, hcause⟩ := Dev.selfTestDone_func hfid hst hx
    exact ⟨_, State.run_withDev (f := fun d => d.selfTestDone none fid true) rfl, hoff, hcause⟩
  · obtain rfl : fid = leFid l := hl
    obtain ⟨hload, hrunning, hregs⟩ := Dev.leLoaded_leaves (d := s.dev) (l := l) hp
    have hfunc := hload.func (leFid l)
    obtain ⟨hon, hreports, -⟩ := Dev.reachOn_leaves (hload.toRuns.lists hfid) (by rw [hfunc]; exact hq)
    have hrow : Dev.loadRow p s.dev = (s.dev.leLoaded l p).reachOn (leFid l) := by
      simp [Dev.loadRow, hle, hpe, hloading, hst]
    have hclass : (s.dev.leLoaded l p).classOn (leFid l) = s.dev.leLoaded l p := by
      have hfour : fclass (leFid l) = 4 := by simp only [fclass, leFid]; omega
      simp [Dev.classOn, hfour]
    rw [hclass] at hreports
    have hpe' := congrArg (fun x => x.2.2.1.pes.getD p.val {}) hreports.engines
    exact ⟨_, State.run_withDev hrow, hon, (congrArg Pe.running hpe').trans hrunning, (congrArg Pe.regs hpe').trans hregs⟩

end Sys2Proof.Ports
end

section
/-! The obligation of the islands' faults (R35 to R44, R75). -/

namespace Sys2Proof.Ports

open Sys2Proof.Machine

/-- A part whose table lists no island, in a restart of the Compositor: `Dev.island 1` answers a default entry, whose ID is 1. -/
def withoutIslands : State := { dev := { islands := [], cmp := { restarting := true } } }

/-- Nothing lists an island when the restart has ended, so that the default entry still has generation 0. -/
theorem withoutIslands_restarted :
    ∀ t, exec .compositorRestart withoutIslands = .next t → (t.dev.island 1).gen = 0 := by
  rintro t ⟨⟩
  rfl

/-- Refutes O43: at the end of a Compositor restart, the clause on `Dev.island 1` asks for an entry of ID 1, which the default entry of a
table without one meets; no generation moves there. -/
theorem not_islandFaults : ¬ Obligations.IslandFaults := by
  intro h
  obtain ⟨-, -, -, -, -, -, -, hrestart, -⟩ := h withoutIslands rfl
  obtain ⟨t, ht, -, hgen, -⟩ := hrestart (by unfold State.noHeld; decide) rfl rfl
  rw [withoutIslands_restarted t ht] at hgen
  exact absurd hgen (by decide)

end Sys2Proof.Ports
end

section
/-! SUPPORT. What a frame through the switch keeps of the part's own state (12, 13). -/

namespace Sys2Proof.Machine

variable (d : Dev)

theorem Dev.keeps_countFwd (p c : Nat) : d.Keeps (d.countFwd p c) := .of_body rfl
theorem Dev.keeps_countAdm (p c : Nat) : d.Keeps (d.countAdm p c) := .of_body rfl
theorem Dev.keeps_setPort (p : Nat) (f : HostPort → HostPort) : d.Keeps (d.setPort p f) := .of_body rfl
theorem Dev.keeps_capture (p src : Nat) : d.Keeps (d.capture p src) := (d.signals_capture p src).keeps

/-! ## The pipes, the mirrors and the galleys -/

theorem Dev.keeps_settlePipe : d.Keeps d.settlePipe := by
  unfold Dev.settlePipe
  split
  · exact .ite ((Dev.keeps_completeDone _ _).after (d.keeps_setSwc _)) (.ite ((Dev.keeps_completeFailed _ _ _).after (d.keeps_setSwc _)) (.refl d))
  · exact .refl d

theorem Dev.keeps_beginLookup : d.Keeps d.beginLookup := by
  unfold Dev.beginLookup
  split
  · exact (Dev.keeps_settlePipe _).after (.ite (.refl d) (d.keeps_setSwc _))
  · exact .refl d

theorem Dev.keeps_roomIn (g n k : Nat) : d.Keeps (d.roomIn g n k).2 := by
  induction k generalizing d with
  | zero => exact .refl d
  | succ k ih =>
    rw [Dev.roomIn]
    split
    · exact .refl d
    · split
      · exact (ih _).after (d.keeps_dropMirror _ _)
      · exact .refl d

theorem Dev.keeps_roomFor (n k : Nat) : d.Keeps (d.roomFor n k).2 := by
  induction k generalizing d with
  | zero => exact .refl d
  | succ k ih =>
    rw [Dev.roomFor]
    dsimp only
    split
    · exact .refl d
    · split
      · exact (ih _).after (d.keeps_dropMirror _ _)
      · exact .refl d

theorem Dev.keeps_mirrorCopy (k : Nat) (bytes : List Byte) (held : Option Nat) (cls ing vid stamp : Nat) :
    d.Keeps (d.mirrorCopy k bytes held cls ing vid stamp) := by
  unfold Dev.mirrorCopy
  dsimp only
  refine .ite (d.keeps_setSwc _) ?_
  cases held <;> dsimp only
  · exact (Dev.keeps_setSwc _ _).after (d.keeps_setSwc _)
  · exact d.keeps_setSwc _

theorem Dev.keeps_mirrorAt (egress : Bool) (p : Nat) (bytes : List Byte) (held : Option Nat) (cls ing vid stamp : Nat) :
    d.Keeps (d.mirrorAt egress p bytes held cls ing vid stamp) :=
  Dev.keeps_forN (fun d k => .ite (d.keeps_mirrorCopy k bytes held cls ing vid stamp) (.refl d)) 4 d

/-! ## Host rings, proofs and delivery -/

theorem Dev.keeps_ringPublish (r id : Nat) (data : List Byte) : d.Keeps (d.ringPublish r id data) := by
  unfold Dev.ringPublish
  split
  · exact .refl d
  · exact (Dev.keeps_advanceRing _ _).after ((Dev.keeps_setRing _ _ _).after (d.keeps_setHst _))

theorem Dev.keeps_ringPut (r : Nat) (o : Owner) (src inst : Nat) (data : List Byte) : d.Keeps (d.ringPut r o src inst data).2 := by
  unfold Dev.ringPut Dev.ringReserve
  dsimp only
  split_ifs
  · exact d.keeps_setRing _ _
  · exact (Dev.keeps_ringPublish _ _ _ _).after ((Dev.keeps_setHst _ _).after (d.keeps_setRing r _))

theorem Dev.keeps_proof (egress : Bool) (p : Nat) (bytes : List Byte) (cls from_ stamp : Nat) (lost : Bool) :
    d.Keeps (d.proof egress p bytes cls from_ stamp lost) := by
  unfold Dev.proof
  dsimp only
  refine .ite (.refl d) (.ite (d.keeps_setSwc _) (.ite ((Dev.keeps_setSwc _ _).after (d.keeps_setSwc _)) ?_))
  exact (Dev.keeps_setSwc _ _).after ((Dev.keeps_ringPut _ _ _ _ _ _).after (d.keeps_setSwc _))

theorem Dev.keeps_learn (p : Nat) (b : List Byte) (vid : Nat) : d.Keeps (d.learn p b vid) := by
  unfold Dev.learn
  dsimp only
  refine .ite (.refl d) ?_
  split
  · exact .ite (.refl d) (d.keeps_setSwc _)
  · split
    exacts [d.keeps_setSwc _, .refl d]

theorem Dev.keeps_deliverLe (l cls : Nat) (bytes : List Byte) : d.Keeps (d.deliverLe l cls bytes) := by
  unfold Dev.deliverLe
  split
  · exact d.keeps_countFull _ _
  · split
    · exact .ite ((Dev.keeps_countFwd _ _ _).after ((Dev.keeps_capture _ _ _).after ((Dev.keeps_raise _ _ _ _).after
        (Dev.keeps_setPe _ (by intro _; rfl))))) (d.keeps_countFull _ _)
    · exact d.keeps_countFull _ _

theorem Dev.keeps_deliverRing (r ing cls : Nat) (bytes : List Byte) : d.Keeps (d.deliverRing r ing cls bytes) := by
  unfold Dev.deliverRing
  dsimp only
  exact .ite (.ite ((Dev.keeps_countFwd _ _ _).after (d.keeps_ringPut _ _ _ _ _)) ((Dev.keeps_countFull _ _ _).after (d.keeps_ringPut _ _ _ _ _)))
    (d.keeps_countFull _ _)

/-! ## A frame taken in -/

/-- A loop that marks ports beside its steps. -/
theorem Dev.keeps_foldl_fst {α β : Type} {f : Dev × β → α → Dev × β} (h : ∀ (x : Dev × β) a, x.1.Keeps (f x a).1) (xs : List α) (x : Dev × β) :
    x.1.Keeps (xs.foldl f x).1 :=
  foldl_relates (R := fun x y : Dev × β => x.1.Keeps y.1) (fun x => .refl x.1) (fun h h' => h.trans h') h xs x

theorem Dev.keeps_expressIn (p : Nat) (rx : RxFrame) (src : Nat) : d.Keeps (d.expressIn p rx src).1 := by
  refine Dev.keeps_foldl_fst (fun a o => ?_) _ (d, rx.dests)
  dsimp only
  split_ifs <;> dsimp only
  · exact .refl _
  · exact Dev.keeps_setSwc _ _
  · exact Dev.keeps_countFull _ _ _

theorem Dev.keeps_expressWhole (id vid : Nat) (bytes : List Byte) : d.Keeps (d.expressWhole id vid bytes) :=
  (Dev.keeps_forN (fun d m => d.keeps_setMac m _) 6 _).after (d.keeps_setSwc _)

theorem Dev.keeps_expressLong (p id vid m : Nat) (bytes : List Byte) : d.Keeps (d.expressLong p id vid m bytes).1 := by
  refine Dev.keeps_foldl_fst (fun a o => ?_) _ (d, m)
  dsimp only
  split_ifs <;> dsimp only
  · exact (Dev.keeps_setMac _ _ _).after ((Dev.keeps_setSwc _ _).after (Dev.keeps_countFull _ _ _))
  · exact .refl _

/-- The egress ports of a frame that have room for it. -/
theorem Dev.keeps_galleyRoom (f : Nat × Dev → Nat → Nat × Dev) (hf : ∀ (a : Nat × Dev) o, a.2.Keeps (f a o).2) (m : Nat) :
    d.Keeps ((List.range 6).foldl f (m, d)).2 := Dev.keeps_foldl_snd hf _ (m, d)

theorem Dev.keeps_galleyIn (p : Nat) (rx : RxFrame) (bytes : List Byte) : d.Keeps (d.galleyIn p rx bytes).2 := by
  unfold Dev.galleyIn
  dsimp only
  have hroom := d.keeps_roomFor (slugsFor bytes.length) 64
  split
  · exact (Dev.keeps_countAdm _ _ _).after hroom
  refine hroom.trans ?_
  generalize (d.roomFor (slugsFor bytes.length) 64).2 = e
  have hports := e.keeps_galleyRoom (fun a o =>
    if (!bit a.1 o) = true then (a.1, a.2)
    else if ((a.2.roomIn (o * 8 + rx.cls) (slugsFor bytes.length) 64).1 &&
        !(a.2.roomIn (o * 8 + rx.cls) (slugsFor bytes.length) 64).2.tooLong o rx.cls rx.vid bytes) = true then
      (a.1, (a.2.roomIn (o * 8 + rx.cls) (slugsFor bytes.length) 64).2)
    else (a.1 - 2 ^ o, (a.2.roomIn (o * 8 + rx.cls) (slugsFor bytes.length) 64).2.countFull o rx.cls)) (fun a o => by
      split_ifs <;> dsimp only
      exacts [.refl _, Dev.keeps_roomIn _ _ _ _, (Dev.keeps_countFull _ _ _).after (Dev.keeps_roomIn _ _ _ _)]) rx.dests
  generalize List.foldl _ (rx.dests, e) (List.range 6) = r at hports ⊢
  refine hports.trans ?_
  split <;> dsimp only
  · exact .refl _
  · have hjoin (d : Dev) : d.Keeps ((List.range 6).foldl (fun (d : Dev) o => if bit r.1 o = true then d.setSwc (fun s =>
        { (s.setGalley (o * 8 + rx.cls) (fun q => q ++ [{ no := s.ids, frame := rx.id }])) with ids := s.ids + 1 }) else d) d) :=
      Dev.keeps_foldl (fun d o => .ite (d.keeps_setSwc _) (.refl d)) _ d
    have hall := (hjoin _).after (r.2.keeps_setSwc (fun s => { s with
      frames := s.frames ++ [{ id := rx.id, bytes := bytes, cls := rx.cls, vid := rx.vid, ing := p, stamp := rx.stamp,
                               slugs := (r.2.takeSlugs (slugsFor bytes.length) r.2.swc.lastBank []).1 }],
      lastBank := (r.2.takeSlugs (slugsFor bytes.length) r.2.swc.lastBank []).2 }))
    exact .ite ((Dev.keeps_mirrorAt _ _ _ _ _ _ _ _ _).after hall) hall

/-- The galleys or the express paths take a frame in (R312 to R315). -/
def Dev.frameTaken (d : Dev) (p : Nat) (rx : RxFrame) (bytes : List Byte) (started : Bool) : Bool × Dev :=
  if rx.cls == 7 then
    let (d, m) := if started then (d, rx.dests) else d.expressIn p rx rx.id
    let d := d.expressWhole rx.id rx.vid bytes
    let (d, m) := d.expressLong p rx.id rx.vid m bytes
    let d := if p < 6 && m &&& 0x3F != 0 then d.mirrorAt false p bytes none 7 p rx.vid rx.stamp else d
    (true, d)
  else if rx.dests &&& 0x3F != 0 then d.galleyIn p rx bytes
  else (true, d)

/-- What a frame taken in does beside: its source is learnt, and the part's own destinations receive it. -/
def Dev.frameServed (d : Dev) (p : Nat) (rx : RxFrame) (bytes : List Byte) (okIn : Bool) : Dev :=
  let d := d.learn p bytes rx.vid
  let d := d.proof false p bytes rx.cls 0xFF rx.stamp (!okIn)
  let d := match rx.toLe with
    | some l => d.deliverLe l rx.cls bytes
    | none => d
  let d := match rx.toRing with
    | some r => d.deliverRing r p rx.cls bytes
    | none => d
  (if rx.toHost then d.countFwd 7 rx.cls else d).collect.pauseAll

theorem Dev.keeps_frameTaken (p : Nat) (rx : RxFrame) (bytes : List Byte) (started : Bool) : d.Keeps (d.frameTaken p rx bytes started).2 := by
  unfold Dev.frameTaken
  split
  · have hin : d.Keeps (if started = true then (d, rx.dests) else d.expressIn p rx rx.id).1 := by
      split
      exacts [.refl d, d.keeps_expressIn _ _ _]
    refine hin.trans ?_
    generalize (if started = true then (d, rx.dests) else d.expressIn p rx rx.id) = r
    obtain ⟨e, m⟩ := r
    have hlong := (Dev.keeps_expressLong _ p rx.id rx.vid m bytes).after (e.keeps_expressWhole rx.id rx.vid bytes)
    exact .ite ((Dev.keeps_mirrorAt _ _ _ _ _ _ _ _ _).after hlong) hlong
  · split
    exacts [d.keeps_galleyIn _ _ _, .refl d]

theorem Dev.keeps_frameServed (p : Nat) (rx : RxFrame) (bytes : List Byte) (okIn : Bool) : d.Keeps (d.frameServed p rx bytes okIn) := by
  unfold Dev.frameServed
  extract_lets d1 d2 d3 d4
  have h2 : d.Keeps d2 := (Dev.keeps_proof _ _ _ _ _ _ _ _).after (d.keeps_learn _ _ _)
  have h3 : d2.Keeps d3 := by
    dsimp only [d3]
    split
    exacts [d2.keeps_deliverLe _ _ _, .refl d2]
  have h4 : d3.Keeps d4 := by
    dsimp only [d4]
    split
    exacts [d3.keeps_deliverRing _ _ _ _, .refl d3]
  exact (Dev.keeps_pauseAll _).after ((Dev.keeps_collect _).after (Dev.Keeps.after (.ite (d4.keeps_countFwd _ _) (.refl d4)) (h4.after (h3.after h2))))

theorem Dev.keeps_frameIn (p : Nat) (rx : RxFrame) (bytes : List Byte) (started : Bool) : d.Keeps (d.frameIn p rx bytes started).2 := by
  unfold Dev.frameIn
  extract_lets rx' lost
  have hlost (e : Dev) : e.Keeps (lost e).2 := by
    dsimp only [lost]
    exact (Dev.keeps_pauseAll _).after (e.keeps_proof _ _ _ _ _ _ _)
  by_cases hdropped : rx'.dropped = true
  · rw [if_pos hdropped]
    exact (hlost _).after (d.keeps_countAdm _ _)
  rw [if_neg hdropped]
  by_cases hlong : (rx'.cls == 7 && decide (1536 < bytes.length)) = true
  · rw [if_pos hlong]
    have hbad := d.keeps_expressBad rx'.id
    generalize d.expressBad rx'.id = r at hbad ⊢
    exact (hlost _).after ((Dev.keeps_countAdm _ _ _).after hbad)
  rw [if_neg hlong]
  split
  next okIn e heq =>
  have htaken : d.frameTaken p rx' bytes started = (okIn, e) := heq
  have he := d.keeps_frameTaken p rx' bytes started
  rw [htaken] at he
  dsimp only
  exact (e.keeps_frameServed p rx' bytes okIn).after he

theorem Dev.keeps_inject (p : Nat) (bytes : List Byte) (cls : Nat) (mask : Option Nat) : d.Keeps (d.inject p bytes cls mask).2.2 := by
  unfold Dev.inject
  dsimp only
  have hlookup : d.Keeps (if mask.isNone = true then d.beginLookup else d) := .ite d.keeps_beginLookup (.refl d)
  refine hlookup.trans ?_
  generalize (if mask.isNone = true then d.beginLookup else d) = e
  split <;> dsimp only
  · exact (Dev.keeps_discard _ _).after (e.keeps_setSwc _)
  · exact (Dev.keeps_frameIn _ _ _ _ _).after (e.keeps_setSwc _)

/-! ## Packets by UDP -/

/-- The frames of a packet join the switch one by one. -/
theorem Dev.keeps_injectAll (f : List Nat → Nat → List Nat) (g : List Byte → List Byte) (ps : List (List Byte)) (x : List Nat × Dev) :
    x.2.Keeps (ps.foldl (fun a b => (f a.1 (a.2.inject 7 (g b) 0 none).1, (a.2.inject 7 (g b) 0 none).2.2)) x).2 :=
  Dev.keeps_foldl_snd (f := fun a b => (f a.1 (a.2.inject 7 (g b) 0 none).1, (a.2.inject 7 (g b) 0 none).2.2))
    (fun a _ => a.2.keeps_inject _ _ _ _) ps x

theorem Dev.keeps_udpFlush : d.Keeps d.udpFlush := by
  refine Dev.keeps_forEach (fun d o => ?_) _ d
  dsimp only
  split
  · exact d.keeps_setPort 3 _
  · refine (Dev.keeps_setPort _ 3 _).after ((d.keeps_setFree (d.free + 1)).trans ?_)
    exact Dev.keeps_injectAll (fun ids i => ids ++ [i]) (fun b => hostFrame o.dst.mac o.dst.vid 0x0800 b) _ ([], d.draw.2)

theorem Dev.keeps_udpOut : d.Keeps d.udpOut := .ite (.refl d) ((Dev.keeps_setPort _ 3 _).after d.keeps_udpFlush)

end Sys2Proof.Machine
end

section
/-! SUPPORT. The Almanac at work (R181, R182, R187, R189): how an operation ends, and what the commands that wait do then. -/

namespace Sys2Proof.Machine

theorem Dev.Tells.alm {d e : Dev} (h : d.Tells e) : e.alm = d.alm := by
  obtain ⟨n, rfl, -⟩ := h
  rfl

theorem Dev.Tells.svc {d e : Dev} (h : d.Tells e) : e.svc = d.svc := by
  obtain ⟨n, rfl, -⟩ := h
  rfl

theorem Dev.Tells.backlog {d e : Dev} (h : d.Tells e) : e.verind.backlog = d.verind.backlog := by
  obtain ⟨n, rfl, -⟩ := h
  rfl

theorem Dev.alm_release (d : Dev) (kind inst : Nat) : (d.release kind inst).alm = d.alm :=
  (congrArg Dev.alm (d.besideHolders_release kind inst) :)

theorem Dev.alm_udpOut (d : Dev) : d.udpOut.alm = d.alm := (congrArg Dev.alm d.besideFrames_udpOut :)
theorem Dev.backlog_udpOut (d : Dev) : d.udpOut.verind.backlog = d.verind.backlog :=
  (congrArg (fun d : Dev => d.verind.backlog) d.besideFrames_udpOut :)

/-- Where nothing is held, only packets leave. -/
theorem Dev.resume_idle {d : Dev} (h : ∀ c ∈ d.verind.chans, c.held = []) : d.resume = d.udpOut := by
  have hchan (k : Nat) : (d.chan k).held = [] := by
    unfold Dev.chan
    rw [List.getD_eq_getElem?_getD]
    cases hk : d.verind.chans[k]? with
    | none => rfl
    | some c => exact h c (List.mem_of_getElem? hk)
  have hpumps : Dev.pumpAll execOpcode d = d := by
    unfold Dev.pumpAll forN
    generalize List.range 8 = ks
    induction ks with
    | nil => rfl
    | cons k ks ih => rw [List.foldl_cons, Packets.pump_idle (hchan k), ih]
  rw [Dev.resume, hpumps]

theorem Dev.Runs.resume {d e : Dev} (h : d.Runs e) (hheld : ∀ c ∈ d.verind.chans, c.held = []) : e.resume = e.udpOut := by
  have hchans : e.verind.chans = d.verind.chans := congrArg (fun x => x.1.2.2.2.2.1) h.core
  exact Dev.resume_idle (by rwa [hchans])

/-- A completion that was sent, before what waits goes on. -/
theorem State.completed_of_resume {s : State} {d : Dev} {w : Waiting} {st : Nat} {b : List Byte} (hbefore : s.dev.Runs d)
    (hheld : s.noHeld) (hw : w.recov = false) {e : Dev} (he : (d.complete w st b).Keeps e) : s.completed (s.withDev e.resume) w st := by
  have hall : s.dev.Runs e := hbefore.trans ((d.keeps_complete w st b).trans he).toRuns
  have hresume : e.resume = e.udpOut := hall.resume hheld
  exact State.completed_of_complete hbefore.tells hbefore.restarting hw (hresume ▸ (he.trans e.keeps_udpOut).tells)

/-! ## The end of an operation (R124, R251) -/

/-- An operation that ends leaves the Almanac as it is. -/
theorem Dev.almEnd_leaves (d : Dev) (o : AlmOp) (b : List Byte) : d.Keeps (d.almEnd o stDone b 0) ∧ (d.almEnd o stDone b 0).alm = d.alm ∧
    ∀ w, o.cmd = some w → ∃ c : Dev, d.Keeps c ∧ d.almEnd o stDone b 0 = c.complete w stDone b := by
  unfold Dev.almEnd
  extract_lets e
  have he : d.Keeps e ∧ e.alm = d.alm := by
    dsimp only [e]
    split
    · split
      · refine ⟨(Dev.keeps_raiseLe _ _ _ _).after (d.keeps_setPorts _ _), ?_⟩
        exact (congrArg Dev.alm (Dev.besideHolders_raiseLe (d.setPorts _ _) _ _ _) :)
      · exact ⟨.refl d, rfl⟩
    · exact ⟨.refl d, rfl⟩
  obtain ⟨hkeeps, halm⟩ := he
  clear_value e
  cases hcmd : o.cmd with
  | none => exact ⟨hkeeps, halm, by simp⟩
  | some w =>
    dsimp only
    have hf : e.Keeps (if e.holds 1 0 (.channel w.ch) then e.release 1 0 else e) := .ite (e.keeps_release _ _) (.refl e)
    have hfalm : (if e.holds 1 0 (.channel w.ch) then e.release 1 0 else e).alm = e.alm := by
      split
      exacts [e.alm_release _ _, rfl]
    generalize (if e.holds 1 0 (.channel w.ch) then e.release 1 0 else e) = f at hf hfalm ⊢
    simp only [beq_self_eq_true, if_true]
    refine ⟨(f.keeps_complete w _ _).after (hf.after hkeeps), (f.tells_complete w _ _).alm.trans (hfalm.trans halm), fun w' hw' => ?_⟩
    obtain rfl : w = w' := by simpa using hw'
    exact ⟨f, hf.after hkeeps, rfl⟩

theorem Dev.keeps_checkCompact (d : Dev) : d.Keeps d.checkCompact := .ite (d.keeps_setAlm _) (.refl d)

/-- A compaction that is called for changes no journal. -/
theorem Dev.alm_checkCompact (d : Dev) : ∃ b, d.checkCompact.alm = { d.alm with compacting := b } := by
  unfold Dev.checkCompact
  split
  exacts [⟨true, rfl⟩, ⟨d.alm.compacting, rfl⟩]

/-! ## Groups -/

/-- A committed group stands at the end of every valid copy, and of no other. -/
theorem Alm.append_grows (a : Alm) (g : List Rec) : (a.append g).sm.length = a.sm.length ∧ ∀ i, i < a.sm.length →
    ((a.append g).copy i).journal = if (a.copy i).valid then (a.copy i).journal ++ g else (a.copy i).journal := by
  refine ⟨List.length_map _, fun i hi => ?_⟩
  have hcopy : (a.append g).copy i = if (a.copy i).valid then { a.copy i with journal := (a.copy i).journal ++ g } else a.copy i := by
    simp [Alm.copy, Alm.append, hi]
  rw [hcopy, apply_ite SmCopy.journal]

/-- The front operation, a write of a user key, commits its group. -/
theorem Dev.groupCommit_write {d : Dev} {o : AlmOp} {os : List AlmOp} {key : Nat} {data : List Byte} (hops : d.alm.ops = o :: os)
    (hkind : o.kind = .write key data) (hcompacting : d.alm.compacting = false) (hrestarting : d.cmp.restarting = false)
    (hvalid : d.alm.anyValid = true) (hclean : d.alm.unclean = false)
    (hroom : d.alm.groupRefused [{ type := 1, key := key, seq := d.alm.seq, len := data.length, body := .user data },
      commitRec (d.alm.seq + 1) 1 0] = none) :
    d.groupCommit = ((d.setAlm (fun a => Alm.append { a with ops := os } [{ type := 1, key := key, seq := d.alm.seq, len := data.length, body := .user data },
      commitRec (d.alm.seq + 1) 1 0])).almEnd o stDone [] 0).checkCompact := by
  have hg : o.records d.alm.seq (wrap32 (d.alm.saveCount + 1)) =
      [{ type := 1, key := key, seq := d.alm.seq, len := data.length, body := .user data }] := by simp [AlmOp.records, hkind]
  have hsave : (o.kind == AlmKind.save) = false := by simp [hkind]
  unfold Dev.groupCommit
  simp only [hops, hcompacting, hrestarting, hvalid, hclean, hg, hkind, Bool.false_and, Bool.or_false, Bool.false_eq_true, if_false,
    Bool.not_true, List.length_singleton, List.singleton_append]
  rw [hroom]
  rfl

theorem Dev.verind_checkCompact (d : Dev) : d.checkCompact.verind = d.verind := by
  unfold Dev.checkCompact
  split <;> rfl

theorem Dev.keeps_ownWrites (d : Dev) : d.Keeps d.ownWrites :=
  .ite (.refl d) ((Dev.keeps_setQuoin _ _ _ _).after (d.keeps_setFree _))

/-- The oldest record of the backlog is journalled. -/
theorem Dev.journalling_writes {d : Dev} {b : Nat × Nat × Nat} {bs : List (Nat × Nat × Nat)} (hbacklog : d.verind.backlog = b :: bs)
    (hfree : (d.quoin 1 0).owner = none) (hcompacting : d.alm.compacting = false) (hrestarting : d.cmp.restarting = false)
    (hvalid : d.alm.anyValid = true) (hclean : d.alm.unclean = false)
    (hroom : d.alm.groupRefused [{ type := 3, key := b.1, seq := d.alm.seq, len := Config.workingLen b.1 }, commitRec (d.alm.seq + 1) 1 0] = none) :
    d.journalling = ((d.setAlm (fun a => a.append [{ type := 3, key := b.1, seq := d.alm.seq, len := Config.workingLen b.1 },
      commitRec (d.alm.seq + 1) 1 0])).setVerind (fun v => { v with backlog := bs })).ownWrites.checkCompact := by
  unfold Dev.journalling
  simp only [hbacklog, hfree, hcompacting, hrestarting, hvalid, hclean, AlmOp.records, Bool.not_true, Bool.or_false, Bool.false_and,
    Bool.false_eq_true, if_false, List.singleton_append]
  rw [hroom]

theorem Dev.ownWrites_leaves (d : Dev) : d.ownWrites.alm = d.alm ∧ d.ownWrites.verind = d.verind := by
  unfold Dev.ownWrites
  split <;> exact ⟨rfl, rfl⟩

/-! ## Compactions and catch-ups -/

/-- A compaction that a command asked for is of every valid copy. -/
theorem Dev.compactionDone_leaves {d : Dev} {w : Waiting} (hcompacting : d.alm.compacting = true) (hcmd : d.alm.compactCmd = some w) :
    ∃ (c : Dev) (b : List Byte), d.Keeps c ∧ d.compactionDone = c.complete w stDone b ∧
      c.alm = { d.alm with compacting := false, compactCmd := none, changed := true, nextSeq := d.alm.seq + 1,
                           sm := d.alm.sm.map (fun c => if c.valid then c.compacted d.alm.seq else c) } := by
  unfold Dev.compactionDone
  simp only [hcompacting, hcmd, Option.isSome_some, Bool.true_or, Bool.and_true, Bool.not_true, Bool.false_eq_true, if_false]
  have h1 := d.keeps_setAlm (fun a => { a with
    compacting := false, compactCmd := none, changed := true, nextSeq := a.seq + 1,
    sm := a.sm.map (fun c => if c.valid then c.compacted a.seq else c) })
  refine ⟨_, _, ?_, rfl, ?_⟩
  · exact Dev.Keeps.after (.ite (Dev.keeps_release _ _ _) (.refl _)) ((Dev.keeps_serviceEvent _ _ _).after ((Dev.keeps_ownWrites _).after h1))
  · rw [apply_ite Dev.alm, Dev.alm_release, ite_self, (Dev.tells_serviceEvent _ _ _).alm, (Dev.ownWrites_leaves _).1]
    rfl

theorem Alm.copy_map {a : Alm} {f : SmCopy → SmCopy} {i : Nat} (hi : i < a.sm.length) :
    ({ a with sm := a.sm.map f } : Alm).copy i = f (a.copy i) := by
  simp [Alm.copy, hi]

theorem Dev.alm_serviceEvent (d : Dev) (action what : Nat) : (d.serviceEvent action what).alm = d.alm := (d.tells_serviceEvent _ _).alm
theorem Dev.alm_completeOpt (d : Dev) (w : Option Waiting) (st : Nat) (b : List Byte) : (d.completeOpt w st b).alm = d.alm :=
  (d.tells_completeOpt _ _ _).alm

/-- A catch-up that fails leaves the copies. -/
theorem Dev.resilverEnd_fails {d : Dev} {i : Nat} {w : Option Waiting} (h : d.alm.resil.find? (fun r => r.1 == i) = some (i, false, w)) :
    d.Keeps (d.resilverEnd false i) ∧ (d.resilverEnd false i).alm = { d.alm with resil := d.alm.resil.filter (fun r => r.1 != i) } := by
  unfold Dev.resilverEnd
  simp only [h, Bool.not_false, if_true]
  refine ⟨(Dev.keeps_completeOpt _ _ _ _).after ((Dev.keeps_serviceEvent _ _ _).after (d.keeps_setAlm _)), ?_⟩
  rw [Dev.alm_completeOpt, Dev.alm_serviceEvent]
  rfl

/-- A catch-up that succeeds leaves the primary's journal in the copy, which is valid. -/
theorem Dev.resilverEnd_catchesUp {d : Dev} {i : Nat} {w : Option Waiting} (h : d.alm.resil.find? (fun r => r.1 == i) = some (i, false, w)) :
    d.Keeps (d.resilverEnd true i) ∧ (d.resilverEnd true i).alm.resil = d.alm.resil.filter (fun r => r.1 != i) ∧
      (d.resilverEnd true i).alm.sm = upd d.alm.sm i (fun c => { c with valid := true, dirty := false, journal := d.alm.journal }) := by
  unfold Dev.resilverEnd
  simp only [h, Bool.not_true, Bool.false_eq_true, if_false]
  refine ⟨(Dev.keeps_completeOpt _ _ _ _).after ((Dev.keeps_serviceEvent _ _ _).after ((Dev.keeps_ownWrites _).after
    ((Dev.keeps_setAlm _ _).after ((Dev.keeps_setCopy _ _ _).after (d.keeps_setAlm _))))), ?_⟩
  rw [Dev.alm_completeOpt, Dev.alm_serviceEvent, (Dev.ownWrites_leaves _).1]
  exact ⟨rfl, rfl⟩

theorem Alm.copy_upd {a b : Alm} {i : Nat} {f : SmCopy → SmCopy} (hi : i < a.sm.length) (h : b.sm = upd a.sm i f) : b.copy i = f (a.copy i) := by
  rw [Alm.copy, h]
  exact upd_getD_same _ _ _ _ hi

/-! ## A faulty memory (R192) -/

/-- A full resilvering that begins. -/
theorem Dev.beginResilver_leaves (d : Dev) {i : Nat} (hi : i < d.alm.sm.length) :
    (d.beginResilver i true none).svc = d.svc ∧ ((d.beginResilver i true none).alm.copy i).valid = false ∧
      (i, true, none) ∈ (d.beginResilver i true none).alm.resil := by
  unfold Dev.beginResilver
  rw [Dev.alm_serviceEvent, (Dev.tells_serviceEvent _ _ _).svc]
  exact ⟨rfl, congrArg SmCopy.valid (upd_getD_same _ _ _ _ hi), List.mem_append_right _ (List.mem_singleton_self _)⟩

/-- A memory that fails is recorded; its copy is not valid, and is resilvered where the other is valid. -/
theorem Dev.smFault_leaves {d : Dev} {i : Nat} (hi : i < 2) (hlen : i < d.alm.sm.length) (hvalid : (d.alm.copy i).valid = true)
    (hresil : ∀ r ∈ d.alm.resil, r.1 ≠ i) : ∃ c e : Dev, d.svc.nextRec = c.svc.nextRec ∧ c.Logs e 6 0x05 0x01 (i + 1) ∧
      (d.smFault i).svc = e.svc ∧ ((d.smFault i).alm.copy i).valid = false ∧
      ((d.alm.copy (1 - i)).valid = true → d.alm.sm.length = 2 → (i, true, none) ∈ (d.smFault i).alm.resil) := by
  have hnone : d.alm.resil.any (fun r => r.1 == i) = false := by simpa using hresil
  have hseq : d.smSeq.2.svc = d.svc ∧ d.smSeq.2.alm = d.alm := by
    unfold Dev.smSeq
    split <;> exact ⟨rfl, rfl⟩
  have hlogs := d.smSeq.2.logs_episode 6 0x05 0x01 (i + 1) 0 d.smSeq.1
  have halm := hlogs.keeps Dev.alm (fun _ _ _ => rfl)
  unfold Dev.smFault
  simp only [hnone, hvalid, Bool.not_true, Bool.false_eq_true, if_false]
  generalize d.smSeq.2.episode (fun e => e.logFault 6 5 1 (i + 1) 0 d.smSeq.1) = e at hlogs halm ⊢
  rw [hseq.2] at halm
  have hsm : ((e.setCopy i (fun c => { c with valid := false })).setAlm (fun a => { a with primary := a.pickPrimary })).alm.sm =
      upd d.alm.sm i (fun c => { c with valid := false }) := congrArg (fun a : Alm => upd a.sm i (fun c => { c with valid := false })) halm
  have hsvc : ((e.setCopy i (fun c => { c with valid := false })).setAlm (fun a => { a with primary := a.pickPrimary })).svc = e.svc := rfl
  generalize (e.setCopy i (fun c => { c with valid := false })).setAlm (fun a => { a with primary := a.pickPrimary }) = f at hsm hsvc ⊢
  refine ⟨_, e, congrArg Svc.nextRec hseq.1.symm, hlogs, ?_⟩
  cases hany : f.alm.anyValid
  · refine ⟨hsvc, (congrArg SmCopy.valid (Alm.copy_upd hlen hsm) :), fun hother htwo => ?_⟩
    have hne : i ≠ 1 - i := by omega
    have hkept : (f.alm.copy (1 - i)) = d.alm.copy (1 - i) := by
      rw [Alm.copy, hsm]
      exact upd_getD_ne _ _ _ _ _ hne
    have hmem : f.alm.copy (1 - i) ∈ f.alm.sm := by
      have hlt : 1 - i < f.alm.sm.length := by rw [hsm, upd_length]; omega
      rw [Alm.copy, List.getD_eq_getElem _ _ hlt]
      exact List.getElem_mem hlt
    have hall := List.any_eq_false.mp hany _ hmem
    rw [hkept, hother] at hall
    exact absurd rfl hall
  · simp only [if_true]
    have hbegin := f.beginResilver_leaves (i := i) (by rw [hsm, upd_length]; exact hlen)
    exact ⟨hbegin.1.trans hsvc, hbegin.2.1, fun _ _ => hbegin.2.2⟩

end Sys2Proof.Machine
end

section
/-! The obligation of the Almanac at work (R120, R181, R182, R187, R189, R192). -/

namespace Sys2Proof.Ports

open Sys2Proof.Machine

/-- Settles O40: groups, compactions, catch-ups and faults of a memory leave the copies as chapter 7 gives. -/
theorem almanacRows : Obligations.AlmanacRows := by
  intro s hheld
  dsimp only
  refine ⟨fun o os key data hops hkind ⟨hcompacting, hrestarting, hvalid, hclean⟩ hroom => ?_,
    fun b bs hbacklog hfree ⟨hcompacting, hrestarting, hvalid, hclean⟩ hroom => ?_, fun w hcompacting hcmd hw => ?_,
    fun i ok fram n w hi hresil => ?_, fun i hi hlen hvalid hresil => ?_⟩
  · have hrow := Dev.groupCommit_write hops hkind hcompacting hrestarting hvalid hclean hroom
    generalize hg : [({ type := 1, key := key, seq := s.dev.alm.seq, len := data.length, body := .user data } : Rec),
      commitRec (s.dev.alm.seq + 1) 1 0] = g at hrow ⊢
    have hseq : g.length = 2 := hg ▸ rfl
    have hset : s.dev.Keeps (s.dev.setAlm (fun a => Alm.append { a with ops := os } g)) := s.dev.keeps_setAlm _
    have hset_alm : (s.dev.setAlm (fun a => Alm.append { a with ops := os } g)).alm = Alm.append { s.dev.alm with ops := os } g := rfl
    generalize s.dev.setAlm (fun a => Alm.append { a with ops := os } g) = d at hrow hset hset_alm
    obtain ⟨hend, halm, htold⟩ := d.almEnd_leaves o []
    obtain ⟨c, hcheck⟩ := (d.almEnd o stDone [] 0).alm_checkCompact
    have hkeeps := (d.almEnd o stDone [] 0).keeps_checkCompact
    have hresume := (hset.trans (hend.trans hkeeps)).toRuns.resume hheld
    have hfinal : (d.almEnd o stDone [] 0).checkCompact.resume.alm = { Alm.append { s.dev.alm with ops := os } g with compacting := c } := by
      rw [hresume, Dev.alm_udpOut, hcheck, halm, hset_alm]
    obtain ⟨hlength, hcopies⟩ := Alm.append_grows { s.dev.alm with ops := os } g
    have hcompleted (w : Waiting) (hw : o.cmd = some w) (hrecov : w.recov = false) :
        s.completed (s.withDev (d.almEnd o stDone [] 0).checkCompact.resume) w 0x0000 := by
      obtain ⟨e, he, heq⟩ := htold w hw
      exact State.completed_of_resume (st := stDone) (b := []) (hset.trans he).toRuns hheld hrecov (by rw [← heq]; exact hkeeps)
    have hrun := State.run_withDev (f := fun d => d.groupCommit.resume) (congrArg Dev.resume hrow)
    generalize (d.almEnd o stDone [] 0).checkCompact.resume = r at hfinal hcompleted hrun
    refine ⟨_, hrun, (congrArg Alm.ops hfinal :), ⟨(congrArg (fun a : Alm => a.sm.length) hfinal).trans hlength, fun i hi => ?_⟩, ?_, hcompleted⟩
    · exact (congrArg (fun a : Alm => (a.copy i).journal) hfinal).trans (hcopies i hi)
    · exact (congrArg Alm.nextSeq hfinal).trans (congrArg (s.dev.alm.seq + ·) hseq)
  · have hrow := Dev.journalling_writes hbacklog hfree hcompacting hrestarting hvalid hclean hroom
    generalize [({ type := 3, key := b.1, seq := s.dev.alm.seq, len := Config.workingLen b.1 } : Rec), commitRec (s.dev.alm.seq + 1) 1 0] = g
      at hrow ⊢
    have hset : s.dev.Keeps ((s.dev.setAlm (fun a => a.append g)).setVerind (fun v => { v with backlog := bs })) := .of_body rfl
    have halm : ((s.dev.setAlm (fun a => a.append g)).setVerind (fun v => { v with backlog := bs })).alm = s.dev.alm.append g := rfl
    have hlog : ((s.dev.setAlm (fun a => a.append g)).setVerind (fun v => { v with backlog := bs })).verind.backlog = bs := rfl
    generalize (s.dev.setAlm (fun a => a.append g)).setVerind (fun v => { v with backlog := bs }) = d at hrow hset halm hlog
    obtain ⟨hown, hverind⟩ := d.ownWrites_leaves
    obtain ⟨c, hcheck⟩ := d.ownWrites.alm_checkCompact
    have hresume := (hset.trans (d.keeps_ownWrites.trans d.ownWrites.keeps_checkCompact)).toRuns.resume hheld
    have hfinal : d.ownWrites.checkCompact.resume.alm = { s.dev.alm.append g with compacting := c } := by
      rw [hresume, Dev.alm_udpOut, hcheck, hown, halm]
    have hbacklog' : d.ownWrites.checkCompact.resume.verind.backlog = bs := by
      rw [hresume, Dev.backlog_udpOut, Dev.verind_checkCompact, hverind, hlog]
    have hrun := State.run_withDev (f := fun d => d.journalling.resume) (congrArg Dev.resume hrow)
    generalize d.ownWrites.checkCompact.resume = r at hfinal hbacklog' hrun
    obtain ⟨hlength, hcopies⟩ := s.dev.alm.append_grows g
    exact ⟨_, hrun, hbacklog', (congrArg (fun a : Alm => a.sm.length) hfinal).trans hlength,
      fun i hi => (congrArg (fun a : Alm => (a.copy i).journal) hfinal).trans (hcopies i hi)⟩
  · obtain ⟨c, b, hc, hrow, halm⟩ := Dev.compactionDone_leaves hcompacting hcmd
    have htold : s.completed (s.withDev (c.complete w stDone b).resume) w 0x0000 :=
      State.completed_of_resume (st := stDone) hc.toRuns hheld hw (.refl _)
    have hresume := (hc.trans (c.keeps_complete w stDone b)).toRuns.resume hheld
    have hfinal : (c.complete w stDone b).resume.alm = c.alm := by rw [hresume, Dev.alm_udpOut, (c.tells_complete _ _ _).alm]
    have hrun := State.run_withDev (f := fun d => d.compactionDone.resume) (congrArg Dev.resume hrow)
    generalize (c.complete w stDone b).resume = r at hfinal htold hrun
    rw [halm] at hfinal
    refine ⟨_, hrun, (congrArg Alm.compacting hfinal :), (congrArg Alm.nextSeq hfinal :), htold, fun i hi => ?_⟩
    have hcopy : r.alm.copy i = if (s.dev.alm.copy i).valid then (s.dev.alm.copy i).compacted s.dev.alm.seq else s.dev.alm.copy i :=
      (congrArg (fun a : Alm => a.copy i) hfinal).trans (Alm.copy_map hi)
    refine ⟨fun hv => ?_, fun hv => ?_⟩
    · have hcopy' : r.alm.copy i = (s.dev.alm.copy i).compacted s.dev.alm.seq := by rw [hcopy, hv]; rfl
      exact ⟨(congrArg SmCopy.journal hcopy' :), (congrArg SmCopy.agen hcopy' :), (congrArg SmCopy.active hcopy' :)⟩
    · have hcopy' : r.alm.copy i = s.dev.alm.copy i := by rw [hcopy, hv]; rfl
      exact hcopy'
  · have hrow : Dev.resilverRow i ok fram n s.dev = (s.dev.resilverEnd ok i).resume := by simp [Dev.resilverRow, hresil]
    have hkept (r) (hr : r ∈ s.dev.alm.resil.filter (fun r => r.1 != i)) : r.1 ≠ i := by simpa using (List.mem_filter.mp hr).2
    cases ok
    · obtain ⟨hkeeps, halm⟩ := Dev.resilverEnd_fails hresil
      have hfinal : (s.dev.resilverEnd false i).resume.alm = (s.dev.resilverEnd false i).alm := by
        rw [hkeeps.toRuns.resume hheld, Dev.alm_udpOut]
      rw [halm] at hfinal
      have hrun := State.run_withDev hrow
      generalize (s.dev.resilverEnd false i).resume = r at hfinal hrun
      have hres : r.alm.resil = s.dev.alm.resil.filter (fun r => r.1 != i) := (congrArg Alm.resil hfinal :)
      exact ⟨_, hrun, fun x hx => hkept x (hres ▸ hx), by simp, fun _ => (congrArg (fun a : Alm => a.copy i) hfinal :)⟩
    · obtain ⟨hkeeps, hres, hsm⟩ := Dev.resilverEnd_catchesUp hresil
      have hfinal : (s.dev.resilverEnd true i).resume.alm = (s.dev.resilverEnd true i).alm := by rw [hkeeps.toRuns.resume hheld, Dev.alm_udpOut]
      have hrun := State.run_withDev hrow
      generalize (s.dev.resilverEnd true i).resume = r at hfinal hrun
      rw [← hfinal] at hres hsm
      have hcopy := Alm.copy_upd hi hsm
      refine ⟨_, hrun, fun x hx => hkept x ?_, fun _ => ⟨(congrArg SmCopy.valid hcopy :), (congrArg SmCopy.journal hcopy :)⟩, by simp⟩
      rw [← hres]
      exact hx
  · obtain ⟨c, e, hnum, hlogs, hsvc, hnot, hfull⟩ := Dev.smFault_leaves hi hlen hvalid hresil
    have hrow : (if 1 < i then s.dev else s.dev.smFault i) = s.dev.smFault i := if_neg (by omega)
    have hrun := State.run_withDev (f := fun d => if 1 < i then d else d.smFault i) hrow
    obtain ⟨r, hr, hsays⟩ := State.logged_of_logs hlogs hnum.symm
    generalize s.dev.smFault i = t at hsvc hnot hfull hrun
    exact ⟨_, hrun, hnot, ⟨r, (congrArg Svc.log hsvc).symm ▸ hr, hsays⟩, hfull⟩

end Sys2Proof.Ports
end

section
/-! SUPPORT. What the Orrery tells and what it leaves (R432, R439, R442 to R450, R458 to R461). -/

namespace Sys2Proof.Machine

theorem Dev.Tells.orr {d e : Dev} (h : d.Tells e) : e.orr = d.orr := by
  obtain ⟨n, rfl, -⟩ := h
  rfl

theorem Dev.Signals.orr {d e : Dev} (h : d.Signals e) : e.orr = d.orr := by
  obtain ⟨n, ts, is, es, rfl, -⟩ := h
  rfl

theorem Dev.freeSlots_ne {d : Dev} : d.verind.freeSlots ≠ 0 ↔ d.verind.events.length + d.verind.outstanding < 256 := by
  simp only [Verind.freeSlots]
  omega

/-- An event that has a slot is told, whatever is told after it. -/
theorem Dev.emit_told {c d e : Dev} {op fid : Nat} {b : List Byte} (hbefore : c.Remembers d) (hslot : d.verind.freeSlots ≠ 0)
    (hrestart : d.cmp.restarting = false) (hafter : (d.emit op fid b).Remembers e) :
    ∃ x ∈ e.verind.events.drop c.verind.events.length, x.op = op ∧ x.fid = fid ∧ x.body = b := by
  rw [Packets.emit_queues op fid b hrestart (Dev.freeSlots_ne.mp hslot)] at hafter
  obtain ⟨x, hx, hkey⟩ := mem_drop_of_prefix hbefore.1 (d.pushEvent_key op fid b false ▸ hafter.1)
  simp only [Ev.key, Prod.mk.injEq] at hkey
  exact ⟨x, hx, hkey.2⟩

/-- An event takes one slot at most. -/
theorem Dev.freeSlots_emit (d : Dev) (op fid : Nat) (b : List Byte) : d.verind.freeSlots ≤ (d.emit op fid b).verind.freeSlots + 1 := by
  unfold Dev.emit
  split
  · exact Nat.le_succ _
  · split
    · exact Nat.le_succ _
    · have hlength : (d.pushEvent op fid b false).verind.events.length = d.verind.events.length + 1 := by
        simpa using congrArg List.length (d.pushEvent_key op fid b false)
      have houtstanding : (d.pushEvent op fid b false).verind.outstanding = d.verind.outstanding := by
        unfold Dev.pushEvent Dev.present
        dsimp only
        split <;> rfl
      simp only [Verind.freeSlots, hlength, houtstanding]
      omega

/-! ## Events of the Orrery -/

theorem Dev.tells_timeEvent (d : Dev) (kind : Nat) : d.Tells (d.timeEvent kind) := d.tells_emit ..

/-- A time event says its kind first. -/
theorem Dev.timeEvent_told {c d e : Dev} {kind : Nat} (hkind : kind < 256) (hbefore : c.Remembers d) (hslot : d.verind.freeSlots ≠ 0)
    (hrestart : d.cmp.restarting = false) (hafter : (d.timeEvent kind).Remembers e) :
    ∃ x ∈ e.verind.events.drop c.verind.events.length, x.op = 0xF005 ∧ x.fid = 0x0600 ∧ byteAt x.body 0 = kind := by
  obtain ⟨x, hx, hop, hfid, hbody⟩ := Dev.emit_told hbefore hslot hrestart hafter
  refine ⟨x, hx, hop, hfid, ?_⟩
  rw [hbody]
  simp [byteAt, leb, Nat.mod_eq_of_lt hkind]

theorem Dev.tells_setQuality (d : Dev) (q : Nat) : (d.setOrr (fun o => { o with quality := q })).Tells (d.setQuality q) := by
  unfold Dev.setQuality
  split
  next h =>
    obtain rfl : d.orr.quality = q := by simpa using h
    exact .refl d
  next => exact Dev.tells_timeEvent _ 2

theorem Dev.freeSlots_timeEvent (d : Dev) (kind : Nat) : d.verind.freeSlots ≤ (d.timeEvent kind).verind.freeSlots + 1 := d.freeSlots_emit _ _ _

theorem Dev.freeSlots_setQuality (d : Dev) (q : Nat) : d.verind.freeSlots ≤ (d.setQuality q).verind.freeSlots + 1 := by
  unfold Dev.setQuality
  split
  · exact Nat.le_succ _
  · exact (d.setOrr (fun o => { o with quality := q })).freeSlots_timeEvent 2

theorem Dev.tells_leaveOcc (d : Dev) : (d.setOrr (fun o => { o with occ := false })).Tells d.leaveOcc := by
  unfold Dev.leaveOcc
  split
  next => exact Dev.tells_timeEvent _ 5
  next h =>
    have hocc : d.orr.occ = false := by simpa using h
    have hsame : d.setOrr (fun o => { o with occ := false }) = d := by rw [Dev.setOrr, ← hocc]
    exact hsame ▸ .refl d

theorem Dev.orr_setQuality (d : Dev) (q : Nat) : (d.setQuality q).orr = { d.orr with quality := q } := (d.tells_setQuality q).orr
theorem Dev.orr_leaveOcc (d : Dev) : d.leaveOcc.orr = { d.orr with occ := false } := d.tells_leaveOcc.orr
theorem Dev.orr_timeEvent (d : Dev) (kind : Nat) : (d.timeEvent kind).orr = d.orr := (d.tells_timeEvent kind).orr

/-! ## Loss of a master, holdover and steps -/

theorem Dev.toHoldover_setQuality (d : Dev) : ∃ q, d.toHoldover = d.setQuality q := by
  unfold Dev.toHoldover
  split
  · exact ⟨_, rfl⟩
  · exact ⟨d.orr.quality, by simp [Dev.setQuality]⟩

/-- A part that loses its master with two slots free is in occultation, and tells. -/
theorem Dev.enterOcc_leaves {d : Dev} (hocc : d.orr.occ = false) (hslots : 2 ≤ d.verind.freeSlots) (hrestart : d.cmp.restarting = false) :
    d.enterOcc.tick = d.tick ∧ d.enterOcc.orr.master = d.orr.master ∧ d.enterOcc.orr.occ = true ∧
      ∃ x ∈ d.enterOcc.verind.events.drop d.verind.events.length, x.op = 0xF005 ∧ x.fid = 0x0600 ∧ byteAt x.body 0 = 4 := by
  let c := ((d.endSlew).acquire3).setOrr (fun o => { o with occ := true })
  obtain ⟨q, hq⟩ := c.toHoldover_setQuality
  have hrow : d.enterOcc = (c.setQuality q).timeEvent 4 := by
    unfold Dev.enterOcc
    rw [if_neg (by simp [hocc])]
    exact congrArg (fun e => Dev.timeEvent e 4) hq
  have hbefore : d.Keeps c := .of_body rfl
  have hfree : c.verind.freeSlots = d.verind.freeSlots := rfl
  have horr : c.orr.master = d.orr.master ∧ c.orr.occ = true := ⟨rfl, rfl⟩
  clear_value c
  rw [hrow]
  have hleft := c.freeSlots_setQuality q
  have hall := hbefore.trans (c.keeps_setQuality q)
  have horr' := c.orr_setQuality q
  generalize c.setQuality q = e at *
  refine ⟨(e.tells_timeEvent 4).keeps.toRuns.tick.trans hall.toRuns.tick, ?_, ?_, Dev.timeEvent_told (by decide) hall.toRuns.tells (by omega)
    (hall.toRuns.restarting.trans hrestart) (.refl _)⟩
  · rw [Dev.orr_timeEvent, horr', horr.1]
  · rw [Dev.orr_timeEvent, horr', horr.2]

/-- A jump moves the epoch where it goes backward, and starts the servo's base anew. -/
theorem Dev.orr_jump (d : Dev) (corr : Int) : (d.jump corr).orr.step = d.orr.step ∧ (d.jump corr).orr.occ = d.orr.occ ∧
    (d.jump corr).orr.epoch = if corr < 0 then (d.orr.epoch + 1) % 65536 else d.orr.epoch := by
  unfold Dev.jump
  dsimp only
  split
  · rw [Dev.orr_timeEvent]
    exact ⟨rfl, rfl, rfl⟩
  · exact ⟨rfl, rfl, rfl⟩

theorem Dev.keeps_jump (d : Dev) (corr : Int) : d.Keeps (d.jump corr) :=
  .ite ((Dev.keeps_timeEvent _ 1).after (.of_body rfl)) (.of_body rfl)

theorem Dev.keeps_leaveOcc (d : Dev) : d.Keeps d.leaveOcc := .ite ((Dev.keeps_timeEvent _ 5).after (.of_body rfl)) (.refl d)

theorem Dev.signals_fire (d : Dev) (p n flags : Nat) : d.Signals (d.fire p n flags) :=
  (d.signals_setPorts p _).trans (Dev.signals_raiseLocal _ _ _)

theorem Dev.signals_timersAtStep (d : Dev) (forward : Bool) : d.Signals (d.timersAtStep forward) := by
  refine foldl_relates Dev.Signals.refl Dev.Signals.trans (fun d p => ?_) _ d
  split
  · exact .refl d
  · refine foldl_relates Dev.Signals.refl Dev.Signals.trans (fun d n => ?_) _ d
    dsimp only
    split
    · exact .refl d
    · split
      · exact d.signals_fire p n 2
      · split
        exacts [d.signals_fire p n 4, .refl d]

/-- The compares that a step ends are told to their engines alone. -/
theorem Dev.stepInstantEffect_signals {d : Dev} (hstep : d.orr.step.isSome) : d.applyStep.Signals d.stepInstantEffect := by
  unfold Dev.stepInstantEffect
  rw [if_neg (by simpa using Option.isSome_iff_ne_none.mp hstep)]
  dsimp only
  split
  · exact Dev.signals_timersAtStep _ _
  · split
    exacts [Dev.signals_timersAtStep _ _, .refl _]

/-- A step without a target takes effect at its instant. -/
theorem Dev.applyStep_leaves {d : Dev} {p : StepPend} (hstep : d.orr.step = some p) (htarget : p.target = none) :
    (d.advanceTo p.at_).Keeps d.applyStep ∧ d.applyStep.orr.step = none ∧
      d.applyStep.orr.epoch = if p.corr < 0 then (d.orr.epoch + 1) % 65536 else d.orr.epoch := by
  let c := (d.advanceTo p.at_).setOrr (fun o => { o.rebase (max d.tick p.at_) with step := none })
  have hrow : d.applyStep = (c.jump p.corr).leaveOcc := by simp only [Dev.applyStep, hstep, htarget, c]
  have hbefore : (d.advanceTo p.at_).Keeps c := Dev.keeps_setOrr _ _
  have horr : c.orr.step = none ∧ c.orr.epoch = d.orr.epoch := ⟨rfl, rfl⟩
  clear_value c
  obtain ⟨hnone, -, hepoch⟩ := c.orr_jump p.corr
  rw [hrow, Dev.orr_leaveOcc]
  exact ⟨(Dev.keeps_leaveOcc _).after ((c.keeps_jump p.corr).after hbefore), hnone.trans horr.1, by rw [hepoch, horr.2]⟩

/-- STEP_INSTANT of a step without a target, with no alarm armed. -/
theorem Dev.stepRow_leaves {d : Dev} {p : StepPend} (hstep : d.orr.step = some p) (htarget : p.target = none) (halarm : d.pwr.alarm = none) :
    d.stepRow.tick = max d.tick p.at_ ∧ d.stepRow.orr.step = none ∧
      d.stepRow.orr.epoch = if p.corr < 0 then (d.orr.epoch + 1) % 65536 else d.orr.epoch := by
  have hsome : d.orr.step.isSome := by rw [hstep]; rfl
  obtain ⟨hkeeps, hnone, hepoch⟩ := Dev.applyStep_leaves hstep htarget
  have hsignals := Dev.stepInstantEffect_signals hsome
  have hall := hsignals.keeps.after hkeeps
  have hrow : d.stepRow = d.stepInstantEffect := by
    rw [Dev.stepRow, if_pos hsome, Dev.alarmAtStep, show d.stepInstantEffect.pwr.alarm = none from (congrArg Pwr.alarm hall.toRuns.pwr).trans halarm]
  rw [hrow, hsignals.orr]
  exact ⟨hall.toRuns.tick, hnone, hepoch⟩

/-! ## The walk of P (R445) -/

theorem disc_zero (rate : Int) : disc rate 0 = 0 := by simp [disc]

/-- At its base, Orrery time has not advanced. -/
theorem Orr.advance_base (o : Orr) : o.advance o.at_ = 0 := by
  simp [Orr.advance, disc_zero]

theorem Orr.nsAt_base (o : Orr) : o.nsAt o.at_ = o.ns := by simp [Orr.nsAt, Orr.advance_base]

theorem Orr.pOf_base {o : Orr} (h : o.pAt = o.at_) : o.pOf o.at_ = o.pns := by
  unfold Orr.pOf
  split
  · simp [Orr.advance_base]
  · simp [h, disc_zero]

/-- The gap lies within half a second, and P and the gap make Orrery time modulo one second. -/
theorem Orr.gap_spec (o : Orr) (t : Nat) : -500000000 < o.gap t ∧
    (Int.ofNat (o.nsAt t) - (Int.ofNat (o.pOf t) + o.gap t)) % 1000000000 = 0 := by
  unfold Orr.gap
  dsimp only
  split <;> omega

theorem Orr.gap_of_mod {o : Orr} {t : Nat} (h : (Int.ofNat (o.nsAt t) - Int.ofNat (o.pOf t)) % 1000000000 = 0) : o.gap t = 0 := by
  unfold Orr.gap
  rw [h]
  rfl

/-- P that has closed its gap stands at Orrery time. -/
theorem Orr.gap_closed {o : Orr} {t : Nat} (ht : o.at_ = t) (hbase : o.pAt = o.at_) (hpns : 500000000 ≤ o.pns) :
    ({ o with walk := 0, pns := (Int.ofNat o.pns + o.gap t).toNat } : Orr).gap o.at_ = 0 := by
  subst ht
  obtain ⟨hlow, hmod⟩ := o.gap_spec o.at_
  generalize o.gap o.at_ = g at *
  rw [Orr.nsAt_base, Orr.pOf_base hbase] at hmod
  refine Orr.gap_of_mod ?_
  have hns := Orr.nsAt_base { o with walk := 0, pns := (Int.ofNat o.pns + g).toNat }
  have hp := Orr.pOf_base (o := { o with walk := 0, pns := (Int.ofNat o.pns + g).toNat }) hbase
  dsimp only at hns hp
  rw [hns, hp]
  simp only [Int.ofNat_eq_natCast] at hmod ⊢
  omega

/-- P never runs back in a walk. -/
theorem Orr.pns_rebase_le {o : Orr} (hwalk : o.walk ≠ 0) (t : Nat) : o.pns ≤ (o.rebase t).pns := by
  simp [Orr.rebase, Orr.pOf, hwalk]

/-- A walk that stops leaves P at Orrery time. -/
theorem Dev.walkStop_leaves {d : Dev} (hwalk : d.orr.walk ≠ 0) (hpns : 1000000000 ≤ (d.orr.rebase d.tick).pns) :
    d.walkStop.orr.walk = 0 ∧ d.walkStop.orr.gap d.walkStop.orr.at_ = 0 := by
  unfold Dev.walkStop
  extract_lets o g dt t after
  have hmoves : o.walk ≠ 0 := hwalk
  have ht : after.at_ = t := Nat.max_eq_left (Nat.le_add_right _ _)
  have hfar : 500000000 ≤ after.pns := le_trans (by decide) (le_trans hpns (Orr.pns_rebase_le hmoves t))
  rw [if_neg (by simpa using hmoves)]
  exact ⟨rfl, Orr.gap_closed ht rfl hfar⟩

/-! ## Event inputs (R449, R450) -/

theorem Dev.evs_setEv {d : Dev} {i : Nat} (hi : i < d.orr.evs.length) (f : EvIn → EvIn) : (d.setEv i f).orr.evs.getD i {} = f (d.orr.evs.getD i {}) :=
  upd_getD_same _ i f {} hi

theorem Dev.length_setEv (d : Dev) (i : Nat) (f : EvIn → EvIn) : (d.setEv i f).orr.evs.length = d.orr.evs.length := upd_length _ i f

theorem Dev.orr_ringPut (d : Dev) (r : Nat) (o : Owner) (src inst : Nat) (data : List Byte) : (d.ringPut r o src inst data).2.orr = d.orr :=
  (congrArg Dev.orr (d.besideFrames_ringPut r o src inst data) :)

/-- An edge less than 1 µs after the last counts in MISS. -/
theorem Dev.eventCapture_near {d : Dev} {i v : Nat} {rising : Bool} (hup : d.islandUp 0x03 = true)
    (hsel : (if rising then bit (d.cfg.time.capture.getD i {}).edge 0 else bit (d.cfg.time.capture.getD i {}).edge 1) = true)
    (hlast : (d.orr.evs.getD i {}).last = some v) (hnear : d.tick < v + 1000) :
    d.eventCapture i rising = d.setEv i (fun e => { e with miss := min 255 (e.miss + 1) }) := by
  simp only [Dev.eventCapture, hup, hsel, hlast, hnear, decide_true, Bool.not_true, Bool.or_self, Bool.false_eq_true, if_false, if_true]

/-- What an edge at an event input shows to the engines leaves the Orrery alone. -/
theorem Dev.eventEdge_orr (d : Dev) (i : Nat) (rising : Bool) : (d.eventEdge i rising).orr = (d.eventCapture i rising).orr := by
  unfold Dev.eventEdge
  extract_lets c sel e
  split
  · exact Dev.Signals.orr (foldl_relates Dev.Signals.refl Dev.Signals.trans (fun d p => d.signals_capture p _) _ e)
  · rfl

/-- No edge of the last microsecond stands before this one. -/
def EvIn.far (e : EvIn) (tick : Nat) : Prop := ∀ v, e.last = some v → v + 1000 ≤ tick

/-- A later edge is captured, where its ring takes it. -/
theorem Dev.eventCapture_far {d : Dev} {i : Nat} {rising : Bool} (hup : d.islandUp 0x03 = true)
    (hsel : (if rising then bit (d.cfg.time.capture.getD i {}).edge 0 else bit (d.cfg.time.capture.getD i {}).edge 1) = true)
    (hfar : (d.orr.evs.getD i {}).far d.tick) :
    let c := d.cfg.time.capture.getD i {}
    let e := d.setEv i (fun e => { e with last := some d.tick })
    let put := e.ringPut c.ring (.island 0x03) 3 i (captureData i (d.orr.evs.getD i {}).miss rising d.timeNow)
    d.eventCapture i rising =
      if !(d.isOn (ringFid c.ring)) || (d.ringCfg c.ring).dir != 1 then e.setEv i (fun e => { e with miss := min 255 (e.miss + 1) })
      else if put.1 then put.2.setEv i (fun e => { e with miss := 0 }) else put.2 := by
  intro c e put
  unfold Dev.eventCapture
  extract_lets ev near
  have hnear : near = false := by
    dsimp only [near]
    split
    next v hv => simpa using hfar v hv
    next => rfl
  have htaken : (!d.islandUp 0x03 || !(if rising then bit c.edge 0 else bit c.edge 1)) = false := by rw [hup, hsel]; rfl
  rw [if_neg (by rw [htaken]; decide), if_neg (by rw [hnear]; decide)]
  rfl

/-! ## PTP messages (R439, R454, R455, R458, R459) -/

theorem Dev.orr_injectTo (d : Dev) (m cls : Nat) (bytes : List Byte) : (d.injectTo m cls bytes).2.orr = d.orr := by
  unfold Dev.injectTo
  extract_lets p id rx e
  split
  · rfl
  · exact (congrArg Dev.orr (e.besideFrames_frameIn 7 rx bytes false) :)

theorem Dev.orr_ptpSend (d : Dev) (m : Nat) (event peer : Bool) (msg : List Byte) : (d.ptpSend m event peer msg).orr = d.orr := by
  unfold Dev.ptpSend
  extract_lets eth
  split
  · split
    · rfl
    · exact d.orr_injectTo _ _ _
  · exact d.orr_injectTo _ _ _

/-- The next sequence number of a type moves on. -/
theorem Dev.ptpNext_again (d : Dev) (m ty : Nat) : ((d.ptpNext m ty).2.ptpNext m ty).1 = ((d.ptpNext m ty).1 + 1) % 65536 := by
  unfold Dev.ptpNext
  dsimp only [Dev.setOrr]
  rw [List.find?_append]
  have hnone : (d.orr.ptpSeq.filter (fun x => x.1 != m * 16 + ty)).find? (fun x => x.1 == m * 16 + ty) = none := by
    simp
  rw [hnone]
  simp

/-- The number of the next message is the Orrery's. -/
theorem Dev.ptpNext_congr {d e : Dev} (h : e.orr.ptpSeq = d.orr.ptpSeq) (m ty : Nat) : (e.ptpNext m ty).1 = (d.ptpNext m ty).1 := by
  simp only [Dev.ptpNext, h]

/-- A master port sends Sync under the next number; a part without a master is grandmaster from then on. -/
theorem Dev.ptpTransmit_sync {d : Dev} {m : Nat} (h : d.ptpMaster m = true) :
    ((d.ptpTransmit m .sync).ptpNext m 0).1 = ((d.ptpNext m 0).1 + 1) % 65536 ∧
      (d.orr.master = none → (d.ptpTransmit m .sync).orr.grand = true) := by
  unfold Dev.ptpTransmit
  extract_lets pf grand
  obtain ⟨e, he, hseq, hgrand⟩ : ∃ e, grand d = e ∧ e.orr.ptpSeq = d.orr.ptpSeq ∧ (d.orr.master = none → e.orr.grand = true) := by
    refine ⟨_, rfl, ?_⟩
    dsimp only [grand]
    split
    · exact ⟨rfl, fun _ => rfl⟩
    next hsome => exact ⟨rfl, fun hnone => absurd (by rw [hnone]; rfl) hsome⟩
  simp only [h, Bool.not_true, Bool.false_eq_true, if_false, he]
  rw [Dev.ptpNext_congr (congrArg Orr.ptpSeq (Dev.orr_ptpSend _ _ _ _ _)), Dev.ptpNext_again, Dev.ptpNext_congr hseq]
  exact ⟨rfl, fun hnone => (congrArg Orr.grand (Dev.orr_ptpSend _ _ _ _ _)).trans (hgrand hnone)⟩

/-- A message that is heard: of the profile and the domain, on a port of the time service. -/
def Dev.PtpHeard (d : Dev) (x : PtpRx) (h ty : Nat) : Prop :=
  d.ptpAt x.bytes 319 = some h ∧ d.ptpPort x.mac = true ∧ byteAt x.bytes (h + 4) = d.cfg.time.domain ∧ byteAt x.bytes (h + 1) % 16 = 2 ∧
    byteAt x.bytes h % 16 = ty

/-- An Announce that makes a master is followed. -/
theorem Dev.ptpReceived_announce {d : Dev} {x : PtpRx} {h ident : Nat} {ann syn : Int} (hheard : d.PtpHeard x h 11)
    (hchoice : x.choice = .master ident ann syn) (hsignal : x.signal = false) (hdelay : x.delay = none) (hoffset : x.offset = none)
    (htype : d.cfg.time.clockType ≠ 3) (hann : -3 ≤ ann) (hann' : ann ≤ 4) (hsyn : -7 ≤ syn) (hsyn' : syn ≤ 1) :
    ∃ (c : Dev) (announce : List Byte), c.tick = d.tick ∧
      d.ptpReceived x = c.follow { ident := ident, loss := max (3 * logNs ann) (3 * logNs syn), port := x.mac, announce := announce } := by
  obtain ⟨hat, hport, hdom, hver, hty⟩ := hheard
  unfold Dev.ptpReceived
  simp only [hat, hport, hdom, hver, hty, hsignal, hdelay, hoffset]
  simp [Dev.ptpAnswer, Dev.ptpChoose, hchoice, hty]
  rw [if_neg (by omega)]
  refine ⟨_, ?_, _, rfl⟩
  rfl

theorem Dev.follow_orr (d : Dev) (m : Master) :
    (d.follow m).orr.master = some m ∧ (d.follow m).orr.lastSignal = d.tick ∧ (d.follow m).orr.grand = false := by
  unfold Dev.follow
  extract_lets e same known f
  split
  · split <;> exact ⟨rfl, rfl, rfl⟩
  · rw [Dev.orr_timeEvent]
    exact ⟨rfl, rfl, rfl⟩

/-- A message that is no request is not answered. -/
theorem Dev.ptpAnswer_other {d : Dev} {m ago h : Nat} {b : List Byte} (h1 : byteAt b h % 16 ≠ 1) (h2 : byteAt b h % 16 ≠ 2) :
    d.ptpAnswer m ago h b = d := by
  simp [Dev.ptpAnswer, h1, h2]

/-- A Sync with a measurement is measured where a master is followed. -/
theorem Dev.ptpReceived_sync {d : Dev} {x : PtpRx} {h : Nat} {m : Master} {n : Int} (hheard : d.PtpHeard x h 0) (hchoice : x.choice = .keep)
    (hsignal : x.signal = true) (hdelay : x.delay = none) (hoffset : x.offset = some n) (hfew : ∀ y ∈ d.orr.syncs, y.1 ≠ x.mac)
    (hmaster : d.orr.master = some m) :
    ∃ syncs, d.ptpReceived x = (d.setOrr (fun o => { o with syncs := syncs, lastSignal := d.tick })).measure n false := by
  obtain ⟨hat, hport, hdom, hver, hty⟩ := hheard
  have hnone : (d.orr.syncs.filter (fun s => decide (d.tick < s.2 + secNs))).filter (fun s => s.1 == x.mac) = [] := by
    simp only [List.filter_eq_nil_iff, List.mem_filter, beq_iff_eq]
    exact fun y hy => hfew y hy.1
  have hanswer (c : Dev) : (c.ptpAnswer x.mac x.ago h x.bytes).ptpChoose x h = c := by
    rw [Dev.ptpAnswer_other (by omega) (by omega), Dev.ptpChoose, hchoice]
  refine ⟨d.orr.syncs.filter (fun s => decide (d.tick < s.2 + secNs)) ++ [(x.mac, d.tick)], ?_⟩
  unfold Dev.ptpReceived
  simp only [hat, hport, hdom, hver, hty, hsignal, hdelay, hoffset, hnone, hanswer]
  simp [Dev.setOrr, hmaster]

/-- The servo's slew leaves what the measurement and the master gave. -/
theorem Dev.slewOff_orr (d : Dev) (off : Int) : (d.slewOff off).orr.step = d.orr.step ∧ (d.slewOff off).orr.epoch = d.orr.epoch ∧
    (d.slewOff off).orr.lastAcc = d.orr.lastAcc ∧ (d.slewOff off).orr.lastOffset = d.orr.lastOffset ∧
    (d.slewOff off).orr.lastSignal = d.orr.lastSignal := by
  unfold Dev.slewOff
  dsimp only [Dev.setOrr]
  split <;> exact ⟨rfl, rfl, rfl, rfl, rfl⟩

/-- A measurement within the window corrects without a step. -/
theorem Dev.measure_within {d : Dev} {n : Int} (hstep : d.orr.step = none) (href : d.orr.refLost = false) (hready : d.orr.ready = true)
    (hwithin : n.natAbs ≤ d.cfg.time.slewWindow * 1000) (refBus : Bool) :
    (d.measure n refBus).orr.lastAcc = some d.tick ∧ (d.measure n refBus).orr.lastOffset = n ∧
      (d.measure n refBus).orr.lastSignal = d.orr.lastSignal ∧ (d.measure n refBus).orr.step = none ∧
      (d.measure n refBus).orr.occ = false ∧ (d.measure n refBus).orr.epoch = d.orr.epoch := by
  obtain ⟨c, q, hc, hrow⟩ : ∃ (c : Dev) (q : Nat), (c.orr.step = none ∧ c.orr.epoch = d.orr.epoch ∧ c.orr.lastAcc = some d.tick ∧
      c.orr.lastOffset = n ∧ c.orr.lastSignal = d.orr.lastSignal) ∧ d.measure n refBus = ((c.slewOff n).setQuality q).leaveOcc := by
    unfold Dev.measure
    rw [if_neg (by simp [hstep, href])]
    extract_lets c w
    rw [if_neg (by simpa [c, Dev.setOrr] using hready), if_pos (by simp [w, c, Dev.setOrr, hwithin])]
    unfold Dev.useOffset
    extract_lets offs c' locked q
    rw [if_pos (show n.natAbs ≤ c'.cfg.time.slewWindow * 1000 from hwithin)]
    exact ⟨c', q, ⟨hstep, rfl, rfl, rfl, rfl⟩, rfl⟩
  obtain ⟨hcstep, hcepoch, hcacc, hcoff, hcsignal⟩ := hc
  obtain ⟨hs, he, ha, ho, hl⟩ := c.slewOff_orr n
  rw [hrow, Dev.orr_leaveOcc, Dev.orr_setQuality]
  exact ⟨ha.trans hcacc, ho.trans hcoff, hl.trans hcsignal, hs.trans hcstep, rfl, he.trans hcepoch⟩

/-! ## Losses, decades and pulses -/

theorem Dev.lossExpiry_leaves {d : Dev} {m : Master} (hmaster : d.orr.master = some m) (hon : d.timeOn = true) (hocc : d.orr.occ = false)
    (hslots : 2 ≤ d.verind.freeSlots) (hrestart : d.cmp.restarting = false) :
    d.lossExpiry.tick = max d.tick (d.orr.lastSignal + m.loss) ∧ d.lossExpiry.orr.master = none ∧ d.lossExpiry.orr.occ = true ∧
      ∃ x ∈ d.lossExpiry.verind.events.drop d.verind.events.length, x.op = 0xF005 ∧ x.fid = 0x0600 ∧ byteAt x.body 0 = 4 := by
  have hrow : d.lossExpiry = ((d.advanceTo (d.orr.lastSignal + m.loss)).deselect).enterOcc := by simp [Dev.lossExpiry, hmaster, hon]
  rw [hrow]
  exact Dev.enterOcc_leaves (d := (d.advanceTo (d.orr.lastSignal + m.loss)).deselect) hocc hslots hrestart

theorem Dev.holdoverStep_leaves {d : Dev} {v : Nat} (hacc : d.orr.lastAcc = some v) (hlow : 0x30 ≤ d.orr.quality) (hhigh : d.orr.quality ≤ 0x34)
    (hslots : d.verind.freeSlots ≠ 0) (hrestart : d.cmp.restarting = false) :
    d.holdoverStep.tick = max d.tick (v + 10 ^ (d.orr.quality - 0x2F) * 1000000000) ∧ d.holdoverStep.orr.quality = d.orr.quality + 1 ∧
      ∃ x ∈ d.holdoverStep.verind.events.drop d.verind.events.length, x.op = 0xF005 ∧ x.fid = 0x0600 ∧ byteAt x.body 0 = 2 := by
  have hpower : d.orr.quality - 0x30 + 1 = d.orr.quality - 0x2F := by omega
  let c := (d.advanceTo (v + 10 ^ (d.orr.quality - 0x2F) * 1000000000)).setOrr (fun o => { o with quality := d.orr.quality + 1 })
  have hrow : d.holdoverStep = c.timeEvent 2 := by
    simp only [Dev.holdoverStep, hacc, hlow, hhigh, decide_true, Bool.and_true, if_true, hpower, Dev.setQuality]
    rw [if_neg (by simp [Dev.advanceTo])]
    rfl
  have htick : (c.timeEvent 2).tick = c.tick := (Dev.keeps_timeEvent c 2).toRuns.tick
  rw [hrow, Dev.orr_timeEvent]
  exact ⟨htick, rfl, Dev.timeEvent_told (d := c) (by decide) (.refl d) hslots hrestart (.refl _)⟩

theorem Dev.pulse_setPulse {d : Dev} {i : Nat} (hi : i < d.orr.pulses.length) (f : Pulse → Pulse) :
    (d.setPulse i f).orr.pulses.getD i {} = f (d.orr.pulses.getD i {}) := upd_getD_same _ i f {} hi

/-- The trailing edge of a pulse without a change that waits. -/
theorem Dev.pulseEdge_trailing {d : Dev} {i : Nat} (hi : i < d.orr.pulses.length) (hactive : (d.orr.pulses.getD i {}).active = true)
    (hnext : (d.orr.pulses.getD i {}).next = none) :
    (d.pulseEdge i).tick = max d.tick (d.orr.pReach ((d.orr.pulses.getD i {}).leadP + (d.orr.pulses.getD i {}).cfg.width)) ∧
      ((d.pulseEdge i).orr.pulses.getD i {}).active = false ∧
      ((d.pulseEdge i).orr.pulses.getD i {}).high = bit (d.orr.pulses.getD i {}).cfg.flags 1 := by
  unfold Dev.pulseEdge
  extract_lets p o
  rw [if_pos hactive, Dev.pulse_setPulse (d := d.advanceTo _) hi]
  refine ⟨rfl, rfl, ?_⟩
  simp only [Dev.advanceTo, hnext, Pulse.level, Bool.false_bne]

/-- The leading edge of a pulse without a change that waits. -/
theorem Dev.pulseEdge_leading {d : Dev} {i : Nat} (hi : i < d.orr.pulses.length) (hactive : (d.orr.pulses.getD i {}).active = false)
    (hnext : (d.orr.pulses.getD i {}).next = none) (hruns : d.pulsesRun = true) (hon : bit (d.orr.pulses.getD i {}).cfg.flags 0 = true) :
    let p := d.orr.pulses.getD i {}
    let v := pNext (d.orr.pOf d.tick + 1) p.cfg.phase p.cfg.period
    (d.pulseEdge i).tick = max d.tick (d.orr.pReach v) ∧
      ((d.pulseEdge i).orr.pulses.getD i {}).active = true ∧ ((d.pulseEdge i).orr.pulses.getD i {}).leadP = v ∧
      ((d.pulseEdge i).orr.pulses.getD i {}).high = !(bit p.cfg.flags 1) := by
  intro p v
  have hrow : d.pulseEdge i = (d.advanceTo (d.orr.pReach v)).setPulse i (fun q =>
      { q with cfg := p.cfg, next := none, active := true, leadP := v, high := true != bit p.cfg.flags 1 }) := by
    unfold Dev.pulseEdge
    simp only [hactive, hruns, hnext, PulseCfg.edge, hon]
    rfl
  rw [hrow, Dev.pulse_setPulse (d := d.advanceTo _) hi]
  exact ⟨rfl, rfl, rfl, Bool.true_bne _⟩

end Sys2Proof.Machine
end

section
/-! The obligation of the Orrery (R432, R439, R442 to R450, R454, R455, R458 to R461). -/

namespace Sys2Proof.Ports

open Sys2Proof.Machine

/-- Settles O51: each row of the Orrery moves it as chapter 17 gives. -/
theorem timeRows : Obligations.TimeRows := by
  intro s
  dsimp only
  refine ⟨fun x ident ann syn hheard hchoice hsignal hdelay hoffset htype hann hann' hsyn hsyn' => ?_,
    fun x m n hheard hchoice hsignal hdelay hoffset hfew hmaster hstep href hready hwithin => ?_, fun m hm => ?_,
    fun p hstep htarget hocc halarm => ?_, fun m hmaster hon hocc hslots hrestart => ?_, fun v hacc hlow hhigh hslots hrestart => ?_,
    fun hwalk hpns => ?_, fun i hi => ⟨fun hactive hnext => ?_, fun hactive hnext hruns hon => ?_⟩, fun i rising hi4 hi hup hsel => ?_⟩
  · obtain ⟨h, hheard⟩ := hheard
    obtain ⟨c, announce, htick, hrow⟩ := Dev.ptpReceived_announce hheard hchoice hsignal hdelay hoffset htype hann hann' hsyn hsyn'
    obtain ⟨hmaster, hlast, hgrand⟩ := c.follow_orr { ident := ident, loss := max (3 * logNs ann) (3 * logNs syn), port := x.mac, announce := announce }
    generalize c.follow _ = e at *
    have hfollowed : e.orr.master.map (fun m => (m.ident, m.loss, m.port)) = some (ident, max (3 * logNs ann) (3 * logNs syn), x.mac) := by
      rw [hmaster, Option.map_some]
    exact ⟨s.withDev e, State.run_withDev (f := Dev.ptpReceived x) hrow, hfollowed, hlast.trans htick, hgrand⟩
  · obtain ⟨h, hheard⟩ := hheard
    obtain ⟨syncs, hrow⟩ := Dev.ptpReceived_sync hheard hchoice hsignal hdelay hoffset hfew hmaster
    obtain ⟨e, he, horr, hcfg⟩ : ∃ e, e = s.dev.setOrr (fun o => { o with syncs := syncs, lastSignal := s.dev.tick }) ∧
        (e.orr.step = none ∧ e.orr.refLost = false ∧ e.orr.ready = true ∧ e.orr.lastSignal = s.dev.tick ∧ e.orr.epoch = s.dev.orr.epoch) ∧
        e.cfg = s.dev.cfg ∧ e.tick = s.dev.tick := ⟨_, rfl, ⟨hstep, href, hready, rfl, rfl⟩, rfl, rfl⟩
    obtain ⟨hnone, hpresent, hserves, hheld, hepoch⟩ := horr
    rw [← he] at hrow
    obtain ⟨hacc, hoff, hsig, hs, hocc, hep⟩ := Dev.measure_within hnone hpresent hserves (n := n) (by rw [hcfg.1]; exact hwithin) false
    rw [hcfg.2] at hacc
    generalize e.measure n false = f at *
    exact ⟨s.withDev f, State.run_withDev (f := Dev.ptpReceived x) hrow, hacc, hoff, hsig.trans hheld, hs, hocc, hep.trans hepoch⟩
  · exact ⟨_, State.run_withDev (f := Dev.ptpTransmit m .sync) rfl, Dev.ptpTransmit_sync hm⟩
  · exact ⟨_, State.run_withDev (f := Dev.stepRow) rfl, Dev.stepRow_leaves hstep htarget halarm⟩
  · exact ⟨_, State.run_withDev (f := Dev.lossExpiry) rfl, Dev.lossExpiry_leaves hmaster hon hocc hslots hrestart⟩
  · exact ⟨_, State.run_withDev (f := Dev.holdoverStep) rfl, Dev.holdoverStep_leaves hacc hlow hhigh hslots hrestart⟩
  · exact ⟨_, State.run_withDev (f := Dev.walkStop) rfl, Dev.walkStop_leaves hwalk hpns⟩
  · exact ⟨_, State.run_withDev (f := fun d => d.pulseEdge i) rfl, Dev.pulseEdge_trailing hi hactive hnext⟩
  · exact ⟨_, State.run_withDev (f := fun d => d.pulseEdge i) rfl, Dev.pulseEdge_leading hi hactive hnext hruns hon⟩
  · have hrow : execEventCapture i rising s = .next (s.withDev (s.dev.eventEdge i rising)) :=
      State.run_withDev (f := fun d => if 3 < i then d else d.eventEdge i rising) (if_neg (by omega))
    refine ⟨fun v hlast hnear => ⟨_, hrow, ?_⟩, fun hfar hoff => ⟨_, hrow, ?_⟩, fun hfar hon hdir hok => ⟨_, hrow, ?_⟩⟩
    · exact (congrArg (fun o : Orr => o.evs.getD i {}) (s.dev.eventEdge_orr i rising)).trans
        (by rw [Dev.eventCapture_near hup hsel hlast hnear, Dev.evs_setEv hi])
    · refine (congrArg (fun o : Orr => o.evs.getD i {}) (s.dev.eventEdge_orr i rising)).trans ?_
      rw [Dev.eventCapture_far hup hsel hfar, if_pos (by rw [hoff]; rfl), Dev.evs_setEv (by rw [Dev.length_setEv]; exact hi), Dev.evs_setEv hi]
    · refine (congrArg (fun o : Orr => o.evs.getD i {}) (s.dev.eventEdge_orr i rising)).trans ?_
      rw [Dev.eventCapture_far hup hsel hfar]
      have hlength := Dev.length_setEv s.dev i (fun e => { e with last := some s.dev.tick })
      have hlast := Dev.evs_setEv hi (fun e => { e with last := some s.dev.tick })
      generalize s.dev.setEv i _ = e at *
      rw [if_neg (by rw [hon, hdir]; decide), if_pos hok, Dev.evs_setEv (by rw [Dev.orr_ringPut, hlength]; exact hi), Dev.orr_ringPut, hlast]

end Sys2Proof.Ports
end

section
/-! SUPPORT. What the power states move (R503, R509 to R517, R520): an entry, a leave, a wake source and the alarm. -/

namespace Sys2Proof.Machine

/-! ## Entries and leaves -/

theorem Dev.islands_pwrTo (d : Dev) (st : Nat) : (d.pwrTo st).islands = d.islands := (congrArg Dev.islands (d.settled_pwrTo st) :)

/-- Another power state, and the time in it counts anew: the channels and what was told stay. -/
theorem Dev.pwrTo_leaves (d : Dev) (st : Nat) : (d.pwrTo st).tick = d.tick ∧ (d.pwrTo st).pwr.st = st ∧ (d.pwrTo st).verind = d.verind ∧
    (d.pwrTo st).cmp = d.cmp ∧ (d.pwrTo st).pwr.lastWake = d.pwr.lastWake := by
  unfold Dev.pwrTo Dev.accountPwr
  dsimp only
  split <;> exact ⟨rfl, rfl, rfl, rfl, rfl⟩

theorem Dev.enterState_leaves (d : Dev) (st : Nat) : (d.enterState st).pwr.st = st ∧ (2 ≤ st → (d.enterState st).islands =
    d.islands.map (fun i => if i.st == 2 || i.st == 3 then { i with st := napState st i.id } else i)) := by
  obtain ⟨-, hst, -⟩ := d.pwrTo_leaves st
  have hislands := d.islands_pwrTo st
  unfold Dev.enterState
  generalize d.pwrTo st = c at *
  extract_lets e f g
  split
  next hlt => exact ⟨hst, fun h => absurd hlt (Nat.not_lt.mpr h)⟩
  next =>
    have hasleep := forN_keeps (fun d : Dev => (d.pwr, d.islands)) (fun d n => if d.isOn (mbFid n) then
        d.setMb n (fun m => { m with asleep := true, errRun := 0, sleepBuf := [] }) else d) (fun d n => by split <;> rfl) 4 g
    obtain ⟨hpwr, his⟩ := Prod.mk.inj hasleep
    have hf : f.pwr = c.pwr ∧ f.islands = c.islands := by
      dsimp only [f]
      split <;> exact ⟨rfl, rfl⟩
    refine ⟨(congrArg Pwr.st (hpwr.trans hf.1)).trans hst, fun _ => his.trans ?_⟩
    exact congrArg _ (hf.2.trans hislands)

/-- A wake event outside HIBERNATE is an event for the host. -/
theorem Dev.sendWake_emits {d : Dev} {left : Nat} (hleft : left ≠ 4) (src result : Nat) : d.sendWake src left result =
    (d.setPwr (fun p => { p with lastWake := src })).emit 0xF007 0 (leb 1 src ++ leb 1 left ++ leb 2 result) := by
  simp [Dev.sendWake, hleft]

/-- A wake event outside HIBERNATE: what it leaves, and that it is told where a slot is free. -/
theorem Dev.sendWake_leaves {d : Dev} {left : Nat} (hleft : left ≠ 4) (src result : Nat) :
    (d.sendWake src left result).tick = d.tick ∧ (d.sendWake src left result).pwr = { d.pwr with lastWake := src } ∧
      d.Remembers (d.sendWake src left result) ∧
      (d.verind.freeSlots ≠ 0 → d.cmp.restarting = false → ∀ e : Dev, (d.sendWake src left result).Remembers e →
        ∃ x ∈ e.verind.events.drop d.verind.events.length, x.op = 0xF007 ∧ x.fid = 0 ∧ x.body = leb 1 src ++ leb 1 left ++ leb 2 result) := by
  rw [Dev.sendWake_emits hleft]
  have hruns := (Dev.keeps_emit (d.setPwr (fun p => { p with lastWake := src })) 0xF007 0 (leb 1 src ++ leb 1 left ++ leb 2 result)).toRuns
  exact ⟨hruns.tick, hruns.pwr, hruns.tells, fun hslot hrestart e hafter =>
    Dev.emit_told (d := d.setPwr (fun p => { p with lastWake := src })) (.refl d) hslot hrestart hafter⟩

/-- A leave of NAP or SLUMBER that begins takes no longer than the exit latency. -/
theorem Dev.beginLeave_leaves {d : Dev} (hst : d.pwr.st = 2 ∨ d.pwr.st = 3) (hleaving : d.pwr.leaving = none) :
    d.beginLeave.tick = d.tick ∧ d.beginLeave.verind = d.verind ∧ d.beginLeave.cmp = d.cmp ∧ d.beginLeave.pwr.lastWake = d.pwr.lastWake ∧
      d.beginLeave.pwr.alarm = d.pwr.alarm ∧
      ∃ v, d.beginLeave.pwr.leaving = some v ∧ d.tick ≤ v ∧ v ≤ d.tick + exitLatency d.pwr.st := by
  have hone : (d.pwr.st == 1) = false := by rcases hst with h | h <;> rw [h] <;> rfl
  have hsleeps : ((d.pwr.st == 2 || d.pwr.st == 3) && d.pwr.leaving.isNone) = true := by rcases hst with h | h <;> rw [h, hleaving] <;> rfl
  unfold Dev.beginLeave
  rw [hone, if_neg (by decide), if_pos hsleeps]
  refine ⟨rfl, rfl, rfl, rfl, rfl, _, rfl, Nat.le_add_right _ _, Nat.add_le_add_left ?_ _⟩
  exact Nat.le_of_lt_succ (Nat.mod_lt _ (Nat.succ_pos _))

/-- The channels, what was told and the start, where only the power state moves. -/
theorem Dev.remembers_of_verind {d e : Dev} (hverind : e.verind = d.verind) (hcmp : e.cmp = d.cmp) : d.Remembers e :=
  .of_events (by rw [hverind]) (by rw [hcmp])

/-- A source of Table 19.5 wakes a part in NAP or SLUMBER that is not leaving. -/
theorem Dev.wakeBy_leaves {d : Dev} (hst : d.pwr.st = 2 ∨ d.pwr.st = 3) (hleaving : d.pwr.leaving = none) (src : Nat) :
    (d.wakeBy src).tick = d.tick ∧ (d.wakeBy src).pwr.lastWake = src ∧
      (∃ v, (d.wakeBy src).pwr.leaving = some v ∧ d.tick ≤ v ∧ v ≤ d.tick + exitLatency d.pwr.st) ∧
      (d.verind.freeSlots ≠ 0 → d.cmp.restarting = false → ∃ x ∈ (d.wakeBy src).verind.events.drop d.verind.events.length,
        x.op = 0xF007 ∧ x.fid = 0 ∧ x.body = leb 1 src ++ leb 1 d.pwr.st ++ leb 2 0x0000) := by
  have hleft : d.pwr.st ≠ 4 := by rcases hst with h | h <;> rw [h] <;> decide
  have hsleeps : ((d.pwr.st == 2 || d.pwr.st == 3) && d.pwr.leaving.isNone) = true := by rcases hst with h | h <;> rw [h, hleaving] <;> rfl
  have hrow : d.wakeBy src = (d.sendWake src d.pwr.st stDone).beginLeave := by
    unfold Dev.wakeBy
    exact if_pos hsleeps
  obtain ⟨htick, hpwr, -, htold⟩ := Dev.sendWake_leaves (d := d) hleft src stDone
  rw [hrow]
  generalize d.sendWake src d.pwr.st stDone = e at *
  obtain ⟨htick', hverind, hcmp, hlast, -, v, hv, hlow, hhigh⟩ := Dev.beginLeave_leaves (d := e) (by rw [hpwr]; exact hst) (by rw [hpwr]; exact hleaving)
  rw [htick] at hlow hhigh
  rw [hpwr] at hhigh
  exact ⟨htick'.trans htick, by rw [hlast, hpwr], ⟨v, hv, hlow, hhigh⟩, fun hslot hrestart =>
    htold hslot hrestart _ (Dev.remembers_of_verind hverind hcmp)⟩

/-- An entry that a wake source abandons: the part is in RUN, and tells. -/
theorem Dev.abandonEntry_leaves {d : Dev} (hst : d.pwr.st < 2) (src : Nat) :
    (d.abandonEntry (some src)).pwr.st = 0 ∧ (d.abandonEntry (some src)).pwr.lastWake = src ∧
      (d.verind.freeSlots ≠ 0 → d.cmp.restarting = false → ∃ x ∈ (d.abandonEntry (some src)).verind.events.drop d.verind.events.length,
        x.op = 0xF007 ∧ x.fid = 0 ∧ x.body = leb 1 src ++ leb 1 d.pwr.st ++ leb 2 0x0000) := by
  let c := d.setPwr (fun p => { p with alarm := if src == 0 then none else p.alarm })
  have hrow : d.abandonEntry (some src) = if d.pwr.st == 1 then (c.sendWake src d.pwr.st stDone).pwrTo 0 else c.sendWake src d.pwr.st stDone := rfl
  obtain ⟨-, hpwr, -, htold⟩ := Dev.sendWake_leaves (d := c) (left := d.pwr.st) (by omega) src stDone
  have hst' : (c.sendWake src d.pwr.st stDone).pwr.st = d.pwr.st := (congrArg Pwr.st hpwr :)
  have hlast := congrArg Pwr.lastWake hpwr
  rw [hrow]
  generalize c.sendWake src d.pwr.st stDone = e at *
  obtain ⟨-, hzero, hverind, hcmp, hwake⟩ := e.pwrTo_leaves 0
  split
  next => exact ⟨hzero, hwake.trans hlast, fun hslot hrestart => htold hslot hrestart _ (Dev.remembers_of_verind hverind hcmp)⟩
  next h => exact ⟨by rw [hst']; simp only [beq_iff_eq] at h; omega, hlast, fun hslot hrestart => htold hslot hrestart _ (.refl _)⟩

/-! ## Deadlines (R511) -/

theorem Dev.deadlineExit_at {d : Dev} {e : Nat} (he : d.earliest d.pwr.st = some e) (hst : d.pwr.st ≠ 0) (hleaving : d.pwr.leaving = none)
    (hraise : d.pwr.raiseAt = none) :
    let c := d.advanceTo (e - usNs d.cfg.dev.guardUs - exitLatency d.pwr.st)
    d.deadlineExit = if d.pwr.st == 1 then c.pwrTo 0 else if minList d.hostDeadlines == some e then c.wakeBy 0x20
      else if d.pwr.st == 4 then c else c.beginLeave := by
  intro c
  unfold Dev.deadlineExit
  simp [hst, hleaving, hraise, he, c]

/-! ## The alarm (R513, R514) -/

/-- An alarm that fires outside HIBERNATE is disarmed and told. -/
theorem Dev.fireAlarm_leaves {d : Dev} (hst : d.pwr.st ≠ 4) (result : Nat) :
    (d.fireAlarm result).tick = d.tick ∧ (d.fireAlarm result).pwr.alarm = none ∧
      (d.verind.freeSlots ≠ 0 → d.cmp.restarting = false → ∃ x ∈ (d.fireAlarm result).verind.events.drop d.verind.events.length,
        x.op = 0xF007 ∧ x.fid = 0 ∧ x.body = leb 1 0 ++ leb 1 d.pwr.st ++ leb 2 result) := by
  let c := d.setPwr (fun p => { p with alarm := none })
  have hrow : d.fireAlarm result = (c.sendWake 0 d.pwr.st result).beginLeave := by
    unfold Dev.fireAlarm
    exact if_neg (by simpa using hst)
  obtain ⟨htick, hpwr, -, htold⟩ := Dev.sendWake_leaves (d := c) hst 0 result
  have halarm := congrArg Pwr.alarm hpwr
  rw [hrow]
  generalize c.sendWake 0 d.pwr.st result = e at *
  obtain ⟨htick', hverind, hcmp, halarm'⟩ : e.beginLeave.tick = e.tick ∧ e.beginLeave.verind = e.verind ∧ e.beginLeave.cmp = e.cmp ∧
      e.beginLeave.pwr.alarm = e.pwr.alarm := by
    unfold Dev.beginLeave
    split
    · obtain ⟨htick, -, hverind, hcmp, -⟩ := e.pwrTo_leaves 0
      refine ⟨htick, hverind, hcmp, ?_⟩
      unfold Dev.pwrTo Dev.accountPwr
      dsimp only
      split <;> rfl
    · split <;> exact ⟨rfl, rfl, rfl, rfl⟩
  exact ⟨htick'.trans htick, halarm'.trans halarm, fun hslot hrestart => htold hslot hrestart _ (Dev.remembers_of_verind hverind hcmp)⟩

/-- An alarm in HIBERNATE waits for READY with its event, and PWR_EN is to rise. -/
theorem Dev.fireAlarm_hibernate {d : Dev} (hst : d.pwr.st = 4) (hwake : d.pwr.wakeEvent = none) (hen : d.pwr.pwrEn = false)
    (hraise : d.pwr.raiseAt = none) (result : Nat) : (d.fireAlarm result).tick = d.tick ∧ (d.fireAlarm result).pwr.alarm = none ∧
      (d.fireAlarm result).pwr.wakeEvent = some (0, 4, result) ∧
      (d.fireAlarm result).pwr.raiseAt = some (max d.tick (d.pwr.enSince + 1000000)) := by
  simp [Dev.fireAlarm, Dev.sendWake, Dev.wakeRails, Dev.setPwr, hst, hwake, hen, hraise]

theorem Dev.alarmRow_ready {d : Dev} (h : d.start.phase = .ready ∨ d.start.phase = .hibernate) : d.alarmRow = d.alarmDue := by
  unfold Dev.alarmRow
  exact if_pos (by rcases h with h | h <;> rw [h] <;> rfl)

/-- A relative alarm fires on the first edge of AON's clock from its instant on. -/
theorem Dev.alarmDue_relative {d : Dev} {a : Alarm} (ha : d.pwr.alarm = some a) (hosc : d.start.osc32k = true) (habs : a.absolute = false) :
    ∃ n v, v < 30519 ∧ d.alarmDue = (({ d with free := n } : Dev).advanceTo (a.at_ + v)).fireAlarm stDone := by
  refine ⟨d.free + 1, d.draw.1 % 30519, Nat.mod_lt _ (by decide), ?_⟩
  simp only [Dev.alarmDue, ha, hosc, habs, Bool.not_true, Bool.false_and, Bool.false_eq_true, if_false]
  rfl

theorem Dev.alarmDue_epoch {d : Dev} {a : Alarm} (ha : d.pwr.alarm = some a) (hosc : d.start.osc32k = true) (habs : a.absolute = true)
    (hepoch : a.epoch ≠ d.orr.epoch) : d.alarmDue = d.fireAlarm stEpochChanged := by
  simp [Dev.alarmDue, ha, hosc, habs, hepoch]

/-! ## The return to RUN (R385, R511) -/

theorem Dev.keeps_toRing (d : Dev) (n : Nat) (f : MbFrame) : d.Keeps (d.toRing n f) :=
  .ite ((Dev.keeps_mbEvent _ n 8).after (.of_body rfl)) ((Dev.keeps_mbEvent _ n 0).after (.of_body rfl))

theorem Dev.keeps_toObject (d : Dev) (n k : Nat) (f : MbFrame) : d.Keeps (d.toObject n k f) :=
  .ite (.of_body rfl) ((Dev.keeps_mbEvent _ n 1).after (.of_body rfl))

theorem Dev.keeps_mbStore (d : Dev) (n : Nat) (f : MbFrame) : d.Keeps (d.mbStore n f) := by
  unfold Dev.mbStore
  extract_lets e
  have he : d.Keeps e := d.keeps_setMb n _
  clear_value e
  split
  · exact (e.keeps_toObject n _ f).after he
  · exact (e.keeps_toRing n f).after he

theorem Dev.keeps_mbAwake (d : Dev) (n : Nat) : d.Keeps (d.mbAwake n) := by
  unfold Dev.mbAwake
  extract_lets fs was e f
  have hf : d.Keeps f := (Dev.keeps_forEach (fun d x => d.keeps_mbStore n x) fs e).after (d.keeps_setMb n _)
  clear_value f
  split
  · exact hf
  · exact (f.keeps_mbEvent n 9).after hf

theorem Dev.keeps_orrResume (d : Dev) : d.Keeps d.orrResume :=
  .ite ((Dev.keeps_toHoldover _).after (.of_body rfl)) (.of_body rfl)

/-- A part that has left a sleep state is in RUN, and no island naps or slumbers. -/
theorem Dev.returnToRun_leaves {d : Dev} {v : Nat} (hleaving : d.pwr.leaving = some v) :
    d.returnToRun.tick = max d.tick v ∧ d.returnToRun.pwr.st = 0 ∧ d.returnToRun.pwr.leaving = none ∧
      ∀ i ∈ d.returnToRun.islands, i.st ≠ 3 ∧ i.st ≠ 5 := by
  let c := ((((d.advanceTo v).pwrTo 0).setPwr (fun p => { p with leaving := none })).islandsAwake)
  have hc : c.tick = max d.tick v ∧ c.pwr.st = 0 ∧ c.pwr.leaving = none ∧ ∀ i ∈ c.islands, i.st ≠ 3 ∧ i.st ≠ 5 := by
    obtain ⟨htick, hst, -⟩ := (d.advanceTo v).pwrTo_leaves 0
    refine ⟨htick, hst, rfl, fun i hi => ?_⟩
    obtain ⟨j, -, rfl⟩ := List.mem_map.mp hi
    split
    · exact ⟨(by decide : (2 : Nat) ≠ 3), (by decide : (2 : Nat) ≠ 5)⟩
    next h => simpa using h
  obtain ⟨e, he, hrow⟩ : ∃ e, c.Keeps e ∧ d.returnToRun = e := by
    refine ⟨_, ?_, rfl⟩
    unfold Dev.returnToRun
    simp only [hleaving]
    exact (Dev.keeps_forN Dev.keeps_mbAwake 4 _).after (.ite c.keeps_orrResume (.refl c))
  obtain ⟨htick, hst, hnone, his⟩ := hc
  clear_value c
  rw [hrow]
  have hquiet : e.islands.map Island.quiet = c.islands.map Island.quiet := congrArg Prod.fst he.posts
  refine ⟨he.toRuns.tick.trans htick, (congrArg Pwr.st he.toRuns.pwr).trans hst, (congrArg Pwr.leaving he.toRuns.pwr).trans hnone, fun i hi => ?_⟩
  obtain ⟨j, hj, hji⟩ := List.mem_map.mp (hquiet ▸ List.mem_map_of_mem hi)
  have hst : j.st = i.st := (congrArg Island.st hji :)
  exact hst ▸ his j hj

/-- In RUN, where RUN is what the part chooses, the selection moves nothing. -/
theorem Dev.selectState_run {d : Dev} (hst : d.pwr.st = 0) (hchoose : d.choose = 0) : d.selectState = d := by
  simp [Dev.selectState, hst, hchoose]

/-! ## HIBERNATE (R505, R519, R520) -/

theorem Dev.start_pwrTo (d : Dev) (st : Nat) : (d.pwrTo st).start = d.start := by
  unfold Dev.pwrTo Dev.accountPwr
  dsimp only
  split <;> rfl

theorem Dev.fullReset_empties (d : Dev) (cause : Nat) (keepTime keepAlarm : Bool) :
    (d.fullReset cause keepTime keepAlarm).verind = {} ∧ (d.fullReset cause keepTime keepAlarm).eng = {} := ⟨rfl, rfl⟩

theorem Dev.hibernate_leaves (d : Dev) : d.hibernate.railsFall.start.phase = .hibernate ∧ d.hibernate.railsFall.pwr.st = 4 ∧
    d.hibernate.railsFall.pwr.pwrEn = false ∧ d.hibernate.railsFall.pwr.raiseAt = none ∧ d.hibernate.railsFall.eng = {} ∧
    d.hibernate.railsFall.verind = {} ∧ ∀ i ∈ d.hibernate.railsFall.islands, i.id ≠ 0 → i.id ≠ 0x0F → i.st = 0 := by
  unfold Dev.hibernate
  extract_lets c first e start cfg devCfg pwr f
  have hislands : (f.pwrTo 4).islands = f.islands := f.islands_pwrTo 4
  have heng : (f.pwrTo 4).eng = f.eng := (congrArg Dev.eng (f.settled_pwrTo 4) :)
  have hstart : (f.pwrTo 4).start = f.start := f.start_pwrTo 4
  obtain ⟨-, hst, hverind, -⟩ := f.pwrTo_leaves 4
  obtain ⟨hempty, hnone⟩ := d.orrCarry.fullReset_empties 5 true true
  have hphase : f.start.phase = .hibernate := rfl
  have hv : f.verind = e.verind := rfl
  have he : f.eng = e.eng := rfl
  have his : f.islands = e.islands.map (fun i => if i.id == 0 || i.id == 0x0F then i else { i with st := 0 }) := rfl
  clear_value f
  refine ⟨by rw [← hphase, ← hstart]; rfl, hst, rfl, rfl, heng.trans (he.trans hnone), hverind.trans (hv.trans hempty), fun i hi hid hid' => ?_⟩
  obtain ⟨j, -, rfl⟩ := List.mem_map.mp ((hislands.trans his) ▸ hi : i ∈ e.islands.map _)
  by_cases h : (j.id == 0 || j.id == 0x0F) = true
  · rw [if_pos h] at hid hid'
    rw [Bool.or_eq_true, beq_iff_eq, beq_iff_eq] at h
    exact absurd h (not_or.mpr ⟨hid, hid'⟩)
  · rw [if_neg h]

end Sys2Proof.Machine
end

section
/-! SUPPORT. The start sequence (R166, Table 7.3): before READY nothing is told, and a start whose self-test passes ends in READY. -/

namespace Sys2Proof.Machine

/-- What the steps before READY leave: the start, the channels and what the host is told. -/
def Dev.Boots (d e : Dev) : Prop := d.start.phase ≠ .ready → e.start = d.start ∧ e.verind = d.verind ∧ e.cmp = d.cmp

theorem Dev.Boots.refl (d : Dev) : d.Boots d := fun _ => ⟨rfl, rfl, rfl⟩

theorem Dev.Boots.trans {d e f : Dev} (h : d.Boots e) (h' : e.Boots f) : d.Boots f := by
  intro hphase
  obtain ⟨hstart, hverind, hcmp⟩ := h hphase
  obtain ⟨hstart', hverind', hcmp'⟩ := h' (by rwa [hstart])
  exact ⟨hstart'.trans hstart, hverind'.trans hverind, hcmp'.trans hcmp⟩

theorem Dev.Boots.after {d e f : Dev} (h : e.Boots f) (h' : d.Boots e) : d.Boots f := h'.trans h

theorem Dev.Boots.of_eq {d e : Dev} (hstart : e.start = d.start) (hverind : e.verind = d.verind) (hcmp : e.cmp = d.cmp) : d.Boots e :=
  fun _ => ⟨hstart, hverind, hcmp⟩

theorem Dev.Boots.ite {c : Prop} [Decidable c] {d e f : Dev} (h : d.Boots e) (h' : d.Boots f) : d.Boots (if c then e else f) := by
  split
  exacts [h, h']

theorem Dev.boots_forEach {α : Type} {f : Dev → α → Dev} (h : ∀ (d : Dev) x, d.Boots (f d x)) (xs : List α) (d : Dev) : d.Boots (forEach xs d f) :=
  foldl_relates Dev.Boots.refl Dev.Boots.trans h xs d

theorem Dev.boots_forN {f : Dev → Nat → Dev} (h : ∀ (d : Dev) i, d.Boots (f d i)) (n : Nat) (d : Dev) : d.Boots (forN n d f) :=
  foldl_relates Dev.Boots.refl Dev.Boots.trans h _ d

theorem Dev.boots_forN_snd {β : Type} {f : β × Dev → Nat → β × Dev} (h : ∀ (x : β × Dev) i, x.2.Boots (f x i).2) (n : Nat) (x : β × Dev) :
    x.2.Boots (forN n x f).2 :=
  foldl_relates (R := fun x y : β × Dev => x.2.Boots y.2) (fun x => .refl x.2) (fun h h' => h.trans h') h (List.range n) x

/-- Before READY a fault is only recorded: its event waits. -/
theorem Dev.boots_logFault (d : Dev) (cls island action cause fid detail : Nat) : d.Boots (d.logFault cls island action cause fid detail) := by
  intro hphase
  unfold Dev.logFault
  dsimp only
  rw [if_neg (by simp [hphase])]
  exact ⟨rfl, rfl, rfl⟩

theorem Dev.boots_episode (d : Dev) {f : Dev → Dev} (h : ∀ e : Dev, e.Boots (f e)) : d.Boots (d.episode f) :=
  Dev.Boots.trans (e := { d with svc := { d.svc with episode := none } }) (.of_eq rfl rfl rfl) (Dev.Boots.trans (h _) (.of_eq rfl rfl rfl))

theorem Dev.boots_fault (d : Dev) (cls island action cause fid detail : Nat) :
    d.Boots (d.episode (fun d => d.logFault cls island action cause fid detail)) :=
  Dev.boots_logFault { d with svc := { d.svc with episode := none } } cls island action cause fid detail

theorem Dev.boots_powerOn (d : Dev) (i : Nat) : d.Boots (d.powerOn i) := .ite (.of_eq rfl rfl rfl) (.refl d)
theorem Dev.boots_openCrossings (d : Dev) (i : Nat) : d.Boots (d.openCrossings i) := .of_eq rfl rfl rfl

theorem Dev.boots_leBegin (d : Dev) (l : Nat) : d.Boots (d.leBegin l).2 := by
  unfold Dev.leBegin
  dsimp only
  split
  · exact .refl d
  · split
    · exact .refl d
    · split
      · exact .refl d
      · split
        · exact .refl d
        · exact Dev.Boots.trans (d.boots_powerOn _) (.of_eq rfl rfl rfl)

theorem Dev.boots_loadPe (d : Dev) (l p : Nat) : d.Boots (d.loadPe l p) := Dev.Boots.trans (d.boots_powerOn _) (.of_eq rfl rfl rfl)

/-! ## Steps 3 to 7 -/

theorem Dev.boots_startStep3 (d : Dev) (warm : Bool) : d.Boots (d.startStep3 warm) := by
  unfold Dev.startStep3
  split
  · exact .refl d
  · extract_lets p order pick skipped e
    have he : d.Boots e := Dev.boots_forEach (fun d a => d.boots_fault _ _ _ _ _ _) skipped d
    clear_value e pick
    split
    · exact Dev.Boots.trans he (.of_eq rfl rfl rfl)
    · exact he

theorem Dev.boots_smStartFault (d : Dev) (i seq : Nat) : d.Boots (d.smStartFault i seq) := d.boots_fault _ _ _ _ _ _

theorem Dev.boots_startStep5 (d : Dev) (x : StartIn) : d.Boots (d.startStep5 x).2.2 := by
  unfold Dev.startStep5
  generalize (d.alm.copy 0).see (x.sm.getD 0 .asLeft) = s0
  generalize (d.alm.copy 1).see (x.sm.getD 1 .asLeft) = s1
  obtain ⟨k0, c0⟩ := s0
  obtain ⟨k1, c1⟩ := s1
  dsimp only
  generalize chooseCopy k0 k1 c0 c1 = choice
  obtain ⟨chosen, after⟩ := choice
  have hbad (e : Dev) (i k : Nat) (c : SmCopy) : e.Boots (if k == 1 then e.smStartFault i 0 else if k == 4 then e.smStartFault i c.high else e) :=
    .ite (e.boots_smStartFault _ _) (.ite (e.boots_smStartFault _ _) (.refl e))
  have htwo := (hbad d 0 k0 c0).trans (hbad _ 1 k1 c1)
  generalize (if k1 == 1 then _ else _ : Dev) = e at htwo ⊢
  split
  · exact (Dev.Boots.of_eq rfl rfl rfl).after ((e.boots_smStartFault 1 _).after htwo)
  · exact (Dev.Boots.of_eq rfl rfl rfl).after htwo

theorem Dev.boots_pulseConfig (d : Dev) (i : Nat) (c : PulseCfg) : d.Boots (d.pulseConfig i c) := .of_eq rfl rfl rfl

theorem Dev.boots_doms (d : Dev) (ds : List Domain) : d.Boots { d with doms := ds } := .of_eq rfl rfl rfl

theorem Dev.boots_stageSet (d : Dev) : d.Boots d.stageSet := by
  unfold Dev.stageSet
  split
  · exact .refl d
  next i _ =>
    generalize (List.range 6).map (d.savedTable i (d.typ.sets.getD i {})) = tabs
    generalize 34 + 6 * i = detail
    dsimp only
    have h : d.Boots (if tabs.any (·.isNone) then d.episode (fun d => d.logFault 6 0x06 0x01 3 0 detail) else d) :=
      .ite (d.boots_fault _ _ _ _ _ _) (.refl d)
    generalize (if tabs.any (·.isNone) then d.episode (fun d => d.logFault 6 0x06 0x01 3 0 detail) else d) = e at h ⊢
    exact h.trans (e.boots_doms _)

theorem Dev.boots_checkSections (d : Dev) : d.Boots d.checkSections := by
  refine Dev.boots_forN (fun d n => ?_) 6 d
  extract_lets m k cfg alm e
  split
  · exact Dev.Boots.trans (e := e) (.of_eq rfl rfl rfl) (e.boots_episode fun f => f.boots_logFault _ _ _ _ _ _)
  · exact .refl d

theorem Dev.boots_startStep6 (d : Dev) (warm : Bool) : d.Boots (d.startStep6 warm) := by
  unfold Dev.startStep6
  split
  · exact .refl d
  · split
    next c on _ =>
      extract_lets alm e f g h
      have hg : d.Boots g := by
        have hf : d.Boots f := (Dev.boots_stageSet _).after ((Dev.boots_checkSections e).after (.of_eq rfl rfl rfl))
        clear_value f
        refine Dev.Boots.trans hf (Dev.boots_forEach (fun d e => ?_) c.fdb f)
        split
        exacts [.of_eq rfl rfl rfl, .refl d]
      clear_value g
      exact Dev.Boots.trans hg (Dev.Boots.trans (.of_eq rfl rfl rfl) (Dev.boots_forN (fun d i => d.boots_pulseConfig i _) 2 h))

theorem Dev.boots_startStep7 (d : Dev) : d.Boots d.startStep7.2 := by
  unfold Dev.startStep7
  extract_lets e
  have he : d.Boots e := by
    refine Dev.boots_forN (fun d l => ?_) 12 d
    split
    next q _ =>
      refine .ite (Dev.Boots.trans (d.boots_powerOn (peIsland q)) ?_) (.refl d)
      generalize d.powerOn (peIsland q) = f
      exact .of_eq rfl rfl rfl
    next => exact .refl d
  clear_value e
  refine Dev.Boots.trans he (Dev.boots_forN_snd (fun x l => ?_) 12 (0, e))
  obtain ⟨n, d⟩ := x
  dsimp only
  split
  · exact .refl d
  · have hbegin := d.boots_leBegin l
    generalize d.leBegin l = y at hbegin ⊢
    obtain ⟨bad, d1⟩ := y
    dsimp only at hbegin ⊢
    split
    · exact .refl d
    · split
      next p _ =>
        have hload := (Dev.boots_loadPe _ l p).after ((d1.boots_openCrossings (peIsland p)).after hbegin)
        generalize (d1.openCrossings (peIsland p)).loadPe l p = f at hload ⊢
        exact hload.trans (.of_eq rfl rfl rfl)
      next => exact .refl d

end Sys2Proof.Machine
end

section
/-! SUPPORT. The last step of a start (R166, Table 7.3): READY, with its event first, and the work that begins there. -/

namespace Sys2Proof.Machine

/-! ## A function that starts runs beside the rest -/

theorem Dev.runs_toFailed (d : Dev) (fid : Nat) : d.Runs (d.toFailed fid) := by
  unfold Dev.toFailed
  extract_lets f e g h others
  have hg : d.Runs g := ((Dev.reports_transition e fid 5 1).after (d.reports_setFunc fid (by intro _; rfl))).runs
  have hh : g.Runs h := (g.keeps_episodeOf _ fun d => d.keeps_logFault ..).toRuns
  exact (Dev.keeps_completeAll _ _ _).toRuns.after (hh.after hg)

theorem Dev.Runs.ite {c : Prop} [Decidable c] {d e f : Dev} (h : d.Runs e) (h' : d.Runs f) : d.Runs (if c then e else f) := by
  split
  exacts [h, h']

theorem Dev.runs_holdingFaults (d : Dev) {f g : Dev → Dev} (hf : ∀ d : Dev, d.Runs (f d)) (hg : ∀ d : Dev, d.Runs (g d)) :
    d.Runs (d.holdingFaults f g) := by
  obtain ⟨e, he, hend⟩ := d.holdingFaults_steps f g
  exact hend.toRuns.after ((hg _).after ((hf e).after he.toRuns))

theorem Dev.runs_faultFence (d : Dev) (fid isl cls cause detail code : Nat) (taken : Bool) :
    d.Runs (d.faultFence fid isl cls cause detail code taken).2 := by
  unfold Dev.faultFence
  extract_lets f again
  split
  · exact .refl d
  · dsimp only
    refine d.runs_holdingFaults (fun d => ?_) (fun d => ?_)
    · have he := (d.stands_fenceBody fid cls isl cause detail true taken).toRuns
      generalize d.fenceBody fid cls isl cause detail true taken = e at he ⊢
      have hg := (e.reports_setFunc fid (f := fun f => { f with fault := cls, isl := isl, why := cause, detail := code, ep := e.svc.episode })
        (by intro _; rfl)).runs.after he
      exact .ite hg ((Dev.stands_classEnds _ fid).toRuns.after hg)
    · refine .ite (d.runs_toFailed fid) ?_
      have hmoves := (d.reports_transition fid 4 1).runs
      exact .ite ((Dev.reports_setFunc _ fid (by intro _; rfl)).runs.after hmoves) (.ite hmoves ((Dev.runs_toFailed _ fid).after hmoves))

theorem Dev.keeps_restartRecord (d : Dev) (fid : Nat) : d.Keeps (d.restartRecord fid) :=
  .ite (d.keeps_episodeOf _ fun d => d.keeps_logFault ..) (.refl d)

theorem Dev.runs_startFunc (fid : Nat) : ∀ (n cause : Nat) (d : Dev), d.Runs (d.startFunc fid n cause)
  | 0, _, d => .refl d
  | n + 1, cause, d => by
    unfold Dev.startFunc
    extract_lets e f
    have hf : d.Runs f := (Dev.keeps_restartRecord _ fid).toRuns.after
      ((Dev.reports_transition e fid 1 cause).runs.after (d.reports_setFunc fid (by intro _; rfl)).runs)
    have hbegins := (f.stands_classBegins fid).toRuns.after hf
    generalize f.classBegins fid = x at hbegins ⊢
    obtain ⟨bad, code, g⟩ := x
    dsimp only at hbegins ⊢
    split
    · exact hbegins
    · have hfence : d.Runs (g.inEpisode2 (fun d => d.faultFence fid (d.funcIsland fid) (if bad == 1 then 6 else 4)
          (if bad == 1 then 3 else 0) 0 code false)).2 := by
        have h := (g.runs_faultFence fid (g.funcIsland fid) (if bad == 1 then 6 else 4) (if bad == 1 then 3 else 0) 0 code false).after hbegins
        unfold Dev.inEpisode2
        dsimp only
        generalize g.faultFence fid (g.funcIsland fid) (if bad == 1 then 6 else 4) (if bad == 1 then 3 else 0) 0 code false = y at h ⊢
        exact Dev.Runs.trans (e := y.2) h (Dev.Keeps.of_body (by rfl)).toRuns
      generalize g.inEpisode2 (fun d => d.faultFence fid (d.funcIsland fid) (if bad == 1 then 6 else 4)
          (if bad == 1 then 3 else 0) 0 code false) = y at hfence ⊢
      obtain ⟨again, h⟩ := y
      dsimp only at hfence ⊢
      exact .ite ((Dev.runs_startFunc fid n 3 h).after hfence) hfence

theorem Dev.runs_forEach {α : Type} {f : Dev → α → Dev} (h : ∀ (d : Dev) x, d.Runs (f d x)) (xs : List α) (d : Dev) : d.Runs (forEach xs d f) :=
  foldl_relates Dev.Runs.refl Dev.Runs.trans h xs d

/-- Another copy to resilver. -/
theorem Dev.keeps_beginResilver (d : Dev) (i : Nat) (full : Bool) (cmd : Option Waiting) : d.Keeps (d.beginResilver i full cmd) :=
  (Dev.keeps_serviceEvent _ 2 i).after ((Dev.keeps_setAlm _ _).after (d.keeps_setCopy i _))

/-! ## READY (R166) -/

/-- After READY a start goes on without another state, and what was told stays told. -/
def Dev.Goes (d e : Dev) : Prop := e.start = d.start ∧ e.verind.chans = d.verind.chans ∧ d.Remembers e

theorem Dev.Goes.refl (d : Dev) : d.Goes d := ⟨rfl, rfl, .refl d⟩

theorem Dev.Goes.trans {d e f : Dev} (h : d.Goes e) (h' : e.Goes f) : d.Goes f := by
  obtain ⟨hstart, hchans, htold⟩ := h
  obtain ⟨hstart', hchans', htold'⟩ := h'
  exact ⟨hstart'.trans hstart, hchans'.trans hchans, htold.trans htold'⟩

theorem Dev.Goes.after {d e f : Dev} (h : e.Goes f) (h' : d.Goes e) : d.Goes f := h'.trans h

theorem Dev.Runs.goes {d e : Dev} (h : d.Runs e) : d.Goes e := ⟨h.start, congrArg (fun x => x.1.2.2.2.2.1) h.core, h.tells⟩

theorem Dev.goes_setPwr (d : Dev) (f : Pwr → Pwr) : d.Goes (d.setPwr f) := ⟨rfl, rfl, .refl d⟩

/-- The part at READY, its event just told. -/
def Dev.atReady (d : Dev) (x : StartIn) (copies loaded : Nat) : Dev :=
  let d := d.advanceTo (d.start.since + (x.elapsed - x.refLate))
  let d := { d with start := { d.start with phase := .ready } }
  d.pushEvent 0xF000 0 (leb 1 d.start.cause ++ leb 1 copies ++ leb 1 loaded ++ [0#8] ++ leb 4 (x.elapsed / 1000)) false

theorem Dev.start_pushEvent (d : Dev) (op fid : Nat) (b : List Byte) (rsv : Bool) : (d.pushEvent op fid b rsv).start = d.start := by
  unfold Dev.pushEvent Dev.present
  extract_lets e f
  split <;> rfl

theorem Dev.start_atReady (d : Dev) (x : StartIn) (copies loaded : Nat) : (d.atReady x copies loaded).start = { d.start with phase := .ready } :=
  Dev.start_pushEvent _ _ _ _ _

theorem Dev.goes_startStep8 (d : Dev) (x : StartIn) (copies loaded : Nat) (after : List (Nat × Bool)) :
    (d.atReady x copies loaded).Goes (d.startStep8 x copies loaded after) := by
  unfold Dev.startStep8
  extract_lets us a start b c e f g on h i j
  have hc : d.atReady x copies loaded = c := rfl
  rw [hc]
  clear_value c
  have he : c.Goes e := by
    dsimp only [e]
    split
    · exact (Dev.keeps_emit _ _ _ _).toRuns.goes.after (c.goes_setPwr _)
    · exact .refl c
  have hf : c.Goes f := e.keeps_sendLate.toRuns.goes.after he
  have hg : c.Goes g := by
    dsimp only [g]
    split
    · exact (Dev.goes_setPwr _ _).after ((f.keeps_episode fun d => d.keeps_logFault ..).toRuns.goes.after hf)
    · exact hf
  have hh : c.Goes h := (Dev.runs_forEach (fun d f => Dev.runs_startFunc f 2 6 d) on g).goes.after hg
  have hi : c.Goes i := (Dev.keeps_forEach (fun d r => d.keeps_beginResilver _ _ _) after h).toRuns.goes.after hh
  have hj : c.Goes j := by
    dsimp only [j]
    split
    exacts [(Dev.keeps_pushJob _ _).toRuns.goes.after hi, hi]
  exact j.keeps_typRun.toRuns.goes.after hj

/-! ## The whole start -/

/-- What a start goes by, and what it tells. -/
def Dev.boot (d : Dev) : Phase × Nat × Nat × Verind × Cmp := (d.start.phase, d.start.cause, d.start.bootSel, d.verind, d.cmp)

theorem Dev.Boots.boot {d e : Dev} (h : d.Boots e) (hphase : d.start.phase ≠ .ready) : e.boot = d.boot := by
  obtain ⟨hstart, hverind, hcmp⟩ := h hphase
  unfold Dev.boot
  rw [hstart, hverind, hcmp]

theorem Dev.phase_of_boot {d e : Dev} (h : e.boot = d.boot) : e.start.phase = d.start.phase := congrArg Prod.fst h

theorem Dev.boot_startStep1 {d : Dev} (hphase : d.start.phase ≠ .ready) (x : StartIn) : (d.startStep1 x).boot = d.boot := by
  unfold Dev.startStep1
  extract_lets a start b c
  have hb : b.boot = d.boot := rfl
  clear_value b
  have hc : c.boot = d.boot := by
    refine Eq.trans ?_ hb
    exact Dev.Boots.boot (.ite (b.boots_fault _ _ _ _ _ _) (.refl b)) (by rwa [Dev.phase_of_boot hb])
  refine Eq.trans (Dev.Boots.boot ?_ (by rwa [Dev.phase_of_boot hc])) hc
  exact Dev.boots_forN (fun d n => .ite (d.boots_fault _ _ _ _ _ _) (.refl d)) 4 c

/-- Self-tests that fail at most once: the start goes on. -/
theorem Dev.boot_startStep2 {d : Dev} (hphase : d.start.phase ≠ .ready) {x : StartIn} (hfails : x.testFails < 2) (gen cause : Nat) :
    (d.startStep2 x gen cause).boot = d.boot := by
  unfold Dev.startStep2
  extract_lets a src b c start sec e
  have ha : a.boot = d.boot := Dev.Boots.boot (Dev.boots_forN (fun d n => d.boots_fault _ _ _ _ _ _) _ d) hphase
  rw [if_neg (by omega)]
  have hb : b.boot = d.boot := ha
  clear_value b
  have hc : c.boot = d.boot := by
    refine Eq.trans (Dev.Boots.boot ?_ (by rwa [Dev.phase_of_boot hb])) hb
    exact Dev.boots_forEach (fun d i => .ite (d.boots_openCrossings i) (.refl d)) _ b
  clear_value c
  have he : e.boot = d.boot := hc
  refine Eq.trans (Dev.Boots.boot ?_ (by rwa [Dev.phase_of_boot he])) he
  exact Dev.boots_forEach (fun d p => .of_eq (by rfl) (by rfl) (by rfl)) _ e

/-- Self-tests that fail twice: the part stays without READY. -/
theorem Dev.startStep2_dead {x : StartIn} (hfails : 2 ≤ x.testFails) (gen cause : Nat) (d : Dev) :
    (d.startStep2 x gen cause).start.phase = .dead := by
  unfold Dev.startStep2
  rw [if_pos hfails]

/-- A start that is not in Hold and whose self-test passes reaches READY, from what it began with. -/
theorem Dev.startSeq_ready {d : Dev} (hphase : d.start.phase = .released) (hboot : d.start.bootSel ≠ 3) {x : StartIn} (hfails : x.testFails < 2)
    (warm : Bool) (gen cause : Nat) :
    ∃ (e : Dev) (copies loaded : Nat), e.boot = d.boot ∧ (e.atReady x copies loaded).Goes (d.startSeq x warm gen cause) := by
  have hone := Dev.boot_startStep1 (d := d) (by rw [hphase]; decide) x
  unfold Dev.startSeq
  generalize d.startStep1 x = d1 at hone ⊢
  have hphase1 : d1.start.phase = .released := (Dev.phase_of_boot hone).trans hphase
  have hboot1 : d1.start.bootSel = d.start.bootSel := congrArg (fun b : Phase × Nat × Nat × Verind × Cmp => b.2.2.1) hone
  have htwo := Dev.boot_startStep2 (d := d1) (by rw [hphase1]; decide) hfails gen cause
  dsimp only
  rw [if_neg (by simpa [hboot1] using hboot)]
  generalize d1.startStep2 x gen cause = d2 at htwo ⊢
  have hphase2 : d2.start.phase = .released := (Dev.phase_of_boot htwo).trans hphase1
  rw [if_neg (by rw [hphase2]; decide)]
  have hfive := (Dev.boots_startStep5 (d2.startStep3 warm) x).after (d2.boots_startStep3 warm)
  generalize (d2.startStep3 warm).startStep5 x = y at hfive ⊢
  obtain ⟨copies, after, d5⟩ := y
  have hseven := ((d5.startStep6 warm).boots_startStep7.after (d5.boots_startStep6 warm)).after hfive
  dsimp only
  generalize (d5.startStep6 warm).startStep7 = y at hseven ⊢
  obtain ⟨loaded, d7⟩ := y
  exact ⟨d7, copies, loaded, (hseven.boot (by rw [hphase2]; decide)).trans (htwo.trans hone), d7.goes_startStep8 x copies loaded after⟩

end Sys2Proof.Machine
end

section
/-! The obligation about the power states (O52). -/

namespace Sys2Proof.Ports

open Sys2Proof.Machine

/-- The selection enters the state that it chooses; in NAP and SLUMBER the islands nap by its table. -/
theorem selectState_enters {d : Dev} (hphase : d.start.phase = .ready) (hleaving : d.pwr.leaving = none) (hst : d.pwr.st < 2)
    (hchoose : d.choose ≠ d.pwr.st) (hhib : d.choose ≠ 4) : d.selectState.pwr.st = d.choose ∧
      (2 ≤ d.choose → ∀ i ∈ d.islands, i.st = 2 → ∃ j ∈ d.selectState.islands, j.id = i.id ∧ j.st = napState d.choose i.id) := by
  have hrow : d.selectState = if d.choose == 0 then d.pwrTo 0 else d.enterState d.choose := by
    have hawake : ¬ 2 ≤ d.pwr.st := by omega
    simp [Dev.selectState, hphase, hleaving, hawake, hchoose, hhib]
  obtain ⟨hentered, hislands⟩ := d.enterState_leaves d.choose
  rw [hrow]
  split
  next h =>
    rw [beq_iff_eq] at h
    exact ⟨(d.pwrTo_leaves 0).2.1.trans h.symm, fun hsleep => by omega⟩
  next =>
    refine ⟨hentered, fun hsleep i hi hon => ⟨_, (hislands hsleep) ▸ List.mem_map_of_mem hi, ?_⟩⟩
    rw [if_pos (by rw [hon]; rfl)]
    exact ⟨rfl, rfl⟩

/-- A pin that is enabled at its level wakes the part at once. -/
theorem wakePin_level {d : Dev} {i : Nat} {high : Bool} (hbit : bit d.cfg.dev.wakeEnable i = true) (hlow : bit d.cfg.dev.wakeLow i = !high) :
    ∃ c : Dev, (c.tick, c.pwr.st, c.pwr.leaving, c.verind, c.cmp) = (d.tick, d.pwr.st, d.pwr.leaving, d.verind, d.cmp) ∧
      d.wakePin i high none = c.wakeBy (1 + i) := by
  refine ⟨({ d with free := d.free + 1 } : Dev).setPwr (fun p => { p with wakePins := upd p.wakePins i (fun _ => high) }), rfl, ?_⟩
  simp [Dev.wakePin, Dev.draw, hbit, hlow]

/-- An edge-sensitive pin does not wake by a pulse below 50 ns. -/
theorem wakePin_short {d : Dev} {i n : Nat} {high : Bool} (hedge : bit d.cfg.dev.wakeEdge i = true) (hn : n < 50) :
    d.wakePin i high (some n) = d.draw.2 := by
  simp [Dev.wakePin, hedge, show ¬ 1000 ≤ n by omega, show ¬ 50 ≤ n by omega]

/-- A part that leaves HIBERNATE with good rails starts, with cause 2. -/
theorem railGood_starts {d : Dev} (hphase : d.start.phase = .hibernate) (hen : d.pwr.pwrEn = true) (hboot : d.start.bootSel ≠ 3) {x : StartIn}
    (hfails : x.testFails < 2) : (d.railGood x).start.phase = .ready ∧ (d.railGood x).start.cause = 2 := by
  have hrow : d.railGood x = (d.advanceTo (d.pwr.enSince + 200000)).warmStart x d.start.since := by
    simp [Dev.railGood, hphase, hen]
  rw [hrow]
  unfold Dev.warmStart
  extract_lets warm e src pwr f
  have hstart : e.start = d.start := ((Dev.keeps_orrResume _).toRuns.start).trans (Dev.start_pwrTo _ 0)
  have hf : f.start.phase = .released ∧ f.start.cause = 2 ∧ f.start.bootSel = d.start.bootSel := ⟨rfl, rfl, (congrArg StartSt.bootSel hstart :)⟩
  clear_value f
  obtain ⟨hreleased, hcause, hsel⟩ := hf
  obtain ⟨g, copies, loaded, hboot', hgoes, -⟩ := Dev.startSeq_ready hreleased (by rw [hsel]; exact hboot) hfails warm 1 5
  have hready := (Dev.start_atReady g x copies loaded)
  generalize f.startSeq x warm 1 5 = h at hgoes ⊢
  rw [hgoes, hready]
  exact ⟨rfl, (congrArg (fun b : Phase × Nat × Nat × Verind × Cmp => b.2.1) hboot').trans hcause⟩

/-- Settles O52. -/
theorem powerStates : Obligations.PowerStates := by
  intro s
  dsimp only
  refine ⟨fun ⟨hphase, hleaving⟩ hst hchoose hhib => ?_, fun src ⟨hphase, hleaving⟩ hst hchoose ⟨hslots, hrestart⟩ => ?_,
    fun ⟨hphase, hleaving⟩ hst hchoose => ?_, fun e he hleaving hraise => ⟨fun hst => ?_, fun hst => ?_⟩, fun v hleaving hchoose => ?_,
    fun a ha hphase hosc hst ⟨hslots, hrestart⟩ => ⟨fun habs => ?_, fun habs hepoch => ?_⟩, fun a ha hphase hosc hst habs hwake hen hraise => ?_,
    fun i high hi hbit hlow ⟨hst, hleaving⟩ ⟨hslots, hrestart⟩ => ⟨?_, fun n hedge hn => ?_⟩,
    fun hphase => ⟨fun v hraise => ?_, fun hen => ?_, fun x hen hboot hfails => ?_⟩, fun c v hchallenge => ?_⟩
  · exact ⟨_, State.run_withDev (f := Dev.powerEntry none) rfl, selectState_enters hphase hleaving hst hchoose hhib⟩
  · have hrow : s.dev.powerEntry (some src) = s.dev.abandonEntry (some src) := by
      have h2 : 2 ≤ s.dev.choose := by omega
      have h3 : s.dev.choose ≤ 3 := by omega
      have h1 : s.dev.pwr.st ≤ 1 := by omega
      simp [Dev.powerEntry, hphase, hleaving, h1, h2, h3]
    obtain ⟨hzero, hlast, htold⟩ := Dev.abandonEntry_leaves hst src
    generalize s.dev.abandonEntry (some src) = e at *
    exact ⟨s.withDev e, State.run_withDev (f := Dev.powerEntry (some src)) hrow, hzero, hlast, htold hslots hrestart⟩
  · have hrow : s.dev.hibernateEntry .completes = s.dev.writeRestore.hibernate.railsFall := by
      have hawake : ¬ 2 ≤ s.dev.pwr.st := by omega
      simp [Dev.hibernateEntry, hchoose, hawake, hleaving]
    have hleaves := s.dev.writeRestore.hibernate_leaves
    generalize s.dev.writeRestore.hibernate.railsFall = e at *
    exact ⟨s.withDev e, State.run_withDev (f := Dev.hibernateEntry .completes) hrow, hleaves⟩
  · have hrow := Dev.deadlineExit_at he (by omega) hleaving hraise
    dsimp only at hrow
    rw [if_pos (by rw [hst]; rfl)] at hrow
    obtain ⟨htick, hzero, -⟩ := (s.dev.advanceTo (e - usNs s.dev.cfg.dev.guardUs - exitLatency s.dev.pwr.st)).pwrTo_leaves 0
    rw [hst] at htick hzero hrow
    exact ⟨_, State.run_withDev (f := Dev.deadlineExit) hrow, hzero, htick⟩
  · have hrow := Dev.deadlineExit_at he (by omega) hleaving hraise
    dsimp only at hrow
    rw [if_neg (by rcases hst with h | h <;> rw [h] <;> decide)] at hrow
    split at hrow
    next hhost =>
      obtain ⟨htick, -, hleave, htold⟩ := Dev.wakeBy_leaves
        (d := s.dev.advanceTo (e - usNs s.dev.cfg.dev.guardUs - exitLatency s.dev.pwr.st)) hst hleaving 0x20
      generalize Dev.wakeBy _ _ = f at *
      obtain ⟨v, hv, hlow, hhigh⟩ := hleave
      refine ⟨s.withDev f, State.run_withDev (f := Dev.deadlineExit) hrow, htick, ⟨v, hv, ?_, ?_⟩, fun _ ⟨hslots, hrestart⟩ => htold hslots hrestart,
        fun h => absurd (beq_iff_eq.mp hhost) h⟩
      · exact htick ▸ hlow
      · exact htick ▸ hhigh
    next hhost =>
      rw [if_neg (by rcases hst with h | h <;> rw [h] <;> decide)] at hrow
      obtain ⟨htick, hverind, -, -, -, v, hv, hlow, hhigh⟩ := Dev.beginLeave_leaves
        (d := s.dev.advanceTo (e - usNs s.dev.cfg.dev.guardUs - exitLatency s.dev.pwr.st)) hst hleaving
      generalize Dev.beginLeave _ = f at *
      refine ⟨s.withDev f, State.run_withDev (f := Dev.deadlineExit) hrow, htick, ⟨v, hv, ?_, ?_⟩,
        fun h => absurd (by rw [h]; exact beq_self_eq_true _) hhost, fun _ => congrArg Verind.events hverind⟩
      · exact htick ▸ hlow
      · exact htick ▸ hhigh
  · obtain ⟨htick, hst, hnone, hislands⟩ := Dev.returnToRun_leaves hleaving
    have hrow : s.dev.returnRow = s.dev.returnToRun := by
      unfold Dev.returnRow
      rw [if_pos (by rw [hleaving]; rfl), Dev.selectState_run hst hchoose]
    generalize s.dev.returnToRun = e at *
    exact ⟨s.withDev e, State.run_withDev (f := Dev.returnRow) hrow, htick, hst, hnone, hislands⟩
  · obtain ⟨n, v, hv, hdue⟩ := Dev.alarmDue_relative ha hosc habs
    have hrow := (Dev.alarmRow_ready (.inl hphase)).trans hdue
    obtain ⟨htick, hnone, htold⟩ := Dev.fireAlarm_leaves (d := ({ s.dev with free := n } : Dev).advanceTo (a.at_ + v)) hst stDone
    generalize Dev.fireAlarm _ _ = e at *
    have htick : e.tick = max s.dev.tick (a.at_ + v) := htick
    exact ⟨s.withDev e, State.run_withDev (f := Dev.alarmRow) hrow, (by show _ ≤ e.tick; omega), (by show e.tick ≤ _; omega), hnone,
      htold hslots hrestart⟩
  · have hrow := (Dev.alarmRow_ready (.inl hphase)).trans (Dev.alarmDue_epoch ha hosc habs hepoch)
    obtain ⟨-, hnone, htold⟩ := Dev.fireAlarm_leaves hst stEpochChanged
    generalize Dev.fireAlarm _ _ = e at *
    exact ⟨s.withDev e, State.run_withDev (f := Dev.alarmRow) hrow, hnone, htold hslots hrestart⟩
  · obtain ⟨n, v, hv, hdue⟩ := Dev.alarmDue_relative ha hosc habs
    have hrow := (Dev.alarmRow_ready (.inr hphase)).trans hdue
    obtain ⟨htick, hnone, hevent, hrises⟩ := Dev.fireAlarm_hibernate (d := ({ s.dev with free := n } : Dev).advanceTo (a.at_ + v)) hst hwake hen hraise stDone
    generalize Dev.fireAlarm _ _ = e at *
    exact ⟨s.withDev e, State.run_withDev (f := Dev.alarmRow) hrow, hnone, hevent, (htick ▸ hrises :)⟩
  · obtain ⟨c, hc, hrow⟩ := wakePin_level hbit hlow
    simp only [Prod.mk.injEq] at hc
    obtain ⟨-, hcst, hcleaving, hcverind, hccmp⟩ := hc
    obtain ⟨-, hlast, ⟨v, hv, -⟩, htold⟩ := Dev.wakeBy_leaves (d := c) (by rw [hcst]; exact hst) (hcleaving.trans hleaving) (1 + i)
    rw [hcst, hcverind, hccmp] at htold
    generalize c.wakeBy (1 + i) = e at *
    exact ⟨s.withDev e, State.run_withDev (f := fun d => if 3 < i then d else d.wakePin i high none) ((if_neg (by omega)).trans hrow),
      htold hslots hrestart, hlast, congrArg Option.isSome hv⟩
  · exact ⟨_, State.run_withDev (f := fun d => if 3 < i then d else d.wakePin i high (some n)) ((if_neg (by omega)).trans (wakePin_short hedge hn)),
      rfl, hleaving, rfl⟩
  · obtain ⟨e, he⟩ : ∃ e, e = s.dev.advanceTo v := ⟨_, rfl⟩
    have hrow : s.dev.pwrEnRaise = e.setPwr (fun p => { p with pwrEn := true, enSince := e.tick, raiseAt := none }) := by
      simp [Dev.pwrEnRaise, hphase, hraise, he]
    exact ⟨_, State.run_withDev (f := Dev.pwrEnRaise) hrow, (congrArg Dev.tick he :), rfl, rfl, rfl⟩
  · obtain ⟨e, he⟩ : ∃ e, e = s.dev.advanceTo (s.dev.pwr.enSince + 20000000) := ⟨_, rfl⟩
    have hrow : s.dev.railTimeout = e.setPwr (fun p => { p with pwrEn := false, attempts := p.attempts + 1, enSince := e.tick,
                                                                raiseAt := some (e.tick + 1000000000) }) := by
      simp [Dev.railTimeout, hphase, hen, he]
    exact ⟨_, State.run_withDev (f := Dev.railTimeout) hrow, (congrArg Dev.tick he :), rfl, rfl, (congrArg (fun e : Dev => e.pwr.attempts + 1) he :)⟩
  · have hstarts := railGood_starts hphase hen hboot hfails
    obtain ⟨e, he⟩ : ∃ e, s.dev.railGood x = e := ⟨_, rfl⟩
    rw [he] at hstarts
    exact ⟨s.withDev e, State.run_withDev (f := Dev.railGood x) he, hstarts⟩
  · refine State.run_withDev (f := Dev.expireChallenge) ?_
    simp [Dev.expireChallenge, hchallenge]
    rfl

end Sys2Proof.Ports
end

section
/-! SUPPORT. An engine that a fault fences stays fenced while its logical engine restarts elsewhere (R259, R284). -/

namespace Sys2Proof.Machine

/-! ## Seats -/

theorem Dev.peSeat_of_roster {d e : Dev} (h : e.roster = d.roster) (p : Nat) : (e.pe p).seat = (d.pe p).seat := by
  have hpes : e.eng.pes.map Pe.seat = d.eng.pes.map Pe.seat := congrArg Prod.fst h
  have hview (xs : List Pe) : (xs.getD p {}).seat = (xs.map Pe.seat).getD p (Pe.seat {}) := (List.getD_map xs {} Pe.seat).symm
  exact (hview _).trans ((congrArg (fun xs => xs.getD p (Pe.seat {})) hpes).trans (hview _).symm)

theorem Dev.leSeat_of_roster {d e : Dev} (h : e.roster = d.roster) (l : Nat) : (e.le l).seat = (d.le l).seat := by
  have hles : e.eng.les.map Le.seat = d.eng.les.map Le.seat := congrArg Prod.snd h
  have hview (xs : List Le) : (xs.getD l {}).seat = (xs.map Le.seat).getD l (Le.seat {}) := (List.getD_map xs {} Le.seat).symm
  exact (hview _).trans ((congrArg (fun xs => xs.getD l (Le.seat {})) hles).trans (hview _).symm)

theorem Dev.le_setLe_same {d : Dev} {l : Nat} (hl : l < d.eng.les.length) (f : Le → Le) : (d.setLe l f).le l = f (d.le l) :=
  upd_getD_same d.eng.les l f {} hl

/-- A logical engine's update keeps a view of each logical engine when it keeps that of the one. -/
theorem Dev.le_setLe_keeps {α : Type} (v : Le → α) {f : Le → Le} (hf : ∀ x, v (f x) = v x) (d : Dev) (l k : Nat) :
    v ((d.setLe l f).le k) = v (d.le k) := by
  have hview (xs : List Le) : v (xs.getD k {}) = (xs.map v).getD k (v {}) := (List.getD_map xs {} v).symm
  exact (hview _).trans ((congrArg (fun xs => xs.getD k (v {})) (map_upd v f hf d.eng.les l)).trans (hview _).symm)

/-- The fence of an engine: it is FENCED, bound to nothing and halted, with one more fault; no logical engine moves. -/
theorem Dev.fencePe_leaves {d : Dev} {p : Nat} (hp : p < d.eng.pes.length) :
    ((d.fencePe p).pe p).seat = (4, none, false, wrap32 ((d.pe p).faults + 1)) ∧ ∀ l, ((d.fencePe p).le l).seat = (d.le l).seat := by
  have hreleases := d.keeps_bankReleases p
  unfold Dev.fencePe
  generalize forN 2 d _ = e at hreleases
  dsimp only
  have hlen : e.eng.pes.length = d.eng.pes.length := congrArg (fun x => x.2.2.2.1) hreleases.toRuns.core
  have hfaults : (e.pe p).faults = (d.pe p).faults := congrArg (fun x : Nat × Option Nat × Bool × Nat => x.2.2.2) (Dev.peSeat_of_roster hreleases.roster p)
  have hforget : (e.dirForget p).eng.pes.length = e.eng.pes.length := upd_length _ _ _
  have hkept : ((e.dirForget p).pe p).faults = (e.pe p).faults := by
    unfold Dev.dirForget
    rw [Dev.pe_setPe_keeps Pe.faults (f := fun e => { e with cache := [], evb := [] }) (fun _ => rfl)]
    rfl
  have hles (l : Nat) : ((e.dirForget p).le l).seat = (d.le l).seat := Dev.leSeat_of_roster hreleases.roster l
  generalize e.dirForget p = g at *
  have hset := Dev.pe_setPe_same g p (fun e => { faults := wrap32 (e.faults + 1), status := 4 }) (by omega)
  rw [hkept, hfaults] at hset
  exact ⟨congrArg Pe.seat hset, hles⟩

/-! ## The fence of a logical engine -/

theorem leFid_class {l : Nat} (hl : l < 12) : fclass (leFid l) = 4 ∧ finst (leFid l) = l ∧ ownIslands (leFid l) = false := by
  have hclass : fclass (leFid l) = 4 := by unfold fclass leFid; omega
  refine ⟨hclass, by unfold finst leFid; omega, ?_⟩
  unfold ownIslands
  rw [hclass]
  rfl

/-- The part after the fence of the engine of a logical engine, if it has one. -/
def Dev.fencesPe (d : Dev) (l : Nat) (c : Dev) : Prop :=
  ((d.le l).pe = none → c = d) ∧ ∀ p, (d.le l).pe = some p → c = (d.closeCrossings (peIsland p)).fencePe p

/-- The fence of a logical engine, after its own engine: readers, records and holders only. -/
theorem Dev.fenceBody_le {l : Nat} (hl : l < 12) (d : Dev) (isl cls cause detail : Nat) :
    ∃ c : Dev, d.fencesPe l c ∧ c.Keeps (d.fenceBody (leFid l) cls isl cause detail true false) := by
  obtain ⟨hclass, hinst, hown⟩ := leFid_class hl
  unfold Dev.fenceBody
  extract_lets owners is e f g h
  have his : is = [] := by dsimp only [is]; rw [hown]; rfl
  have he : e = d := by dsimp only [e]; rw [his]; rfl
  have hf : ∃ c : Dev, d.fencesPe l c ∧ c.Keeps f := by
    dsimp only [f]
    rw [if_pos (by rw [hclass]; rfl), he, hinst]
    split
    next p hp =>
      exact ⟨_, ⟨fun h => absurd (h.symm.trans hp) nofun, fun q hq => by cases hp.symm.trans hq; rfl⟩, Dev.keeps_unlockReader _ l⟩
    next hp => exact ⟨d, ⟨fun _ => rfl, fun q hq => absurd (hp.symm.trans hq) nofun⟩, d.keeps_unlockReader l⟩
  obtain ⟨c, hc, hf⟩ := hf
  have hg : f.Keeps g := f.keeps_logFault ..
  have hh : g.Keeps h := Dev.keeps_forEach (fun d o => d.keeps_stripOwner o cls isl cause (leFid l) true false) owners g
  rw [his]
  exact ⟨c, hc, hh.after (hg.after hf)⟩

/-- The end of a logical engine that is bound to no engine but a fenced one: it is bound to none. -/
theorem Dev.leUnbind_leaves {d : Dev} {l : Nat} (hl : l < d.eng.les.length) (hspare : (d.le l).spare = none)
    (hpe : ∀ p, (d.le l).pe = some p → (d.pe p).status = 4) :
    (d.leUnbind l).eng.pes = d.eng.pes ∧ ((d.leUnbind l).le l).seat = (none, none) := by
  have hrow : d.leUnbind l = d.setLe l (fun x => { x with
      pe := none, joining := 0, logged := 0, sealed := [], inTime := 0, snap := none, cutDue := false, takeover := none, loading := false,
      qslots := List.replicate 16 {} }) := by
    unfold Dev.leUnbind
    extract_lets e f
    have he : e = d := by
      dsimp only [e]
      split
      next p hp => rw [if_pos (by rw [hpe p hp]; rfl)]
      next => rfl
    have hf : f = d := by
      dsimp only [f]
      rw [he, hspare]
    rw [hf]
  rw [hrow]
  exact ⟨rfl, (congrArg Le.seat (Dev.le_setLe_same hl _)).trans (by rw [Le.seat, hspare])⟩

/-- Who runs where, for engine `p` and logical engine `l`. -/
def Dev.seats (d : Dev) (p l : Nat) : (Nat × Option Nat × Bool × Nat) × (Option Nat × Option Nat) := ((d.pe p).seat, (d.le l).seat)

theorem Dev.seats_of_roster {d e : Dev} (h : e.roster = d.roster) (p l : Nat) : e.seats p l = d.seats p l :=
  Prod.ext (Dev.peSeat_of_roster h p) (Dev.leSeat_of_roster h l)

theorem Dev.Keeps.seats {d e : Dev} (h : d.Keeps e) (p l : Nat) : e.seats p l = d.seats p l := Dev.seats_of_roster h.roster p l

theorem Dev.Reports.roster {d e : Dev} (h : d.Reports e) : e.roster = d.roster :=
  congrArg (fun x : List Island × List Crossing × Eng × Svc × Alm => (x.2.2.1.pes.map Pe.seat, x.2.2.1.les.map Le.seat)) h.engines

theorem Dev.Runs.engines {d e : Dev} (h : d.Runs e) : e.eng.pes.length = d.eng.pes.length ∧ e.eng.les.length = d.eng.les.length :=
  ⟨congrArg (fun x => x.2.2.2.1) h.core, congrArg (fun x => x.2.2.2.2) h.core⟩

theorem Dev.roster_toFailed (d : Dev) (fid : Nat) : (d.toFailed fid).roster = d.roster := by
  unfold Dev.toFailed
  extract_lets f e g h others
  have hg : d.Reports g := (Dev.reports_transition e fid 5 1).after (d.reports_setFunc fid (by intro _; rfl))
  have hh : g.Keeps h := g.keeps_episodeOf _ fun d => d.keeps_logFault ..
  exact (h.keeps_completeAll _ _).roster.trans (hh.roster.trans hg.roster)

/-- The last part of the fence of a logical engine: its function's record, and its end. -/
theorem Dev.fenceSteps_le {l : Nat} (hl : l < 12) (d : Dev) (isl cls cause detail code : Nat) :
    ∃ c e f : Dev, d.fencesPe l c ∧ c.Keeps e ∧ e.Reports f ∧ d.fenceSteps (leFid l) isl cls cause detail code = f.leUnbind l := by
  obtain ⟨hclass, hinst, -⟩ := leFid_class hl
  obtain ⟨c, hc, hkeeps⟩ := Dev.fenceBody_le hl d isl cls cause detail
  unfold Dev.fenceSteps
  extract_lets e ep
  refine ⟨c, e, _, hc, hkeeps, e.reports_setFunc (leFid l)
    (f := fun f => { f with fault := cls, isl := isl, why := cause, detail := code, ep := ep }) (by intro _; rfl), ?_⟩
  unfold Dev.classEnds
  rw [hclass, hinst]
  rfl

section Fenced

variable {d : Dev} {l : Nat} (hl : l < 12) (hlen : l < d.eng.les.length)
include hl hlen

/-- A logical engine that is bound to no engine: its fence moves no engine. -/
theorem Dev.fenceSteps_unbound (hseat : (d.le l).seat = (none, none)) (p isl cls cause detail code : Nat) :
    (d.fenceSteps (leFid l) isl cls cause detail code).seats p l = d.seats p l := by
  obtain ⟨hpe, hspare⟩ := Prod.mk.inj hseat
  obtain ⟨c, e, f, hc, he, hf, hrow⟩ := Dev.fenceSteps_le hl d isl cls cause detail code
  rw [hc.1 hpe] at he
  have hseats : f.seats p l = d.seats p l := (Dev.seats_of_roster hf.roster p l).trans (he.seats p l)
  have hfl : (f.le l).seat = (none, none) := (congrArg Prod.snd hseats).trans hseat
  obtain ⟨hpes, hles⟩ := Dev.leUnbind_leaves (d := f) (l := l) (by rw [hf.runs.engines.2, he.toRuns.engines.2]; exact hlen)
    (congrArg Prod.snd hfl) (fun p hp => absurd hp (by rw [show (f.le l).pe = none from congrArg Prod.fst hfl]; exact nofun))
  rw [hrow]
  refine Prod.ext ?_ (hles.trans hseat.symm)
  exact (congrArg (fun pes : List Pe => (pes.getD p {}).seat) hpes).trans (congrArg Prod.fst hseats)

/-- A logical engine without a spare: its engine is fenced, and it is bound to none. -/
theorem Dev.fenceSteps_bound {p : Nat} (hp : p < d.eng.pes.length) (hseat : (d.le l).seat = (some p, none)) (isl cls cause detail code : Nat) :
    (d.fenceSteps (leFid l) isl cls cause detail code).seats p l = ((4, none, false, wrap32 ((d.pe p).faults + 1)), (none, none)) := by
  obtain ⟨hpe, hspare⟩ := Prod.mk.inj hseat
  obtain ⟨c, e, f, hc, he, hf, hrow⟩ := Dev.fenceSteps_le hl d isl cls cause detail code
  obtain rfl := hc.2 p hpe
  obtain ⟨hfenced, hles⟩ := Dev.fencePe_leaves (d := d.closeCrossings (peIsland p)) hp
  have hruns := (Dev.stands_fencePe (d.closeCrossings (peIsland p)) p).toRuns.after (d.stands_closeCrossings _).toRuns
  have hle := hles l
  generalize (d.closeCrossings (peIsland p)).fencePe p = c at *
  have hseats : f.seats p l = c.seats p l := (Dev.seats_of_roster hf.roster p l).trans (he.seats p l)
  have hfp : (f.pe p).seat = (4, none, false, wrap32 ((d.pe p).faults + 1)) := (congrArg Prod.fst hseats).trans hfenced
  have hfl : (f.le l).seat = (some p, none) := (congrArg Prod.snd hseats).trans (hle.trans hseat)
  obtain ⟨hpes, hend⟩ := Dev.leUnbind_leaves (d := f) (l := l) (by rw [hf.runs.engines.2, he.toRuns.engines.2, hruns.engines.2]; exact hlen)
    (congrArg Prod.snd hfl) (fun q hq => by
      obtain rfl : p = q := Option.some.inj ((congrArg Prod.fst hfl).symm.trans hq)
      exact congrArg Prod.fst hfp)
  rw [hrow]
  refine Prod.ext ?_ hend
  exact (congrArg (fun pes : List Pe => (pes.getD p {}).seat) hpes).trans hfp

end Fenced

/-- The answer to a fault moves who runs where by the fence alone. -/
theorem Dev.faultFence_roster {d : Dev} {fid : Nat} (hst : (d.func fid).st ≠ 0 ∧ (d.func fid).st ≠ 5) (isl cls cause detail code : Nat) :
    ∃ c : Dev, d.Keeps c ∧ (d.faultFence fid isl cls cause detail code false).2.roster = (c.fenceSteps fid isl cls cause detail code).roster := by
  unfold Dev.faultFence
  extract_lets f again
  rw [if_neg (by simpa using hst)]
  dsimp only
  obtain ⟨c, hc, hend⟩ := d.holdingFaults_steps (Dev.fenceSteps fid isl cls cause detail code) (fun d =>
    if f.st == 4 then d.toFailed fid
    else
      let d := d.transition fid 4 1
      if again then d.setFunc fid (fun g => { g with recovering := true, retried := f.st == 1 })
      else if f.st == 3 then d
      else d.toFailed fid)
  refine ⟨c, hc, ?_⟩
  simp only [Bool.and_false, Bool.false_eq_true, if_false]
  refine Eq.trans hend.roster ?_
  generalize c.fenceSteps fid isl cls cause detail code = e
  have hmoves := (e.reports_transition fid 4 1).roster
  dsimp only
  generalize e.transition fid 4 1 = g at hmoves ⊢
  split
  · exact e.roster_toFailed fid
  · split
    · exact (g.reports_setFunc fid (by intro _; rfl)).roster.trans hmoves
    · split
      · exact hmoves
      · exact (g.roster_toFailed fid).trans hmoves

/-- The answer to a fault of a logical engine that is bound to none moves no engine. -/
theorem Dev.faultFence_unbound (d : Dev) {l : Nat} (hl : l < 12) (hlen : l < d.eng.les.length) (hseat : (d.le l).seat = (none, none))
    (p isl cls cause detail code : Nat) : (d.faultFence (leFid l) isl cls cause detail code false).2.seats p l = d.seats p l := by
  by_cases hst : (d.func (leFid l)).st ≠ 0 ∧ (d.func (leFid l)).st ≠ 5
  · obtain ⟨c, hc, hroster⟩ := Dev.faultFence_roster hst isl cls cause detail code
    refine (Dev.seats_of_roster hroster p l).trans (Eq.trans ?_ (hc.seats p l))
    exact Dev.fenceSteps_unbound hl (by rw [hc.toRuns.engines.2]; exact hlen) ((Dev.leSeat_of_roster hc.roster l).trans hseat) p isl cls cause
      detail code
  · unfold Dev.faultFence
    extract_lets f again
    rw [if_pos (by simp only [Bool.or_eq_true, beq_iff_eq]; tauto)]

/-- A place for a logical engine that is bound to none is a free engine. -/
theorem Dev.place_free {d : Dev} {l q : Nat} (hpe : (d.le l).pe = none) (h : d.place l = some q) : (d.pe q).status = 0 := by
  unfold Dev.place at h
  rw [hpe] at h
  dsimp only at h
  split at h
  next hfree =>
    cases h
    simp only [Bool.and_eq_true, beq_iff_eq] at hfree
    exact hfree.2
  next =>
    split at h
    next r hr =>
      cases h
      have hfree := List.find?_some hr
      simp only [Bool.and_eq_true, beq_iff_eq] at hfree
      exact hfree.2
    next =>
      have hfree := List.find?_some h
      simp only [Bool.and_eq_true, beq_iff_eq] at hfree
      exact hfree.2

/-- A start of a logical engine that is bound to none takes a free engine, or moves nothing. -/
theorem Dev.leBegin_leaves {d : Dev} {p l : Nat} (hpe : (d.le l).pe = none) (hp : (d.pe p).status = 4) :
    ((d.leBegin l).2.pe p).seat = (d.pe p).seat ∧ ((d.leBegin l).1 ≠ 0 → (d.leBegin l).2 = d) := by
  unfold Dev.leBegin
  dsimp only
  split
  · exact ⟨rfl, fun _ => rfl⟩
  split
  · exact ⟨rfl, fun _ => rfl⟩
  split
  · exact ⟨rfl, fun _ => rfl⟩
  split
  · exact ⟨rfl, fun _ => rfl⟩
  next q hq =>
    have hne : q ≠ p := by
      rintro rfl
      exact absurd ((Dev.place_free hpe hq).symm.trans hp) (by decide)
    refine ⟨?_, fun h => absurd rfl h⟩
    have hon : (d.powerOn (peIsland q)).eng = d.eng := by unfold Dev.powerOn; split <;> rfl
    refine (congrArg Pe.seat (Dev.pe_setPe_ne (d.powerOn (peIsland q)) _ _ _ hne) :).trans ?_
    rw [Dev.pe, hon]
    rfl

/-- A start of a logical engine that is bound to none, in the whole. -/
theorem Dev.classBegins_le {d : Dev} {p l : Nat} (hl : l < 12) (hpe : (d.le l).pe = none) (hp : (d.pe p).status = 4) :
    ((d.classBegins (leFid l)).2.2.pe p).seat = (d.pe p).seat ∧ ((d.classBegins (leFid l)).1 ≠ 0 → (d.classBegins (leFid l)).2.2.eng = d.eng) := by
  obtain ⟨hclass, hinst, hown⟩ := leFid_class hl
  unfold Dev.classBegins
  extract_lets i e
  have he : e = d := by dsimp only [e]; rw [hown]; rfl
  have hi : i = l := hinst
  rw [he, hi, hclass]
  split
  · exact ⟨rfl, fun _ => rfl⟩
  split
  · exact ⟨rfl, fun _ => rfl⟩
  · obtain ⟨hseat, hsame⟩ := Dev.leBegin_leaves hpe hp
    dsimp only
    generalize d.leBegin l = x at *
    obtain ⟨n, f⟩ := x
    dsimp only at hseat hsame ⊢
    generalize (f.le l).pe = q
    cases q <;> exact ⟨hseat, fun h => (congrArg Dev.eng (hsame h) :)⟩

/-- A logical engine that restarts, bound to none: an engine that is FENCED stays as it is. -/
theorem Dev.startFunc_seat {p l : Nat} (hl : l < 12) : ∀ (n cause : Nat) {d : Dev}, l < d.eng.les.length → (d.le l).seat = (none, none) →
    (d.pe p).status = 4 → ((d.startFunc (leFid l) n cause).pe p).seat = (d.pe p).seat
  | 0, _, _, _, _, _ => rfl
  | n + 1, cause, d, hlen, hseat, hp => by
    unfold Dev.startFunc
    extract_lets e f
    have hef : d.Reports (e.transition (leFid l) 1 cause) :=
      (Dev.reports_transition e (leFid l) 1 cause).after (d.reports_setFunc (leFid l) (by intro _; rfl))
    have hruns := (Dev.keeps_restartRecord _ (leFid l)).toRuns.after hef.runs
    have hroster : f.roster = d.roster := (Dev.keeps_restartRecord _ (leFid l)).roster.trans hef.roster
    have hles : f.eng.les.length = d.eng.les.length := hruns.engines.2
    have hlen' : l < f.eng.les.length := by rw [hles]; exact hlen
    have hfl := (Dev.leSeat_of_roster hroster l).trans hseat
    have hfp := Dev.peSeat_of_roster hroster p
    obtain ⟨hbegins, hsame⟩ := Dev.classBegins_le (d := f) hl (congrArg Prod.fst hfl) ((congrArg (fun x => x.1) hfp).trans hp)
    clear_value f
    generalize f.classBegins (leFid l) = x at *
    obtain ⟨bad, code, g⟩ := x
    dsimp only at hbegins hsame ⊢
    split
    · exact hbegins.trans hfp
    next hbad =>
      have heng : g.eng = f.eng := hsame (by simpa using hbad)
      have hgroster : g.roster = d.roster := (congrArg (fun e : Eng => (e.pes.map Pe.seat, e.les.map Le.seat)) heng).trans hroster
      obtain ⟨hseats, hlast⟩ : (g.inEpisode2 (fun d => d.faultFence (leFid l) (d.funcIsland (leFid l)) (if bad == 1 then 6 else 4)
          (if bad == 1 then 3 else 0) 0 code false)).2.seats p l = d.seats p l ∧
          (g.inEpisode2 (fun d => d.faultFence (leFid l) (d.funcIsland (leFid l)) (if bad == 1 then 6 else 4)
          (if bad == 1 then 3 else 0) 0 code false)).2.eng.les.length = d.eng.les.length := by
        have hfence := g.faultFence_unbound hl (by rw [heng]; exact hlen') ((Dev.leSeat_of_roster hgroster l).trans hseat) p
          (g.funcIsland (leFid l)) (if bad == 1 then 6 else 4) (if bad == 1 then 3 else 0) 0 code
        have hlast := (g.runs_faultFence (leFid l) (g.funcIsland (leFid l)) (if bad == 1 then 6 else 4) (if bad == 1 then 3 else 0) 0 code
          false).engines.2
        exact ⟨hfence.trans (Dev.seats_of_roster hgroster p l), hlast.trans ((congrArg (fun e => e.les.length) heng).trans hles)⟩
      generalize g.inEpisode2 (fun d => d.faultFence (leFid l) (d.funcIsland (leFid l)) (if bad == 1 then 6 else 4)
          (if bad == 1 then 3 else 0) 0 code false) = y at *
      obtain ⟨again, h⟩ := y
      dsimp only at hseats hlast ⊢
      split
      · exact (Dev.startFunc_seat hl n 3 (by rw [hlast]; exact hlen) ((congrArg Prod.snd hseats).trans hseat)
          ((congrArg (fun x => x.1.1) hseats).trans hp)).trans (congrArg Prod.fst hseats)
      · exact congrArg Prod.fst hseats

/-- A restart that is due. -/
theorem Dev.restart_seat {d : Dev} {p l : Nat} (hl : l < 12) (hlen : l < d.eng.les.length) (hseat : (d.le l).seat = (none, none))
    (hp : (d.pe p).status = 4) : ((d.restart (leFid l)).pe p).seat = (d.pe p).seat := by
  unfold Dev.restart
  dsimp only
  split
  exacts [rfl, Dev.startFunc_seat hl 2 _ hlen hseat hp]

/-- A fault of a logical engine that runs on engine `p` without a spare: `p` is FENCED and counts it, whatever restarts. -/
theorem Dev.funcFault_le {d : Dev} {p l : Nat} (hl : l < 12) (hlen : l < d.eng.les.length) (hplen : p < d.eng.pes.length)
    (hst : (d.func (leFid l)).st = 2) (hseat : (d.le l).seat = (some p, none)) (hpwr : d.pwr.st = 0) (cls cause detail code : Nat) :
    ((d.funcFault (leFid l) cls cause detail code false).pe p).seat = (4, none, false, wrap32 ((d.pe p).faults + 1)) := by
  unfold Dev.funcFault Dev.funcFaultAt
  rw [show d.faultWakes = d by simp [Dev.faultWakes, hpwr]]
  obtain ⟨e, he, hend⟩ := d.inEpisode_steps (fun e =>
    let was := (e.func (leFid l)).st
    let (again, f) := e.faultFence (leFid l) (d.funcIsland (leFid l)) cls cause detail code false
    if was == 3 && (f.func (leFid l)).st == 4 then f.reachOff (leFid l) 1
    else if again && f.restartsAtOnce (leFid l) then f.restart (leFid l)
    else f)
  refine (Dev.peSeat_of_roster hend.roster p).trans ?_
  have hfunc := (he.toStands.func (leFid l)).symm ▸ hst
  obtain ⟨c, hc, hroster⟩ := Dev.faultFence_roster (d := e) (fid := leFid l) (by rw [hfunc]; decide) (d.funcIsland (leFid l)) cls cause detail code
  have hdc := he.trans hc
  have hcp := Dev.peSeat_of_roster hdc.roster p
  have hfenced := Dev.fenceSteps_bound (d := c) hl (by rw [hdc.toRuns.engines.2]; exact hlen) (by rw [hdc.toRuns.engines.1]; exact hplen)
    ((Dev.leSeat_of_roster hdc.roster l).trans hseat) (d.funcIsland (leFid l)) cls cause detail code
  rw [show (c.pe p).faults = (d.pe p).faults from congrArg (fun x => x.2.2.2) hcp] at hfenced
  have hseats := (Dev.seats_of_roster hroster p l).trans hfenced
  have hlast := (e.runs_faultFence (leFid l) (d.funcIsland (leFid l)) cls cause detail code false).engines.2
  rw [he.toRuns.engines.2] at hlast
  dsimp only
  rw [hfunc, if_neg (by simp)]
  generalize e.faultFence (leFid l) (d.funcIsland (leFid l)) cls cause detail code false = y at *
  obtain ⟨again, f⟩ := y
  dsimp only at hseats hlast ⊢
  split
  · exact (Dev.restart_seat hl (by rw [hlast]; exact hlen) (congrArg Prod.snd hseats) (congrArg (fun x => x.1.1) hseats)).trans
      (congrArg Prod.fst hseats)
  · exact congrArg Prod.fst hseats

end Sys2Proof.Machine
end

section
/-! SUPPORT. The rows of a running engine: cuts, joins, takeovers, watchdogs and compares (R255, R258, R285 to R294). -/

namespace Sys2Proof.Machine

/-! ## Faults (R259) -/

/-- A fault of an engine that runs alone. -/
theorem Dev.engineFault_alone {d : Dev} {p l : Nat} (hl : l < 12) (hlen : l < d.eng.les.length) (hplen : p < d.eng.pes.length)
    (hpwr : d.pwr.st = 0) (hst : (d.pe p).status = 1) (hle : (d.pe p).le = some l) (hpe : (d.le l).pe = some p) (hspare : (d.le l).spare = none)
    (hcut : (d.le l).cutDue = false) (hon : (d.func (leFid l)).st = 2) (cause : Nat) :
    ((d.engineFault p 3 cause).pe p).seat = (4, none, false, wrap32 ((d.pe p).faults + 1)) := by
  have hdue : d.faultWakes.cutIfDue p = d := by
    simp [Dev.faultWakes, hpwr, Dev.cutIfDue, hle, hcut]
  have hrow : d.engineFault p 3 cause = d.funcFault (leFid l) 3 cause (d.pe p).regs.pc 0 false := by
    unfold Dev.engineFault
    simp [hst, hle, hdue, hpe, hspare]
  rw [hrow]
  exact Dev.funcFault_le hl hlen hplen hon (by rw [Le.seat, hpe, hspare]) hpwr 3 cause _ 0

/-! ## Compares (R255) -/

/-- What a compare leaves of an engine that does not wait. -/
def Pe.rest (e : Pe) : Regs × Stall × Nat := (e.regs, e.stall, e.status)

theorem Pe.endWait_none (tick : Nat) {e : Pe} (h : e.stall = .none) : e.endWait tick = e := by
  unfold Pe.endWait
  rw [h]

/-- A wait that ends keeps the ports' events and timers. -/
theorem Pe.endWait_ports (tick : Nat) (e : Pe) : (e.endWait tick).ports.pend = e.ports.pend ∧ (e.endWait tick).ports.tmr = e.ports.tmr ∧
    (e.endWait tick).ports.wdHalf = e.ports.wdHalf := by
  unfold Pe.endWait
  dsimp only
  split
  · exact ⟨rfl, rfl, rfl⟩
  · exact ⟨rfl, rfl, rfl⟩
  · split <;> exact ⟨rfl, rfl, rfl⟩
  · split
    · exact ⟨rfl, rfl, rfl⟩
    · split <;> exact ⟨rfl, rfl, rfl⟩

/-- An event of a running engine's own island is pending. -/
theorem Dev.raiseLocal_leaves {d : Dev} {p : Nat} (hp : p < d.eng.pes.length) (hrun : (d.pe p).running = true) (b : Nat) :
    ((d.raiseLocal p b).pe p).ports.pend = (d.pe p).ports.pend ||| (1#32 <<< b) ∧ ((d.raiseLocal p b).pe p).ports.tmr = (d.pe p).ports.tmr ∧
      ((d.raiseLocal p b).pe p).ports.wdHalf = (d.pe p).ports.wdHalf := by
  unfold Dev.raiseLocal Dev.setPend
  rw [if_pos hrun, Dev.pe_setPe_same _ _ _ hp]
  exact Pe.endWait_ports _ _

theorem getLsbD_raised (x : Word) {b : Nat} (hb : b < 32) : (x ||| (1#32 <<< b)).getLsbD b = true := by
  simp [hb]

/-- The timer after its compare. -/
def Timer.fired (flags : Nat) (t : Timer) : Timer :=
  { t with stat := t.stat ||| BitVec.ofNat 32 (1 + flags), armed := t.mode == 2 && t.period != 0#32,
           target := if t.mode == 2 then t.target + t.period.toNat else t.target }

theorem Dev.fire_leaves {d : Dev} {p n : Nat} (hp : p < d.eng.pes.length) (hn : n < (d.pe p).ports.tmr.length) (hn4 : n < 4)
    (hrun : (d.pe p).running = true) (flags : Nat) :
    (d.fire p n flags).tmr p n = (d.tmr p n).fired flags ∧ ((d.fire p n flags).pe p).ports.pend.getLsbD (6 + n) = true := by
  let c := d.setTmr p n (Timer.fired flags)
  have hc : c.pe p = { d.pe p with ports := { (d.pe p).ports with tmr := upd (d.pe p).ports.tmr n (Timer.fired flags) } } :=
    Dev.pe_setPe_same d p _ hp
  have hlen : p < c.eng.pes.length := by
    show p < (upd d.eng.pes p _).length
    rw [upd_length]
    exact hp
  obtain ⟨hpend, htmr, -⟩ := Dev.raiseLocal_leaves (d := c) hlen (by rw [hc]; exact hrun) (6 + n)
  have hrow : d.fire p n flags = c.raiseLocal p (6 + n) := rfl
  rw [hrow]
  clear_value c
  refine ⟨?_, by rw [hpend]; exact getLsbD_raised _ (by omega)⟩
  rw [Dev.tmr, htmr, hc]
  exact upd_getD_same _ _ _ _ hn

/-- A compare of an engine that does not wait moves its timers and events only. -/
theorem Dev.fire_rest {d : Dev} {p : Nat} (hstall : (d.pe p).stall = .none) (n flags : Nat) :
    ((d.fire p n flags).pe p).rest = (d.pe p).rest := by
  let c := d.setTmr p n (Timer.fired flags)
  have hc : (c.pe p).rest = (d.pe p).rest := Dev.pe_setPe_keeps Pe.rest (by intro _; rfl) d p p
  have hrow : d.fire p n flags = c.raiseLocal p (6 + n) := rfl
  have hnone : (c.pe p).stall = .none := (congrArg (fun x : Regs × Stall × Nat => x.2.1) hc).trans hstall
  rw [hrow]
  clear_value c
  unfold Dev.raiseLocal
  split
  · refine Eq.trans ?_ hc
    unfold Dev.setPend
    refine Dev.pe_setPe_keeps_at Pe.rest ?_ p
    rw [Pe.endWait_none]
    exacts [rfl, hnone]
  · exact hc

/-! ## Cuts (R285) -/

theorem Dev.pe_setLe (d : Dev) (l p : Nat) (f : Le → Le) : (d.setLe l f).pe p = d.pe p := rfl

/-- A shadow log that is given up: the spare that replays it is another engine. -/
theorem Dev.discardLog_leaves {d : Dev} {p l : Nat} (hl : l < d.eng.les.length) (hspare : (d.le l).spare ≠ some p) :
    (d.discardLog l).pe p = d.pe p ∧ ((d.discardLog l).le l).snap = (d.le l).snap ∧ ((d.discardLog l).le l).cutDue = (d.le l).cutDue ∧
      ((d.discardLog l).le l).takeover = (d.le l).takeover ∧ (d.discardLog l).eng.les.length = d.eng.les.length := by
  unfold Dev.discardLog
  extract_lets e
  have he : e.pe p = d.pe p ∧ e.eng.les = d.eng.les := by
    dsimp only [e]
    split
    next q hq => exact ⟨Dev.pe_setPe_ne _ _ _ _ (by rintro rfl; exact hspare hq), rfl⟩
    next => exact ⟨rfl, rfl⟩
  have hle : e.le l = d.le l := congrArg (fun xs : List Le => xs.getD l {}) he.2
  obtain ⟨hpe, hles⟩ := he
  clear_value e
  rw [Dev.le_setLe_same (by rw [hles]; exact hl), hle]
  exact ⟨hpe, rfl, rfl, rfl, (upd_length _ _ _).trans (by rw [hles])⟩

theorem Dev.logInput_leaves {d : Dev} {p l : Nat} (hl : l < d.eng.les.length) (hspare : (d.le l).spare ≠ some p) (n : Nat) :
    (d.logInput l n).pe p = d.pe p ∧ ((d.logInput l n).le l).snap = (d.le l).snap ∧ ((d.logInput l n).le l).cutDue = (d.le l).cutDue ∧
      ((d.logInput l n).le l).takeover = (d.le l).takeover ∧ (d.logInput l n).eng.les.length = d.eng.les.length := by
  unfold Dev.logInput
  dsimp only
  split
  · exact ⟨rfl, rfl, rfl, rfl, rfl⟩
  · split
    · exact Dev.discardLog_leaves hl hspare
    · rw [Dev.le_setLe_same hl]
      exact ⟨rfl, rfl, rfl, rfl, upd_length _ _ _⟩

/-- A cut of a running engine with no takeover under way: its state is kept, and the events since the last cut are gone from its log. -/
theorem Dev.cut_leaves {d : Dev} {p l : Nat} (hp : p < d.eng.pes.length) (hl : l < d.eng.les.length) (hpe : (d.le l).pe = some p)
    (hrun : (d.pe p).running = true) (hstall : (d.pe p).stall ≠ .held) (htake : (d.le l).takeover = none) (hspare : (d.le l).spare ≠ some p) :
    ((d.cut l).le l).cutDue = false ∧
      ((d.cut l).le l).snap.map (fun z => (z.regs, z.dram, z.stall)) = some ((d.pe p).regs, (d.pe p).dram, (d.pe p).stall) ∧
      ((d.le l).joining = 2 → ((d.cut l).le l).joining = 3) ∧
      (d.cut l).pe p = { d.pe p with ports := { (d.pe p).ports with raised := 0#32 } } := by
  unfold Dev.cut
  extract_lets c
  have hc : c.le l = { d.le l with cutDue := false } := Dev.le_setLe_same hl _
  have hcp : c.pe p = d.pe p := rfl
  have hclen : c.eng.pes.length = d.eng.pes.length ∧ c.eng.les.length = d.eng.les.length := ⟨rfl, upd_length _ _ _⟩
  clear_value c
  split
  next hnone => exact absurd (((congrArg Le.pe hc).trans hpe).symm.trans hnone) nofun
  next q hq =>
    obtain rfl : p = q := Option.some.inj (((congrArg Le.pe hc).trans hpe).symm.trans hq)
    rw [if_neg (by simp [hcp, hrun, hstall])]
    extract_lets s e g f
    have he : e.pe p = { d.pe p with ports := { (d.pe p).ports with raised := 0#32 } } :=
      (Dev.pe_setPe_same c p _ (by rw [hclen.1]; exact hp)).trans (by rw [hcp])
    have hel : e.le l = { d.le l with cutDue := false, snap := some s } :=
      (Dev.le_setLe_same (d := c.setPorts p (fun q => { q with raised := 0#32 })) (by show l < c.eng.les.length; rw [hclen.2]; exact hl) _).trans
        (by rw [show (c.setPorts p _).le l = c.le l from rfl, hc])
    have hs : (s.regs, s.dram, s.stall) = ((d.pe p).regs, (d.pe p).dram, (d.pe p).stall) := by
      show ((c.pe p).regs, (c.pe p).dram, (c.pe p).stall) = _
      rw [hcp]
    have helen : l < e.eng.les.length := by
      show l < (upd c.eng.les l _).length
      rw [upd_length, hclen.2]
      exact hl
    have hf : f.pe p = e.pe p ∧ (f.le l).cutDue = false ∧ (f.le l).snap = some s ∧ (f.le l).takeover = none ∧
        ((d.le l).joining = 2 → (f.le l).joining = 3) := by
      have hgl := Dev.logInput_leaves (d := e) (p := p) helen (by rw [hel]; exact hspare) 16
      change g.pe p = _ ∧ (g.le l).snap = _ ∧ (g.le l).cutDue = _ ∧ (g.le l).takeover = _ ∧ g.eng.les.length = _ at hgl
      dsimp only [f]
      clear_value g
      obtain ⟨hgp, hgsnap, hgcut, hgtake, hglen⟩ := hgl
      rw [hel] at hgsnap hgcut hgtake
      split
      case h_1 =>
        rw [Dev.le_setLe_same helen, hel]
        exact ⟨rfl, rfl, rfl, htake, fun _ => rfl⟩
      case h_2 h | h_3 h =>
        have hjoin : (d.le l).joining ≠ 2 := fun hj => by rw [hel, hj] at h; cases h
        split
        · exact ⟨hgp, hgcut, hgsnap, hgtake.trans htake, fun hj => absurd hj hjoin⟩
        · rw [Dev.le_setLe_same (by rw [hglen]; exact helen)]
          exact ⟨hgp, hgcut, hgsnap, hgtake.trans htake, fun hj => absurd hj hjoin⟩
      case h_4 h _ _ => exact ⟨rfl, by rw [hel], by rw [hel], by rw [hel]; exact htake, fun hj => absurd (by rw [hel]; exact hj) h⟩
    clear_value f
    obtain ⟨hfp, hcut, hsnap, hnone, hjoin⟩ := hf
    rw [if_neg (by rw [hnone]; decide)]
    exact ⟨hcut, by rw [hsnap, Option.map_some, hs], hjoin, hfp.trans he⟩

/-! ## Joins (R287, R289, R291) -/

/-- A spare that diverges is fenced, and its logical engine has none. -/
theorem Dev.spareFault_leaves {d : Dev} {q l : Nat} (hq : q < d.eng.pes.length) (hl : l < d.eng.les.length) (hspare : (d.le l).spare = some q)
    (cls cause : Nat) : ((d.spareFault l cls cause).pe q).status = 4 ∧ ((d.spareFault l cls cause).le l).spare = none := by
  have hsteps : ∃ e : Dev, (e.pe q).status = 4 ∧ (e.le l).spare = none ∧ e.Keeps (d.spareFault l cls cause) := by
    unfold Dev.spareFault
    rw [hspare]
    dsimp only
    refine ⟨_, ?_, ?_, (Dev.keeps_failArm _ l).after ((Dev.keeps_failMigrate _ l).after
      (Dev.Keeps.trans (Dev.keeps_inEpisode _ fun d => d.keeps_logFault ..) (.of_body rfl)))⟩
    · exact congrArg (fun x => x.1) (Dev.fencePe_leaves hq).1
    · exact congrArg Le.spare (Dev.le_setLe_same (by rw [(d.stands_fencePe q).toRuns.engines.2]; exact hl) _)
  obtain ⟨e, hst, hnone, hkeeps⟩ := hsteps
  have hseats := hkeeps.seats q l
  exact ⟨(congrArg (fun x => x.1.1) hseats).trans hst, (congrArg (fun x => x.2.2) hseats).trans hnone⟩

/-- A spare in step: its command of arming completes. -/
theorem Dev.inStep_leaves {d : Dev} {q l : Nat} (hq : q < d.eng.pes.length) (hl : l < d.eng.les.length) (hspare : (d.le l).spare = some q) :
    ((d.inStep l).pe q).status = 3 ∧ ((d.inStep l).le l).sealed = (d.le l).sealed ∧
      ∀ w, (d.le l).armCmd = some w → ∃ c : Dev, d.Runs c ∧ (c.complete w stDone []).Runs (d.inStep l) := by
  obtain ⟨e, hst, hles, hruns, hrow⟩ : ∃ e : Dev, (e.pe q).status = 3 ∧ e.eng.les = d.eng.les ∧ d.Runs e ∧
      d.inStep l = (e.completeOpt (d.le l).armCmd stDone []).setLe l (fun x => { x with armCmd := none }) := by
    refine ⟨d.setPe q (fun e => { e with status := 3 }), congrArg Pe.status (Dev.pe_setPe_same d q _ hq), rfl, (d.holds_setPe q _).toRuns, ?_⟩
    unfold Dev.inStep
    rw [hspare]
    rfl
  have heng : (e.completeOpt (d.le l).armCmd stDone []).eng = e.eng := by
    obtain ⟨n, hn, -⟩ := e.tells_completeOpt (d.le l).armCmd stDone []
    rw [hn]
    rfl
  rw [hrow]
  refine ⟨?_, ?_, fun v hv => ⟨e, hruns, ?_⟩⟩
  · show ((e.completeOpt (d.le l).armCmd stDone []).eng.pes.getD q {}).status = 3
    rw [heng]
    exact hst
  · rw [Dev.le_setLe_same (by rw [heng, hles]; exact hl), Dev.le, heng, hles]
    rfl
  · rw [hv]
    exact (Dev.holds_setLe _ _ _).toRuns

/-- A replay in time, the second in a row: the spare is in step, and the cycle is done. -/
theorem Dev.replayComplete_leaves {d : Dev} {q l : Nat} (hq : q < d.eng.pes.length) (hl : l < d.eng.les.length) (hspare : (d.le l).spare = some q)
    (hjoin : (d.le l).joining = 4) {c : Sealed} {rest : List Sealed} (hsealed : (d.le l).sealed = c :: rest) :
    (d.tick ≤ c.at_ + d.replayAllowance l → (d.le l).inTime = 1 →
      ((d.replayComplete l true).le l).sealed = rest ∧ ((d.replayComplete l true).pe q).status = 3 ∧
        ∀ w, (d.le l).armCmd = some w → ∃ e : Dev, d.Runs e ∧ (e.complete w stDone []).Runs (d.replayComplete l true)) ∧
    ((d.replayComplete l false).le l).spare = none ∧ ((d.replayComplete l false).pe q).status = 4 := by
  constructor
  · intro htime hone
    let e := d.setLe l (fun x => { x with sealed := rest, inTime := 2 })
    have hrow : d.replayComplete l true = e.inStep l := by
      unfold Dev.replayComplete
      simp only [hjoin, hsealed, hspare, htime, hone]
      rfl
    have he : e.le l = { d.le l with sealed := rest, inTime := 2 } := Dev.le_setLe_same hl _
    have hruns : d.Runs e := (d.holds_setLe l _).toRuns
    obtain ⟨hst, hrest, htold⟩ := Dev.inStep_leaves (d := e) hq (by rw [hruns.engines.2]; exact hl) (by rw [he]; exact hspare)
    rw [hrow]
    rw [he] at hrest htold
    clear_value e
    refine ⟨hrest, hst, fun w hw => ?_⟩
    obtain ⟨f, hf, hend⟩ := htold w hw
    exact ⟨f, hruns.trans hf, hend⟩
  · have hrow : d.replayComplete l false = d.episode (fun d => d.spareFault l 3 0) := by
      unfold Dev.replayComplete
      simp only [hjoin, hsealed, hspare]
      rfl
    obtain ⟨hst, hnone⟩ := Dev.spareFault_leaves (d := { d with svc := { d.svc with episode := none } }) hq hl hspare 3 0
    rw [hrow]
    exact ⟨hnone, hst⟩

/-! ## Takeovers (R293, R294) -/

/-- What the compares of an engine that does not wait leave. -/
def Dev.Fires (p : Nat) (d e : Dev) : Prop :=
  (d.pe p).stall = .none → (e.pe p).rest = (d.pe p).rest ∧ e.eng.les = d.eng.les ∧ e.eng.pes.length = d.eng.pes.length ∧ e.svc = d.svc

theorem Dev.Fires.refl (p : Nat) (d : Dev) : d.Fires p d := fun _ => ⟨rfl, rfl, rfl, rfl⟩

theorem Dev.Fires.trans {p : Nat} {d e f : Dev} (h : d.Fires p e) (h' : e.Fires p f) : d.Fires p f := by
  intro hstall
  obtain ⟨hrest, hles, hlen, hsvc⟩ := h hstall
  obtain ⟨hrest', hles', hlen', hsvc'⟩ := h' ((congrArg (fun x : Regs × Stall × Nat => x.2.1) hrest).trans hstall)
  exact ⟨hrest'.trans hrest, hles'.trans hles, hlen'.trans hlen, hsvc'.trans hsvc⟩

theorem Dev.fires_fire (d : Dev) (p n flags : Nat) : d.Fires p (d.fire p n flags) := by
  intro hstall
  have hsvc : (d.fire p n flags).svc = d.svc := by
    obtain ⟨m, ts, is, es, h, -⟩ := d.signals_fire p n flags
    rw [h]
    rfl
  have hles : (d.fire p n flags).eng.les = d.eng.les := by
    obtain ⟨m, ts, is, es, h, -⟩ := d.signals_fire p n flags
    rw [h]
    rfl
  exact ⟨Dev.fire_rest hstall n flags, hles, (d.signals_fire p n flags).keeps.toRuns.engines.1, hsvc⟩

/-- The spare as it goes on, before its compares. -/
def Pe.takesOver (tick : Nat) (e : Pe) : Pe :=
  { e with status := 1, stall := .none, cache := [], evb := [],
           ports := { e.ports with wdKick := tick, wdHalf := false, raised := e.ports.pend } }

/-- A logical engine whose takeover is done. -/
def Le.tookOver (x : Le) : Le :=
  { x with takeover := none, episode := none, migrate := none, joining := 0, logged := 0, sealed := [], inTime := 0, snap := none }

/-- The part after a takeover, from the part after the compares that were due. -/
def Dev.tookOver (d : Dev) (p l : Nat) (stall : Stall) (w : Option Waiting) (b : List Byte) : Dev :=
  let e := d.setPe p (fun e => ({ e with stall := stall } : Pe).endWait d.tick)
  (({ e with svc := { e.svc with migrations := wrap32 (e.svc.migrations + 1) } } : Dev).completeOpt w stDone b).setLe l Le.tookOver

theorem Dev.takeover_steps {d : Dev} {p l old : Nat} {z : Snap}
    (htake : (d.le l).takeover = some (1, old)) (hpe : (d.le l).pe = some p) (hheld : (d.pe p).stall = .held) (hsnap : (d.le l).snap = some z) :
    ∃ e w b, (d.setPe p (Pe.takesOver d.tick)).Fires p e ∧ d.takeover l = e.tookOver p l z.stall w b := by
  unfold Dev.takeover
  split
  case h_2 h => exact absurd hpe (h 1 old p htake)
  next kind old p htake' hpe' =>
  cases htake.symm.trans htake'
  cases hpe.symm.trans hpe'
  rw [if_neg (by rw [hheld]; decide)]
  extract_lets s a b c e svc counted ep fn g w k
  have hs : s.stall = z.stall := by dsimp only [s]; rw [hsnap]; rfl
  have hb : b = a := if_neg (by decide)
  have hg : g = counted := if_neg (by decide)
  refine ⟨c, w, [BitVec.ofNat 8 p, BitVec.ofNat 8 old], ?_, ?_⟩
  case refine_2 =>
    dsimp only [k]
    rw [hg, ← hs]
    clear_value w c
    rfl
  have ha : a = d.setPe p (Pe.takesOver d.tick) := rfl
  rw [← ha, ← hb]
  refine foldl_relates (Dev.Fires.refl p) Dev.Fires.trans (fun d n => ?_) (List.range 4) b
  dsimp only
  split
  · exact .refl p d
  · split
    · split
      · exact d.fires_fire p n 2
      · split
        exacts [d.fires_fire p n 0, .refl p d]
    · split
      exacts [d.fires_fire p n 0, .refl p d]

/-- A takeover at a handover cut: the spare that was held goes on as it stood, and the migration counts. -/
theorem Dev.takeover_leaves {d : Dev} {p l old : Nat} {z : Snap} (hp : p < d.eng.pes.length) (hl : l < d.eng.les.length)
    (htake : (d.le l).takeover = some (1, old)) (hpe : (d.le l).pe = some p) (hheld : (d.pe p).stall = .held) (hsnap : (d.le l).snap = some z)
    (hz : z.stall = .none) : ((d.takeover l).le l).takeover = none ∧ ((d.takeover l).pe p).rest = ((d.pe p).regs, .none, 1) ∧
      (d.takeover l).svc.migrations = wrap32 (d.svc.migrations + 1) := by
  obtain ⟨e, w, b, hfires, hrow⟩ := Dev.takeover_steps htake hpe hheld hsnap
  have hset := Dev.pe_setPe_same d p (Pe.takesOver d.tick) hp
  obtain ⟨hrest, hles, hlen, hsvc⟩ := hfires (by rw [hset]; rfl)
  rw [hset] at hrest
  have hlast := Dev.pe_setPe_same e p (fun x => ({ x with stall := z.stall } : Pe).endWait e.tick) (by rw [hlen]; simpa [Dev.setPe] using hp)
  rw [hz, Pe.endWait_none _ rfl] at hlast
  rw [hrow, hz]
  unfold Dev.tookOver
  extract_lets f
  have hf : f.pe p = { e.pe p with stall := .none } := hlast
  have hfles : f.eng.les = d.eng.les := hles
  have hfsvc : f.svc = d.svc := hsvc
  clear_value f
  generalize hg : ({ f with svc := { f.svc with migrations := wrap32 (f.svc.migrations + 1) } } : Dev) = g
  have htells := g.tells_completeOpt w stDone b
  have hsvc' := htells.svc
  have heng : (g.completeOpt w stDone b).eng = g.eng := by
    obtain ⟨n, hn, -⟩ := htells
    rw [hn]
    rfl
  generalize g.completeOpt w stDone b = h at *
  subst hg
  refine ⟨?_, ?_, ?_⟩
  · rw [Dev.le_setLe_same (by rw [heng]; show l < f.eng.les.length; rw [hfles]; exact hl)]
    rfl
  · have hhp : h.pe p = f.pe p := congrArg (fun e : Eng => e.pes.getD p {}) heng
    show (h.pe p).rest = _
    rw [hhp, hf]
    simp only [Pe.rest, Pe.takesOver, Prod.mk.injEq] at hrest ⊢
    exact ⟨hrest.1, trivial, hrest.2.2⟩
  · show h.svc.migrations = _
    rw [hsvc', ← hfsvc]

end Sys2Proof.Machine
end

section
/-! The obligation about running engines (O45). -/

namespace Sys2Proof.Ports

open Sys2Proof.Machine

/-- Settles O45. -/
theorem engineEvents : Obligations.EngineEvents := by
  intro s p l hp hl
  dsimp only
  refine ⟨fun n hn hlen hrecall hasked => ?_, fun hcut hpe hrun hstall htake hspare hl12 => ?_, fun hjoin => ?_,
    fun q c rest hq hjoin hsealed hspare => ⟨fun htime hone => ?_, ?_⟩, fun old z htake hpe hheld hsnap hz => ?_, fun hrun hhalf => ?_,
    fun halone => ?_, fun cause halone hlow hhigh => ?_, fun n hn harmed hrun hstall hmode => ?_⟩
  · refine State.run_withDev (f := fun d => if 63 < n then d else d.plateReady n) ?_
    have hset : (s.dev.setPlate n (fun q => { q with recalling := false, ready := true })).plate n =
        { s.dev.plate n with recalling := false, ready := true } := upd_getD_same _ _ _ _ hlen
    simp only [if_neg (show ¬ 63 < n by omega), Dev.plateReady, hrecall, if_true, hset, hasked, Bool.false_eq_true, if_false]
  · have hrow : s.dev.cutRow l = s.dev.cut l := by
      simp [Dev.cutRow, hcut, show ¬ 11 < l by omega]
    obtain ⟨hdone, hkept, hjoin, hend⟩ := Dev.cut_leaves hp hl hpe hrun hstall htake hspare
    generalize s.dev.cut l = e at *
    exact ⟨s.withDev e, State.run_withDev (f := Dev.cutRow l) hrow, hdone, hkept, hjoin, hend⟩
  · refine State.run_withDev (f := fun d => d.joinCopied l) ?_
    simp [Dev.joinCopied, hjoin]
  · obtain ⟨hrest, hst, htold⟩ := (Dev.replayComplete_leaves hq hl hspare hjoin hsealed).1 htime hone
    generalize hrow : s.dev.replayComplete l true = e at *
    refine ⟨s.withDev e, State.run_withDev (f := fun d => d.replayComplete l true) hrow, hrest, hst, fun w hw hrecov => ?_⟩
    obtain ⟨c, hc, hend⟩ := htold w hw
    exact State.completed_of_complete hc.tells hc.restarting hrecov hend.tells
  · have hleaves := (Dev.replayComplete_leaves hq hl hspare hjoin hsealed).2
    generalize hrow : s.dev.replayComplete l false = e at *
    exact ⟨s.withDev e, State.run_withDev (f := fun d => d.replayComplete l false) hrow, hleaves⟩
  · have hrow : s.dev.takeoverRow l = s.dev.takeover l := by simp [Dev.takeoverRow, htake]
    obtain ⟨hnone, hrest, hcount⟩ := Dev.takeover_leaves hp hl htake hpe hheld hsnap hz
    generalize s.dev.takeover l = e at *
    obtain ⟨hregs, hstall, hst⟩ := by simpa only [Pe.rest, Prod.mk.injEq] using hrest
    exact ⟨s.withDev e, State.run_withDev (f := Dev.takeoverRow l) hrow, hnone, hstall, hst, hregs, hcount⟩
  · let c := (s.dev.advanceTo ((s.dev.pe p).ports.wdKick + usNs (s.dev.pe p).ports.wdPeriod / 2)).setPorts p (fun q => { q with wdHalf := true })
    have hrow : s.dev.wdHalf p = c.raiseLocal p 10 := by
      simp only [Dev.wdHalf, hrun, hhalf, Bool.not_true, Bool.or_self, Bool.false_eq_true, if_false]
      rfl
    have hcp : c.pe p = { s.dev.pe p with ports := { (s.dev.pe p).ports with wdHalf := true } } := Dev.pe_setPe_same _ _ _ hp
    have hclen : p.val < c.eng.pes.length := by
      show p.val < (upd s.dev.eng.pes p _).length
      rw [upd_length]
      exact hp
    have hctick : c.tick = max s.dev.tick ((s.dev.pe p).ports.wdKick + usNs (s.dev.pe p).ports.wdPeriod / 2) := rfl
    obtain ⟨hpend, -, hkept⟩ := Dev.raiseLocal_leaves hclen (by rw [hcp]; exact hrun) 10
    have htick := (c.signals_raiseLocal p 10).keeps.toRuns.tick
    clear_value c
    generalize c.raiseLocal p 10 = e at *
    refine ⟨s.withDev e, State.run_withDev (f := Dev.wdHalf p) hrow, by exact hkept.trans (by rw [hcp]), ?_, ?_⟩
    · exact (congrArg (fun w : Word => w.getLsbD 10) hpend).trans (getLsbD_raised _ (by decide))
    · refine (htick.trans hctick).trans ?_
      unfold usNs
      rw [Nat.mul_comm]
  · obtain ⟨hpwr, hrun, hst, hle, hpe, hspare, hcut, hon, hl12⟩ := halone
    have hrow : s.dev.wdExpiry p = (s.dev.advanceTo ((s.dev.pe p).ports.wdKick + usNs (s.dev.pe p).ports.wdPeriod)).engineFault p 3 1 := by
      simp [Dev.wdExpiry, hrun]
    have hseat := Dev.engineFault_alone (d := s.dev.advanceTo ((s.dev.pe p).ports.wdKick + usNs (s.dev.pe p).ports.wdPeriod)) hl12 hl hp hpwr hst
      hle hpe hspare hcut hon 1
    generalize Dev.engineFault _ _ _ _ = e at *
    obtain ⟨hst, -, hrun, hfaults⟩ := by simpa only [Pe.seat, Prod.mk.injEq] using hseat
    exact ⟨s.withDev e, State.run_withDev (f := Dev.wdExpiry p) hrow, hrun, hst, hfaults⟩
  · obtain ⟨hpwr, hrun, hst, hle, hpe, hspare, hcut, hon, hl12⟩ := halone
    have hrow : s.dev.engineRow p cause = s.dev.engineFault p 3 cause := by
      simp [Dev.engineRow, hrun, hlow, hhigh]
    have hseat := Dev.engineFault_alone hl12 hl hp hpwr hst hle hpe hspare hcut hon cause
    generalize s.dev.engineFault p 3 cause = e at *
    obtain ⟨hst, -, hrun, hfaults⟩ := by simpa only [Pe.seat, Prod.mk.injEq] using hseat
    exact ⟨s.withDev e, State.run_withDev (f := fun d => d.engineRow p cause) hrow, hrun, hst, hfaults⟩
  · have hrow : s.dev.timerCompare p n = (s.dev.advanceTo (s.dev.tmr p n).target).fire p n 0 := by
      simp [Dev.timerCompare, harmed, hrun, hstall, hmode]
    obtain ⟨hfired, hpend⟩ := Dev.fire_leaves (d := s.dev.advanceTo (s.dev.tmr p n).target) hp hn n.isLt hrun 0
    have htick := ((s.dev.advanceTo (s.dev.tmr p n).target).signals_fire p n 0).keeps.toRuns.tick
    generalize Dev.fire _ _ _ _ = e at *
    have htmr : e.tmr p n = (s.dev.tmr p n).fired 0 := hfired
    refine ⟨s.withDev e, State.run_withDev (f := fun d => d.timerCompare p n) hrow, htick, ?_, hpend, fun hmode => ?_, fun hmode => ?_⟩
    · show (e.tmr p n).stat.getLsbD 0 = true
      rw [htmr]
      simp [Timer.fired]
    · show (e.tmr p n).armed = false
      rw [htmr]
      simp [Timer.fired, hmode]
    · show (e.tmr p n).target = _
      rw [htmr]
      simp [Timer.fired, hmode]

end Sys2Proof.Ports
end

section
/-! SUPPORT. What the rows of a multidrop controller move (R376, R377, R391 to R405): its counters, its ring and its objects, beside the
requests and the events. -/

namespace Sys2Proof.Machine

/-! ## Views of a controller -/

/-- A controller but for its events, and when a request began. -/
def MbObj.calm (o : MbObj) : MbObj := { o with req := o.req.map (fun q => { q with begun := false, sof := 0 }) }
def Mb.calm (m : Mb) : Mb := { m with evt := 0, objs := m.objs.map MbObj.calm }

/-- A controller but for its events and its requests. -/
def MbObj.idle (o : MbObj) : MbObj := { o with req := none, wait := none, wdrn := false }
def Mb.idle (m : Mb) : Mb := { m with evt := 0, objs := m.objs.map MbObj.idle }

/-- The part beside the holders of quoins and the controllers, and controller `n`. -/
def Dev.calm (n : Nat) (d : Dev) : Dev × Nat × Mb := (d.besideHolders, d.mbs.length, (d.mb n).calm)
def Dev.idle (n : Nat) (d : Dev) : Dev × Nat × Mb := (d.besideHolders, d.mbs.length, (d.mb n).idle)

theorem Mb.idle_calm (m : Mb) : m.calm.idle = m.idle := by
  simp only [Mb.idle, Mb.calm, List.map_map]
  rfl

theorem Dev.idle_of_calm {n : Nat} {d e : Dev} (h : e.calm n = d.calm n) : e.idle n = d.idle n := by
  have hmb := congrArg (fun x : Dev × Nat × Mb => (x.1, x.2.1, x.2.2.idle)) h
  simp only [Dev.calm, Mb.idle_calm] at hmb
  exact hmb

theorem Dev.mb_of_idle {n : Nat} {d e : Dev} (h : e.idle n = d.idle n) : (e.mb n).idle = (d.mb n).idle := by
  simp only [Dev.idle, Prod.mk.injEq] at h
  exact h.2.2

theorem Dev.mbs_of_idle {n : Nat} {d e : Dev} (h : e.idle n = d.idle n) : e.mbs.length = d.mbs.length := by
  simp only [Dev.idle, Prod.mk.injEq] at h
  exact h.2.1

theorem Dev.mb_of_calm {n : Nat} {d e : Dev} (h : e.calm n = d.calm n) : (e.mb n).calm = (d.mb n).calm := by
  simp only [Dev.calm, Prod.mk.injEq] at h
  exact h.2.2

theorem Dev.mb_setMb {d : Dev} {n : Nat} (hn : n < d.mbs.length) (f : Mb → Mb) : (d.setMb n f).mb n = f (d.mb n) :=
  upd_getD_same d.mbs n f {} hn

/-- A view of a controller that an update keeps. -/
theorem Dev.mb_setMb_keeps {α : Type} (v : Mb → α) {f : Mb → Mb} (hf : ∀ m, v (f m) = v m) (d : Dev) (n k : Nat) :
    v ((d.setMb n f).mb k) = v (d.mb k) := by
  have hview (xs : List Mb) : v (xs.getD k {}) = (xs.map v).getD k (v {}) := (List.getD_map xs {} v).symm
  exact (hview _).trans ((congrArg (fun xs => xs.getD k (v {})) (map_upd v f hf d.mbs n)).trans (hview _).symm)

theorem Dev.length_setMb (d : Dev) (n : Nat) (f : Mb → Mb) : (d.setMb n f).mbs.length = d.mbs.length := upd_length _ _ _

theorem Dev.calm_setMb {f : Mb → Mb} (hf : ∀ m, (f m).calm = m.calm) (d : Dev) (n k : Nat) : (d.setMb n f).calm k = d.calm k :=
  Prod.ext rfl (Prod.ext (d.length_setMb n f) (Dev.mb_setMb_keeps Mb.calm hf d n k))

theorem Dev.idle_setMb {f : Mb → Mb} (hf : ∀ m, (f m).idle = m.idle) (d : Dev) (n k : Nat) : (d.setMb n f).idle k = d.idle k :=
  Prod.ext rfl (Prod.ext (d.length_setMb n f) (Dev.mb_setMb_keeps Mb.idle hf d n k))

theorem Dev.Signals.calm {d e : Dev} (h : d.Signals e) (n : Nat) : e.calm n = d.calm n := by
  obtain ⟨m, ts, is, es, rfl, -⟩ := h
  rfl

theorem Dev.calm_mbEvent (d : Dev) (n b k : Nat) : (d.mbEvent n b).calm k = d.calm k :=
  ((d.signals_mbEvent n b).calm k).trans (Dev.calm_setMb (by intro _; rfl) d n k)

theorem Mb.calm_setObj {f : MbObj → MbObj} (hf : ∀ o, (f o).calm = o.calm) (m : Mb) (k : Nat) :
    ({ m with objs := upd m.objs k f } : Mb).calm = m.calm := by
  unfold Mb.calm
  rw [map_upd MbObj.calm f hf]

theorem Mb.idle_setObj {f : MbObj → MbObj} (hf : ∀ o, (f o).idle = o.idle) (m : Mb) (k : Nat) :
    ({ m with objs := upd m.objs k f } : Mb).idle = m.idle := by
  unfold Mb.idle
  rw [map_upd MbObj.idle f hf]

theorem Dev.calm_setObj {f : MbObj → MbObj} (hf : ∀ o, (f o).calm = o.calm) (d : Dev) (n k j : Nat) : (d.setObj n k f).calm j = d.calm j :=
  Dev.calm_setMb (fun m => Mb.calm_setObj hf m k) d n j

theorem Dev.idle_setObj {f : MbObj → MbObj} (hf : ∀ o, (f o).idle = o.idle) (d : Dev) (n k j : Nat) : (d.setObj n k f).idle j = d.idle j :=
  Dev.idle_setMb (fun m => Mb.idle_setObj hf m k) d n j

/-! ## Requests (R376, R383, R407) -/

theorem Dev.calm_mbStart (d : Dev) (n j : Nat) : (d.mbStart n).calm j = d.calm j := by
  unfold Dev.mbStart
  split
  · rfl
  · split
    · refine Dev.calm_setObj (fun o => ?_) d n _ j
      simp only [MbObj.calm, Option.map_map]
      rfl
    · rfl

theorem MbObj.idle_promote (o : MbObj) : o.promote.idle = o.idle := rfl

theorem Dev.idle_mbUnbegin (d : Dev) (n j : Nat) : (d.mbUnbegin n).idle j = d.idle j := by
  unfold Dev.mbUnbegin
  split
  · rfl
  · split
    · split
      · unfold Dev.setWdrn
        refine (Dev.idle_of_calm (Dev.calm_mbEvent _ n 3 j)).trans ?_
        exact (Dev.idle_setObj (by intro _; rfl) _ n _ j).trans (Dev.idle_setObj MbObj.idle_promote d n _ j)
      · refine Dev.idle_setObj (fun o => ?_) d n _ j
        split <;> rfl
    · rfl

theorem Dev.calm_mbCount2 (d : Dev) (n : Nat) (f : Mb → Mb) (j : Nat) : (d.mbCount2 n f).calm j = (d.setMb n f).calm j := by
  unfold Dev.mbCount2
  dsimp only
  split
  exacts [Dev.calm_mbEvent _ n 6 j, rfl]

/-! ## Equal views, equal updates -/

/-- An update that reads and writes neither events nor requests. -/
theorem Dev.idle_setMb_congr {d e : Dev} {n : Nat} (h : e.idle n = d.idle n) (hn : n < d.mbs.length) {f : Mb → Mb}
    (hf : ∀ m, (f m).idle = f m.idle) : (e.setMb n f).idle n = (d.setMb n f).idle n := by
  simp only [Dev.idle, Prod.mk.injEq] at h
  obtain ⟨hbeside, hlen, hmb⟩ := h
  refine Prod.ext hbeside (Prod.ext ((e.length_setMb n f).trans (hlen.trans (d.length_setMb n f).symm)) ?_)
  show ((e.setMb n f).mb n).idle = ((d.setMb n f).mb n).idle
  rw [Dev.mb_setMb hn, Dev.mb_setMb (by rw [hlen]; exact hn), hf, hf, hmb]

theorem Dev.idle_ite {c : Prop} [Decidable c] (d e : Dev) (n : Nat) : (if c then d else e : Dev).idle n = if c then d.idle n else e.idle n := by
  split <;> rfl

/-- What the views of two parts say of the frames that a controller takes. -/
theorem Dev.mbFrame_of_idle {d e : Dev} {n : Nat} (h : e.idle n = d.idle n) (f : MbRx) (slp : Bool) : e.mbFrame n f slp = d.mbFrame n f slp := by
  have hview (d : Dev) : d.mbFrame n f slp =
      { ident := f.ident, ide := f.ide, rtr := f.rtr, fdf := f.fdf, brs := f.brs, esi := f.esi, slp := slp, dlc := f.dlc,
        data := if f.rtr then [] else f.data.take (dlcLen f.fdf f.dlc),
        stamp := (d.idle n).2.2.stampAt ((d.idle n).1.tick - f.sofAgo) } := rfl
  rw [hview, hview, h]

theorem Dev.mbCfg_of_idle {d e : Dev} {n : Nat} (h : e.idle n = d.idle n) (k : Nat) : e.mbCfg k = d.mbCfg k :=
  (congrArg (fun x : Dev × Nat × Mb => x.1.mbCfg k) h :)

theorem Dev.mbCount_of_idle {d e : Dev} {n : Nat} (h : e.idle n = d.idle n) : e.mbCount n = d.mbCount n := by
  have hview (d : Dev) : d.mbCount n = (((d.idle n).2.2.pi + 64 * ((d.idle n).1.mbCfg n).entries - (d.idle n).2.2.ci) %
      (64 * ((d.idle n).1.mbCfg n).entries)) := rfl
  rw [hview, hview, h]

/-! ## Frames received (R376, R391 to R396) -/

/-- The open ring after an entry. -/
def Mb.taken (m : Mb) (e : Nat) (f : MbFrame) : Mb :=
  { m with ring := Mem.setBytes 0 m.ring ((m.pi % e) * 80) (f.entry m.lostc), lostc := 0, pi := (m.pi + 1) % (64 * e) }

/-- A full open ring counts. -/
def Mb.overran (m : Mb) : Mb := { m with overrun := wrap32 (m.overrun + 1), lostc := min 255 (m.lostc + 1) }

theorem Dev.calm_toRing (d : Dev) (n : Nat) (f : MbFrame) : (d.toRing n f).calm n =
    (d.setMb n (if (d.mbCfg n).entries ≤ d.mbCount n then Mb.overran else fun m => m.taken (d.mbCfg n).entries f)).calm n := by
  unfold Dev.toRing
  dsimp only
  split
  · exact Dev.calm_mbEvent _ n 8 n
  · exact Dev.calm_mbEvent _ n 0 n

/-- A frame received counts down the error counter of a controller that takes part. -/
def Mb.heard (listen : Bool) (m : Mb) : Mb := { m with recn := if listen then m.recn else recDown m.recn }

def Mb.counted (m : Mb) : Mb := { m with rxcnt := wrap32 (m.rxcnt + 1) }

theorem Mb.idle_taken (m : Mb) (e : Nat) (f : MbFrame) : (m.taken e f).idle = m.idle.taken e f := by
  simp only [Mb.taken, Mb.idle]
theorem Mb.idle_overran (m : Mb) : m.overran.idle = m.idle.overran := rfl
theorem Mb.idle_counted (m : Mb) : m.counted.idle = m.idle.counted := rfl

/-- What a frame moves before it is stored. -/
theorem Dev.mbReceived_steps {d : Dev} {n : Nat} (hn : n < d.mbs.length) {f : MbRx} (hhears : d.mbHears n = true)
    (hawake : (d.mb n).asleep = false) (hdetect : (d.mb n).detect = none) (hfd : f.fdf = true → (d.mbCfg n).fd = true) :
    ∃ e : Dev, e.idle n = (d.setMb n (Mb.heard (d.mbCfg n).listen)).idle n ∧
      (d.mbReceived n f).calm n = (e.mbStore n (d.mbFrame n f false)).calm n := by
  have hlegal : (f.fdf && !(d.mbCfg n).fd) = false := by
    cases hf : f.fdf
    · rfl
    · rw [hfd hf]; rfl
  unfold Dev.mbReceived
  rw [hdetect, hhears, hawake, hlegal]
  simp only [Option.isSome_none, Bool.not_true, Bool.false_eq_true, if_false]
  generalize hb : d.mbUnbegin n = b
  have hb : b.idle n = d.idle n := hb ▸ d.idle_mbUnbegin n n
  have hcfg := Dev.mbCfg_of_idle hb n
  rw [hcfg]
  generalize hc : (if (d.mbCfg n).listen then b else b.mbCount2 n (fun m => { m with recn := recDown m.recn }) : Dev) = c
  have hc : c.idle n = (d.setMb n (Mb.heard (d.mbCfg n).listen)).idle n := by
    refine Eq.trans ?_ (Dev.idle_setMb_congr (f := Mb.heard (d.mbCfg n).listen) hb hn (fun _ => rfl))
    rw [← hc]
    split
    next h => exact (Dev.idle_setMb (by intro m; rw [h]; rfl) b n n).symm
    next h =>
      refine (Dev.idle_of_calm (Dev.calm_mbCount2 b n _ n)).trans ?_
      rw [Bool.not_eq_true] at h
      rw [h]
      rfl
  have hframe : c.mbFrame n f false = d.mbFrame n f false := by
    rw [Dev.mbFrame_of_idle hc, Dev.mbFrame, Dev.mb_setMb hn]
    rfl
  exact ⟨c, hc, by rw [hframe]; exact Dev.calm_mbStart _ n n⟩

/-- A frame for the open ring joins it, or counts as an overrun where it is full. -/
theorem Dev.mbReceived_ring {d : Dev} {n : Nat} (hn : n < d.mbs.length) {f : MbRx} (hhears : d.mbHears n = true)
    (hawake : (d.mb n).asleep = false) (hdetect : (d.mb n).detect = none) (hfd : f.fdf = true → (d.mbCfg n).fd = true)
    (hmode : (d.mbCfg n).objMode = false) : ((d.mbReceived n f).mb n).idle =
      ((if (d.mbCfg n).entries ≤ d.mbCount n then Mb.overran else fun m => m.taken (d.mbCfg n).entries (d.mbFrame n f false))
        ((d.mb n).heard (d.mbCfg n).listen).counted).idle := by
  obtain ⟨e, he, hrow⟩ := Dev.mbReceived_steps hn hhears hawake hdetect hfd
  have hcfg : e.mbCfg n = d.mbCfg n := Dev.mbCfg_of_idle he n
  have hlen : e.mbs.length = d.mbs.length := (congrArg (fun x : Dev × Nat × Mb => x.2.1) he).trans (d.length_setMb n _)
  have hmb : (e.mb n).idle = ((d.mb n).heard (d.mbCfg n).listen).idle := by
    have h := congrArg (fun x : Dev × Nat × Mb => x.2.2) he
    rwa [Dev.idle, Dev.idle, Dev.mb_setMb hn] at h
  have hcount : (e.setMb n Mb.counted).mbCount n = d.mbCount n := by
    have h := congrArg (fun m : Mb => (m.pi, m.ci)) hmb
    simp only [Dev.mbCount, Dev.mb_setMb (show n < e.mbs.length by omega)]
    rw [show (e.setMb n Mb.counted).mbCfg n = d.mbCfg n from hcfg]
    obtain ⟨hpi, hci⟩ := Prod.mk.inj h
    exact congrArg₂ (fun a b => (a + 64 * (d.mbCfg n).entries - b) % (64 * (d.mbCfg n).entries)) hpi hci
  have hcfg' : (e.setMb n Mb.counted).mbCfg n = d.mbCfg n := hcfg
  have hstore : e.mbStore n (d.mbFrame n f false) = (e.setMb n Mb.counted).toRing n (d.mbFrame n f false) := by
    unfold Dev.mbStore
    extract_lets c
    have hc : c = e.setMb n Mb.counted := rfl
    rw [hc, hcfg', hmode]
    rfl
  have hring := Dev.idle_of_calm ((e.setMb n Mb.counted).calm_toRing n (d.mbFrame n f false))
  rw [hcfg', hcount] at hring
  refine (Dev.mb_of_idle ((Dev.idle_of_calm hrow).trans ((congrArg (Dev.idle n) hstore).trans hring))).trans ?_
  rw [Dev.mb_setMb (by rw [Dev.length_setMb, hlen]; exact hn), Dev.mb_setMb (by rw [hlen]; exact hn)]
  split
  · rw [Mb.idle_overran, Mb.idle_overran, Mb.idle_counted, Mb.idle_counted, hmb]
  · rw [Mb.idle_taken, Mb.idle_taken, Mb.idle_counted, Mb.idle_counted, hmb]

/-! ## Objects (R395, R397) -/

theorem Dev.mbObj_of_idle {n : Nat} {d e : Dev} (h : (e.mb n).idle = (d.mb n).idle) (k : Nat) : (e.mbObj n k).idle = (d.mbObj n k).idle := by
  have hview (xs : List MbObj) : (xs.getD k {}).idle = (xs.map MbObj.idle).getD k (MbObj.idle {}) := (List.getD_map xs {} MbObj.idle).symm
  exact (hview _).trans ((congrArg (fun m : Mb => m.objs.getD k (MbObj.idle {})) h).trans (hview _).symm)

theorem Dev.mbObj_of_calm {n : Nat} {d e : Dev} (h : (e.mb n).calm = (d.mb n).calm) (k : Nat) : (e.mbObj n k).calm = (d.mbObj n k).calm := by
  have hview (xs : List MbObj) : (xs.getD k {}).calm = (xs.map MbObj.calm).getD k (MbObj.calm {}) := (List.getD_map xs {} MbObj.calm).symm
  exact (hview _).trans ((congrArg (fun m : Mb => m.objs.getD k (MbObj.calm {})) h).trans (hview _).symm)

theorem Mb.objs_of_idle {m m' : Mb} (h : m'.idle = m.idle) : m'.objs.length = m.objs.length := by
  have hlen := congrArg (fun m : Mb => m.objs.length) h
  simpa [Mb.idle] using hlen

/-- An object after a frame. -/
def MbObj.filled (o : MbObj) (f : MbFrame) : MbObj :=
  { o with content := f.content, lost := o.lost || o.new, new := true, upd := (o.upd + 1) % 65536 }

theorem MbObj.idle_filled (o : MbObj) (f : MbFrame) : (o.filled f).idle = o.idle.filled f := by
  simp only [MbObj.filled, MbObj.idle]

/-- A frame for an object that nobody reads fills it. -/
theorem Dev.mbReceived_object {d : Dev} {n : Nat} (hn : n < d.mbs.length) {f : MbRx} (hhears : d.mbHears n = true)
    (hawake : (d.mb n).asleep = false) (hdetect : (d.mb n).detect = none) (hfd : f.fdf = true → (d.mbCfg n).fd = true) {k : Nat}
    (hobjs : k < (d.mb n).objs.length) (hmode : (d.mbCfg n).objMode = true)
    (hfind : (List.range 128).find? (fun k => d.objMatches n k (d.mbFrame n f false)) = some k) (hlock : (d.mbObj n k).lock = none) :
    ((d.mbReceived n f).mbObj n k).idle = (d.mbObj n k).idle.filled (d.mbFrame n f false) := by
  obtain ⟨e, he, hrow⟩ := Dev.mbReceived_steps hn hhears hawake hdetect hfd
  have hcfg : (e.setMb n Mb.counted).mbCfg n = d.mbCfg n := Dev.mbCfg_of_idle he n
  have hlen : n < e.mbs.length := by
    rw [Dev.mbs_of_idle he, Dev.length_setMb]
    exact hn
  have hmb : (e.mb n).idle = ((d.mb n).heard (d.mbCfg n).listen).idle := by
    have h := Dev.mb_of_idle he
    rwa [Dev.mb_setMb hn] at h
  obtain ⟨c, hc⟩ : ∃ c, c = e.setMb n Mb.counted := ⟨_, rfl⟩
  have hclen : n < c.mbs.length := by rw [hc, Dev.length_setMb]; exact hlen
  have hcmb : c.mb n = (e.mb n).counted := by rw [hc, Dev.mb_setMb hlen]
  have hobj : (c.mbObj n k).idle = (d.mbObj n k).idle := by
    have heobj : (e.mbObj n k).idle = (d.mbObj n k).idle :=
      Dev.mbObj_of_idle (d := d.setMb n (Mb.heard (d.mbCfg n).listen)) (by rw [Dev.mb_setMb hn]; exact hmb) k |>.trans
        (by rw [Dev.mbObj, Dev.mb_setMb hn]; rfl)
    rw [← heobj, Dev.mbObj, hcmb]
    rfl
  have hcobjs : k < (c.mb n).objs.length := by
    rw [hcmb]
    exact (Mb.objs_of_idle hmb).symm ▸ hobjs
  have hstore : e.mbStore n (d.mbFrame n f false) = c.toObject n k (d.mbFrame n f false) := by
    have hmatch : (fun k => c.objMatches n k (d.mbFrame n f false)) = fun k => d.objMatches n k (d.mbFrame n f false) := by
      funext j
      simp only [Dev.objMatches, Dev.objCfg, hc, hcfg]
    unfold Dev.mbStore
    extract_lets c'
    have hc' : c' = c := hc.symm
    rw [hc', hmatch, hfind, hc, hcfg, hmode]
    rfl
  have hfree : (c.mbObj n k).lock.isSome = false := by
    have h := congrArg MbObj.lock hobj
    rw [show (c.mbObj n k).lock = (d.mbObj n k).lock from h, hlock]
    rfl
  have hfill : c.toObject n k (d.mbFrame n f false) = (c.setObj n k (fun o => o.filled (d.mbFrame n f false))).mbEvent n 1 := by
    unfold Dev.toObject
    dsimp only
    rw [hfree]
    rfl
  have hend := hrow.trans ((congrArg (Dev.calm n) (hstore.trans hfill)).trans (Dev.calm_mbEvent _ n 1 n))
  refine (Dev.mbObj_of_idle (Dev.mb_of_idle (Dev.idle_of_calm hend)) k).trans ?_
  rw [Dev.mbObj_setObj hclen hcobjs, MbObj.idle_filled, hobj]

/-! ## Frames sent (R377, R405) -/

/-- A frame sent, in the counters of its controller. -/
def Mb.sent (m : Mb) : Mb := { m with txcnt := wrap32 (m.txcnt + 1), tec := m.tec - 1 }

/-- The object of a frame sent: its stamp, and the request that waits. -/
def MbObj.sent (o : MbObj) (stamp : Nat) : MbObj := MbObj.promote { o with txok := true, content := leb 4 stamp ++ o.content.drop 4 }

def Mb.counts (m : Mb) : Nat × Nat := (m.txcnt, m.tec)

theorem Mb.counts_of_calm {m m' : Mb} (h : m'.calm = m.calm) : m'.counts = m.counts := (congrArg Mb.counts h :)

/-- A frame sent counts, leaves its stamp and ends its request. -/
theorem Dev.mbSent_leaves {d : Dev} {n k : Nat} (hn : n < d.mbs.length) (hobjs : k < (d.mb n).objs.length) {q : MbReq}
    (htt : d.ttLevel n = 0) (hbegun : d.begunObj n = some k) (hreq : (d.mbObj n k).req = some q) :
    ((Dev.mbSent n d).mb n).txcnt = (d.mb n).sent.txcnt ∧ ((Dev.mbSent n d).mb n).tec = (d.mb n).sent.tec ∧
      ((Dev.mbSent n d).mbObj n k).calm = ((d.mbObj n k).sent ((d.mb n).stampAt q.sof)).calm := by
  obtain ⟨c, hc, hrow⟩ : ∃ c : Dev, c.calm n = (d.setMb n Mb.sent).calm n ∧ (d.mbSentObj n k).calm n = ((c.setObj n k (fun o =>
      { o with txok := true, content := leb 4 ((d.mb n).stampAt q.sof) ++ o.content.drop 4 })).setObj n k MbObj.promote).calm n := by
    unfold Dev.mbSentObj
    rw [hreq]
    refine ⟨_, ?_, Dev.calm_mbEvent _ n 2 n⟩
    refine (Dev.calm_mbCount2 _ n _ n).trans (Prod.ext rfl (Prod.ext ?_ ?_))
    · simp only [Dev.calm, Dev.length_setMb]
    · exact congrArg Mb.calm ((Dev.mb_setMb (by rw [Dev.length_setMb]; exact hn) _).trans
        ((congrArg (fun m : Mb => { m with tec := m.tec - 1 }) (Dev.mb_setMb hn _)).trans (Dev.mb_setMb hn Mb.sent).symm))
  have hlevel : (d.mbSentObj n k).ttLevel n = 0 := by
    have hbeside := congrArg (fun x : Dev × Nat × Mb => x.1.ttLevel n) hrow
    have hbeside' := congrArg (fun x : Dev × Nat × Mb => x.1.ttLevel n) hc
    exact hbeside.trans (hbeside'.trans htt)
  have hsent : Dev.mbSent n d = (d.mbSentObj n k).mbStart n := by
    unfold Dev.mbSent
    rw [hbegun]
    dsimp only
    rw [hlevel]
    rfl
  have hlen : n < c.mbs.length := by
    rw [Dev.mbs_of_idle (Dev.idle_of_calm hc), Dev.length_setMb]
    exact hn
  have hmb : (c.mb n).calm = (d.mb n).sent.calm := (Dev.mb_of_calm hc).trans (congrArg Mb.calm (Dev.mb_setMb hn _))
  have hcobjs : k < (c.mb n).objs.length := by
    have h := congrArg Mb.idle hmb
    rw [Mb.idle_calm, Mb.idle_calm] at h
    rw [Mb.objs_of_idle h]
    exact hobjs
  have hobj : (c.mbObj n k).calm = (d.mbObj n k).calm :=
    (Dev.mbObj_of_calm (d := d.setMb n Mb.sent) (Dev.mb_of_calm hc) k).trans (by rw [Dev.mbObj, Dev.mb_setMb hn]; rfl)
  have hend := (Dev.calm_mbStart (d.mbSentObj n k) n n).trans hrow
  have hcounts : ((d.mbSentObj n k).mbStart n |>.mb n).counts = (d.mb n).sent.counts :=
    (Mb.counts_of_calm (Dev.mb_of_calm hend)).trans (((Dev.mb_setMb_keeps Mb.counts (by intro _; rfl) _ n n).trans
      (Dev.mb_setMb_keeps Mb.counts (by intro _; rfl) c n n)).trans (Mb.counts_of_calm hmb))
  have hlast := (Dev.mbObj_of_calm (Dev.mb_of_calm hend) k).trans (congrArg MbObj.calm
    ((Dev.mbObj_setObj (by rw [Dev.setObj, Dev.length_setMb]; exact hlen)
      (by rw [Dev.setObj, Dev.mb_setMb hlen]; exact (upd_length _ _ _).symm ▸ hcobjs) _).trans
      (congrArg MbObj.promote (Dev.mbObj_setObj hlen hcobjs _))))
  rw [hsent]
  refine ⟨congrArg Prod.fst hcounts, congrArg Prod.snd hcounts, hlast.trans ?_⟩
  have hsent (o : MbObj) : (o.sent ((d.mb n).stampAt q.sof)).calm = (o.calm.sent ((d.mb n).stampAt q.sof)).calm := by
    simp only [MbObj.sent, MbObj.promote, MbObj.calm]
  exact (hsent (c.mbObj n k)).trans ((congrArg (fun o : MbObj => (o.sent ((d.mb n).stampAt q.sof)).calm) hobj).trans (hsent _).symm)

/-! ## Errors (R375, Table 14.7) -/

/-- The last error of a controller. -/
def Mb.erred (m : Mb) (e : MbErr) : Mb := { m with lastErr := e.code % 16 + 128 * b2n e.dataPhase }

/-- An error in the error counters, of a receiver and of a transmitter. -/
def Mb.blamed (m : Mb) (e : MbErr) : Mb :=
  if e.transmitter then
    if e.ackPassive && m.state == 1 && e.code == 3 then m
    else if 255 < m.tec + 8 then { m with tec := 0, recn := 0, busOff := true }
    else { m with tec := m.tec + 8 }
  else { m with recn := min 255 (m.recn + (if e.heavy then 8 else 1)) }

theorem Mb.idle_blamed (m : Mb) (e : MbErr) : (m.blamed e).idle = m.idle.blamed e := by
  unfold Mb.blamed
  have hstate : m.idle.state = m.state := rfl
  rw [hstate]
  split
  · split
    · rfl
    · show Mb.idle (if 255 < m.tec + 8 then _ else _) = if 255 < m.tec + 8 then _ else _
      split <;> rfl
  · rfl

/-- An error of a controller that takes part, other than one of integration. -/
theorem Dev.mbError_leaves {d : Dev} {n : Nat} (hn : n < d.mbs.length) {e : MbErr} (hhears : d.mbHears n = true)
    (hawake : (d.mb n).asleep = false) (hdetect : (d.mb n).detect = none) (hcode : e.code ≠ 7) (hlisten : (d.mbCfg n).listen = false) :
    ((d.mbError n e).mb n).idle = (((d.mb n).erred e).blamed e).idle := by
  unfold Dev.mbError
  rw [hdetect, hhears, hawake]
  simp only [Option.isSome_none, Bool.not_true, Bool.false_eq_true, if_false]
  rw [if_neg (by simpa using hcode)]
  generalize hb : Dev.mbUnbegin _ n = b
  have hb : b.idle n = (d.setMb n (fun m => m.erred e)).idle n := hb ▸ Dev.idle_mbUnbegin _ n n
  have hblen : n < b.mbs.length := by
    rw [Dev.mbs_of_idle hb, Dev.length_setMb]
    exact hn
  have hbmb : (b.mb n).idle = ((d.mb n).erred e).idle := (Dev.mb_of_idle hb).trans (congrArg Mb.idle (Dev.mb_setMb hn _))
  rw [if_neg (by rw [show b.mbCfg n = d.mbCfg n from Dev.mbCfg_of_idle hb n, hlisten]; decide)]
  refine (Dev.mb_of_idle (Dev.idle_of_calm (Dev.calm_mbStart _ n n))).trans ?_
  rw [Mb.idle_blamed, ← hbmb, ← Mb.idle_blamed]
  have hset (f : Mb → Mb) : ((b.setMb n f).mb n).idle = (f (b.mb n)).idle := congrArg Mb.idle (Dev.mb_setMb hblen f)
  have hcount (f : Mb → Mb) : ((b.mbCount2 n f).mb n).idle = (f (b.mb n)).idle :=
    (Dev.mb_of_idle (Dev.idle_of_calm (Dev.calm_mbCount2 b n f n))).trans (hset f)
  unfold Mb.blamed
  split
  · split
    · rfl
    · split
      · exact (Dev.mb_of_idle (Dev.idle_of_calm (Dev.calm_mbEvent _ n 4 n))).trans (hset _)
      · exact hcount _
  · exact hcount _

end Sys2Proof.Machine
end

section
/-! SUPPORT. Locks, detection, recovery, a stuck bus and the frames of a time-triggered bus (R378, R379, R388, R399, R497, R498). -/

namespace Sys2Proof.Machine

/-! ## Locks (R399) -/

/-- A lock that expires: the object is free, and its shadow frame, if it has one, becomes its content. -/
theorem Dev.unlock_leaves {d : Dev} {n k : Nat} (hn : n < d.mbs.length) (hk : k < (d.mb n).objs.length) (hlock : (d.mbObj n k).lock ≠ none) :
    ((d.unlock n k true).mbObj n k).lock = none ∧ ((d.unlock n k true).mbObj n k).lexp = true ∧
      ∀ x, (d.mbObj n k).shadow = some x → ((d.unlock n k true).mbObj n k).content = x.1 ∧ ((d.unlock n k true).mbObj n k).new = true := by
  unfold Dev.unlock
  rw [if_neg (by simpa using hlock), if_pos rfl]
  have hset := Dev.mbObj_setObj hn hk (fun o => { o with lock := none, lexp := true })
  have hcalm := Dev.calm_mbEvent (d.setObj n k (fun o => { o with lock := none, lexp := true })) n 7 n
  have hlen : n < (d.setObj n k (fun o => { o with lock := none, lexp := true })).mbs.length := by
    rw [Dev.setObj, Dev.length_setMb]
    exact hn
  have hobjs : k < ((d.setObj n k (fun o => { o with lock := none, lexp := true })).mb n).objs.length := by
    rw [Dev.setObj, Dev.mb_setMb hn]
    exact (upd_length _ _ _).symm ▸ hk
  generalize d.setObj n k _ = c at *
  generalize c.mbEvent n 7 = e at *
  have hobj := (Dev.mbObj_of_calm (Dev.mb_of_calm hcalm) k).trans (congrArg MbObj.calm hset)
  have helen : n < e.mbs.length := by rw [Dev.mbs_of_idle (Dev.idle_of_calm hcalm)]; exact hlen
  have heobjs : k < (e.mb n).objs.length := by
    rw [Mb.objs_of_idle (Dev.mb_of_idle (Dev.idle_of_calm hcalm))]
    exact hobjs
  have hshadow : (e.mbObj n k).shadow = (d.mbObj n k).shadow := (congrArg MbObj.shadow hobj :)
  unfold Dev.unshadow
  rw [hshadow]
  split
  next h => exact ⟨(congrArg MbObj.lock hobj :), (congrArg MbObj.lexp hobj :), fun x hx => absurd (h.symm.trans hx) nofun⟩
  next c' lost h =>
    have hend := (Dev.mbObj_of_calm (Dev.mb_of_calm (Dev.calm_mbEvent (e.setObj n k (fun o => { o with
      content := c', lost := lost || (true && o.new), new := true, shadow := none })) n 1 n)) k).trans
        (congrArg MbObj.calm (Dev.mbObj_setObj helen heobjs _))
    refine ⟨?_, ?_, fun x hx => ⟨?_, (congrArg MbObj.new hend :)⟩⟩
    · exact (congrArg MbObj.lock hend :).trans (congrArg MbObj.lock hobj :)
    · exact (congrArg MbObj.lexp hend :).trans (congrArg MbObj.lexp hobj :)
    · cases h.symm.trans hx
      exact (congrArg MbObj.content hend :)

/-! ## Rate detection (R379 to R381) -/

theorem Dev.detectEnd_leaves {d : Dev} {n : Nat} (hn : n < d.mbs.length) {y : MbDetect} (hy : (d.mb n).detect = some y) :
    ((d.detectEnd n).mb n).detect = none ∧ (d.detectEnd n).tick = d.tick ∧ ∃ (c : Dev) (st : Nat) (b : List Byte), d.Runs c ∧
      d.detectEnd n = c.complete y.cmd st b ∧ (y.accepted = none → st = 0x02FF) ∧ (∀ a k, y.accepted = some a → y.cand = some k → st = stDone) := by
  let c := d.setMb n (fun m => { m with detect := none })
  have hruns : d.Runs c := (d.keeps_setMb n _).toRuns
  have hnone : (c.mb n).detect = none := congrArg Mb.detect (Dev.mb_setMb hn (fun m => { m with detect := none }))
  have hrow : ∃ (st : Nat) (b : List Byte), d.detectEnd n = c.complete y.cmd st b ∧ (y.accepted = none → st = 0x02FF) ∧
      (∀ a k, y.accepted = some a → y.cand = some k → st = stDone) := by
    unfold Dev.detectEnd
    rw [hy]
    dsimp only
    split
    next a k ha hk => exact ⟨_, _, rfl, fun h => absurd (h.symm.trans ha) nofun, fun _ _ _ _ => rfl⟩
    next h => exact ⟨_, _, rfl, fun _ => rfl, fun a k ha hk => absurd hk (h a k ha)⟩
  clear_value c
  obtain ⟨st, b, hrow, hfail, hdone⟩ := hrow
  have htells := c.tells_complete y.cmd st b
  rw [hrow]
  refine ⟨?_, htells.keeps.toRuns.tick.trans hruns.tick, c, st, b, hruns, rfl, hfail, hdone⟩
  obtain ⟨m, hm, -⟩ := htells
  rw [hm]
  exact hnone

/-! ## Recovery, integration, a stuck bus (R376, R378, R388) -/

theorem Dev.mbRecover_leaves {d : Dev} {n : Nat} (hn : n < d.mbs.length) (hon : d.isOn (mbFid n) = true) (hoff : (d.mb n).busOff = true) :
    ((d.mbRecover n).mb n).busOff = false := by
  unfold Dev.mbRecover
  rw [if_pos (by rw [hon, hoff]; rfl)]
  have hend := (Dev.calm_mbStart ((d.setMb n (fun m => { m with busOff := false })).mbEvent n 5) n n).trans (Dev.calm_mbEvent _ n 5 n)
  exact (congrArg Mb.busOff ((Dev.mb_of_calm hend).trans (congrArg Mb.calm (Dev.mb_setMb hn _))) :)

theorem Dev.mbIntegrated_leaves {d : Dev} {n : Nat} (hn : n < d.mbs.length) (hon : d.isOn (mbFid n) = true) (hinteg : (d.mb n).integ = true)
    (hawake : (d.mb n).asleep = false) : ((d.mbIntegrated n).mb n).integ = false := by
  unfold Dev.mbIntegrated
  rw [if_pos (by rw [hon, hinteg, hawake]; rfl)]
  have hend := Dev.calm_mbStart (d.setMb n (fun m => { m with integ := false })) n n
  exact (congrArg Mb.integ ((Dev.mb_of_calm hend).trans (congrArg Mb.calm (Dev.mb_setMb hn _))) :)

theorem Dev.mbStuck_leaves {d : Dev} {n : Nat} (hn : n < d.mbs.length) (hon : d.isOn (mbFid n) = true) (hup : d.islandUp (mbIsland n) = true)
    (hawake : (d.mb n).asleep = false) : ((d.mbStuck n).mb n).lastErr = 8 ∧ ((d.mbStuck n).mb n).integ = true ∧
      ∃ c : Dev, c.svc.nextRec = d.svc.nextRec ∧ c.Logs (d.mbStuck n) 7 (mbIsland n) (if (d.begunObj n).isSome then 2 else 9) 0 := by
  unfold Dev.mbStuck
  rw [if_neg (by rw [hon, hup, hawake]; decide)]
  extract_lets cut b c
  have hb : n < b.mbs.length ∧ b.svc.nextRec = d.svc.nextRec := by
    dsimp only [b]
    split
    · have h := (d.discard 1).idle_mbUnbegin n n
      generalize (d.discard 1).mbUnbegin n = e at h
      exact ⟨Dev.mbs_of_idle h ▸ hn, (congrArg (fun x : Dev × Nat × Mb => x.1.svc.nextRec) h :)⟩
    · exact ⟨hn, rfl⟩
  obtain ⟨hlen, hnum⟩ := hb
  have hc : c.mb n = { b.mb n with lastErr := 8, integ := true } := Dev.mb_setMb hlen _
  have hnum' : c.svc.nextRec = d.svc.nextRec := hnum
  clear_value c
  have hlogs := c.logs_episode 7 (mbIsland n) (if cut then 2 else 9) 0 (mbFid n) 0
  have hmb := hlogs.keeps (fun d => d.mb n) (fun _ _ _ => rfl)
  exact ⟨by rw [hmb, hc], by rw [hmb, hc], c, hnum', hlogs⟩

/-! ## Reference messages (R497, R498) -/

theorem Dev.tt_setTt {d : Dev} {n : Nat} (hn : n < d.tts.length) (f : Tt → Tt) : (d.setTt n f).tt n = f (d.tt n) :=
  upd_getD_same d.tts n f {} hn

theorem Dev.referenceMissed_leaves {d : Dev} {n : Nat} (hn : n < d.tts.length) (hlevel : d.ttLevel n ≠ 0) (hon : d.isOn (mbFid n) = true)
    (hmaster : (d.tt n).st ≠ 3) (hidle : (d.tt n).st ≠ 0) : ((d.referenceMissed n).tt n).st = 1 ∧
      ((d.referenceMissed n).tt n).miss = wrap32 ((d.tt n).miss + 1) ∧
      (d.referenceMissed n).tick = max d.tick ((d.tt n).expected + tblCycle (d.doms.getD (2 + n) {}).active / 200) := by
  unfold Dev.referenceMissed
  extract_lets cyc t c
  rw [if_neg (by simp [t, hlevel, hon, hmaster, hidle])]
  have hset := Dev.tt_setTt (d := c) hn (fun t => { t with st := 1, good := 0, miss := wrap32 (t.miss + 1), window := none, expected := t.expected + cyc })
  exact ⟨congrArg Tt.st hset, congrArg Tt.miss hset, rfl⟩

/-- A reference message of the part's own begins, under the next cycle. -/
theorem Dev.sendReference_leaves {d : Dev} {n k : Nat} (hn : n < d.mbs.length) (ht : n < d.tts.length) (hobjs : k < (d.mb n).objs.length)
    (hon : d.isOn (mbFid n) = true) (hk : tblRefObj (d.doms.getD (2 + n) {}).active = k) (hk128 : k < 128)
    (hoff : (d.mb n).busOff = false) (hinteg : (d.mb n).integ = false) (hbegun : d.begunObj n = none) :
    (d.sendReference n).tick = d.tick ∧
      ((d.sendReference n).tt n).cycle = ((d.tt n).cycle + 1) % 2 ^ tblMatrix (d.doms.getD (2 + n) {}).active ∧
      ((d.sendReference n).mbObj n k).req.map (fun q => (q.begun, q.sof)) = some (true, d.tick) := by
  obtain ⟨content, c, hmbs, hcycle, hrow⟩ : ∃ (content : List Byte) (c : Dev), c.mbs = d.mbs ∧
      (c.tt n).cycle = ((d.tt n).cycle + 1) % 2 ^ tblMatrix (d.doms.getD (2 + n) {}).active ∧ c.tick = d.tick ∧ d.sendReference n = c.setObj n k
        (fun o => { o with content := content, txok := false, wdrn := false, req := some { content := content, begun := true, sof := d.tick } }) := by
    unfold Dev.sendReference
    dsimp only
    rw [hk, if_neg (by rw [hon, hoff, hinteg, hbegun]; simp; omega)]
    exact ⟨_, d.setTt n (fun t => { t with cycle := (t.cycle + 1) % 2 ^ tblMatrix (d.doms.getD (2 + n) {}).active }), rfl,
      congrArg Tt.cycle (Dev.tt_setTt ht _), rfl, rfl⟩
  obtain ⟨htick, hrow⟩ := hrow
  have hset := Dev.mbObj_setObj (d := c) (n := n) (k := k) (by rw [hmbs]; exact hn)
    (by rw [Dev.mb, hmbs]; exact hobjs)
    (fun o => { o with content := content, txok := false, wdrn := false, req := some { content := content, begun := true, sof := d.tick } })
  rw [hrow]
  exact ⟨htick, hcycle, congrArg (fun o : MbObj => o.req.map (fun q => (q.begun, q.sof))) hset⟩

theorem Dev.masterTimeout_at {d : Dev} {n k : Nat} (hlevel : d.ttLevel n ≠ 0) (hon : d.isOn (mbFid n) = true) (hmaster : (d.tt n).st ≠ 3)
    (hk : tblRefObj (d.doms.getD (2 + n) {}).active = k) (hk128 : k < 128) : ∃ v, d.masterTimeout n = (d.advanceTo v).sendReference n := by
  unfold Dev.masterTimeout
  dsimp only
  rw [hk, if_neg (by simp [hlevel, hon, hmaster]; omega)]
  exact ⟨_, rfl⟩

end Sys2Proof.Machine
end

section
/-! SUPPORT. What a meridian leaves (R237, R476, R490, R492): the rings, the buses, the ports and the clock, beside its own marks. -/

namespace Sys2Proof.Machine

/-- The marks of a domain: its count, its last meridian, whether its imposition has started, and the entry that is next. -/
def Domain.marks (x : Domain) : Nat × Nat × Bool × Nat := (x.mcount, x.last, x.started, x.next)

/-- The buses, the rings, the ports, the clock and the controllers. -/
def Dev.sites (d : Dev) : List Tt × List Fr × List Mac × Orr × List Mb := (d.tts, d.frs, d.macs, d.orr, d.mbs)

/-- `e` is `d` after plates, tables and engines have moved at a meridian. -/
structure Dev.Marks (d e : Dev) : Prop extends Dev.Holds d e where
  sites : e.sites = d.sites
  marks : e.doms.map Domain.marks = d.doms.map Domain.marks

theorem Dev.Marks.refl (d : Dev) : d.Marks d := ⟨.refl d, rfl, rfl⟩

theorem Dev.Marks.trans {d e f : Dev} (h : d.Marks e) (h' : e.Marks f) : d.Marks f :=
  ⟨h.toHolds.trans h'.toHolds, h'.sites.trans h.sites, h'.marks.trans h.marks⟩

theorem Dev.Marks.after {d e f : Dev} (h : e.Marks f) (h' : d.Marks e) : d.Marks f := h'.trans h

theorem Dev.Marks.ite {c : Prop} [Decidable c] {d e f : Dev} (h : d.Marks e) (h' : d.Marks f) : d.Marks (if c then e else f) := by
  split
  exacts [h, h']

theorem Dev.Signals.marks {d e : Dev} (h : d.Signals e) : d.Marks e := by
  have hkeeps := h.keeps
  obtain ⟨n, ts, is, es, rfl, -⟩ := h
  exact ⟨hkeeps.toHolds, rfl, rfl⟩

theorem Dev.Tells.marks {d e : Dev} (h : d.Tells e) : d.Marks e := by
  have hkeeps := h.keeps
  obtain ⟨n, rfl, -⟩ := h
  exact ⟨hkeeps.toHolds, rfl, rfl⟩

theorem Dev.marks_foldl {α : Type} {f : Dev → α → Dev} (h : ∀ (d : Dev) x, d.Marks (f d x)) (xs : List α) (d : Dev) : d.Marks (xs.foldl f d) :=
  foldl_relates Dev.Marks.refl Dev.Marks.trans h xs d

theorem Dev.marks_forN {f : Dev → Nat → Dev} (h : ∀ (d : Dev) i, d.Marks (f d i)) (n : Nat) (d : Dev) : d.Marks (forN n d f) := Dev.marks_foldl h _ d

theorem Dev.marks_forEach {α : Type} {f : Dev → α → Dev} (h : ∀ (d : Dev) x, d.Marks (f d x)) (xs : List α) (d : Dev) :
    d.Marks (forEach xs d f) := Dev.marks_foldl h xs d

/-! ## Plates and quoins (R237) -/

theorem Dev.marks_setLe (d : Dev) (l : Nat) (f : Le → Le) : d.Marks (d.setLe l f) := ⟨d.holds_setLe l f, rfl, rfl⟩
theorem Dev.marks_setPe (d : Dev) (p : Nat) (f : Pe → Pe) : d.Marks (d.setPe p f) := ⟨d.holds_setPe p f, rfl, rfl⟩
theorem Dev.marks_setQuoin (d : Dev) (k i : Nat) (f : Quoin → Quoin) : d.Marks (d.setQuoin k i f) := ⟨(d.keeps_setQuoin k i f).toHolds, rfl, rfl⟩
theorem Dev.marks_setPlate (d : Dev) (p : Nat) (f : Plate → Plate) : d.Marks (d.setPlate p f) := ⟨(d.keeps_setPlate p f).toHolds, rfl, rfl⟩
theorem Dev.marks_setPim (d : Dev) (a : Nat) (b : List Byte) : d.Marks (d.setPim a b) := ⟨(d.keeps_setPim a b).toHolds, rfl, rfl⟩
theorem Dev.marks_raiseLe (d : Dev) (src l b : Nat) : d.Marks (d.raiseLe src l b) := (d.signals_raiseLe src l b).marks

theorem Dev.marks_setEng (d : Dev) {f : Eng → Eng} (hpes : (f d.eng).pes.length = d.eng.pes.length) (hles : (f d.eng).les.length = d.eng.les.length) :
    d.Marks (d.setEng f) := ⟨Dev.holds_setEng hpes hles, rfl, rfl⟩

theorem Dev.marks_invalidatePlate (d : Dev) (q : Plate) : d.Marks (d.invalidatePlate q) := by
  unfold Dev.invalidatePlate
  refine d.marks_setEng ?_ ?_
  exacts [List.length_map _, rfl]

theorem Dev.marks_commitPlate (d : Dev) (p : Nat) : d.Marks (d.commitPlate p) := by
  unfold Dev.commitPlate
  extract_lets q e q1 f mine g h i
  have he : d.Marks e := d.marks_invalidatePlate q
  have hf : d.Marks f := (e.marks_setPlate p _).after he
  have hg : d.Marks g := (Dev.marks_forEach (fun d w => d.marks_setPim _ _) mine f).after hf
  have hh : d.Marks h := Dev.Marks.after (e := g) ⟨(g.keeps_setHst _).toHolds, rfl, rfl⟩ hg
  have hi : d.Marks i := (h.marks_setPim _ _).after hh
  split
  exacts [(i.marks_raiseLe _ _ _).after hi, hi]

theorem Dev.marks_commitPoint (d : Dev) (p : Nat) : d.Marks (d.commitPoint p) := .ite (d.marks_commitPlate p) (d.marks_setPlate p _)

theorem Dev.marks_tellGrant (d : Dev) (o : Owner) (kind inst slot : Nat) : d.Marks (d.tellGrant o kind inst slot) := by
  unfold Dev.tellGrant
  split
  exacts [(Dev.marks_raiseLe _ _ _ _).after (d.marks_setLe _ _), .refl d]

theorem Dev.marks_grantNext (d : Dev) (kind inst : Nat) : d.Marks (d.grantNext kind inst) := by
  unfold Dev.grantNext
  dsimp only
  split
  · exact (Dev.marks_tellGrant _ _ _ _ _).after ((Dev.marks_setQuoin _ _ _ _).after (d.marks_setQuoin _ _ _))
  · exact .refl d

theorem Dev.marks_release (d : Dev) (kind inst : Nat) : d.Marks (d.release kind inst) :=
  (Dev.marks_grantNext _ kind inst).after (d.marks_setQuoin kind inst _)

theorem Dev.marks_dropSlot (d : Dev) (o : Option Owner) (kind inst : Nat) : d.Marks (d.dropSlot o kind inst) := by
  unfold Dev.dropSlot
  split
  · split
    exacts [(Dev.marks_raiseLe _ _ _ _).after (d.marks_setLe _ _), .refl d]
  · exact .refl d

theorem Dev.marks_setSvc (d : Dev) (v : Svc) (h : v.cmpRestarts = d.svc.cmpRestarts) : d.Marks { d with svc := v } := by
  refine ⟨(Dev.Keeps.of_body ?_).toHolds, rfl, rfl⟩
  simp only [Dev.body, Dev.core, h]
  rfl

theorem Dev.marks_revokeQuoin (d : Dev) (kind inst : Nat) : d.Marks (d.revokeQuoin kind inst) :=
  (Dev.marks_setSvc _ _ (by rfl)).after ((Dev.marks_dropSlot _ _ kind inst).after (d.marks_setQuoin kind inst _))

theorem Dev.marks_discardWrite (d : Dev) (p : Nat) : d.Marks (d.discardWrite p).2 := by
  refine ⟨(d.keeps_discardWrite p).toHolds, ?_, ?_⟩ <;>
  · unfold Dev.discardWrite
    dsimp only
    split <;> rfl

/-- A plate's lease that ends at a meridian. -/
theorem Dev.marks_lapse (d : Dev) (p : Nat) : d.Marks (d.lapse 4 p) := by
  unfold Dev.lapse
  split
  · exact .refl d
  · exact (Dev.marks_grantNext _ 4 p).after ((Dev.marks_discardWrite _ p).after (d.marks_revokeQuoin 4 p))

theorem Dev.marks_leaseCycles (d : Dev) (dom : Nat) : d.Marks (d.leaseCycles dom) := by
  unfold Dev.leaseCycles
  refine Dev.marks_forN (fun d p => ?_) 64 d
  split
  · extract_lets e
    have he : d.Marks e := d.marks_setQuoin 4 p _
    clear_value e
    exact .ite ((e.marks_lapse p).after he) he
  · exact .refl d

/-! ## Tables and engines (R285, R492) -/

theorem Dev.marks_setDom (d : Dev) (i : Nat) {f : Domain → Domain} (hf : ∀ x, (f x).marks = x.marks) : d.Marks (d.setDom i f) :=
  ⟨(d.keeps_setDoms _).toHolds, rfl, map_upd Domain.marks f hf d.doms i⟩

theorem Dev.marks_impSwitchAt (d : Dev) (dom tick : Nat) : d.Marks (d.impSwitchAt dom tick) := by
  unfold Dev.impSwitchAt
  split
  · exact .refl d
  · extract_lets x count e f g
    refine .ite (d.marks_setDom dom (by intro _; rfl)) ?_
    have he : d.Marks e := d.marks_setDom dom (by intro _; rfl)
    have hf : d.Marks f := (e.marks_release 9 dom).after he
    have hg : d.Marks g := (f.tells_completeOpt _ _ _).marks.after hf
    split
    exacts [(g.marks_raiseLe _ _ _).after hg, hg]

theorem Dev.marks_regrant (d : Dev) (l : Nat) (q : Nat × Nat × Nat × Nat) : d.Marks (d.regrant l q) :=
  .ite (.refl d) ((Dev.marks_tellGrant _ _ _ _ _).after (d.marks_setQuoin _ _ _))

theorem Dev.marks_failMigrate (d : Dev) (l : Nat) : d.Marks (d.failMigrate l) := by
  unfold Dev.failMigrate
  split
  exacts [(Dev.marks_setLe _ _ _).after (d.tells_completeFailed _ _).marks, .refl d]

theorem Dev.marks_logFault (d : Dev) (cls island action cause fid detail : Nat) : d.Marks (d.logFault cls island action cause fid detail) := by
  obtain ⟨late, h⟩ := d.tells_logFault cls island action cause fid detail
  exact h.marks.after (d.marks_setSvc _ rfl)

theorem Dev.marks_episodeOf (d : Dev) (ep : Option (Nat × Nat)) {f : Dev → Dev} (h : ∀ d : Dev, d.Marks (f d)) : d.Marks (d.episodeOf ep f) := by
  have hf := (h { d with svc := { d.svc with episode := ep } }).after (d.marks_setSvc { d.svc with episode := ep } rfl)
  unfold Dev.episodeOf
  generalize f { d with svc := { d.svc with episode := ep } } = e at hf ⊢
  exact hf.trans (e.marks_setSvc _ rfl)

theorem Dev.marks_takeover (d : Dev) (l : Nat) : d.Marks (d.takeover l) := by
  unfold Dev.takeover
  split
  case h_2 => exact .refl d
  next kind old p _ _ =>
  split
  · exact .refl d
  extract_lets s a b c e svc f ep fn g w h
  have ha : d.Marks a := d.marks_setPe p _
  clear_value a
  have hb : d.Marks b := .ite ((Dev.marks_forEach (fun d q => d.marks_regrant l q) s.quoins a).after ha) ha
  clear_value b
  have hc : d.Marks c := by
    refine Dev.Marks.trans hb (Dev.marks_forN (fun d n => ?_) 4 b)
    have hfire (flags : Nat) : d.Marks (d.fire p n flags) := (d.signals_fire p n flags).marks
    dsimp only
    refine .ite (.refl d) (.ite (.ite (hfire 2) (.ite (hfire 0) (.refl d))) (.ite (hfire 0) (.refl d)))
  clear_value c
  have he : d.Marks e := (c.marks_setPe p _).after hc
  clear_value e
  have hf : d.Marks f := Dev.Marks.after (e.marks_setSvc _ (by rfl)) he
  clear_value f
  have hg : d.Marks g := by
    refine .ite (Dev.Marks.after (f.marks_episodeOf ep fun d => d.marks_logFault ..) hf) hf
  clear_value g
  have hh : d.Marks h := (g.tells_completeOpt _ _ _).marks.after hg
  exact (h.marks_setLe l _).after hh

theorem Dev.marks_leMeridian (d : Dev) (l : Nat) : d.Marks (d.leMeridian l) := by
  unfold Dev.leMeridian
  extract_lets e f
  have he : d.Marks e := .ite ((Dev.marks_raiseLe _ _ _ _).after (d.marks_setLe _ _)) (.refl d)
  clear_value e
  split
  · exact (e.marks_takeover l).after he
  · exact he
  · have hf : e.Marks f := by
      dsimp only [f]
      split
      · split
        · exact .ite (e.marks_setLe _ _) (e.marks_failMigrate l)
        · exact e.marks_failMigrate l
      · exact e.marks_failMigrate l
      · exact .refl e
    exact (f.marks_setLe l _).after (hf.after he)

/-! ## A meridian -/

/-- A domain at a meridian. -/
def Domain.meridian (counts : Bool) (tick : Nat) (x : Domain) : Domain :=
  { x with mcount := if counts && x.started then wrap32 (x.mcount + 1) else x.mcount, last := tick, next := 1 }

theorem Dev.meridianEffects_leaves (d : Dev) (dom tick : Nat) (counts : Bool) (but : Option Nat) :
    ∃ c : Dev, d.Marks c ∧ (c.setDom dom (Domain.meridian counts tick)).Marks (d.meridianEffects dom tick counts but) := by
  unfold Dev.meridianEffects
  extract_lets c e f g h i
  refine ⟨c, (Dev.marks_leaseCycles _ dom).after (Dev.marks_forEach (fun d p => d.marks_commitPoint p) _ d), ?_⟩
  have hf : (c.setDom dom (Domain.meridian counts tick)).Marks f := Dev.marks_impSwitchAt _ dom tick
  clear_value f
  have hg : f.Marks g := .ite ⟨(f.keeps_setSwc _).toHolds, rfl, rfl⟩ (.refl f)
  have hh : g.Marks h := Dev.marks_forN (fun d l => d.marks_raiseLe _ l dom) 12 g
  have hi : h.Marks i := Dev.marks_forN (fun d p => .ite (d.signals_capture p _).marks (.refl d)) 14 h
  refine Dev.Marks.after ?_ (hi.after (hh.after (hg.after hf)))
  exact Dev.marks_forN (fun d l => .ite (d.marks_leMeridian l) (.refl d)) 12 i

/-- A meridian of a domain: its marks, and nothing of the buses, the rings and the ports. -/
theorem Dev.meridianEffects_marks {d : Dev} {dom : Nat} (hdom : dom < d.doms.length) (tick : Nat) (counts : Bool) (but : Option Nat) :
    d.Holds (d.meridianEffects dom tick counts but) ∧ (d.meridianEffects dom tick counts but).sites = d.sites ∧
      ((d.meridianEffects dom tick counts but).dom dom).marks = ((d.dom dom).meridian counts tick).marks := by
  obtain ⟨c, hc, hend⟩ := d.meridianEffects_leaves dom tick counts but
  generalize d.meridianEffects dom tick counts but = e at *
  have hset : (c.setDom dom (Domain.meridian counts tick)).Holds e := hend.toHolds
  refine ⟨(hset.after (c.keeps_setDoms _).toHolds).after hc.toHolds, hend.sites.trans hc.sites, ?_⟩
  have hview (d : Dev) : (d.dom dom).marks = (d.doms.map Domain.marks).getD dom (Domain.marks {}) := (List.getD_map d.doms {} Domain.marks).symm
  have hlen : dom < c.doms.length := by
    have h := congrArg List.length hc.marks
    simp only [List.length_map] at h
    exact h.symm ▸ hdom
  have hcdom : (c.dom dom).marks = (d.dom dom).marks := by rw [hview, hview, hc.marks]
  rw [hview, hend.marks, ← hview]
  have hset : (c.setDom dom (Domain.meridian counts tick)).dom dom = (c.dom dom).meridian counts tick := upd_getD_same _ _ _ _ hlen
  rw [hset]
  have hcommutes (x y : Domain) (h : x.marks = y.marks) : (x.meridian counts tick).marks = (y.meridian counts tick).marks := by
    simp only [Domain.marks, Prod.mk.injEq] at h
    obtain ⟨hcount, -, hstarted, -⟩ := h
    simp only [Domain.marks, Domain.meridian, hcount, hstarted]
  exact hcommutes _ _ hcdom

end Sys2Proof.Machine
end

section
/-! SUPPORT. Reference messages and the guardian of a time-triggered bus (R496 to R500). -/

namespace Sys2Proof.Machine

/-! ## What the clock's work leaves (R439, R441) -/

/-- The time-triggered buses and the domains. -/
def Dev.tables (d : Dev) : List Tt × List Domain := (d.tts, d.doms)

theorem Dev.Tells.tables {d e : Dev} (h : d.Tells e) : e.tables = d.tables := by
  obtain ⟨n, rfl, -⟩ := h
  rfl

theorem Dev.tables_ite {c : Prop} [Decidable c] {d e f : Dev} (h : e.tables = d.tables) (h' : f.tables = d.tables) :
    (if c then e else f : Dev).tables = d.tables := by
  split
  exacts [h, h']

theorem Dev.tables_follow (d : Dev) (m : Master) : (d.follow m).tables = d.tables := by
  unfold Dev.follow
  extract_lets e same known f
  have hf : f.tables = d.tables := rfl
  clear_value f
  refine Dev.tables_ite (Dev.tables_ite hf hf) ?_
  exact (Dev.tells_timeEvent _ 3).tables.trans hf

theorem Dev.tables_setQuality (d : Dev) (q : Nat) : (d.setQuality q).tables = d.tables := (d.tells_setQuality q).tables.trans rfl

theorem Dev.tables_leaveOcc (d : Dev) : d.leaveOcc.tables = d.tables := d.tells_leaveOcc.tables.trans rfl

theorem Dev.tables_useOffset (d : Dev) (off : Int) (refBus : Bool) : (d.useOffset off refBus).tables = d.tables := by
  unfold Dev.useOffset
  extract_lets offs e locked q
  have he : e.tables = d.tables := rfl
  clear_value e
  refine Dev.tables_ite ?_ ?_
  · exact (Dev.tables_leaveOcc _).trans ((Dev.tables_setQuality _ q).trans he)
  · exact (Dev.tables_setQuality _ q).trans he

theorem Dev.tables_measure (d : Dev) (off : Int) (refBus : Bool) : (d.measure off refBus).tables = d.tables := by
  unfold Dev.measure
  split
  · rfl
  · extract_lets e w
    have he : e.tables = d.tables := rfl
    clear_value e
    refine Dev.tables_ite (Dev.tables_ite ?_ he) (Dev.tables_ite ?_ he)
    · exact (Dev.tables_useOffset _ off refBus).trans he
    · exact (e.tables_useOffset off refBus).trans he

/-! ## Reference messages (R497) -/

theorem Dev.referenceHeard_leaves {d : Dev} {n : Nat} (hn : n < d.tts.length) (count mark : Nat) :
    ((d.referenceHeard n count mark).tt n).cycle = count % 64 ∧ ((d.referenceHeard n count mark).tt n).lastRef = mark ∧
      (d.referenceHeard n count mark).doms = d.doms := by
  unfold Dev.referenceHeard
  extract_lets tbl t cyc gap next good
  have hset := Dev.tt_setTt hn (fun t => { t with
    cycle := count % 64, lastRef := mark, expected := mark + cyc, good := good, window := none,
    st := if t.st == 2 || decide (2 ≤ good) then 2 else 1 })
  exact ⟨congrArg Tt.cycle hset, congrArg Tt.lastRef hset, rfl⟩

/-- A reference message that a bus hears is its meridian. -/
theorem Dev.reference_leaves {d : Dev} {n : Nat} (hn : n < d.tts.length) (hdom : 2 + n < d.doms.length) (r : RefMsg)
    (hlevel : d.ttLevel n ≠ 0) (hhears : d.mbHears n = true) (hon : d.isOn (mbFid n) = true) (hawake : (d.mb n).asleep = false) :
    ((Dev.reference n r d).tt n).cycle = r.count % 64 ∧ ((Dev.reference n r d).tt n).lastRef = d.tick - r.sofAgo ∧
      ((Dev.reference n r d).dom (2 + n)).last = d.tick - r.sofAgo ∧ ((Dev.reference n r d).dom (2 + n)).next = 1 := by
  obtain ⟨hcycle, hlast, hdoms⟩ := Dev.referenceHeard_leaves hn r.count (d.tick - r.sofAgo)
  unfold Dev.reference
  rw [if_neg (by simp [hlevel, hhears, hon, hawake])]
  extract_lets mark e f
  have he : ((e.tt n).cycle, (e.tt n).lastRef, (e.dom (2 + n)).last, (e.dom (2 + n)).next) = (r.count % 64, mark, mark, 1) := by
    obtain ⟨hsites, hmarks⟩ : e.sites = (d.referenceHeard n r.count (d.tick - r.sofAgo)).sites ∧
        (e.dom (2 + n)).marks = (((d.referenceHeard n r.count (d.tick - r.sofAgo)).dom (2 + n)).meridian true mark).marks :=
      (Dev.meridianEffects_marks (d := d.referenceHeard n r.count (d.tick - r.sofAgo)) (dom := 2 + n) (by rw [hdoms]; exact hdom) mark true none).2
    clear_value e
    have htts : e.tts = (d.referenceHeard n r.count (d.tick - r.sofAgo)).tts := congrArg Prod.fst hsites
    simp only [Domain.marks, Domain.meridian, Prod.mk.injEq] at hmarks
    obtain ⟨-, hmark, -, hnext⟩ := hmarks
    have htt : e.tt n = (d.referenceHeard n r.count (d.tick - r.sofAgo)).tt n := by rw [Dev.tt, htts]; rfl
    rw [htt, hcycle, hlast]
    exact congrArg (fun x => (r.count % 64, mark, x)) (Prod.ext hmark hnext)
  have hview {c : Dev} (h : c.tables = e.tables) : ((c.tt n).cycle, (c.tt n).lastRef, (c.dom (2 + n)).last, (c.dom (2 + n)).next) =
      (r.count % 64, mark, mark, 1) := by
    obtain ⟨htts, hdoms⟩ := Prod.mk.inj h
    rw [← he, Dev.tt, Dev.dom, htts, hdoms]
    rfl
  have hend {c : Dev} (h : c.tables = e.tables) : (c.tt n).cycle = r.count % 64 ∧ (c.tt n).lastRef = d.tick - r.sofAgo ∧
      (c.dom (2 + n)).last = d.tick - r.sofAgo ∧ (c.dom (2 + n)).next = 1 := by
    have hc := hview h
    simp only [Prod.mk.injEq] at hc
    exact hc
  clear_value e
  split
  · split
    · exact hend ((Dev.tables_measure _ _ _).trans (e.tables_follow _))
    · exact hend (e.tables_follow _)
  · exact hend rfl

/-! ## The fence of a controller, for its time-triggered bus and for the switch (R500) -/

/-- `e` has the time-triggered buses and the switch of `d`. -/
structure Dev.Apart (d e : Dev) : Prop where
  parts : (e.tts, e.swc) = (d.tts, d.swc)

theorem Dev.Apart.tts {d e : Dev} (h : d.Apart e) : e.tts = d.tts := congrArg Prod.fst h.parts
theorem Dev.Apart.swc {d e : Dev} (h : d.Apart e) : e.swc = d.swc := congrArg Prod.snd h.parts

theorem Dev.Apart.refl (d : Dev) : d.Apart d := ⟨rfl⟩
theorem Dev.Apart.trans {d e f : Dev} (h : d.Apart e) (h' : e.Apart f) : d.Apart f := ⟨h'.parts.trans h.parts⟩
theorem Dev.Apart.after {d e f : Dev} (h : e.Apart f) (h' : d.Apart e) : d.Apart f := h'.trans h

theorem Dev.Apart.ite {c : Prop} [Decidable c] {d e f : Dev} (h : d.Apart e) (h' : d.Apart f) : d.Apart (if c then e else f) := by
  split
  exacts [h, h']

theorem Dev.apart_foldl {α : Type} {f : Dev → α → Dev} (h : ∀ (d : Dev) x, d.Apart (f d x)) (xs : List α) (d : Dev) : d.Apart (xs.foldl f d) :=
  foldl_relates Dev.Apart.refl Dev.Apart.trans h xs d

theorem Dev.apart_forN {f : Dev → Nat → Dev} (h : ∀ (d : Dev) i, d.Apart (f d i)) (n : Nat) (d : Dev) : d.Apart (forN n d f) := Dev.apart_foldl h _ d

theorem Dev.apart_forEach {α : Type} {f : Dev → α → Dev} (h : ∀ (d : Dev) x, d.Apart (f d x)) (xs : List α) (d : Dev) :
    d.Apart (forEach xs d f) := Dev.apart_foldl h xs d

theorem Dev.apart_foldl_snd {α β : Type} {f : β × Dev → α → β × Dev} (h : ∀ (x : β × Dev) a, x.2.Apart (f x a).2) (xs : List α) (x : β × Dev) :
    x.2.Apart (xs.foldl f x).2 :=
  foldl_relates (R := fun x y : β × Dev => x.2.Apart y.2) (fun x => .refl x.2) (fun h h' => h.trans h') h xs x

theorem Dev.Tells.apart {d e : Dev} (h : d.Tells e) : d.Apart e := by
  obtain ⟨n, rfl, -⟩ := h
  exact ⟨rfl⟩

theorem Dev.Signals.apart {d e : Dev} (h : d.Signals e) : d.Apart e := by
  obtain ⟨n, ts, is, es, rfl, -⟩ := h
  exact ⟨rfl⟩

theorem Dev.apart_of_beside {d e : Dev} (h : e.besideHolders = d.besideHolders) : d.Apart e := ⟨(congrArg (fun d => (d.tts, d.swc)) h :)⟩

theorem Dev.apart_setMb (d : Dev) (n : Nat) (f : Mb → Mb) : d.Apart (d.setMb n f) := ⟨rfl⟩
theorem Dev.apart_setObj (d : Dev) (n k : Nat) (f : MbObj → MbObj) : d.Apart (d.setObj n k f) := ⟨rfl⟩
theorem Dev.apart_discard (d : Dev) (n : Nat) : d.Apart (d.discard n) := ⟨rfl⟩
theorem Dev.apart_setTyp (d : Dev) (f : Typ → Typ) : d.Apart (d.setTyp f) := ⟨rfl⟩
theorem Dev.apart_setBank (d : Dev) (b : Nat) (f : TypBank → TypBank) : d.Apart (d.setBank b f) := ⟨rfl⟩
theorem Dev.apart_setHst (d : Dev) (f : Hst → Hst) : d.Apart (d.setHst f) := ⟨rfl⟩
theorem Dev.apart_setFunc (d : Dev) (fid : Nat) (f : Func → Func) : d.Apart (d.setFunc fid f) := ⟨rfl⟩
theorem Dev.apart_setIsland (d : Dev) (i : Nat) (f : Island → Island) : d.Apart (d.setIsland i f) := ⟨rfl⟩
theorem Dev.apart_closeCrossings (d : Dev) (i : Nat) : d.Apart (d.closeCrossings i) := ⟨rfl⟩
theorem Dev.apart_setSvc (d : Dev) (v : Svc) : d.Apart { d with svc := v } := ⟨rfl⟩

theorem Dev.apart_logFault (d : Dev) (cls island action cause fid detail : Nat) : d.Apart (d.logFault cls island action cause fid detail) := by
  obtain ⟨late, h⟩ := d.tells_logFault cls island action cause fid detail
  exact ⟨h.apart.parts⟩

theorem Dev.apart_setQuoin (d : Dev) (k i : Nat) (f : Quoin → Quoin) : d.Apart (d.setQuoin k i f) := ⟨rfl⟩
theorem Dev.apart_setSlot (d : Dev) (l i : Nat) (f : QSlot → QSlot) : d.Apart (d.setSlot l i f) := ⟨rfl⟩

theorem Dev.apart_tellGrant (d : Dev) (o : Owner) (kind inst slot : Nat) : d.Apart (d.tellGrant o kind inst slot) := by
  unfold Dev.tellGrant
  split
  exacts [(Dev.signals_raiseLe _ _ _ _).apart.after (d.apart_setSlot _ _ _), .refl d]

theorem Dev.apart_grantNext (d : Dev) (kind inst : Nat) : d.Apart (d.grantNext kind inst) := by
  unfold Dev.grantNext
  dsimp only
  split
  · exact (Dev.apart_tellGrant _ _ _ _ _).after ((Dev.apart_setQuoin _ _ _ _).after (d.apart_setQuoin _ _ _))
  · exact .refl d

theorem Dev.apart_release (d : Dev) (kind inst : Nat) : d.Apart (d.release kind inst) :=
  (Dev.apart_grantNext _ kind inst).after (d.apart_setQuoin kind inst _)

theorem Dev.apart_dropSlot (d : Dev) (o : Option Owner) (kind inst : Nat) : d.Apart (d.dropSlot o kind inst) := by
  unfold Dev.dropSlot
  split
  · split
    exacts [(Dev.signals_raiseLe _ _ _ _).apart.after (d.apart_setSlot _ _ _), .refl d]
  · exact .refl d

theorem Dev.apart_revokeQuoin (d : Dev) (kind inst : Nat) : d.Apart (d.revokeQuoin kind inst) :=
  (Dev.apart_setSvc _ _).after ((Dev.apart_dropSlot _ _ kind inst).after (d.apart_setQuoin kind inst _))

theorem Dev.apart_discardWrite (d : Dev) (p : Nat) : d.Apart (d.discardWrite p).2 := by
  unfold Dev.discardWrite
  dsimp only
  split <;> exact ⟨rfl⟩

theorem Dev.apart_mbWithdraw (d : Dev) (n k : Nat) : d.Apart (d.mbWithdraw n k).2 := by
  unfold Dev.mbWithdraw
  split
  · exact .refl d
  · split
    exacts [d.apart_setObj n k _, (Dev.apart_of_beside (Dev.besideHolders_mbEvent _ n 3)).after ((Dev.apart_setObj _ n k _).after (d.apart_setObj n k _))]

theorem Dev.apart_mbWithdrawAll (d : Dev) (n : Nat) : d.Apart (d.mbWithdrawAll n).2 := by
  unfold Dev.mbWithdrawAll forN
  generalize List.range 128 = ks
  exact Dev.apart_foldl_snd (f := fun r k => (r.1 || (r.2.mbWithdraw n k).1, (r.2.mbWithdraw n k).2)) (fun x k => x.2.apart_mbWithdraw n k) ks
    (false, d)

theorem Dev.apart_mbReset (d : Dev) (n : Nat) : d.Apart (d.mbReset n).2 := by
  unfold Dev.mbReset
  refine (Dev.apart_setMb _ _ _).after ((Dev.apart_forN (fun d k => Dev.apart_of_beside (d.besideHolders_unlock n k true)) 128 _).after ?_)
  refine (Dev.apart_forN (fun d k => d.apart_setObj n k _) 128 _).after ?_
  exact Dev.Apart.after (.ite (Dev.apart_discard _ 1) (.refl _)) (d.apart_mbWithdrawAll n)

theorem Dev.apart_completeOpt (d : Dev) (w : Option Waiting) (status : Nat) (payload : List Byte) : d.Apart (d.completeOpt w status payload) := by
  unfold Dev.completeOpt
  split
  exacts [(Dev.tells_complete _ _ _ _).apart, .refl d]

theorem Dev.apart_dropWriting (d : Dev) (slot : Nat) : d.Apart (d.dropWriting slot) := by
  have hrelease (d : Dev) (c : Bool) (kind inst : Nat) : d.Apart (if c then d.release kind inst else d) := by
    cases c
    exacts [.refl d, d.apart_release kind inst]
  exact (hrelease _ _ _ _).after ((hrelease _ _ _ _).after (Dev.apart_setTyp _ _))

theorem Dev.apart_failWriting (d : Dev) (slot st det : Nat) : d.Apart (d.failWriting slot st det) :=
  (d.apart_dropWriting slot).trans (Dev.apart_completeOpt _ _ _ _)

theorem Dev.apart_failJobs (d : Dev) (js : List TypJob) : d.Apart (forEach js d (fun d j => d.completeOpt j.cmd stFailed (errDetail 0xFFFF 0))) :=
  Dev.apart_forEach (fun d _ => d.apart_completeOpt _ _ _) js d

theorem Dev.apart_typLapse (d : Dev) (b : Nat) : d.Apart (d.typLapse b).2 := by
  unfold Dev.typLapse
  refine Dev.Apart.after (Dev.apart_forEach (fun d w => (Dev.apart_failWriting _ _ _ _).after (Dev.apart_failJobs _ _)) _ _) ?_
  split
  exacts [.refl d, Dev.apart_setBank _ _ _]

theorem Dev.apart_closeWindow (d : Dev) (w : Nat) : d.Apart (d.closeWindow w).2 := by
  simp only [Dev.closeWindow, apply_ite Prod.snd]
  split
  exacts [.refl d, (Dev.apart_of_beside (Dev.besideHolders_unlockReader _ _)).after (Dev.apart_setHst _ _)]

theorem Dev.apart_rollback (d : Dev) (kind inst : Nat) (o : Owner) (taken : Bool) : d.Apart (d.rollback kind inst o taken).2 := by
  unfold Dev.rollback
  split
  · split <;> exact ⟨rfl⟩
  · exact d.apart_typLapse inst
  · exact d.apart_discardWrite inst
  · exact d.apart_mbWithdraw _ _
  · exact ⟨rfl⟩
  · exact d.apart_closeWindow inst
  · exact ⟨rfl⟩
  · exact .ite ⟨rfl⟩ (.refl d)
  · exact .refl d

theorem Dev.apart_withdrawQueued (d : Dev) (o : Owner) : d.Apart (d.withdrawQueued o) := by
  unfold Dev.withdrawQueued
  dsimp only
  split <;> exact ⟨rfl⟩

theorem Dev.apart_setRing (d : Dev) (r : Nat) (f : Ring → Ring) : d.Apart (d.setRing r f) := ⟨rfl⟩
theorem Dev.apart_advanceRing (d : Dev) (r : Nat) : d.Apart (d.advanceRing r) := (Dev.apart_setRing _ _ _).after (Dev.apart_setHst _ _)

theorem Dev.apart_ringSkip (d : Dev) (r id : Nat) : d.Apart (d.ringSkip r id) := by
  unfold Dev.ringSkip
  split
  exacts [.refl d, ((Dev.apart_advanceRing _ _).after (Dev.apart_setRing _ _ _)).after (Dev.apart_setHst _ _)]

theorem Dev.apart_stripOwner (d : Dev) (o : Owner) (cls isl cause fid : Nat) (log taken : Bool) :
    d.Apart (d.stripOwner o cls isl cause fid log taken) := by
  have hrecord (d : Dev) (act det : Nat) : d.Apart (if log then d.logFault cls isl act cause fid det else d) :=
    .ite (d.apart_logFault _ _ _ _ _ _) (.refl d)
  unfold Dev.stripOwner
  refine (Dev.apart_forEach (fun d q => d.apart_grantNext _ _) _ _).after ?_
  refine (Dev.apart_forEach (fun d q => (hrecord _ _ _).after ((Dev.apart_dropSlot _ _ _ _).after (d.apart_ringSkip _ _))) _ _).after ?_
  refine (Dev.apart_forEach (fun d q => ?_) _ _).after ?_
  · dsimp only
    split
    exacts [(hrecord _ _ _).after (d.apart_rollback _ _ _ _), d.apart_rollback _ _ _ _]
  refine (Dev.apart_forEach (fun d q => (hrecord _ _ _).after (d.apart_setSvc _)) _ _).after ?_
  exact (Dev.apart_forEach (fun d q => (hrecord _ _ _).after (d.apart_revokeQuoin _ _)) _ _).after (d.apart_withdrawQueued o)

theorem fclass_mbFid {n : Nat} (hn : n < 4) : fclass (mbFid n) = 2 := by unfold fclass mbFid; omega
theorem finst_mbFid {n : Nat} (hn : n < 4) : finst (mbFid n) = n := by unfold finst mbFid; omega

theorem Dev.apart_fenceBody (d : Dev) {n : Nat} (hn : n < 4) (cls isl cause detail : Nat) (log taken : Bool) :
    d.Apart (d.fenceBody (mbFid n) cls isl cause detail log taken) := by
  have hislands (d : Dev) : d.funcIslands (mbFid n) = [0x20 + n] := by
    unfold Dev.funcIslands
    rw [fclass_mbFid hn, finst_mbFid hn]
    rfl
  have hloses (d : Dev) : d.Apart (d.islandLoses (0x20 + n)).2 := by
    unfold Dev.islandLoses
    rw [if_neg (by simp only [Bool.and_eq_true, decide_eq_true_eq]; omega), if_pos (by simp only [Bool.and_eq_true, decide_eq_true_eq]; omega)]
    exact d.apart_mbReset _
  have hrecord (d : Dev) (c : Bool) (act det : Nat) : d.Apart (if c then d.logFault cls isl act cause (mbFid n) det else d) :=
    .ite (d.apart_logFault _ _ _ _ _ _) (.refl d)
  unfold Dev.fenceBody
  extract_lets owners is e f g h
  have he : d.Apart e := Dev.apart_forEach (fun d i => (Dev.apart_setIsland _ i _).after (d.apart_closeCrossings i)) is d
  have hf : e.Apart f := by
    simp only [f, fclass_mbFid hn]
    exact .refl e
  have hg : f.Apart g := hrecord f log 3 detail
  have hh : g.Apart h := Dev.apart_forEach (fun d o => d.apart_stripOwner o cls isl cause (mbFid n) log taken) owners g
  have his : is = [0x20 + n] := by
    simp only [is, ownIslands, fclass_mbFid hn, hislands]
    rfl
  clear_value h
  simp only [his, forEach, List.foldl_cons, List.foldl_nil]
  exact (hrecord _ _ 2 0).after ((hloses h).after (hh.after (hg.after (hf.after he))))

theorem Dev.apart_emit (d : Dev) (ty subject : Nat) (payload : List Byte) : d.Apart (d.emit ty subject payload) := (d.tells_emit ty subject payload).apart

theorem Dev.apart_transition (d : Dev) (fid st cause : Nat) : d.Apart (d.transition fid st cause) := by
  unfold Dev.transition
  extract_lets f gen e e'
  have he : d.Apart e := d.apart_setFunc fid _
  exact .ite he ((Dev.apart_emit _ _ _ _).after ((e.apart_setFunc fid _).after he))

theorem Dev.apart_faultFence (d : Dev) {n : Nat} (hn : n < 4) (hst : (d.func (mbFid n)).st = 1 ∨ (d.func (mbFid n)).st = 2)
    (hrec : (d.func (mbFid n)).recovering = false) (isl cls cause detail code : Nat) :
    d.Apart (d.faultFence (mbFid n) isl cls cause detail code false).2 := by
  rw [Dev.faultFence_again hst hrec]
  have hsteps (d : Dev) : d.Apart (d.fenceSteps (mbFid n) isl cls cause detail code) := by
    unfold Dev.fenceSteps Dev.classEnds
    simp only [fclass_mbFid hn]
    exact (Dev.apart_setFunc _ _ _).after (d.apart_fenceBody hn _ _ _ _ _ _)
  have hmoves (d : Dev) (retried : Bool) : d.Apart (d.fenceMoves (mbFid n) retried) := (Dev.apart_setFunc _ _ _).after (d.apart_transition _ _ _)
  unfold Dev.holdingFaults Dev.sendLate
  dsimp only
  refine Dev.Apart.after (.ite ?_ (.refl _)) ((Dev.apart_setSvc _ _).after ((hmoves _ _).after ((hsteps _).after (d.apart_setSvc _))))
  exact (Dev.apart_forEach (fun d x => d.apart_emit _ _ _) _ _).after (Dev.apart_setSvc _ _)

theorem Dev.apart_inEpisode (d : Dev) {f : Dev → Dev} (h : ∀ e : Dev, d.Keeps e → e.Apart (f e)) : d.Apart (d.inEpisode f) := by
  unfold Dev.inEpisode
  split
  · exact h d (.refl d)
  · exact ⟨(h { d with svc := { d.svc with episode := none } } (.of_body rfl)).parts⟩

/-- A guardian that sees a violation counts it and fences its controller. -/
theorem Dev.guardian_leaves {d : Dev} {n : Nat} (hn : n < 4) (htt : n < d.tts.length) (hfid : d.lists (mbFid n)) (hlevel : d.ttLevel n ≠ 0)
    (hon : d.isOn (mbFid n) = true) (hrec : (d.func (mbFid n)).recovering = false) (hpwr : d.pwr.st = 0) :
    ((Dev.guardian n d).tt n).gviol = wrap32 ((d.tt n).gviol + 1) ∧ ((Dev.guardian n d).func (mbFid n)).st = 4 := by
  have hst : (d.func (mbFid n)).st = 2 := by simpa [Dev.isOn] using hon
  unfold Dev.guardian
  rw [if_neg (by simp [hlevel, hon])]
  have hcount := Dev.tt_setTt htt (fun t => { t with gviol := wrap32 (t.gviol + 1) })
  generalize he : d.setTt n (fun t => { t with gviol := wrap32 (t.gviol + 1) }) = e
  rw [he] at hcount
  have hfunc : e.func = d.func := by rw [← he]; rfl
  have hpwr' : e.pwr.st = 0 := by rw [← he]; exact hpwr
  have hlists : e.lists (mbFid n) := by rw [← he]; exact hfid
  have hown : ownIslands (mbFid n) = true := by simp [ownIslands, fclass_mbFid hn]
  unfold Dev.funcFault
  refine ⟨?_, (Dev.funcFaultAt_leaves hlists (.inr (by rw [hfunc, hst])) (by rw [hfunc, hrec]) hpwr' hown _ 9 0 0 0).2.1⟩
  have hapart : e.Apart (e.funcFaultAt (mbFid n) (e.funcIsland (mbFid n)) 9 0 0 0 false) := by
    generalize e.funcIsland (mbFid n) = isl
    unfold Dev.funcFaultAt
    rw [show e.faultWakes = e by simp [Dev.faultWakes, hpwr']]
    refine e.apart_inEpisode fun c hc => ?_
    have hcfunc := hc.toStands.func (mbFid n)
    rw [hfunc] at hcfunc
    have hcst : (c.func (mbFid n)).st = 2 := by rw [hcfunc, hst]
    have hcrec : (c.func (mbFid n)).recovering = false := by rw [hcfunc, hrec]
    have hfence := c.apart_faultFence hn (.inr hcst) hcrec isl 9 0 0 0
    generalize c.faultFence (mbFid n) isl 9 0 0 0 false = x at hfence
    obtain ⟨again, f⟩ := x
    simpa only [hcst, Dev.restartsAtOnce, hown, Bool.not_true, Bool.and_false, Nat.reduceBEq, Bool.false_and, Bool.false_eq_true, if_false] using hfence
  rw [Dev.tt, hapart.tts]
  exact congrArg Tt.gviol hcount

end Sys2Proof.Machine
end

section
/-! The obligation of the multidrop controllers (14, 15, 18). -/

namespace Sys2Proof.Ports

open Sys2Proof.Machine

theorem unitRow_next {n : Nat} (hn : n < 4) {s : State} {f : Dev → Dev} {e : Dev} (h : f s.dev = e) : unitRow n s f = .next (s.withDev e) :=
  State.run_withDev ((if_neg (by omega)).trans h)

theorem lists_of_isOn {d : Dev} {fid : Nat} (hon : d.isOn fid = true) : d.lists fid := by
  by_contra hnone
  have hfind : d.funcs.find? (fun f => f.fid == fid) = none := List.find?_eq_none.mpr fun f hf hfid => hnone ⟨f, hf, by simpa using hfid⟩
  simp [Dev.isOn, Dev.func, hfind] at hon

/-- The fields of a controller's view. -/
theorem fields_of_idle {m m' : Mb} (h : m.idle = m'.idle) : m.rxcnt = m'.rxcnt ∧ m.ring = m'.ring ∧ m.pi = m'.pi ∧ m.lostc = m'.lostc ∧
    m.recn = m'.recn ∧ m.tec = m'.tec ∧ m.overrun = m'.overrun ∧ m.lastErr = m'.lastErr ∧ m.busOff = m'.busOff :=
  ⟨(congrArg Mb.rxcnt h :), (congrArg Mb.ring h :), (congrArg Mb.pi h :), (congrArg Mb.lostc h :), (congrArg Mb.recn h :),
    (congrArg Mb.tec h :), (congrArg Mb.overrun h :), (congrArg Mb.lastErr h :), (congrArg Mb.busOff h :)⟩

/-- A controller after a frame that joins its ring. -/
theorem fields_of_taken (m : Mb) (listen : Bool) (e : Nat) (f : MbFrame) : let x := ((m.heard listen).counted).taken e f
    x.rxcnt = (m.rxcnt + 1) % 2 ^ 32 ∧ x.ring = Mem.setBytes 0 m.ring (m.pi % e * 80) (f.entry m.lostc) ∧ x.pi = (m.pi + 1) % (64 * e) ∧
      x.lostc = 0 ∧ x.recn = if listen then m.recn else if 127 < m.recn then 120 else m.recn - 1 := by
  refine ⟨?_, ?_, ?_, ?_, ?_⟩ <;> simp only [Mb.taken, Mb.counted, Mb.heard, wrap32, recDown]
  rfl

/-- A controller after a frame that finds its ring full. -/
theorem fields_of_overran (m : Mb) (listen : Bool) : let x := ((m.heard listen).counted).overran
    x.ring = m.ring ∧ x.pi = m.pi ∧ x.overrun = (m.overrun + 1) % 2 ^ 32 := by
  refine ⟨rfl, rfl, ?_⟩
  simp only [Mb.overran, Mb.counted, Mb.heard, wrap32]
  rfl

theorem fields_of_filled {o p : MbObj} {g : MbFrame} (h : o.idle = p.idle.filled g) : o.content = g.content ∧ o.new = true ∧
    o.lost = (p.lost || p.new) := by
  simp only [MbObj.idle, MbObj.filled, MbObj.mk.injEq] at h
  obtain ⟨hcontent, hnew, hlost, -⟩ := h
  exact ⟨hcontent, hnew, hlost⟩

theorem blamed_receiver {e : MbErr} (h : e.transmitter = false) (m : Mb) : (m.blamed e).recn = min 255 (m.recn + (if e.heavy then 8 else 1)) ∧
    (m.blamed e).tec = m.tec := by
  unfold Mb.blamed
  rw [h]
  exact ⟨rfl, rfl⟩

theorem blamed_transmitter {e : MbErr} (h : e.transmitter = true) {m : Mb} (hpassive : ¬ (e.ackPassive = true ∧ m.state = 1 ∧ e.code = 3)) :
    (m.blamed e) = if 255 < m.tec + 8 then { m with tec := 0, recn := 0, busOff := true } else { m with tec := m.tec + 8 } := by
  unfold Mb.blamed
  rw [h, if_pos rfl, if_neg (by simpa [and_assoc] using hpassive)]

theorem lastErr_blamed (m : Mb) (e : MbErr) : ((m.erred e).blamed e).lastErr = e.code % 16 + (if e.dataPhase then 128 else 0) := by
  have hkept (m : Mb) : (m.blamed e).lastErr = m.lastErr := by
    unfold Mb.blamed
    split
    · split
      · rfl
      · split <;> rfl
    · rfl
  rw [hkept]
  cases h : e.dataPhase <;> simp [Mb.erred, h, b2n]

/-- The time-triggered rows of a controller that is on. -/
theorem triggeredRows (s : State) {n : Nat} (hn : n < 4) (hmbs : n < s.dev.mbs.length) (htts : n < s.dev.tts.length)
    (hdoms : 2 + n < s.dev.doms.length) (hobjs : (s.dev.mb n).objs.length = 128) (hlevel : s.dev.ttLevel n ≠ 0) (hon : s.dev.isOn (mbFid n) = true) :
    let d := s.dev
    let m := d.mb n
    let tbl := (d.doms.getD (2 + n) {}).active
    (∀ r : RefMsg, d.mbHears n = true ∧ m.asleep = false ∧ m.detect = none → ∃ t, exec (.referenceMessage n r) s = .next t ∧
      (t.dev.tt n).cycle = r.count % 64 ∧ (t.dev.tt n).lastRef = d.tick - r.sofAgo ∧
      (t.dev.doms.getD (2 + n) {}).last = d.tick - r.sofAgo ∧ (t.dev.doms.getD (2 + n) {}).next = 1) ∧
    ((d.tt n).st ≠ 3 → (d.tt n).st ≠ 0 → ∃ t, exec (.referenceMessageMissed n) s = .next t ∧ (t.dev.tt n).st = 1 ∧
      (t.dev.tt n).miss = ((d.tt n).miss + 1) % 2 ^ 32 ∧ t.dev.tick = max d.tick ((d.tt n).expected + tblCycle tbl / 200)) ∧
    ((d.tt n).st ≠ 3 → tblRefObj tbl < 128 → m.busOff = false → m.integ = false → d.begunObj n = none →
      ∃ t, exec (.potentialMasterTimeout n) s = .next t ∧ (t.dev.tt n).cycle = ((d.tt n).cycle + 1) % 2 ^ tblMatrix tbl ∧
        (t.dev.mbObj n (tblRefObj tbl)).req.map (fun q => (q.begun, q.sof)) = some (true, t.dev.tick)) ∧
    ((d.func (mbFid n)).recovering = false → d.pwr.st = 0 → ∃ t, exec (.guardianViolation n) s = .next t ∧
      (t.dev.tt n).gviol = ((d.tt n).gviol + 1) % 2 ^ 32 ∧ (t.dev.func (mbFid n)).st = 4) := by
  dsimp only
  refine ⟨fun r hhears => ?_, fun hmaster hidle => ?_, fun hmaster hk hoff hinteg hbegun => ?_, fun hrec hpwr => ?_⟩
  · obtain ⟨hhears, hawake, -⟩ := hhears
    have hleaves := Dev.reference_leaves htts hdoms r hlevel hhears hon hawake
    generalize he : Dev.reference n r s.dev = e at hleaves
    exact ⟨s.withDev e, unitRow_next hn he, hleaves⟩
  · have hleaves := Dev.referenceMissed_leaves htts hlevel hon hmaster hidle
    generalize he : s.dev.referenceMissed n = e at hleaves
    exact ⟨s.withDev e, unitRow_next hn (f := fun d => d.referenceMissed n) he, hleaves⟩
  · obtain ⟨v, hv⟩ := Dev.masterTimeout_at hlevel hon hmaster rfl hk
    obtain ⟨htick, hcycle, hreq⟩ := Dev.sendReference_leaves (d := s.dev.advanceTo v) hmbs htts (lt_of_lt_of_eq hk hobjs.symm) hon rfl hk hoff hinteg hbegun
    rw [← hv] at htick hcycle hreq
    generalize he : s.dev.masterTimeout n = e at htick hcycle hreq
    refine ⟨s.withDev e, unitRow_next hn (f := fun d => d.masterTimeout n) he, hcycle, ?_⟩
    rw [← htick] at hreq
    exact hreq
  · have hleaves := Dev.guardian_leaves hn htts (lists_of_isOn hon) hlevel hon hrec hpwr
    generalize he : Dev.guardian n s.dev = e at hleaves
    exact ⟨s.withDev e, unitRow_next hn he, hleaves⟩

/-- Settles O48: each row of a controller in turn. -/
theorem multidropRows : Obligations.MultidropRows := by
  intro s n hn hmbs htts hdoms hobjs
  dsimp only
  have hobj {k : Nat} (hk : k < 128) : k < (s.dev.mb n).objs.length := lt_of_lt_of_eq hk hobjs.symm
  refine ⟨fun f hhears hfd => ?_, fun k q htt hbegun hreq => ?_, fun e hhears hcode hlisten => ?_, fun hon hoff => ?_,
    fun hon hinteg hawake => ?_, fun hon hup hawake => ?_, fun k rd v hk hlock => ?_, fun y hy hrecov => ?_,
    fun hon hasleep hmode hst hleaving => ?_, fun hlevel hon => ?_⟩
  · obtain ⟨hhears, hawake, hdetect⟩ := hhears
    have hring := Dev.mbReceived_ring hmbs hhears hawake hdetect hfd
    have hobject {k : Nat} (hk : k < 128) := Dev.mbReceived_object hmbs hhears hawake hdetect hfd (hobj hk)
    generalize he : s.dev.mbReceived n f = e at hring hobject
    have hrow : exec (.mbFrameReceived n f) s = .next (s.withDev e) := unitRow_next hn (f := fun d => d.mbReceived n f) he
    refine ⟨fun hmode hroom => ⟨s.withDev e, hrow, ?_⟩, fun hmode hfull => ⟨s.withDev e, hrow, ?_⟩, fun k hmode hfind hlock => ⟨s.withDev e, hrow, ?_⟩⟩
    · obtain ⟨hrx, hpush, hpi, hlostc, hrecn⟩ := fields_of_taken (s.dev.mb n) (s.dev.mbCfg n).listen (s.dev.mbCfg n).entries (s.dev.mbFrame n f false)
      have hview := hring hmode
      rw [if_neg (by omega)] at hview
      obtain ⟨erx, epush, epi, elostc, erecn, -⟩ := fields_of_idle hview
      exact ⟨erx.trans hrx, epush.trans hpush, epi.trans hpi, elostc.trans hlostc, erecn.trans hrecn⟩
    · obtain ⟨hpush, hpi, hover⟩ := fields_of_overran (s.dev.mb n) (s.dev.mbCfg n).listen
      have hview := hring hmode
      rw [if_pos hfull] at hview
      obtain ⟨-, epush, epi, -, -, -, eover, -⟩ := fields_of_idle hview
      exact ⟨epush.trans hpush, epi.trans hpi, eover.trans hover⟩
    · exact fields_of_filled (hobject (List.mem_range.mp (List.mem_of_find?_eq_some hfind)) hmode hfind hlock)
  · obtain ⟨htx, htec, hsent⟩ := Dev.mbSent_leaves hmbs (hobj (List.mem_range.mp (List.mem_of_find?_eq_some hbegun))) htt hbegun hreq
    generalize he : Dev.mbSent n s.dev = e at htx htec hsent
    refine ⟨s.withDev e, unitRow_next hn he, htx, htec, (congrArg MbObj.txok hsent :), (congrArg MbObj.wait hsent :), ?_,
      (congrArg MbObj.content hsent :)⟩
    have hnext := congrArg (fun o : MbObj => o.req.map (·.content)) hsent
    simp only [MbObj.calm, Option.map_map] at hnext
    exact hnext
  · obtain ⟨hhears, hawake, hdetect⟩ := hhears
    have hview := Dev.mbError_leaves hmbs (e := e) hhears hawake hdetect hcode hlisten
    generalize he : s.dev.mbError n e = c at hview
    obtain ⟨-, -, -, -, hrecn, htec, -, hlast, hoff⟩ := fields_of_idle hview
    refine ⟨s.withDev c, unitRow_next hn (f := fun d => d.mbError n e) he, hlast.trans (lastErr_blamed _ e), fun hrx => ?_, fun htx hpassive => ?_⟩
    · obtain ⟨hr, ht⟩ := blamed_receiver hrx ((s.dev.mb n).erred e)
      exact ⟨hrecn.trans hr, htec.trans ht⟩
    · rw [blamed_transmitter htx (m := (s.dev.mb n).erred e) hpassive] at hrecn htec hoff
      refine ⟨fun hless => ?_, fun hover => ?_⟩
      · rw [if_neg (show ¬ 255 < ((s.dev.mb n).erred e).tec + 8 from Nat.not_lt.mpr hless)] at hrecn htec hoff
        have hbus : (s.dev.mb n).busOff = false := by
          unfold Dev.mbHears at hhears
          simp only [Bool.and_eq_true, Bool.not_eq_true'] at hhears
          exact hhears.2
        exact ⟨htec, hrecn, hoff.trans hbus⟩
      · rw [if_pos (show 255 < ((s.dev.mb n).erred e).tec + 8 from hover)] at hrecn htec hoff
        exact ⟨htec, hrecn, hoff⟩
  · have hleaves := Dev.mbRecover_leaves hmbs hon hoff
    generalize he : s.dev.mbRecover n = e at hleaves
    exact ⟨s.withDev e, unitRow_next hn (f := fun d => d.mbRecover n) he, hleaves⟩
  · have hleaves := Dev.mbIntegrated_leaves hmbs hon hinteg hawake
    generalize he : s.dev.mbIntegrated n = e at hleaves
    exact ⟨s.withDev e, unitRow_next hn (f := fun d => d.mbIntegrated n) he, hleaves⟩
  · obtain ⟨hlast, hinteg, c, hnum, hlogs⟩ := Dev.mbStuck_leaves hmbs hon hup hawake
    generalize he : s.dev.mbStuck n = e at hlast hinteg hlogs
    exact ⟨s.withDev e, unitRow_next hn (f := fun d => d.mbStuck n) he, hlast, hinteg, State.logged_of_logs hlogs hnum⟩
  · have hleaves := Dev.unlock_leaves (d := s.dev.advanceTo (v + 100000)) hmbs (hobj hk) (fun h => absurd (hlock.symm.trans h) nofun)
    have hat : ((s.dev.advanceTo (v + 100000)).unlock n k true).tick = max s.dev.tick (v + 100000) :=
      (congrArg Dev.tick (Dev.besideHolders_unlock _ n k true) :)
    have hrow : s.dev.lockExpiry n k = (s.dev.advanceTo (v + 100000)).unlock n k true := by
      unfold Dev.lockExpiry
      rw [hlock]
    generalize (s.dev.advanceTo (v + 100000)).unlock n k true = e at hleaves hat hrow
    obtain ⟨hfree, hlexp, hshadow⟩ := hleaves
    exact ⟨s.withDev e, unitRow_next hn (f := fun d => d.lockExpiry n k) hrow, hfree, hlexp, hat, hshadow⟩
  · obtain ⟨v, hstop, hrow⟩ : ∃ v, (y.accepted = none → v = y.stop) ∧ s.dev.detectTimeout n = (s.dev.advanceTo v).detectEnd n := by
      unfold Dev.detectTimeout
      rw [hy]
      exact ⟨_, fun h => by rw [h], rfl⟩
    obtain ⟨hnone, htick, c, st, b, hruns, hend, hfail, hdone⟩ := Dev.detectEnd_leaves (d := s.dev.advanceTo v) hmbs hy
    have hcompleted : s.completed (s.withDev ((s.dev.advanceTo v).detectEnd n)) y.cmd st := by
      rw [hend]
      exact State.completed_of_complete (d := c) hruns.tells hruns.restarting hrecov (.refl _)
    rw [← hrow] at hnone htick hcompleted
    generalize he : s.dev.detectTimeout n = e at hnone htick hcompleted
    have hnext : exec (.rateDetectTimeout n) s = .next (s.withDev e) := unitRow_next hn (f := fun d => d.detectTimeout n) he
    refine ⟨fun ha => ⟨s.withDev e, hnext, hnone, ?_, hfail ha ▸ hcompleted⟩, fun a k ha hk => ⟨s.withDev e, hnext, hnone, ?_⟩⟩
    · rw [← hstop ha]
      exact htick
    · rw [← show st = 0x0000 from hdone a k ha hk]
      exact hcompleted
  · obtain ⟨-, hlast, ⟨v, hv, -⟩, -⟩ := Dev.wakeBy_leaves hst hleaving (0x10 + n)
    have hrow : s.dev.mbEdge n = s.dev.wakeBy (0x10 + n) := if_pos (by rw [show s.dev.isOn (mbFid n) = true from hon, hasleep, hmode]; rfl)
    generalize s.dev.wakeBy (0x10 + n) = e at hlast hv hrow
    exact ⟨s.withDev e, unitRow_next hn (f := fun d => d.mbEdge n) hrow, fun h => absurd (hv.symm.trans h) nofun, hlast⟩
  · exact triggeredRows s hn hmbs htts hdoms hobjs hlevel hon

end Sys2Proof.Ports
end

section
/-! SUPPORT. The operations of a forme ring (R473 to R482) on its own state, on its ports and on the time. -/

namespace Sys2Proof.Machine

theorem Dev.fr_setFr {d : Dev} {r : Nat} (hr : r < d.frs.length) (f : Fr → Fr) : (d.setFr r f).fr r = f (d.fr r) := upd_getD_same d.frs r f {} hr

theorem Dev.mac_setMac {d : Dev} {m : Nat} (hm : m < d.macs.length) (f : Mac → Mac) : (d.setMac m f).mac m = f (d.mac m) :=
  upd_getD_same d.macs m f {} hm

/-- The part from which a ring works: the time, its rings, its ports, and the marks of its domains. -/
def Dev.rings (d : Dev) : Nat × List Fr × List Mac × List (Nat × Nat × Bool × Nat) := (d.tick, d.frs, d.macs, d.doms.map Domain.marks)

theorem Dev.Marks.rings {d e : Dev} (h : d.Marks e) : e.rings = d.rings := by
  have hsites := h.sites
  simp only [Dev.sites, Prod.mk.injEq] at hsites
  obtain ⟨-, hfrs, hmacs, -⟩ := hsites
  simp only [Dev.rings, h.toRuns.tick, hfrs, hmacs, h.marks]

theorem Dev.tick_of_rings {d e : Dev} (h : e.rings = d.rings) : e.tick = d.tick := congrArg (fun x => x.1) h
theorem Dev.frs_of_rings {d e : Dev} (h : e.rings = d.rings) : e.frs = d.frs := congrArg (fun x => x.2.1) h
theorem Dev.macs_of_rings {d e : Dev} (h : e.rings = d.rings) : e.macs = d.macs := congrArg (fun x => x.2.2.1) h
theorem Dev.fr_of_rings {d e : Dev} (h : e.rings = d.rings) (r : Nat) : e.fr r = d.fr r := congrArg (fun x => x.2.1.getD r {}) h
theorem Dev.mac_of_rings {d e : Dev} (h : e.rings = d.rings) (m : Nat) : e.mac m = d.mac m := congrArg (fun x => x.2.2.1.getD m {}) h

/-- A ring after bits of FR_EVT are set. -/
def Fr.raised (b : Nat) (f : Fr) : Fr := { f with evt := f.evt ||| 2 ^ b }

/-- A ring after one forme missed. -/
def Fr.missedOne (f : Fr) : Fr := Fr.raised 1 { f with missed := wrap32 (f.missed + 1) }

theorem Dev.rings_frEvent (d : Dev) (r b : Nat) : (d.frEvent r b).rings = (d.setFr r (Fr.raised b)).rings := by
  unfold Dev.frEvent
  dsimp only
  split
  exacts [(Dev.signals_unitEvent _ _ _ _).marks.rings, rfl]

theorem Dev.rings_frMissed (d : Dev) (r : Nat) : (d.frMissed r).rings = (d.setFr r Fr.missedOne).rings := by
  refine (Dev.rings_frEvent _ r 1).trans ?_
  exact congrArg (fun x => (d.tick, x, d.macs, d.doms.map Domain.marks)) (upd_upd d.frs r _ _)

/-- A ring after a change of its state. -/
def Fr.changed (st : Nat) (f : Fr) : Fr := if f.ring = st then f else Fr.raised 3 { f with ring := st }

theorem Dev.rings_setRingState {d : Dev} {r : Nat} (st : Nat) : (d.setRingState r st).rings = (d.setFr r (Fr.changed st)).rings := by
  have hset : ((d.setFr r (fun f => { f with ring := st })).setFr r (Fr.raised 3)).rings =
      (d.setFr r (fun f => Fr.raised 3 { f with ring := st })).rings :=
    congrArg (fun x => (d.tick, x, d.macs, d.doms.map Domain.marks)) (upd_upd d.frs r _ _)
  unfold Dev.setRingState
  by_cases h : (d.fr r).ring = st
  · rw [if_pos (by simpa using h)]
    have hsame : Fr.changed st (d.fr r) = d.fr r := if_pos h
    exact congrArg (fun x => (d.tick, x, d.macs, d.doms.map Domain.marks)) (upd_fix d.frs r (Fr.changed st) {} hsame).symm
  · rw [if_neg (by simpa using h)]
    have hnew : (d.setFr r (Fr.changed st)).rings = (d.setFr r (fun f => Fr.raised 3 { f with ring := st })).rings :=
      congrArg (fun x => (d.tick, x, d.macs, d.doms.map Domain.marks)) (upd_congr d.frs r _ _ {} (if_neg h))
    have hevent := (Dev.rings_frEvent (d.setFr r (fun f => { f with ring := st })) r 3).trans (hset.trans hnew.symm)
    generalize Dev.frEvent _ r 3 = e at hevent ⊢
    dsimp only
    split
    · exact (Dev.marks_episodeOf e none (fun d => d.marks_logFault ..)).rings.trans hevent
    · exact hevent

theorem Dev.fr_of_setFr {d e : Dev} {r : Nat} (hr : r < d.frs.length) {f : Fr → Fr} (h : e.rings = (d.setFr r f).rings) : e.fr r = f (d.fr r) :=
  (Dev.fr_of_rings h r).trans (Dev.fr_setFr hr f)

/-- A ring after it has sent `b`. -/
def Fr.pushed (b : List Byte) (f : Fr) : Fr := { f with sent := (f.sent ++ [b]).drop ((f.sent.length + 1) - 2) }

/-- A copy that a ring sends changes the ring and the ports alone. -/
theorem Dev.frSend_frame (d : Dev) (r : Nat) (odd : Bool) (b : List Byte) :
    ∃ ms, d.frSend r odd b = { d with frs := upd d.frs r (Fr.pushed b), macs := ms } := by
  unfold Dev.frSend Dev.countMac Dev.setMac Dev.setFr
  exact ⟨_, rfl⟩

/-- A copy that a ring sends: the ring, and the bytes that left. -/
theorem Dev.frSend_leaves {d : Dev} {r : Nat} {odd : Bool} (hr : r < d.frs.length) (hm : frMac r odd < d.macs.length) (b : List Byte) :
    (d.frSend r odd b).fr r = Fr.pushed b (d.fr r) ∧ ((d.frSend r odd b).mac (frMac r odd)).sent = b ∧
      (d.frSend r odd b).frs.length = d.frs.length ∧ (d.frSend r odd b).macs.length = d.macs.length ∧
      (d.frSend r odd b).doms = d.doms ∧ (d.frSend r odd b).tick = d.tick := by
  have hsent : ((d.frSend r odd b).mac (frMac r odd)).sent = b := by
    unfold Dev.frSend Dev.countMac
    dsimp only
    generalize hc : d.setFr r _ = c
    have hlen : frMac r odd < c.macs.length := by rw [← hc]; exact hm
    rw [Dev.mac_setMac (by simpa [Dev.setMac] using hlen), Dev.mac_setMac (by simpa [Dev.setMac] using hlen), Dev.mac_setMac hlen]
  have hmacs : (d.frSend r odd b).macs.length = d.macs.length := by simp [Dev.frSend, Dev.countMac, Dev.setMac, Dev.setFr]
  obtain ⟨ms, hrow⟩ := d.frSend_frame r odd b
  rw [hrow] at hsent hmacs ⊢
  exact ⟨upd_getD_same d.frs r _ {} hr, hsent, upd_length _ _ _, hmacs, rfl, rfl⟩

theorem Dev.frTakes_of {d e : Dev} {r : Nat} (hq : e.quoins = d.quoins) (ht : (e.fr r).tplate = (d.fr r).tplate) : e.frTakes r = d.frTakes r := by
  unfold Dev.frTakes Dev.holds Dev.quoin Fr.tpNum
  rw [hq, ht]

theorem Dev.frTakes_frSend {d : Dev} {r : Nat} (hr : r < d.frs.length) (odd : Bool) (b : List Byte) : (d.frSend r odd b).frTakes r = d.frTakes r := by
  obtain ⟨ms, hrow⟩ := d.frSend_frame r odd b
  rw [hrow]
  exact Dev.frTakes_of rfl (congrArg Fr.tplate (upd_getD_same d.frs r (Fr.pushed b) {} hr) :)

/-! ## What a copy is made into (R471 to R473) -/

/-- What the work on a copy reads of its ring. -/
def Fr.plan (f : Fr) : List Nat × List Slice × List (Nat × Nat) := (f.tmpl, f.slices, f.chase)

section
variable {f f' : Fr} (h : f'.tmpl = f.tmpl)
include h

theorem Fr.t_of_tmpl : f'.t = f.t := by
  funext w lo n
  simp only [Fr.t, h]

theorem Fr.field_of_tmpl : f'.field = f.field := by
  funext b o n
  have hbe : f'.be = f.be := by rw [Fr.be, Fr.be, Fr.t_of_tmpl h]
  rw [Fr.field, Fr.field, hbe]

theorem Fr.put16_of_tmpl : f'.put16 = f.put16 := by
  funext v
  have hbe : f'.be = f.be := by rw [Fr.be, Fr.be, Fr.t_of_tmpl h]
  rw [Fr.put16, Fr.put16, hbe]

theorem Fr.parse_of_tmpl (b : List Byte) (lim k pos : Nat) : f'.parse b lim k pos = f.parse b lim k pos := by
  have ht := Fr.t_of_tmpl h
  have hdhl : f'.dhl = f.dhl := by rw [Fr.dhl, Fr.dhl, ht]
  have htrl : f'.trl = f.trl := by rw [Fr.trl, Fr.trl, ht]
  induction k generalizing pos with
  | zero => rfl
  | succ k ih => rw [Fr.parse, Fr.parse, Fr.field_of_tmpl h, ht, hdhl, htrl, ih]

end

theorem Dev.serve_setFr {d : Dev} {r : Nat} (hr : r < d.frs.length) {f : Fr → Fr} (hf : (f (d.fr r)).plan = (d.fr r).plan) (g : Datagram)
    (b : List Byte) : (d.setFr r f).serve r g b = d.serve r g b := by
  simp only [Fr.plan, Prod.mk.injEq] at hf
  obtain ⟨htmpl, hslices, hchase⟩ := hf
  have hchase' : (f (d.fr r)).inChase = (d.fr r).inChase := by
    funext a
    rw [Fr.inChase, Fr.inChase, hchase]
  have hdhl : (f (d.fr r)).dhl = (d.fr r).dhl := by rw [Fr.dhl, Fr.dhl, Fr.t_of_tmpl htmpl]
  have hplate : (d.setFr r f).plate = d.plate := rfl
  have hbytes : (d.setFr r f).plateBytes = d.plateBytes := rfl
  unfold Dev.serve
  rw [Dev.fr_setFr hr f]
  dsimp only
  rw [Fr.t_of_tmpl htmpl, Fr.field_of_tmpl htmpl, Fr.put16_of_tmpl htmpl, hdhl, hslices, hchase', hplate, hbytes]

/-- The work on a copy reads the template, the slices and the chase windows of its ring alone. -/
theorem Dev.processForme_setFr {d : Dev} {r : Nat} (hr : r < d.frs.length) {f : Fr → Fr} (hf : (f (d.fr r)).plan = (d.fr r).plan)
    (b : List Byte) : (d.setFr r f).processForme r b = d.processForme r b := by
  have htmpl : (f (d.fr r)).tmpl = (d.fr r).tmpl := congrArg (fun x => x.1) hf
  have hcfg : (d.setFr r f).frCfg r = d.frCfg r := rfl
  have hserve : (d.setFr r f).serve r = d.serve r := by
    funext g b
    exact Dev.serve_setFr hr hf g b
  have hfhl : (f (d.fr r)).fhl = (d.fr r).fhl := by rw [Fr.fhl, Fr.fhl, Fr.t_of_tmpl htmpl]
  unfold Dev.processForme
  rw [Dev.fr_setFr hr f, hcfg, hserve]
  simp only [hfhl, Fr.parse_of_tmpl htmpl]

end Sys2Proof.Machine
end

section
/-! SUPPORT. The rows of a forme ring: its copies, its meridians, its returns, its claims and its loops (R473 to R488). -/

namespace Sys2Proof.Machine

section
variable {d : Dev} {r : Nat} (hr : r < d.frs.length) (hmacs : ∀ o, frMac r o < d.macs.length)

/-! ## Copies of the cycle forme (R473, R477) -/

include hr hmacs in
/-- A copy that a node does not process, and every copy at a master, goes on. -/
theorem Dev.cycleForme_passes (v : Dev → Nat → Dev) {odd : Bool} {b : List Byte} (hon : d.isOn (frFid r) = true)
    (hup : d.macUp (frMac r odd) = true) (hloop : (if odd then (d.fr r).loopO else (d.fr r).loopE) = false) (hforme : d.isForme r b = true)
    (hclaim : isClaim b = false)
    (hlater : (d.fr r).isMaster = true ∨ ∃ t, (d.fr r).processed = some t ∧ d.tick < t + (d.frCfg r).cycle / 2) :
    (d.cycleForme v r odd b).mac (frMac r ((d.fr r).leaves odd)) = (d.frSend r ((d.fr r).leaves odd) b).mac (frMac r ((d.fr r).leaves odd)) ∧
      ((d.cycleForme v r odd b).fr r).processed = (d.fr r).processed := by
  have hrow : d.cycleForme v r odd b = d.frSend r ((d.fr r).leaves odd) b := by
    unfold Dev.cycleForme
    simp only [hon, hup, hloop, hforme, hclaim, Bool.not_true, Bool.or_false, Bool.false_eq_true, if_false]
    rcases hlater with hmaster | ⟨t, hprocessed, htick⟩
    · rw [if_pos hmaster]
    · split
      · rfl
      · rw [hprocessed]
        simp [Nat.not_le.mpr htick]
  obtain ⟨hx, -⟩ := Dev.frSend_leaves hr (hmacs ((d.fr r).leaves odd)) b
  rw [hrow, hx]
  exact ⟨rfl, rfl⟩

theorem Dev.setFr_setFr (d : Dev) (r : Nat) (f g : Fr → Fr) : (d.setFr r f).setFr r g = d.setFr r (fun x => g (f x)) :=
  congrArg (fun x => { d with frs := x }) (upd_upd d.frs r f g)

/-- What a first copy leaves of its ring before it is processed. -/
structure Fr.Arrived (f g : Fr) (tick : Nat) : Prop where
  plan : g.plan = f.plan
  processed : g.processed = some tick
  merDue : g.merDue = some (tick + f.mdly)
  missed : g.missed = f.missed
  tplate : g.tplate = f.tplate
  run : g.run = f.run

theorem Dev.arrives {d : Dev} {r : Nat} (hactive : (d.fr r).isActive = true) (good : Bool) : ∃ F : Fr → Fr, (if good then d.frHeard r else d).setFr r (fun f => { f with
    processed := some (if good then d.frHeard r else d).tick, merDue := some ((if good then d.frHeard r else d).tick + f.mdly), substitutes := 0 }) =
      d.setFr r F ∧ (d.fr r).Arrived (F (d.fr r)) d.tick := by
  cases good
  · exact ⟨_, rfl, ⟨rfl, rfl, rfl, rfl, rfl, rfl⟩⟩
  · have hheard : d.frHeard r = d.setFr r (fun f => { f with
        lastForme := some d.tick, listening := none, claimReturns := 0, start := if f.isActive then 0 else 2 }) := by
      unfold Dev.frHeard
      dsimp only
      rw [hactive]
      rfl
    rw [if_pos rfl, hheard, Dev.setFr_setFr]
    exact ⟨_, rfl, ⟨rfl, rfl, rfl, rfl, rfl, rfl⟩⟩

/-- What a working node makes of a first copy, and sends on by `o`. -/
def Dev.makesCopy (v : Dev → Nat → Dev) (r : Nat) (o : Bool) (b : List Byte) (d : Dev) : Dev :=
  let p := d.processForme r b
  let d := forEach p.2.1 d (fun d t => d.takeWrite r t.1 t.2)
  let d :=
    if fcsGood b && !p.2.2.1 then
      let d := d.frSend r o (withFcs (noFcs p.1))
      let d := if d.frTakes r then d.commitPlate (d.fr r).tpNum else d
      d.frEvent r 0
    else
      let x := withFcs (noFcs p.1)
      let d := d.frSend r o (noFcs x ++ (x.drop (x.length - 4)).map (fun v => ~~~v))
      (d.takeDiscard r).frMissed r
  if p.2.2.2 then v d r else d

/-- The first copy of a cycle at a node that works. -/
theorem Dev.cycleForme_first (v : Dev → Nat → Dev) {odd : Bool} {b : List Byte} (hon : d.isOn (frFid r) = true)
    (hup : d.macUp (frMac r odd) = true) (hloop : (if odd then (d.fr r).loopO else (d.fr r).loopE) = false) (hforme : d.isForme r b = true)
    (hclaim : isClaim b = false) (hslave : (d.fr r).isMaster = false)
    (hfirst : ∀ t, (d.fr r).processed = some t → t + (d.frCfg r).cycle / 2 ≤ d.tick) (hactive : (d.fr r).isActive = true)
    (hrun : (d.fr r).run = true) (hbound : d.frBound r = true) : ∃ F : Fr → Fr, (d.fr r).Arrived (F (d.fr r)) d.tick ∧
      d.cycleForme v r odd b = (d.setFr r F).makesCopy v r ((d.fr r).leaves odd) b := by
  obtain ⟨F, hF, harrived⟩ := Dev.arrives hactive (fcsGood b)
  refine ⟨F, harrived, ?_⟩
  have hbound' : (d.setFr r F).frBound r = true := hbound
  unfold Dev.cycleForme
  simp only [hon, hup, hloop, hforme, hclaim, hslave, hactive, hrun, Bool.not_true, Bool.or_false, Bool.false_eq_true, if_false, hF, hbound',
    Bool.and_true]
  split
  next t ht =>
    exact if_neg (by simp [hfirst t ht])
  · rfl

theorem Dev.takeWrites_none {d : Dev} {r : Nat} (htakes : d.frTakes r = false) (tk : List (Nat × List Byte)) :
    forEach tk d (fun d t => d.takeWrite r t.1 t.2) = d := by
  have hnone (o : Nat) (x : List Byte) : d.takeWrite r o x = d := by
    unfold Dev.takeWrite
    rw [htakes]
    rfl
  induction tk with
  | nil => rfl
  | cons t tk ih =>
    unfold forEach at ih ⊢
    rw [List.foldl_cons, hnone, ih]

include hr hmacs in
/-- A copy that is processed, of a ring without a take plate. -/
theorem Dev.makesCopy_leaves (v : Dev → Nat → Dev) (o : Bool) {b : List Byte} (htakes : d.frTakes r = false)
    (hinside : (d.processForme r b).2.2.2 = false) :
    ((fcsGood b && !(d.processForme r b).2.2.1) = true → ((d.makesCopy v r o b).mac (frMac r o)).sent = withFcs (noFcs (d.processForme r b).1) ∧
      ∃ x, (d.makesCopy v r o b).fr r = Fr.raised 0 (Fr.pushed x (d.fr r))) ∧
    ((fcsGood b && !(d.processForme r b).2.2.1) = false → ∃ x, (d.makesCopy v r o b).fr r = Fr.missedOne (Fr.pushed x (d.fr r))) := by
  unfold Dev.makesCopy
  dsimp only
  rw [Dev.takeWrites_none htakes, hinside]
  refine ⟨fun hgood => ?_, fun hbad => ?_⟩
  · rw [hgood]
    obtain ⟨hx, hsent, hlen, -⟩ := Dev.frSend_leaves hr (hmacs o) (withFcs (noFcs (d.processForme r b).1))
    have htakes' : (d.frSend r o (withFcs (noFcs (d.processForme r b).1))).frTakes r = false := (Dev.frTakes_frSend hr o _).trans htakes
    generalize d.frSend r o _ = e at *
    have hevent := e.rings_frEvent r 0
    simp only [htakes', if_true, Bool.false_eq_true, if_false]
    refine ⟨?_, withFcs (noFcs (d.processForme r b).1), ?_⟩
    · rw [Dev.mac_of_rings hevent]
      exact hsent
    · rw [Dev.fr_of_setFr (by rw [hlen]; exact hr) hevent, hx]
  · rw [hbad]
    simp only [Bool.false_eq_true, if_false]
    generalize noFcs (withFcs (noFcs (d.processForme r b).1)) ++ _ = out
    obtain ⟨hx, -, hlen, -⟩ := Dev.frSend_leaves hr (hmacs o) out
    have htakes' : (d.frSend r o out).frTakes r = false := (Dev.frTakes_frSend hr o _).trans htakes
    generalize d.frSend r o out = e at *
    have hnone : e.takeDiscard r = e := by
      unfold Dev.takeDiscard
      rw [htakes']
      rfl
    rw [hnone]
    exact ⟨_, by rw [Dev.fr_of_setFr (by rw [hlen]; exact hr) (e.rings_frMissed r), hx]⟩

end

end Sys2Proof.Machine
end

section
/-! SUPPORT. The meridians of a forme ring (R476, R477, R480), and its returns, claims and loops (R480 to R488). -/

namespace Sys2Proof.Machine

theorem Dev.frs_of_sites {d e : Dev} (h : e.sites = d.sites) : e.frs = d.frs := by
  simp only [Dev.sites, Prod.mk.injEq] at h
  exact h.2.1

/-- A ring but for what it has sent. -/
def Fr.quiet (f : Fr) : Fr := { f with sent := [] }

/-- A copy that a ring sends where its port is up. -/
theorem Dev.quiet_frSend {d : Dev} {r : Nat} (hr : r < d.frs.length) (c odd : Bool) (b : List Byte) :
    ((if c then d.frSend r odd b else d).fr r).quiet = (d.fr r).quiet ∧ (if c then d.frSend r odd b else d).tick = d.tick ∧
      (if c then d.frSend r odd b else d).frs.length = d.frs.length := by
  cases c
  · exact ⟨rfl, rfl, rfl⟩
  · obtain ⟨ms, hrow⟩ := d.frSend_frame r odd b
    rw [if_pos rfl, hrow]
    have hfr : ({ d with frs := upd d.frs r (Fr.pushed b), macs := ms } : Dev).fr r = Fr.pushed b (d.fr r) := upd_getD_same d.frs r _ {} hr
    rw [hfr]
    exact ⟨rfl, rfl, upd_length _ _ _⟩

/-! ## Meridians -/

section
variable {d : Dev} {r : Nat} (hr : r < d.frs.length) (hdom : r < d.doms.length)
include hr hdom

/-- The meridian of a slave. -/
theorem Dev.slaveMeridian_leaves {v : Nat} (hdue : (d.fr r).merDue = some v) :
    (d.slaveMeridian r).tick = max d.tick v ∧ ((d.slaveMeridian r).fr r).lastMer = v ∧ ((d.slaveMeridian r).fr r).merDue = none ∧
      ((d.slaveMeridian r).dom r).mcount = if (d.dom r).started then wrap32 ((d.dom r).mcount + 1) else (d.dom r).mcount := by
  unfold Dev.slaveMeridian
  rw [hdue]
  dsimp only
  generalize hc : (d.advanceTo v).setFr r (fun f => { f with merDue := none, lastMer := v }) = c
  have hfr : c.fr r = { d.fr r with merDue := none, lastMer := v } := by
    rw [← hc]
    exact Dev.fr_setFr (d := d.advanceTo v) hr _
  have htick : c.tick = max d.tick v := by rw [← hc]; rfl
  have hdoms : c.doms = d.doms := by rw [← hc]; rfl
  obtain ⟨hholds, hsites, hmarks⟩ := Dev.meridianEffects_marks (d := c) (dom := r) (by rw [hdoms]; exact hdom) v true (c.slaveTake r)
  generalize c.meridianEffects r v true (c.slaveTake r) = e at *
  have hefr : e.fr r = c.fr r := congrArg (fun x => x.getD r {}) (Dev.frs_of_sites hsites)
  have hmcount : (e.dom r).mcount = ((c.dom r).meridian true v).mcount := congrArg (fun x => x.1) hmarks
  have hcdom : c.dom r = d.dom r := by rw [Dev.dom, hdoms]; rfl
  rw [hefr, hfr, hmcount, hcdom]
  exact ⟨hholds.toRuns.tick.trans htick, rfl, rfl, rfl⟩

end

/-- A part after the effects of a meridian, for its rings. -/
theorem Dev.meridianEffects_rings {d : Dev} {r : Nat} (hdom : r < d.doms.length) (t : Nat) (counts : Bool) (but : Option Nat) :
    d.Holds (d.meridianEffects r t counts but) ∧ (d.meridianEffects r t counts but).frs = d.frs := by
  obtain ⟨hholds, hsites, -⟩ := Dev.meridianEffects_marks hdom t counts but
  exact ⟨hholds, Dev.frs_of_sites hsites⟩

/-- One copy of a launch, by a port that is up. -/
def Dev.launchBy (r : Nat) (pay : List Byte) (d : Dev) (odd : Bool) : Dev :=
  if d.macUp (frMac r odd) then d.frSend r odd (d.formeBytes r odd pay) else d

/-- A ring that has launched. -/
def Fr.launching (pay : List Byte) (f : Fr) : Fr := { f with launched := pay, copies := [], awaiting := true }

/-- A ring that skips a launch. -/
def Fr.skipping (f : Fr) : Fr := { f with awaiting := false, copies := [] }

theorem Dev.launch_eq (d : Dev) (r : Nat) : ∃ pay, d.launch r = if (d.func (frFid r)).st != 2 then d
    else if !((d.fr r).run && d.frBound r) then (d.setFr r Fr.skipping).frMissed r
    else ((d.setFr r (Fr.launching pay)).launchBy r pay false).launchBy r pay true := ⟨_, rfl⟩

/-- A launch leaves the meridian as it is; a master that does not run misses its forme. -/
theorem Dev.launch_leaves {d : Dev} {r : Nat} (hr : r < d.frs.length) : (d.launch r).tick = d.tick ∧
    ((d.launch r).fr r).lastMer = (d.fr r).lastMer ∧ ((d.launch r).fr r).master0 = (d.fr r).master0 ∧
    ((d.func (frFid r)).st = 2 → (d.fr r).run = false → ((d.launch r).fr r).missed = wrap32 ((d.fr r).missed + 1)) := by
  obtain ⟨pay, hrow⟩ := d.launch_eq r
  rw [hrow]
  split
  next h => exact ⟨rfl, rfl, rfl, fun hst => absurd hst (by simpa using h)⟩
  have hset (f : Fr → Fr) : (d.setFr r f).fr r = f (d.fr r) ∧ r < (d.setFr r f).frs.length := ⟨Dev.fr_setFr hr f, (upd_length d.frs r f).symm ▸ hr⟩
  split
  · obtain ⟨hfr, hlen⟩ := hset Fr.skipping
    have hmissed := (d.setFr r Fr.skipping).rings_frMissed r
    have hend := Dev.fr_of_setFr hlen hmissed
    rw [hfr] at hend
    refine ⟨(Dev.tick_of_rings hmissed :), ?_, ?_, fun _ _ => ?_⟩ <;> rw [hend] <;> rfl
  next h =>
    have hworks : (d.fr r).run = true := by
      simp only [Bool.not_eq_true', Bool.not_eq_false, Bool.and_eq_true] at h
      exact h.1
    obtain ⟨hfr, hlen⟩ := hset (Fr.launching pay)
    obtain ⟨hfirst, htick1, hlen1⟩ := Dev.quiet_frSend hlen ((d.setFr r (Fr.launching pay)).macUp (frMac r false)) false
      ((d.setFr r (Fr.launching pay)).formeBytes r false pay)
    change (((d.setFr r (Fr.launching pay)).launchBy r pay false).fr r).quiet = _ at hfirst
    change ((d.setFr r (Fr.launching pay)).launchBy r pay false).tick = _ at htick1
    change ((d.setFr r (Fr.launching pay)).launchBy r pay false).frs.length = _ at hlen1
    generalize (d.setFr r (Fr.launching pay)).launchBy r pay false = e at *
    obtain ⟨hsecond, htick2, -⟩ := Dev.quiet_frSend (hlen1.symm ▸ hlen) (e.macUp (frMac r true)) true (e.formeBytes r true pay)
    change ((e.launchBy r pay true).fr r).quiet = _ at hsecond
    change (e.launchBy r pay true).tick = _ at htick2
    generalize e.launchBy r pay true = g at *
    have hend := (hsecond.trans hfirst).trans (congrArg Fr.quiet hfr)
    refine ⟨htick2.trans htick1, (congrArg Fr.lastMer hend :), (congrArg Fr.master0 hend :), fun _ hrun => ?_⟩
    exact absurd (hworks.symm.trans hrun) (by decide)

/-- The meridian of a master. -/
theorem Dev.ownMeridian_leaves {d : Dev} {r : Nat} (hr : r < d.frs.length) (hdom : r < d.doms.length) (hmaster : (d.fr r).isMaster = true)
    (hstart : (d.fr r).start ≠ 1) : (d.ownMeridian r).tick = max d.tick (d.orr.pReach (d.fr r).master0) ∧
      ((d.ownMeridian r).fr r).lastMer = (d.ownMeridian r).tick ∧
      ((d.ownMeridian r).fr r).master0 = (d.fr r).master0 + (d.frCfg r).cycle ∧
      ((d.func (frFid r)).st = 2 → (d.fr r).run = false → ((d.ownMeridian r).fr r).missed = wrap32 ((d.fr r).missed + 1)) := by
  have hwins : ((d.fr r).start == 1) = false := by simpa using hstart
  unfold Dev.ownMeridian
  dsimp only
  simp only [hwins, Bool.false_and, Bool.false_eq_true, if_false]
  generalize hc : (d.advanceTo (d.orr.pReach (d.fr r).master0)).setFr r _ = c
  have hfr : c.fr r = { d.fr r with
      master0 := (d.fr r).master0 + (d.frCfg r).cycle, lastMer := max d.tick (d.orr.pReach (d.fr r).master0), claimBack := false,
      claimReturns := if (d.fr r).claimBack then (d.fr r).claimReturns else 0 } := by
    rw [← hc]
    exact Dev.fr_setFr (d := d.advanceTo (d.orr.pReach (d.fr r).master0)) hr _
  have htick : c.tick = max d.tick (d.orr.pReach (d.fr r).master0) := by rw [← hc]; rfl
  have hfunc : c.func = d.func := by rw [← hc]; rfl
  have hlen : r < c.frs.length := by rw [← hc]; exact (upd_length _ _ _).symm ▸ hr
  have hcdom : r < c.doms.length := by rw [← hc]; exact hdom
  obtain ⟨hholds, hfrs⟩ := Dev.meridianEffects_rings hcdom (d.advanceTo (d.orr.pReach (d.fr r).master0)).tick (!false) (c.slaveTake r)
  generalize c.meridianEffects r _ _ _ = e at *
  have hefr : e.fr r = c.fr r := congrArg (fun x => x.getD r {}) hfrs
  have hefunc : e.func (frFid r) = d.func (frFid r) := (hholds.toStands.func _).trans (congrFun hfunc _)
  obtain ⟨hltick, hlast, hmaster0, hmissed⟩ := Dev.launch_leaves (d := e) (r := r) (hfrs ▸ hlen)
  have hem : (e.fr r).isMaster = true := by rw [hefr, hfr]; exact hmaster
  rw [if_pos hem]
  rw [hefunc, hefr, hfr] at hmissed
  rw [hefr, hfr] at hlast hmaster0
  have hat := hltick.trans (hholds.toRuns.tick.trans htick)
  exact ⟨hat, hlast.trans hat.symm, hmaster0, hmissed⟩

/-- A substitute meridian; the fourth ends the node's activity. -/
theorem Dev.substitute_leaves {d : Dev} {r : Nat} (hr : r < d.frs.length) (hdom : r < d.doms.length) (hon : d.isOn (frFid r) = true)
    (hslave : (d.fr r).isMaster = false) (hstart : (d.fr r).start ≠ 1) (hdue : (d.fr r).merDue = none)
    (hprocessed : (d.fr r).processed.isSome = true) (hfew : (d.fr r).substitutes < 4) :
    ((Dev.substitute r d).fr r).lastMer = (d.fr r).lastMer + (d.frCfg r).cycle ∧
      ((Dev.substitute r d).fr r).missed = wrap32 ((d.fr r).missed + 1) ∧
      ((Dev.substitute r d).fr r).substitutes = (d.fr r).substitutes + 1 ∧
      ((d.fr r).substitutes = 3 → ((Dev.substitute r d).fr r).isActive = false ∧ ((Dev.substitute r d).fr r).start = 2) := by
  unfold Dev.substitute
  dsimp only
  rw [if_neg (by simp [hon, hslave, hstart, hdue, Option.isNone_iff_eq_none, Option.isSome_iff_ne_none.mp hprocessed, hfew])]
  generalize (d.fr r).lastMer + (d.frCfg r).cycle + (d.frCfg r).cycle / 2 = v
  generalize hc : (d.advanceTo v).setFr r _ = c
  have hfr : c.fr r = { d.fr r with lastMer := (d.fr r).lastMer + (d.frCfg r).cycle, substitutes := (d.fr r).substitutes + 1 } := by
    rw [← hc]
    exact Dev.fr_setFr (d := d.advanceTo v) hr _
  have hlen : r < c.frs.length := by rw [← hc]; exact (upd_length _ _ _).symm ▸ hr
  have hcdom : r < c.doms.length := by rw [← hc]; exact hdom
  have hmissed := c.rings_frMissed r
  have hmfr := Dev.fr_of_setFr hlen hmissed
  have hmlen : (c.frMissed r).frs.length = c.frs.length := by rw [Dev.frs_of_rings hmissed]; exact upd_length _ _ _
  have hmdom : (c.frMissed r).doms.length = c.doms.length := by
    have h := congrArg (fun x : Nat × List Fr × List Mac × List (Nat × Nat × Bool × Nat) => x.2.2.2.length) hmissed
    simpa [Dev.rings] using h
  generalize c.frMissed r = e at *
  obtain ⟨-, hfrs⟩ := Dev.meridianEffects_rings (hmdom.symm ▸ hcdom) ((d.fr r).lastMer + (d.frCfg r).cycle) true (e.slaveTake r)
  generalize e.meridianEffects r _ _ _ = g at *
  have hgfr : g.fr r = { d.fr r with
      lastMer := (d.fr r).lastMer + (d.frCfg r).cycle, substitutes := (d.fr r).substitutes + 1, missed := wrap32 ((d.fr r).missed + 1),
      evt := (d.fr r).evt ||| 2 ^ 1 } := by
    rw [show g.fr r = e.fr r from congrArg (fun x => x.getD r {}) hfrs, hmfr, hfr]
    rfl
  split
  next h =>
    rw [Dev.fr_setFr (by rw [hfrs, hmlen]; exact hlen), hgfr]
    exact ⟨rfl, rfl, rfl, fun _ => ⟨rfl, rfl⟩⟩
  next h =>
    rw [hgfr]
    exact ⟨rfl, rfl, rfl, fun h3 => absurd (by simp [h3]) h⟩

end Sys2Proof.Machine
end

section
/-! SUPPORT. Returns, claims and loops of a forme ring (R480 to R488), and the entries of an imposition (R490, R499). -/

namespace Sys2Proof.Machine

/-- A ring with a port that loops. -/
def Fr.looped (odd : Bool) (f : Fr) : Fr := if odd then { f with loopO := true } else { f with loopE := true }

theorem Fr.ring_changed (st : Nat) (f : Fr) : (f.changed st).ring = st := by
  unfold Fr.changed
  split
  next h => exact h
  · rfl

/-- A change of the ring state leaves the loops and whether a launch is awaited. -/
theorem Fr.changed_keeps (st : Nat) (f : Fr) : (f.changed st).loopO = f.loopO ∧ (f.changed st).loopE = f.loopE ∧
    (f.changed st).awaiting = f.awaiting ∧ (f.changed st).missed = f.missed := by
  unfold Fr.changed
  split <;> exact ⟨rfl, rfl, rfl, rfl⟩

/-- A bit that is set stays so. -/
theorem bit_raised (e b : Nat) : bit (e ||| 2 ^ b) b = true ∧ ∀ i, bit e i = true → bit (e ||| 2 ^ b) i = true := by
  refine ⟨by simp [bit, Nat.testBit_or], fun i hi => ?_⟩
  unfold bit at hi ⊢
  rw [Nat.testBit_or, hi, Bool.true_or]

theorem Fr.bit_changed (st : Nat) {f : Fr} {i : Nat} (h : bit f.evt i = true) : bit (f.changed st).evt i = true := by
  unfold Fr.changed
  split
  exacts [h, (bit_raised f.evt 3).2 i h]

/-- What the return limit makes of the copies that `f` had received. -/
def Dev.returnLimitFrom (d : Dev) (r : Nat) (f : Fr) : Dev :=
  match f.copies with
  | [] => (d.frMissed r).setRingState r 2
  | c :: cs =>
    let res := match cs with
      | c2 :: _ => f.merge c.2.2 c2.2.2
      | [] => c.2.2
    let d := d.takeWrite r 0 res
    let d := if d.frTakes r then d.setPlate f.tpNum (fun q => { q with ready := true }) else d
    let d := d.frEvent r 0
    let (gs, _) := f.parse (zeros 14 ++ f.launched) (14 + f.launched.length) 400 (14 + f.fhl)
    let wrong := ((List.range (min 32 gs.length)).filter (fun i =>
      let g := gs.getD i {}
      let x := f.xwkc.getD i 0xFFFF
      x != 0xFFFF && f.field res (g.pos - 14 + f.dhl + g.len) 2 != x)).length
    let d := if wrong == 0 then d else (d.setFr r (fun f => { f with mism := wrap32 (f.mism + wrong) })).frEvent r 2
    d.setRingState r (if f.copies.any (fun x => x.1 != x.2.1) then 0 else 1)

/-- A ring that has received a copy, and counts the working counters that are wrong. -/
def Dev.counted (d : Dev) (r wrong : Nat) : Dev :=
  if wrong == 0 then d.frEvent r 0
  else ((d.frEvent r 0).setFr r (fun f => { f with mism := wrap32 (f.mism + wrong) })).frEvent r 2

theorem Dev.returnLimitFrom_some {d : Dev} {r : Nat} {f : Fr} {c : Nat × Nat × List Byte} {cs : List (Nat × Nat × List Byte)}
    (hcopies : f.copies = c :: cs) (htakes : d.frTakes r = false) : ∃ wrong, d.returnLimitFrom r f =
      (d.counted r wrong).setRingState r (if f.copies.any (fun x => x.1 != x.2.1) then 0 else 1) := by
  have hnone (o : Nat) (x : List Byte) : d.takeWrite r o x = d := by
    unfold Dev.takeWrite
    rw [htakes]
    rfl
  unfold Dev.returnLimitFrom
  rw [hcopies]
  dsimp only
  rw [hnone, htakes, if_neg Bool.false_ne_true]
  exact ⟨_, rfl⟩

theorem Dev.mismatch_leaves {d : Dev} {r : Nat} (hr : r < d.frs.length) (wrong : Nat) :
    ((d.counted r wrong).fr r).awaiting = (d.fr r).awaiting ∧ bit ((d.counted r wrong).fr r).evt 0 = true ∧
      (d.counted r wrong).frs.length = d.frs.length ∧ (d.counted r wrong).tick = d.tick := by
  have hfirst := d.rings_frEvent r 0
  have hfr := Dev.fr_of_setFr hr hfirst
  have hlen : (d.frEvent r 0).frs.length = d.frs.length := by rw [Dev.frs_of_rings hfirst]; exact upd_length _ _ _
  have htick : (d.frEvent r 0).tick = d.tick := (Dev.tick_of_rings hfirst :)
  have hbit : bit ((d.fr r).raised 0).evt 0 = true := (bit_raised _ 0).1
  unfold Dev.counted
  generalize d.frEvent r 0 = e at *
  split
  · rw [hfr]
    exact ⟨rfl, hbit, hlen, htick⟩
  · have hsecond := (e.setFr r (fun f => { f with mism := wrap32 (f.mism + wrong) })).rings_frEvent r 2
    have hclen : r < (e.setFr r (fun f => { f with mism := wrap32 (f.mism + wrong) })).frs.length := by
      show r < (upd e.frs r _).length
      rw [upd_length, hlen]
      exact hr
    have hend := Dev.fr_of_setFr hclen hsecond
    rw [Dev.fr_setFr (hlen.symm ▸ hr), hfr] at hend
    rw [hend]
    refine ⟨rfl, (bit_raised _ 2).2 0 hbit, ?_, (Dev.tick_of_rings hsecond).trans htick⟩
    rw [Dev.frs_of_rings hsecond]
    show (upd (upd e.frs r _) r _).length = _
    rw [upd_length, upd_length, hlen]

section
variable {d : Dev} {r : Nat} (hr : r < d.frs.length)
include hr

/-! ## Returned copies (R480, R482) -/

theorem Dev.returnedCopy_leaves {sent ret : Bool} {b : List Byte} (hmaster : (d.fr r).isMaster = true) (hawaiting : (d.fr r).awaiting = true)
    (hgood : fcsGood b = true) (hforme : d.isForme r b = true) (hin : d.tick ≤ (d.fr r).lastMer + (d.frCfg r).cycle / 2)
    (hup : d.macUp (frMac r ret) = true) : (b2n sent, b2n ret, slice b 14 (b.length - 18)) ∈ ((d.returnedCopy r sent ret b).fr r).copies ∧
      (if sent then ((d.returnedCopy r sent ret b).fr r).rttO else ((d.returnedCopy r sent ret b).fr r).rttE) =
        min 65535 ((d.tick - (d.fr r).lastMer) / 16) := by
  unfold Dev.returnedCopy
  dsimp only
  rw [if_neg (by simp [hmaster, hawaiting, hgood, hforme, hup, Nat.not_lt.mpr hin]), Dev.fr_setFr hr]
  refine ⟨by simp, ?_⟩
  cases sent <;> rfl

/-- The ring after a merge of what came back: it may count mismatches. -/
theorem Dev.returnLimit_leaves (hmaster : (d.fr r).isMaster = true) (hawaiting : (d.fr r).awaiting = true) (htakes : d.frTakes r = false) :
    (d.returnLimit r).tick = max d.tick ((d.fr r).lastMer + (d.frCfg r).cycle / 2) ∧ ((d.returnLimit r).fr r).awaiting = false ∧
      ((d.fr r).copies = [] → ((d.returnLimit r).fr r).missed = wrap32 ((d.fr r).missed + 1) ∧ ((d.returnLimit r).fr r).ring = 2) ∧
      ((d.fr r).copies ≠ [] → bit ((d.returnLimit r).fr r).evt 0 = true ∧
        ((d.returnLimit r).fr r).ring = if (d.fr r).copies.any (fun x => x.1 != x.2.1) then 0 else 1) := by
  generalize hc : (d.advanceTo ((d.fr r).lastMer + (d.frCfg r).cycle / 2)).setFr r (fun f => { f with awaiting := false }) = c
  have hfr : c.fr r = { d.fr r with awaiting := false } := by
    rw [← hc]
    exact Dev.fr_setFr (d := d.advanceTo _) hr _
  have hlen : r < c.frs.length := by rw [← hc]; exact (upd_length _ _ _).symm ▸ hr
  have htick : c.tick = max d.tick ((d.fr r).lastMer + (d.frCfg r).cycle / 2) := by rw [← hc]; rfl
  have hnone : c.frTakes r = false := (Dev.frTakes_of (by rw [← hc]; rfl) (by rw [hfr])).trans htakes
  have hbegins : d.returnLimit r = c.returnLimitFrom r (d.fr r) := by
    unfold Dev.returnLimit
    dsimp only
    rw [if_neg (by simp [hmaster, hawaiting]), hc]
    rfl
  rw [hbegins]
  rcases hcopies : (d.fr r).copies with _ | ⟨x, xs⟩
  · have hrow : c.returnLimitFrom r (d.fr r) = (c.frMissed r).setRingState r 2 := by
      unfold Dev.returnLimitFrom
      rw [hcopies]
    rw [hrow]
    have hmissed := c.rings_frMissed r
    have hmfr := Dev.fr_of_setFr hlen hmissed
    have hmlen : r < (c.frMissed r).frs.length := by
      rw [Dev.frs_of_rings hmissed]
      exact (upd_length _ _ _).symm ▸ hlen
    have hmtick : (c.frMissed r).tick = c.tick := (Dev.tick_of_rings hmissed :)
    generalize c.frMissed r = e at *
    have hchanged := Dev.rings_setRingState (d := e) (r := r) 2
    have hend := Dev.fr_of_setFr hmlen hchanged
    obtain ⟨-, -, hawait, hmiss⟩ := Fr.changed_keeps 2 (e.fr r)
    rw [hend, hawait, hmiss, Fr.ring_changed, hmfr, hfr]
    exact ⟨(Dev.tick_of_rings hchanged :).trans (hmtick.trans htick), rfl, fun _ => ⟨rfl, rfl⟩, fun h => absurd rfl h⟩
  · obtain ⟨wrong, hrow⟩ := Dev.returnLimitFrom_some hcopies hnone
    obtain ⟨hawait, hset, hclen, hctick⟩ := Dev.mismatch_leaves hlen wrong
    generalize c.counted r wrong = e at *
    rw [hfr] at hawait
    have hchanged := Dev.rings_setRingState (d := e) (r := r) (if (d.fr r).copies.any (fun x => x.1 != x.2.1) then 0 else 1)
    have hend := Dev.fr_of_setFr (hclen.symm ▸ hlen) hchanged
    obtain ⟨-, -, hkept, -⟩ := Fr.changed_keeps (if (d.fr r).copies.any (fun x => x.1 != x.2.1) then 0 else 1) (e.fr r)
    have hat := (Dev.tick_of_rings hchanged :)
    rw [← hrow] at hend hat
    rw [hend, hkept, hawait, Fr.ring_changed, ← hcopies]
    exact ⟨hat.trans (hctick.trans htick), rfl, fun h => absurd (hcopies.symm.trans h) nofun, fun _ => ⟨Fr.bit_changed _ hset, rfl⟩⟩

/-! ## Claims (R485 to R488) -/

theorem Dev.claimListen_leaves {v : Nat} (hlistening : (d.fr r).listening = some v) (hon : d.isOn (frFid r) = true)
    (hrole : (d.frCfg r).role = 1) (hstart : (d.fr r).start ≠ 1) : (d.claimListen r).tick = max d.tick v ∧
      ((d.claimListen r).fr r).start = 1 ∧ ((d.claimListen r).fr r).listening = none := by
  unfold Dev.claimListen
  rw [hlistening]
  dsimp only
  rw [if_neg (by simp [hon, hrole, hstart])]
  have hset := Dev.fr_setFr (d := d.advanceTo v) hr (fun f => { f with
    listening := none, start := 1, claimReturns := 0, claimBack := false,
    master0 := pNext ((d.advanceTo v).orr.pOf (d.advanceTo v).tick) 0 secNs })
  exact ⟨rfl, congrArg Fr.start hset, congrArg Fr.listening hset⟩

/-! ## Loops (R482, R483) -/

theorem Dev.portLoop_leaves {odd : Bool} (hm : frMac r odd < d.macs.length) (hon : d.isOn (frFid r) = true)
    (hopen : (if odd then (d.fr r).loopO else (d.fr r).loopE) = false) :
    (if odd then ((d.portLoop r odd).fr r).loopO else ((d.portLoop r odd).fr r).loopE) = true ∧ ((d.portLoop r odd).mac (frMac r odd)).tx = none ∧
      ((d.fr r).isMaster = false → ((d.portLoop r odd).fr r).ring = if (if odd then (d.fr r).loopE else (d.fr r).loopO) then 2 else 1) := by
  obtain ⟨c, htx, hfrs, hrow⟩ : ∃ c : Dev, (c.mac (frMac r odd)).tx = none ∧ c.frs = d.frs ∧
      d.portLoop r odd = (c.setFr r (Fr.looped odd)).slaveRing r := by
    unfold Dev.portLoop
    rw [if_neg (by rw [hon, hopen]; decide)]
    dsimp only
    refine ⟨_, ?_, ?_, rfl⟩
    · split
      · exact congrArg Mac.tx (Dev.mac_setMac hm (fun x => { x with tx := none }))
      next h => exact Option.not_isSome_iff_eq_none.mp h
    · split <;> rfl
  have hfr : (c.setFr r (Fr.looped odd)).fr r = Fr.looped odd (d.fr r) := by
    rw [Dev.fr_setFr (by rw [hfrs]; exact hr), Dev.fr, hfrs]
    rfl
  have hlen : r < (c.setFr r (Fr.looped odd)).frs.length := by
    show r < (upd c.frs r _).length
    rw [upd_length, hfrs]
    exact hr
  have hmac : (c.setFr r (Fr.looped odd)).mac (frMac r odd) = c.mac (frMac r odd) := rfl
  rw [← hmac] at htx
  rw [hrow]
  generalize c.setFr r (Fr.looped odd) = e at *
  have hloops : (if odd then (e.fr r).loopO else (e.fr r).loopE) = true := by rw [hfr]; cases odd <;> rfl
  have hmaster : (e.fr r).isMaster = (d.fr r).isMaster := by rw [hfr]; cases odd <;> rfl
  obtain ⟨st, hst, hring⟩ : ∃ st, st = (if (e.fr r).loopE && (e.fr r).loopO then 2 else if (e.fr r).loopE || (e.fr r).loopO then 1 else 0) ∧
      e.slaveRing r = if (e.fr r).isMaster then e else e.setRingState r st := ⟨_, rfl, rfl⟩
  rw [hring]
  by_cases his : (e.fr r).isMaster = true
  · rw [if_pos his]
    exact ⟨hloops, htx, fun hslave => absurd (his.symm.trans (hmaster.trans hslave)) (by decide)⟩
  · rw [if_neg his]
    have hchanged := Dev.rings_setRingState (d := e) (r := r) st
    have hend := Dev.fr_of_setFr hlen hchanged
    have hmacs : (e.setRingState r st).mac (frMac r odd) = e.mac (frMac r odd) := (Dev.mac_of_rings hchanged _ :)
    obtain ⟨hodd, heven, -⟩ := Fr.changed_keeps st (e.fr r)
    rw [hend, hmacs, hodd, heven, Fr.ring_changed, hst, hfr]
    rw [hfr] at hloops
    refine ⟨hloops, htx, fun _ => ?_⟩
    cases odd <;> cases h : (d.fr r).loopE <;> cases h' : (d.fr r).loopO <;> simp_all [Fr.looped]

end

end Sys2Proof.Machine
end

section
/-! SUPPORT. Claims (R486) and the entries of an imposition (R490, R499). -/

namespace Sys2Proof.Machine

/-! ## Claims (R486) -/

section
variable {d : Dev} {r : Nat} (hr : r < d.frs.length) (hmacs : ∀ o, frMac r o < d.macs.length) {odd : Bool} {b : List Byte}

/-- A claim forme carries the address of this node. -/
def Dev.claimsOwn (d : Dev) (r : Nat) (b : List Byte) : Bool :=
  slice b 24 6 == leb 6 (d.cfg.macs.getD (frMac r false) {}).station || slice b 24 6 == leb 6 (d.cfg.macs.getD (frMac r true) {}).station

theorem Dev.claimForme_eq (hon : d.isOn (frFid r) = true) (hup : d.macUp (frMac r odd) = true) (hforme : d.isForme r b = true)
    (hclaim : isClaim b = true) : d.claimForme r odd b =
      if d.claimsOwn r b then
        if (d.fr r).start != 1 || (d.fr r).claimBack then d
        else d.setFr r (fun f => { f with claimBack := true, claimReturns := f.claimReturns + 1 })
      else if (d.fr r).start != 1 then d.frSend r ((d.fr r).leaves odd) b
      else if fld b 18 4 < (d.frCfg r).claim then
        (d.setFr r (fun f => { f with start := 2, claimReturns := 0 })).frSend r ((d.fr r).leaves odd) b
      else if fld b 18 4 == (d.frCfg r).claim then (d.setFr r (fun f => { f with clmEq := true })).frEvent r 4
      else d := by
  unfold Dev.claimForme
  dsimp only
  rw [if_neg (by simp [hon, hup, hforme, hclaim])]
  rfl

include hr hmacs

/-- A ring that sends on a claim that is not its own. -/
theorem Dev.claim_sent (o : Bool) (f : Fr → Fr) : (((d.setFr r f).frSend r o b).mac (frMac r o)).sent = b ∧
    (((d.setFr r f).frSend r o b).fr r).start = (f (d.fr r)).start := by
  obtain ⟨hfr, hsent, -⟩ := Dev.frSend_leaves (d := d.setFr r f) (r := r) (odd := o) ((upd_length _ _ _).symm ▸ hr) (hmacs o) b
  rw [Dev.fr_setFr hr] at hfr
  exact ⟨hsent, (congrArg Fr.start hfr :)⟩

end

/-! ## The entries of an imposition (R490, R499) -/

/-- A bus window opens at its entry. -/
theorem Dev.windowStart_leaves {d : Dev} {n : Nat} (hn : n < d.tts.length) (e : List Byte) :
    ((d.windowStart n e).tt n).window = some (enKind e, enObj e, d.tick + enLen e) ∧ (d.windowStart n e).tick = d.tick ∧
      (d.windowStart n e).doms = d.doms := by
  unfold Dev.windowStart
  dsimp only
  generalize hc : d.setTt n (fun t => { t with window := some (enKind e, enObj e, d.tick + enLen e), pend := false }) = c
  have htt : c.tt n = { d.tt n with window := some (enKind e, enObj e, d.tick + enLen e), pend := false } := by rw [← hc]; exact Dev.tt_setTt hn _
  have hframe : (c.tts.length, c.tick, c.doms) = (d.tts.length, d.tick, d.doms) := by rw [← hc]; exact Prod.ext (upd_length _ _ _) rfl
  have hcalm := c.calm_mbStart n n
  have hbeside : ((c.mbStart n).tts, (c.mbStart n).tick, (c.mbStart n).doms) = (c.tts, c.tick, c.doms) :=
    (congrArg (fun x : Dev × Nat × Mb => (x.1.tts, x.1.tick, x.1.doms)) hcalm :)
  generalize c.mbStart n = g at hbeside
  simp only [Prod.mk.injEq] at hframe hbeside
  obtain ⟨hlen, htick, hdoms⟩ := hframe
  obtain ⟨htts, hgtick, hgdoms⟩ := hbeside
  refine ⟨?_, hgtick.trans htick, hgdoms.trans hdoms⟩
  rw [Dev.tt_setTt (by rw [htts, hlen]; exact hn), show g.tt n = c.tt n from congrArg (fun x => x.getD n {}) htts, htt]

/-- The entry that is due acts at its instant, and the next one follows. -/
theorem Dev.impositionEntry_eq {d : Dev} {dom i : Nat} {e : List Byte}
    (hruns : (if dom < 2 then d.isOn (frFid dom) else decide (dom < 6) && d.ttLevel (dom - 2) != 0 && d.isOn (mbFid (dom - 2))) = true)
    (hdue : (tblEntries (d.dom dom).active).find? (fun e => decide ((d.dom dom).next ≤ e.1) && enApplies e.2 (d.basicCount dom)) = some (i, e)) :
    ∃ c : Dev, c = (d.advanceTo (d.entryTick dom e)).setDom dom (fun x => { x with next := i + 1 }) ∧
      (enKind e = 1 → Dev.impositionEntry dom d = if c.gateDomain == some dom then
        c.setSwc (fun s => { s with gates := (List.range 8).map (fun p => byteAt e (8 + p)) }) else c) ∧
      (4 ≤ enKind e → Dev.impositionEntry dom d = c.windowStart (dom - 2) e) := by
  refine ⟨_, rfl, fun hk => ?_, fun hk => ?_⟩
  · unfold Dev.impositionEntry
    dsimp only
    rw [hruns, hdue]
    dsimp only
    rw [hk]
    rfl
  · unfold Dev.impositionEntry
    dsimp only
    rw [hruns, hdue]
    dsimp only
    split
    next h => omega
    next h => omega
    · rfl

theorem Dev.dom_setDom {d : Dev} {i : Nat} (hi : i < d.doms.length) (f : Domain → Domain) : (d.setDom i f).dom i = f (d.dom i) :=
  upd_getD_same d.doms i f {} hi

end Sys2Proof.Machine
end

section
/-! The obligation of the forme rings (18). -/

namespace Sys2Proof.Ports

open Sys2Proof.Machine

theorem ringRow_next {r : Nat} (hr : r < 2) {s : State} {f : Dev → Dev} {e : Dev} (h : f s.dev = e) : ringRow r s f = .next (s.withDev e) :=
  State.run_withDev ((if_neg (by omega)).trans h)

theorem claimsOwn_iff (d : Dev) (r : Nat) (b : List Byte) : d.claimsOwn r b = true ↔
    slice b 24 6 = leb 6 (d.cfg.macs.getD (frMac r false) {}).station ∨ slice b 24 6 = leb 6 (d.cfg.macs.getD (frMac r true) {}).station := by
  simp [Dev.claimsOwn]

/-- The first copy of a cycle, at a node that works. -/
theorem firstCopy {d : Dev} {r : Nat} {odd : Bool} {b : List Byte} (hr2 : r < 2) (hr : r < d.frs.length) (hmacs : ∀ o, frMac r o < d.macs.length)
    (htakes : d.frTakes r = false) (hon : d.isOn (frFid r) = true) (hup : d.macUp (frMac r odd) = true)
    (hloop : (if odd then (d.fr r).loopO else (d.fr r).loopE) = false) (hforme : d.isForme r b = true)
    (hclaim : isClaim b = false) (hslave : (d.fr r).isMaster = false)
    (hfirst : ∀ t, (d.fr r).processed = some t → t + (d.frCfg r).cycle / 2 ≤ d.tick) (hactive : (d.fr r).isActive = true)
    (hrun : (d.fr r).run = true) (hbound : d.frBound r = true) (hinside : (d.processForme r b).2.2.2 = false) :
    ((Dev.formeIn r odd b d).fr r).merDue = some (d.tick + (d.fr r).mdly) ∧
      (fcsGood b = true → (d.processForme r b).2.2.1 = false →
        ((Dev.formeIn r odd b d).mac (frMac r ((d.fr r).leaves odd))).sent = withFcs (noFcs (d.processForme r b).1) ∧
          ((Dev.formeIn r odd b d).fr r).processed = some d.tick ∧ bit ((Dev.formeIn r odd b d).fr r).evt 0 = true ∧
          ((Dev.formeIn r odd b d).fr r).missed = (d.fr r).missed) ∧
      (fcsGood b = false ∨ (d.processForme r b).2.2.1 = true → bit ((Dev.formeIn r odd b d).fr r).evt 1 = true ∧
        ((Dev.formeIn r odd b d).fr r).missed = wrap32 ((d.fr r).missed + 1)) := by
  obtain ⟨F, ⟨hplan, hprocessed, hdue, hmissed, htplate, -⟩, hrow⟩ :=
    Dev.cycleForme_first (fun d r => d.funcFault (frFid r) 9 0 0 0 false) hon hup hloop hforme hclaim hslave hfirst hactive hrun hbound
  have hp : (d.setFr r F).processForme r b = d.processForme r b := Dev.processForme_setFr hr hplan b
  have hfr : (d.setFr r F).fr r = F (d.fr r) := Dev.fr_setFr hr F
  have htakes' : (d.setFr r F).frTakes r = false := (Dev.frTakes_of (d := d) (by rfl) (by rw [hfr, htplate])).trans htakes
  obtain ⟨hgood, hbad⟩ := Dev.makesCopy_leaves (d := d.setFr r F) (r := r) ((upd_length _ _ _).symm ▸ hr) hmacs
    (fun d r => d.funcFault (frFid r) 9 0 0 0 false) ((d.fr r).leaves odd) (b := b) htakes' (by rw [hp]; exact hinside)
  have hform : Dev.formeIn r odd b d = d.cycleForme (fun d r => d.funcFault (frFid r) 9 0 0 0 false) r odd b := if_neg (by omega)
  rw [hform, hrow]
  rw [hp, hfr] at hgood hbad
  generalize (d.setFr r F).makesCopy _ r ((d.fr r).leaves odd) b = e at hgood hbad ⊢
  refine ⟨?_, fun hfcs hwell => ?_, fun hill => ?_⟩
  · cases hcase : fcsGood b && !(d.processForme r b).2.2.1
    · obtain ⟨x, hx⟩ := hbad hcase
      rw [hx]
      exact hdue
    · obtain ⟨-, x, hx⟩ := hgood hcase
      rw [hx]
      exact hdue
  · obtain ⟨hsent, x, hx⟩ := hgood (by rw [hfcs, hwell]; rfl)
    rw [hx]
    exact ⟨hsent, hprocessed, (bit_raised _ 0).1, hmissed⟩
  · obtain ⟨x, hx⟩ := hbad (by rcases hill with h | h <;> simp [h])
    rw [hx]
    exact ⟨(bit_raised _ 1).1, congrArg (fun n => wrap32 (n + 1)) hmissed⟩

/-- Settles O50: each row of a ring in turn. -/
theorem formeRings : Obligations.FormeRings := by
  intro s r odd b hr2 hr hdom hmacs htakes
  dsimp only
  refine ⟨fun hopen hlater => ?_, fun hworks hinside => ?_, fun hst hup => ?_, fun hon hslave hstart hdue hprocessed hfew => ?_,
    fun sent ret hmaster hawaiting hgood hforme hin hup => ?_, fun hmaster hawaiting => ?_, fun hclaims => ?_,
    fun v hlistening hon hrole hstart => ?_, fun hon hloop => ?_, fun n k hn htts hmbs hlevel hon hst hk hk127 hobjs hoff hinteg hbegun => ?_,
    fun dom i e hd hdue => ?_⟩
  · obtain ⟨⟨hon, hup⟩, hloop, hforme, hclaim⟩ := hopen
    have hleaves := Dev.cycleForme_passes hr hmacs (fun d r => d.funcFault (frFid r) 9 0 0 0 false) hon hup hloop hforme hclaim hlater
    obtain ⟨-, hsent, -⟩ := Dev.frSend_leaves hr (hmacs ((s.dev.fr r).leaves odd)) b
    have hrow : Dev.formeIn r odd b s.dev = s.dev.cycleForme (fun d r => d.funcFault (frFid r) 9 0 0 0 false) r odd b := if_neg (by omega)
    generalize s.dev.cycleForme _ r odd b = e at hleaves hrow
    exact ⟨s.withDev e, State.run_withDev hrow, (congrArg Mac.sent hleaves.1).trans hsent, hleaves.2⟩
  · obtain ⟨⟨⟨hon, hup⟩, hloop, hforme, hclaim⟩, hslave, hfirst, hactive, hrun, hbound⟩ := hworks
    obtain ⟨hdue, hgood, hbad⟩ := firstCopy hr2 hr hmacs htakes hon hup hloop hforme hclaim hslave hfirst hactive hrun hbound hinside
    generalize he : Dev.formeIn r odd b s.dev = e at hdue hgood hbad
    have hrow : exec (.cycleForme r odd b) s = .next (s.withDev e) := State.run_withDev he
    refine ⟨fun hfcs hwell => ⟨s.withDev e, hrow, ?_⟩, fun hill => ⟨s.withDev e, hrow, hdue, hbad hill⟩⟩
    obtain ⟨hsent, hprocessed, hevt, hmissed⟩ := hgood hfcs hwell
    exact ⟨hsent, hprocessed, hdue, hevt, hmissed⟩
  · refine ⟨fun v hslave hstart hdue => ?_, fun hmaster hstart => ?_⟩
    · have hrow : Dev.meridian r s.dev = s.dev.slaveMeridian r := by
        unfold Dev.meridian
        rw [if_pos hr2]
        dsimp only
        rw [if_neg (by simp [hst, hup]), if_neg (by simp [hslave, hstart])]
      have hleaves := Dev.slaveMeridian_leaves hr hdom hdue
      generalize s.dev.slaveMeridian r = e at hrow hleaves
      exact ⟨s.withDev e, State.run_withDev hrow, hleaves⟩
    · have hrow : Dev.meridian r s.dev = s.dev.ownMeridian r := by
        unfold Dev.meridian
        rw [if_pos hr2]
        dsimp only
        rw [if_neg (by simp [hst, hup]), if_pos (by simp [hmaster])]
      obtain ⟨hat, hlast, hmaster0, hmissed⟩ := Dev.ownMeridian_leaves hr hdom hmaster hstart
      generalize s.dev.ownMeridian r = e at *
      exact ⟨s.withDev e, State.run_withDev hrow, hat, hlast, hmaster0, hmissed hst⟩
  · have hleaves := Dev.substitute_leaves hr hdom hon hslave hstart hdue hprocessed hfew
    generalize he : Dev.substitute r s.dev = e at hleaves
    exact ⟨s.withDev e, ringRow_next hr2 he, hleaves⟩
  · have hleaves := Dev.returnedCopy_leaves hr (sent := sent) hmaster hawaiting hgood hforme hin hup
    generalize he : s.dev.returnedCopy r sent ret b = e at hleaves
    exact ⟨s.withDev e, ringRow_next hr2 (f := fun d => d.returnedCopy r sent ret b) he, hleaves⟩
  · have hleaves := Dev.returnLimit_leaves hr hmaster hawaiting htakes
    generalize he : s.dev.returnLimit r = e at hleaves
    exact ⟨s.withDev e, ringRow_next hr2 (f := fun d => d.returnLimit r) he, hleaves⟩
  · obtain ⟨⟨hon, hup⟩, hforme, hclaim⟩ := hclaims
    have heq := Dev.claimForme_eq (d := s.dev) (r := r) hon hup hforme hclaim
    refine ⟨fun hown hstart hback => ?_, fun hother hstart => ?_, fun hother hstart hless => ?_, fun hother hstart hequal => ?_,
      fun hother hstart hmore => ?_⟩
    · have hrow := heq.trans ((if_pos ((claimsOwn_iff _ _ _).mpr hown)).trans (if_neg (by simp [hstart, hback])))
      have hfr := Dev.fr_setFr hr (fun f => { f with claimBack := true, claimReturns := f.claimReturns + 1 })
      generalize s.dev.setFr r _ = e at hrow hfr
      exact ⟨s.withDev e, ringRow_next hr2 (f := fun d => d.claimForme r odd b) hrow, congrArg Fr.claimReturns hfr, congrArg Fr.claimBack hfr⟩
    · have hrow := heq.trans ((if_neg (mt (claimsOwn_iff _ _ _).mp hother)).trans (if_pos (by simpa using hstart)))
      obtain ⟨hfr, hsent, -⟩ := Dev.frSend_leaves hr (hmacs ((s.dev.fr r).leaves odd)) b
      generalize s.dev.frSend r _ b = e at hrow hfr hsent
      exact ⟨s.withDev e, ringRow_next hr2 (f := fun d => d.claimForme r odd b) hrow, hsent, (congrArg Fr.start hfr :)⟩
    · have hrow := heq.trans ((if_neg (mt (claimsOwn_iff _ _ _).mp hother)).trans ((if_neg (by simp [hstart])).trans (if_pos hless)))
      obtain ⟨hsent, hfr⟩ := Dev.claim_sent hr hmacs (b := b) ((s.dev.fr r).leaves odd) (fun f => { f with start := 2, claimReturns := 0 })
      generalize Dev.frSend _ r _ b = e at hrow hfr hsent
      exact ⟨s.withDev e, ringRow_next hr2 (f := fun d => d.claimForme r odd b) hrow, hsent, hfr⟩
    · have hrow := heq.trans ((if_neg (mt (claimsOwn_iff _ _ _).mp hother)).trans
        ((if_neg (by simp [hstart])).trans ((if_neg (by omega)).trans (if_pos (by simpa using hequal)))))
      have hevent := Dev.rings_frEvent (s.dev.setFr r (fun f => { f with clmEq := true })) r 4
      have hfr := Dev.fr_of_setFr ((upd_length _ _ _).symm ▸ hr) hevent
      rw [Dev.fr_setFr hr] at hfr
      generalize Dev.frEvent _ r 4 = e at hrow hfr
      refine ⟨s.withDev e, ringRow_next hr2 (f := fun d => d.claimForme r odd b) hrow, (congrArg Fr.clmEq hfr :), ?_, (congrArg Fr.start hfr).trans hstart⟩
      exact (congrArg (fun f : Fr => bit f.evt 4) hfr).trans (bit_raised _ 4).1
    · have hrow := heq.trans ((if_neg (mt (claimsOwn_iff _ _ _).mp hother)).trans
        ((if_neg (by simp [hstart])).trans ((if_neg (by omega)).trans (if_neg (by simp; omega)))))
      exact ringRow_next hr2 (f := fun d => d.claimForme r odd b) hrow
  · have hleaves := Dev.claimListen_leaves hr hlistening hon hrole hstart
    generalize he : s.dev.claimListen r = e at hleaves
    exact ⟨s.withDev e, ringRow_next hr2 (f := fun d => d.claimListen r) he, hleaves⟩
  · have hleaves := Dev.portLoop_leaves hr (hmacs odd) hon hloop
    generalize he : s.dev.portLoop r odd = e at hleaves
    exact ⟨s.withDev e, ringRow_next hr2 (f := fun d => d.portLoop r odd) he, hleaves⟩
  · have hlevel' : (s.dev.ttLevel n == 0) = false := by simpa using hlevel
    have hrow : Dev.meridian (2 + n) s.dev = (s.dev.advanceTo ((s.dev.tt n).lastRef + tblCycle (s.dev.dom (2 + n)).active)).sendReference n := by
      unfold Dev.meridian
      rw [if_neg (by omega), if_pos (by omega)]
      dsimp only
      rw [show 2 + n - 2 = n by omega, if_neg (by rw [hlevel', hon, hst]; decide)]
    obtain ⟨htick, hcycle, hreq⟩ := Dev.sendReference_leaves
      (d := s.dev.advanceTo ((s.dev.tt n).lastRef + tblCycle (s.dev.dom (2 + n)).active)) hmbs htts hobjs hon hk.symm (by omega) hoff hinteg hbegun
    generalize (s.dev.advanceTo ((s.dev.tt n).lastRef + tblCycle (s.dev.dom (2 + n)).active)).sendReference n = e at *
    refine ⟨s.withDev e, State.run_withDev hrow, htick, ?_, hcycle⟩
    rw [← htick] at hreq
    exact hreq
  · refine ⟨fun hown hon hkind hgate => ?_, fun n hn htts hdom' hlevel hon hkind => ?_⟩
    · subst hown
      obtain ⟨c, hc, hacts, -⟩ := Dev.impositionEntry_eq (d := s.dev) (by rw [if_pos hr2]; exact hon) hdue
      have hrow := hacts hkind
      have hgate' : c.gateDomain = some dom := by rw [hc]; exact hgate
      rw [if_pos (by rw [hgate']; simp)] at hrow
      have hat : c.tick = max s.dev.tick (s.dev.entryTick dom e) := by rw [hc]; rfl
      have hnext : (c.dom dom).next = i + 1 := by
        rw [hc, Dev.dom_setDom (d := s.dev.advanceTo _) hd]
      generalize hg : c.setSwc _ = g at hrow
      refine ⟨s.withDev g, State.run_withDev hrow, ?_, ?_, ?_⟩
      · rw [← hg]
        exact hat
      · rw [← hg]
        exact hnext
      · rw [← hg]
        rfl
    · subst hdom'
      have hruns : (if 2 + n < 2 then s.dev.isOn (frFid (2 + n)) else
          decide (2 + n < 6) && s.dev.ttLevel (2 + n - 2) != 0 && s.dev.isOn (mbFid (2 + n - 2))) = true := by
        rw [if_neg (by omega), show 2 + n - 2 = n by omega, show s.dev.isOn (mbFid n) = true from hon]
        simp [hlevel]
        omega
      obtain ⟨c, hc, -, hacts⟩ := Dev.impositionEntry_eq (d := s.dev) hruns hdue
      have hrow := hacts hkind
      rw [show 2 + n - 2 = n by omega] at hrow
      have hat : c.tick = max s.dev.tick (s.dev.entryTick (2 + n) e) := by rw [hc]; rfl
      have hnext : (c.dom (2 + n)).next = i + 1 := by
        rw [hc, Dev.dom_setDom (d := s.dev.advanceTo _) hd]
      obtain ⟨hwindow, htick, hdoms⟩ := Dev.windowStart_leaves (d := c) (n := n) (by rw [hc]; exact htts) e
      generalize c.windowStart n e = g at *
      refine ⟨s.withDev g, State.run_withDev hrow, htick.trans hat, ?_, ?_⟩
      · exact (congrArg (fun x : List Domain => (x.getD (2 + n) {}).next) hdoms).trans hnext
      · rw [← htick] at hwindow
        exact hwindow

end Sys2Proof.Ports
end

section
/-! SUPPORT. What the commands of a channel leave of the start (7): a part stays in the phase of its start in which it is. `Poised` relates a
part to the part after an operation of any unit; here, the operations that the opcodes use. -/

namespace Sys2Proof.Machine

/-- The start of a part is in the phase in which it was. -/
structure Dev.Poised (d e : Dev) : Prop where
  phase : e.start.phase = d.start.phase

theorem Dev.Poised.refl (d : Dev) : d.Poised d := ⟨rfl⟩

theorem Dev.Poised.trans {d e f : Dev} (h : d.Poised e) (h' : e.Poised f) : d.Poised f := ⟨h'.phase.trans h.phase⟩

theorem Dev.Poised.after {d e f : Dev} (h : e.Poised f) (h' : d.Poised e) : d.Poised f := h'.trans h

theorem Dev.Poised.ite {c : Prop} [Decidable c] {d e f : Dev} (h : d.Poised e) (h' : d.Poised f) : d.Poised (if c then e else f) := by
  split
  exacts [h, h']

theorem Dev.Runs.poised {d e : Dev} (h : d.Runs e) : d.Poised e := ⟨congrArg StartSt.phase h.start⟩

theorem Dev.Keeps.poised {d e : Dev} (h : d.Keeps e) : d.Poised e := h.toRuns.poised

theorem Dev.poised_forEach {α : Type} {f : Dev → α → Dev} (h : ∀ (d : Dev) x, d.Poised (f d x)) (xs : List α) (d : Dev) :
    d.Poised (forEach xs d f) :=
  foldl_relates Dev.Poised.refl Dev.Poised.trans h xs d

theorem Dev.poised_forN {f : Dev → Nat → Dev} (h : ∀ (d : Dev) i, d.Poised (f d i)) (n : Nat) (d : Dev) : d.Poised (forN n d f) :=
  foldl_relates Dev.Poised.refl Dev.Poised.trans h _ d

section Setters

variable (d : Dev)

theorem Dev.poised_setVerind (f : Verind → Verind) : d.Poised (d.setVerind f) := ⟨rfl⟩
theorem Dev.poised_setChan (c : Nat) (f : Chan → Chan) : d.Poised (d.setChan c f) := ⟨rfl⟩
theorem Dev.poised_setPort (p : Nat) (f : HostPort → HostPort) : d.Poised (d.setPort p f) := ⟨rfl⟩
theorem Dev.poised_setHst (f : Hst → Hst) : d.Poised (d.setHst f) := ⟨rfl⟩
theorem Dev.poised_setPwr (f : Pwr → Pwr) : d.Poised (d.setPwr f) := ⟨rfl⟩
theorem Dev.poised_setPe (p : Nat) (f : Pe → Pe) : d.Poised (d.setPe p f) := ⟨rfl⟩
theorem Dev.poised_setLe (l : Nat) (f : Le → Le) : d.Poised (d.setLe l f) := ⟨rfl⟩
theorem Dev.poised_setFunc (fid : Nat) (f : Func → Func) : d.Poised (d.setFunc fid f) := ⟨rfl⟩
theorem Dev.poised_setDoms (x : List Domain) : d.Poised { d with doms := x } := ⟨rfl⟩
theorem Dev.poised_setSvc (x : Svc) : d.Poised { d with svc := x } := ⟨rfl⟩
theorem Dev.poised_setCfg (x : RunCfg) : d.Poised { d with cfg := x } := ⟨rfl⟩
theorem Dev.poised_setIsland (i : Nat) (f : Island → Island) : d.Poised (d.setIsland i f) := ⟨rfl⟩
theorem Dev.poised_setPulse (i : Nat) (f : Pulse → Pulse) : d.Poised (d.setPulse i f) := ⟨rfl⟩
theorem Dev.poised_setMb (n : Nat) (f : Mb → Mb) : d.Poised (d.setMb n f) := ⟨rfl⟩
theorem Dev.poised_setSwc (f : Swc → Swc) : d.Poised (d.setSwc f) := ⟨rfl⟩
theorem Dev.poised_setOrr (f : Orr → Orr) : d.Poised (d.setOrr f) := ⟨rfl⟩
theorem Dev.poised_setAlm (f : Alm → Alm) : d.Poised (d.setAlm f) := ⟨rfl⟩
theorem Dev.poised_draw : d.Poised d.draw.2 := ⟨rfl⟩

end Setters

/-! ## Quoins, storage and the units -/

theorem Dev.poised_acquire (d : Dev) (kind inst ch lease : Nat) : d.Poised (d.acquire kind inst ch lease).2 := by
  unfold Dev.acquire
  split
  · exact (d.keeps_grant ..).poised
  · split
    exacts [(d.keeps_renew ..).poised, .refl d]

theorem Dev.poised_release (d : Dev) (kind inst : Nat) : d.Poised (d.release kind inst) := (d.keeps_release kind inst).poised

theorem Dev.poised_typRun (d : Dev) : d.Poised d.typRun := d.keeps_typRun.poised

theorem Dev.poised_pushJob (d : Dev) (j : TypJob) : d.Poised (d.pushJob j) := (d.keeps_pushJob j).poised

theorem Dev.poised_complete (d : Dev) (w : Waiting) (st : Nat) (b : List Byte) : d.Poised (d.complete w st b) := (d.keeps_complete w st b).poised

theorem Dev.poised_completeFailed (d : Dev) (w : Waiting) (det : Nat) : d.Poised (d.completeFailed w det) := (d.keeps_completeFailed w det).poised

theorem Dev.poised_completeDone (d : Dev) (w : Waiting) : d.Poised (d.completeDone w) := (d.keeps_completeDone w).poised

theorem Dev.poised_completeOpt (d : Dev) (w : Option Waiting) (st : Nat) (b : List Byte) : d.Poised (d.completeOpt w st b) :=
  (d.keeps_completeOpt w st b).poised

theorem Dev.poised_completeAll (d : Dev) (ws : List Waiting) (f : Waiting → Nat × List Byte) : d.Poised (d.completeAll ws f) :=
  (d.keeps_completeAll ws f).poised

theorem Dev.poised_serviceEvent (d : Dev) (action what : Nat) : d.Poised (d.serviceEvent action what) := (d.keeps_serviceEvent action what).poised

theorem Dev.poised_setCopy (d : Dev) (i : Nat) (f : SmCopy → SmCopy) : d.Poised (d.setCopy i f) := ⟨rfl⟩

theorem Dev.poised_queuePages (d : Dev) (slot : Nat) : d.Poised (d.queuePages slot) := by
  unfold Dev.queuePages
  split
  · exact .refl d
  · exact Dev.poised_forN (fun d i => d.poised_pushJob _) _ d

theorem Dev.poised_renewBank (d : Dev) (b : Nat) : d.Poised (d.renewBank b) := .ite (d.keeps_renew ..).poised (.refl d)

theorem Dev.poised_almEnd (d : Dev) (o : AlmOp) (st : Nat) (b : List Byte) (det : Nat) : d.Poised (d.almEnd o st b det) := by
  have hle (d : Dev) (st : Nat) : d.Poised (match o.le with
      | some l =>
        match (d.le l).pe with
        | some p =>
          (d.setPorts p (fun q => { q with almStat := (if st == stDone then 0x80000000 else 0xC0000000) + det })).raiseLe 0x01 l 17
        | none => d
      | none => d) := by
    split
    · split
      exacts [(Dev.keeps_raiseLe _ 0x01 _ 17).poised.after (d.keeps_setPorts _ _).poised, .refl d]
    · exact .refl d
  unfold Dev.almEnd
  extract_lets e
  have he : d.Poised e := hle d st
  clear_value e
  split
  · exact .ite ((Dev.poised_complete _ _ _ _).after ((Dev.Poised.ite (Dev.poised_release _ 1 0) (.refl _)).after he))
      ((Dev.poised_completeFailed _ _ _).after ((Dev.Poised.ite (Dev.poised_release _ 1 0) (.refl _)).after he))
  · exact he

theorem Dev.poised_ownWrites (d : Dev) : d.Poised d.ownWrites := d.keeps_ownWrites.poised

theorem Dev.poised_resilverEnd (d : Dev) (ok : Bool) (i : Nat) : d.Poised (d.resilverEnd ok i) := by
  unfold Dev.resilverEnd
  split
  · exact .refl d
  · refine .ite ?_ ?_
    · exact (Dev.poised_completeOpt _ _ _ _).after ((Dev.poised_serviceEvent _ 3 i).after (d.poised_setAlm _))
    · refine (Dev.poised_completeOpt _ _ _ _).after ((Dev.poised_serviceEvent _ 3 i).after ((Dev.poised_ownWrites _).after
        ((Dev.poised_setAlm _ _).after (.ite (.ite ?_ ?_) ?_))))
      exacts [⟨rfl⟩, ⟨rfl⟩, ⟨rfl⟩]

theorem Dev.poised_mbStart (d : Dev) (n : Nat) : d.Poised (d.mbStart n) := by
  unfold Dev.mbStart
  refine .ite (.refl d) ?_
  split
  exacts [(d.keeps_setObj _ _ _).poised, .refl d]

theorem Dev.poised_newRequest (d : Dev) (n k : Nat) (c : List Byte) : d.Poised (d.newRequest n k c) :=
  (Dev.poised_mbStart _ n).after (d.keeps_setObj n k _).poised

theorem Dev.poised_setWdrn (d : Dev) (n k : Nat) : d.Poised (d.setWdrn n k) :=
  (Dev.keeps_mbEvent _ n 3).poised.after (d.keeps_setObj n k _).poised

theorem Dev.poised_objWrite (d : Dev) (n k w v : Nat) : d.Poised (d.objWrite n k w v) := .ite (.refl d) (d.keeps_setObj n k _).poised

theorem Dev.poised_mbSetCi (d : Dev) (n v : Nat) : d.Poised (d.mbSetCi n v).2 := by
  unfold Dev.mbSetCi
  extract_lets
  split
  exacts [d.poised_setMb n _, .refl d]

/-! ## Windows -/

theorem Dev.poised_winError (d : Dev) (port n : Nat) : d.Poised (d.winError port n) := d.poised_setPort port _

theorem Dev.poised_setDir (d : Dev) (x : DirLine) : d.Poised (d.setDir x) := ⟨rfl⟩

theorem Dev.poised_setPim (d : Dev) (a : Nat) (bs : List Byte) : d.Poised (d.setPim a bs) := ⟨rfl⟩

theorem Dev.poised_dropLine (d : Dev) (p line : Nat) : d.Poised (d.dropLine p line) := ⟨rfl⟩

theorem Dev.poised_recall (d : Dev) (line : Nat) (keep : Bool) : d.Poised (d.recall line keep) := by
  unfold Dev.recall
  dsimp only
  refine .ite (.refl d) ((Dev.poised_setDir _ _).after ((Dev.poised_setPim _ _ _).after ?_))
  split
  · exact .ite (d.poised_setPe _ _) (d.poised_dropLine _ line)
  · split
    exacts [d.poised_setPe _ _, .refl d]

theorem Dev.poised_invalidateSharers (d : Dev) (line : Nat) (but : Option Nat) : d.Poised (d.invalidateSharers line but) :=
  (Dev.poised_setDir _ _).after (Dev.poised_forEach (fun d p => d.poised_dropLine p line) _ d)

theorem Dev.poised_ncWrite (d : Dev) (a : Nat) (bs : List Byte) : d.Poised (d.ncWrite a bs) :=
  (Dev.poised_setPim _ _ _).after ((Dev.poised_setDir _ _).after ((Dev.poised_invalidateSharers _ _ _).after (d.poised_recall _ false)))

theorem Dev.poised_writeIndex (d : Dev) (port r w : Nat) : d.Poised (d.writeIndex port r w) := by
  have herr := d.poised_setPort port (fun q => { q with winerr := wrap32 (q.winerr + 1) })
  unfold Dev.writeIndex
  dsimp only
  refine .ite (.ite (d.keeps_setRing _ _).poised herr) (.ite (.ite ?_ herr) herr)
  split
  · exact .ite (d.keeps_setRing _ _).poised ((Dev.keeps_raiseLe _ _ _ _).poised.after (d.keeps_setRing _ _).poised)
  · exact (d.keeps_setRing _ _).poised

theorem Dev.poised_commitPimWord (d : Dev) (port a v : Nat) : d.Poised (d.commitPimWord port a v) := by
  unfold Dev.commitPimWord
  split
  exacts [d.poised_setHst _, d.poised_ncWrite _ _, d.poised_winError _ _]

theorem Dev.poised_writeHostWord (d : Dev) (port a w : Nat) : d.Poised (d.writeHostWord port a w) :=
  .ite (.ite (d.poised_writeIndex _ _ _) (.refl d)) (.ite (.refl d) (d.poised_setHst _))

theorem Dev.poised_windowRequest (d : Dev) (port ch n k : Nat) (ws : List (Nat × Nat)) : d.Poised (d.windowRequest port ch n k ws) := by
  have hwritten := Dev.poised_forEach (fun (d : Dev) (w : Nat × Nat) => d.poised_objWrite n k (w.1 % 80 / 4) w.2) ws d
  unfold Dev.windowRequest
  dsimp only
  generalize forEach ws d _ = e at hwritten ⊢
  have hgot := (e.poised_acquire 5 (n * 128 + k) ch 0).after hwritten
  refine .ite ((Dev.poised_winError _ _ _).after (d.poised_setWdrn n k)) (.ite ?_ ?_)
  · exact (Dev.poised_release _ _ _).after ((Dev.poised_newRequest _ _ _ _).after hgot)
  · exact (Dev.poised_newRequest _ _ _ _).after hgot

theorem Dev.poised_commitObject (d : Dev) (port ch n k : Nat) (ws : List (Nat × Nat)) : d.Poised (d.commitObject port ch n k ws) := by
  unfold Dev.commitObject
  dsimp only
  refine .ite (d.poised_winError _ _) (.ite ((Dev.poised_windowRequest _ _ _ _ _ _).after ?_)
    ((Dev.poised_forEach (fun (d : Dev) (w : Nat × Nat) => d.poised_objWrite n k (w.1 % 80 / 4) w.2) _ _).after ?_))
  exacts [.ite (.refl d) (d.poised_winError _ _), .ite (.refl d) (d.poised_winError _ _)]

theorem Dev.poised_commitMb (d : Dev) (port ch n : Nat) (ws : List (Nat × Nat)) : d.Poised (d.commitMb port ch n ws) := by
  refine (Dev.poised_forEach (fun (d : Dev) w => ?_) _ _).after
    (Dev.poised_forN (fun d k => .ite (.refl d) (d.poised_commitObject port ch n k _)) 128 d)
  exact .ite (.ite (d.poised_mbSetCi n _) ((Dev.poised_winError _ _ _).after (d.poised_mbSetCi n _))) (d.poised_winError _ _)

theorem Dev.poised_setWindow (d : Dev) (w : Nat) (f : Window → Window) : d.Poised (d.setWindow w f) := ⟨rfl⟩

theorem Dev.poised_commitWindow (d : Dev) (w : Nat) : d.Poised (d.commitWindow w) := by
  unfold Dev.commitWindow
  dsimp only
  split
  · exact (Dev.poised_forEach (fun d s => d.poised_commitPimWord _ _ _) _ _).after (d.poised_setWindow w _)
  · exact (Dev.poised_forEach (fun d s => d.poised_writeHostWord _ _ _) _ _).after (d.poised_setWindow w _)
  · exact (Dev.poised_commitMb _ _ _ _ _).after (d.poised_setWindow w _)

theorem Dev.poised_shutWindow (d : Dev) (w : Nat) : d.Poised (d.shutWindow w) :=
  .ite ((Dev.poised_release _ _ _).after (d.keeps_closeWindow w).poised) (.refl d)

theorem Dev.poised_endChannel (d : Dev) (ch : Nat) : d.Poised (d.endChannel ch) :=
  (Dev.poised_setPwr _ _).after (Dev.poised_forN (fun d w => .ite (d.poised_shutWindow w) (.refl d)) 16 d)

/-! ## Channels and events -/

theorem Dev.poised_send (d : Dev) (ch : Option Nat) (dst : Peer) (b : List Byte) : d.Poised (d.send ch dst b) := (d.tells_send ch dst b).keeps.poised

theorem Dev.poised_pushEvent (d : Dev) (op fid : Nat) (b : List Byte) (rsv : Bool) : d.Poised (d.pushEvent op fid b rsv) :=
  (d.tells_pushEvent op fid b rsv).keeps.poised

theorem Dev.poised_presentWaiting (d : Dev) : d.Poised d.presentWaiting := Dev.poised_forEach (fun d e => (d.tells_present e).keeps.poised) _ d

theorem Dev.poised_overflowEvent (d : Dev) : d.Poised d.overflowEvent := .ite (.refl d) ((Dev.poised_pushEvent _ _ _ _ _).after (d.poised_setVerind _))

theorem Dev.poised_openChannel (d : Dev) (c : VCmd) (evt : Bool) : d.Poised (d.openChannel c evt) :=
  (Dev.poised_setChan _ _ _).after (.ite (d.poised_setVerind _) (.refl d))

/-! ## Power and security -/

theorem Dev.poised_accountPwr (d : Dev) : d.Poised d.accountPwr := by
  unfold Dev.accountPwr
  cases d.pwr.st == 1 <;> exact ⟨rfl⟩

theorem Dev.poised_pwrTo (d : Dev) (st : Nat) : d.Poised (d.pwrTo st) := (Dev.poised_setPwr _ _).after d.poised_accountPwr

theorem Dev.poised_beginLeave (d : Dev) : d.Poised d.beginLeave :=
  .ite (d.poised_pwrTo 0) (.ite ((Dev.poised_setPwr _ _).after d.poised_draw) (.refl d))

theorem Dev.poised_sendWake (d : Dev) (src left result : Nat) : d.Poised (d.sendWake src left result) :=
  .ite (.ite (.refl d) (d.poised_setPwr _)) ((Dev.keeps_emit _ _ _ _).poised.after (d.poised_setPwr _))

theorem Dev.poised_wakeRails (d : Dev) : d.Poised d.wakeRails := .ite ⟨rfl⟩ (.refl d)

theorem Dev.poised_fireAlarm (d : Dev) (result : Nat) : d.Poised (d.fireAlarm result) :=
  .ite ((Dev.poised_wakeRails _).after ((Dev.poised_sendWake _ 0 4 result).after (d.poised_setPwr _)))
    ((Dev.poised_beginLeave _).after ((Dev.poised_sendWake _ 0 _ result).after (d.poised_setPwr _)))

theorem Dev.poised_debugResponse (d : Dev) (sig : List Byte) : d.Poised (d.debugResponse sig).2 := by
  unfold Dev.debugResponse
  extract_lets early ok
  split
  · exact ⟨rfl⟩
  · split
    exacts [.refl d, ⟨rfl⟩]

/-! ## Functions and engines -/

theorem Dev.poised_transition (d : Dev) (fid st cause : Nat) : d.Poised (d.transition fid st cause) := (d.reports_transition fid st cause).runs.poised

theorem Dev.poised_startFunc (d : Dev) (fid n cause : Nat) : d.Poised (d.startFunc fid n cause) := (d.runs_startFunc fid n cause).poised

theorem Dev.poised_toDraining (d : Dev) (fid cause : Nat) (starter : Option Waiting) : d.Poised (d.toDraining fid cause starter) :=
  (Dev.stands_drainBegins _ fid).toRuns.poised.after ((Dev.poised_transition _ fid 3 cause).after (d.poised_setFunc fid _))

theorem Dev.poised_cancelQueued (d : Dev) (fid : Nat) : d.Poised (d.cancelQueued fid) := by
  unfold Dev.cancelQueued
  split
  exacts [(Dev.poised_setFunc _ _ _).after (d.poised_complete _ _ _), .refl d]

theorem Dev.poised_joinPassage (d : Dev) (fid : Nat) (w : Waiting) : d.Poised (d.joinPassage fid w) :=
  (Dev.poised_cancelQueued _ fid).after (d.poised_setFunc fid _)

theorem Dev.poised_reachOff (d : Dev) (fid cause : Nat) : d.Poised (d.reachOff fid cause) := by
  unfold Dev.reachOff
  dsimp only
  have hends := (Dev.stands_classEnds (d.releaseAll fid) fid).toRuns.poised.after (d.keeps_releaseAll fid).poised
  have hoff (is : List Nat) (e : Dev) : e.Poised (forEach is e (fun d i =>
      if 0x20 ≤ i && i ≤ 0x23 && (d.mb (i - 0x20)).detect.isSome then d else d.powerOff i)) :=
    Dev.poised_forEach (fun d i => .ite (.refl d) (d.stands_powerOff i).toRuns.poised) is e
  have hcompleted (is : List Nat) (f : Func → Func) (ws : List Waiting) (g : Waiting → Nat × List Byte) :=
    (Dev.poised_completeAll _ ws g).after ((Dev.poised_transition _ fid 0 cause).after ((Dev.poised_setFunc _ fid f).after ((hoff is _).after hends)))
  split
  · exact (Dev.poised_startFunc _ fid 2 0).after ((Dev.poised_setFunc _ fid _).after (hcompleted _ _ _ _))
  · exact hcompleted _ _ _ _

theorem Dev.poised_testEnds (d : Dev) (pe : Option Nat) (fid : Nat) (pass : Bool) : d.Poised (match pe with
    | some p =>
      let d := d.setPe p (fun e => { faults := e.faults, status := if pass then 0 else 5 })
      (d.resetHalves (peIsland p)).setIsland (peIsland p) (fun x => { x with st := 0, gen := (x.gen + 1) % 4096, cause := 1 })
    | none =>
      if !pass || (d.func fid).st != 5 then d
      else
        let d := forEach (if ownIslands fid then d.funcIslands fid else []) d (fun d i =>
          ((d.resetHalves i).setIsland i (fun x => { x with
            st := if i == 0x03 then 2 else 0, gen := (x.gen + 1) % 4096, cause := 1, recovering := false })))
        let d := if fclass fid == 6 then d.openCrossings 0x03 else d
        let d := if fclass fid == 4 then d.setLe (finst fid) (fun x => { x with pe := none }) else d
        let d := if fclass fid == 9 then d.ringStart (finst fid) else d
        d.transition fid 0 5) := by
  split
  · exact ⟨rfl⟩
  · refine .ite (.refl d) ?_
    dsimp only
    refine (Dev.poised_transition _ fid 0 5).after ?_
    refine (Dev.Poised.ite (Dev.keeps_setRing _ _ _).poised (.refl _)).after ?_
    refine (Dev.Poised.ite (Dev.poised_setLe _ _ _) (.refl _)).after ?_
    refine (Dev.Poised.ite (Dev.stands_openCrossings _ _).toRuns.poised (.refl _)).after ?_
    exact Dev.poised_forEach (fun d i => (Dev.poised_setIsland _ i _).after (d.stands_resetHalves i).toRuns.poised) _ d

theorem Dev.poised_selfTestDone (d : Dev) (pe : Option Nat) (fid : Nat) (pass : Bool) : d.Poised (d.selfTestDone pe fid pass) := by
  unfold Dev.selfTestDone
  split
  · exact .refl d
  · exact (Dev.poised_completeAll _ _ _).after ((Dev.poised_testEnds _ pe fid pass).after (d.poised_setSvc _))

theorem Dev.poised_dropSpare (d : Dev) (l : Nat) : d.Poised (d.dropSpare l) := by
  unfold Dev.dropSpare
  split
  exacts [.refl d, (Dev.poised_setLe _ l _).after (d.stands_freePe _).toRuns.poised]

end Sys2Proof.Machine
end

section
/-! SUPPORT. No opcode moves the phase of the start: neither what it commits, nor what follows its reply. -/

namespace Sys2Proof.Machine

/-- What an opcode answers on a part leaves the phase of its start: its commit, and what follows the reply. -/
structure Dev.Poises (d : Dev) (r : OpResult) : Prop where
  of_some : ∀ o, r = some o → d.Poised o.dev ∧ ∀ e : Dev, e.Poised (o.after e)

theorem Dev.poised_choice {c : Prop} [Decidable c] {f g : Dev → Dev} (hf : ∀ e : Dev, e.Poised (f e)) (hg : ∀ e : Dev, e.Poised (g e)) (e : Dev) :
    e.Poised ((if c then f else g) e) := by
  split
  exacts [hf e, hg e]

/-! ## The forms of an answer -/

namespace Dev.Poises

variable {d : Dev} {h : Held} {r k : OpResult}

theorem some {p : Reply} {e : Dev} {f : Dev → Dev} (he : d.Poised e) (hf : ∀ e : Dev, e.Poised (f e)) :
    d.Poises (some { reply := p, dev := e, after := f }) :=
  ⟨fun _ ho => Option.some.inj ho ▸ ⟨he, hf⟩⟩

theorem waits : d.Poises none := ⟨fun _ ho => nomatch ho⟩

theorem ite {c : Prop} [Decidable c] (h : d.Poises r) (h' : d.Poises k) : d.Poises (if c then r else k) := by
  split
  exacts [h, h']

theorem done {e : Dev} {b : List Byte} (he : d.Poised e) : d.Poises (opDone e b) := .some he .refl

theorem err {st off det : Nat} : d.Poises (opErr d st off det) := .some (.refl d) .refl

theorem fragments {fixed : List Byte} {size : Nat} {es : List (List Byte)} : d.Poises (opFragments d fixed size es) := .some (.refl d) .refl

theorem accept {e : Dev} {f : Waiting → Dev → Dev} {st : Nat} (he : d.Poised e) (hf : ∀ w (e : Dev), e.Poised (f w e)) :
    d.Poises (opAccept h e f st) :=
  .ite (.some ((Dev.poised_setVerind e _).after he) (hf h.waiting)) (.some he .refl)

theorem fixed {fidOk : Nat → Bool} {len : Nat} {fs : List Fld} (hk : d.Poises k) : d.Poises (opFixed h d fidOk len fs k) := by
  refine .ite .err (.ite .err ?_)
  split
  exacts [.err, hk]

theorem var {fidOk : Nat → Bool} {n at_ unit : Nat} {fs : List Fld} (hk : d.Poises k) : d.Poises (opVar h d fidOk n at_ unit fs k) := by
  refine .ite .err (.ite .err ?_)
  split
  exacts [.err, hk]

theorem dev (hk : d.Poises k) : d.Poises (opDev h d k) := .ite hk .err

theorem config {off : Option Nat} (hk : d.Poises k) : d.Poises (opConfig h d off k) := by
  refine .ite .err ?_
  split
  exacts [.ite .err hk, hk]

theorem on (hk : d.Poises k) : d.Poises (needsOn h d k) := by
  unfold needsOn
  split
  exacts [hk, .err, .err]

theorem checked {bad : Option Nat} (hk : d.Poises k) : d.Poises (ifOk d bad k) := by
  unfold ifOk
  split
  exacts [.err, hk]

theorem change {key : Nat} {f : RunCfg → RunCfg} {g : Dev → Dev} (hg : ∀ e : Dev, e.Poised (g e)) : d.Poises (cfgChange h d key f g) := by
  unfold cfgChange
  split
  · exact .err
  · exact .done ((hg _).after ((Dev.poised_setCfg _ _).after (d.poised_setVerind _)))

theorem changeAccept {e : Dev} {key : Nat} {f : RunCfg → RunCfg} {g : Waiting → Dev → Dev} (he : d.Poised e) (hg : ∀ w (e : Dev), e.Poised (g w e)) :
    d.Poises (cfgAccept h e key f g) := by
  refine .ite (.some he .refl) ?_
  split
  · exact .some he .refl
  · exact .accept ((Dev.poised_setCfg _ _).after ((e.poised_setVerind _).after he)) hg

theorem quoin {kind inst off : Nat} {f : Dev → Dev × List Byte} (hf : ∀ e : Dev, e.Poised (f e).1) : d.Poises (withQuoin h d kind inst off f) := by
  have hdone := (hf _).after (d.poised_acquire kind inst h.cmd.channel 0)
  exact .ite .err (.done (.ite ((Dev.poised_release _ kind inst).after hdone) hdone))

end Dev.Poises

/-! ## Families 0x00 and 0x01: the device, channels and functions -/

section Opcodes

variable (h : Held) (d : Dev)

theorem poises_opDeviceInfo : d.Poises (opDeviceInfo h d) := .fixed (.done (.refl d))

theorem poises_opChannelOpen : d.Poises (opChannelOpen h d) :=
  .fixed (.some ((Dev.poised_openChannel _ _ _).after (.ite (d.poised_endChannel _) (.refl d))) Dev.poised_presentWaiting)

theorem poises_opChannelClose : d.Poises (opChannelClose h d) := .fixed (.some (.refl d) fun e => e.poised_endChannel _)

theorem poises_opEventAck : d.Poises (opEventAck h d) :=
  .fixed (.ite (.done (.refl d)) (.ite .err (.some (d.poised_setVerind _) Dev.poised_overflowEvent)))

theorem poises_opIslandStatus : d.Poises (opIslandStatus h d) := .fixed (.done (.ite d.poised_draw (.refl d)))

theorem Dev.poised_clearOvr (is : List Nat) : d.Poised (d.clearOvr is) := 
  (Dev.stands_setIslands (f := fun x => { x with ovr := false, ovc := 0 }) d is fun _ => rfl).toRuns.poised

theorem poises_opIslandClear : d.Poises (opIslandClear h d) := by
  unfold opIslandClear
  exact .fixed (.ite .err (.ite .err (.ite .err (.done ((Dev.poised_setIsland _ _ _).after (.ite (d.poised_clearOvr _) (.refl d)))))))

theorem poises_opQuoinQuery : d.Poises (opQuoinQuery h d) := .fixed .fragments

theorem poises_opSettingGet : d.Poises (opSettingGet h d) := by
  unfold opSettingGet
  exact .fixed (.ite .err (.ite .err (.done (.refl d))))

theorem poises_opSettingSet : d.Poises (opSettingSet h d) := by
  unfold opSettingSet
  refine .fixed ?_
  split
  exacts [.err, .ite .err (.ite .err (.change .refl))]

theorem poises_opDeviceReset : d.Poises (opDeviceReset h d) := .fixed (.done (d.poised_setVerind _))

theorem poises_opFuncEnable : d.Poises (opFuncEnable h d) := by
  unfold opFuncEnable
  dsimp only
  split
  · exact .accept (.refl d) fun _ e => (Dev.poised_startFunc _ _ 2 0).after (e.poised_setFunc _ _)
  · exact .ite .err (.accept (.refl d) fun w e => e.poised_joinPassage _ w)
  · exact .done (.refl d)
  · exact .ite (.accept (.refl d) fun w e => e.poised_setFunc _ _) .err
  · exact .err
  · exact .err

theorem poises_opFuncDisable : d.Poises (opFuncDisable h d) := by
  unfold opFuncDisable
  dsimp only
  split
  · exact .done (.refl d)
  · exact .ite (.accept (.refl d) fun w e => e.poised_setFunc _ _) .err
  · exact .accept (.refl d) fun w e => e.poised_toDraining _ 0 _
  · exact .ite .err (.accept (.refl d) fun w e => e.poised_joinPassage _ w)
  · exact .accept (.refl d) fun w e => (Dev.poised_completeAll _ _ _).after ((Dev.poised_reachOff _ _ 0).after (e.poised_setFunc _ _))
  · exact .err

theorem poises_opFuncStatus : d.Poises (opFuncStatus h d) := .fixed (.done (.refl d))

theorem poises_opFuncClear : d.Poises (opFuncClear h d) := .fixed (.done (.ite (d.poised_clearOvr _) (.refl d)))

theorem poises_opFuncList : d.Poises (opFuncList h d) := .fixed (.done (.refl d))

/-! ## Families 0x02 and 0x03: the Almanac and the Typecase -/

theorem poises_opAlmanacInfo : d.Poises (opAlmanacInfo h d) := .done (.refl d)

theorem poises_opAlmanacSave : d.Poises (opAlmanacSave h d) := by
  refine .fixed (.ite .err (.ite .err (.accept (d.poised_acquire 1 0 h.cmd.channel 0) fun w e => ?_)))
  refine .ite (e.poised_almEnd _ _ _ _) ?_
  exact (Dev.poised_typRun _).after ((Dev.poised_pushJob _ _).after ((Dev.poised_pushJob _ _).after ((Dev.poised_pushJob _ _).after
    (e.poised_setAlm _))))

theorem poises_opAlmanacRead : d.Poises (opAlmanacRead h d) := by
  refine .ite .err (.ite .err ?_)
  split
  exacts [.done (.refl d), .err]

theorem poises_opAlmanacWrite : d.Poises (opAlmanacWrite h d) := by
  refine .ite .err (.ite .err (.ite .err ?_))
  split
  · exact .err
  · exact .ite .err (.ite .err (.accept (d.poised_acquire 1 0 h.cmd.channel 0) fun w e =>
      .ite (e.poised_almEnd _ _ _ _) (e.poised_setAlm _)))

theorem poises_opAlmanacCompact : d.Poises (opAlmanacCompact h d) :=
  .ite .err (.ite .err (.accept (d.poised_acquire 1 0 h.cmd.channel 0) fun _ e =>
    .ite (e.poised_almEnd _ _ _ _) (.ite (e.poised_almEnd _ _ _ _) (.ite (e.poised_almEnd _ _ _ _) (e.poised_setAlm _)))))

theorem poises_opTypecaseInfo : d.Poises (opTypecaseInfo h d) := .done (.refl d)

theorem poises_opImageList : d.Poises (opImageList h d) := .done (.refl d)

theorem poises_opImageBegin : d.Poises (opImageBegin h d) := by
  refine .ite .err (.ite .err (.ite .err (.ite .err (.ite .err (.ite .err (.accept (d.poised_acquire 3 _ h.cmd.channel 0) fun w e => ?_))))))
  split
  · exact (Dev.poised_completeFailed _ _ _).after (e.poised_release _ _)
  · exact (Dev.poised_typRun _).after ((Dev.poised_pushJob _ _).after (e.keeps_setTyp _).poised)

theorem poises_opImageData : d.Poises (opImageData h d) := by
  refine .ite .err (.ite .err (.ite .err (.ite .err ?_)))
  split
  · exact .err
  · exact .ite .err (.ite .err (.ite .waits (.done ((Dev.poised_typRun _).after ((Dev.poised_queuePages _ _).after ((Dev.poised_renewBank _ _).after
      (d.keeps_setWriting _ _).poised))))))

theorem poises_opImageEnd : d.Poises (opImageEnd h d) := by
  refine .ite .err (.ite .err ?_)
  split
  · exact .err
  · refine .ite .err (.accept (.refl d) fun w e => (Dev.poised_typRun _).after ?_)
    have hqueued (f : Writing → Writing) := (Dev.poised_queuePages _ (byteAt h.cmd.params 0)).after (e.keeps_setWriting (byteAt h.cmd.params 0) f).poised
    exact .ite ((Dev.poised_pushJob _ _).after (hqueued _)) (hqueued _)

theorem poises_opImageDelete : d.Poises (opImageDelete h d) :=
  .ite .err (.ite .err (.ite .err (.ite (.done (.refl d)) (.accept (.refl d) fun _ e => (Dev.poised_typRun _).after
    ((Dev.poised_pushJob _ _).after ((Dev.poised_pushJob _ _).after (e.poised_pushJob _)))))))

theorem poises_opSectorRetire : d.Poises (opSectorRetire h d) :=
  .ite .err (.ite .err (.ite .err (.ite (.done (.refl d)) (.accept (.refl d) fun _ e =>
    .ite ((Dev.keeps_retireDone _ _ _).poised.after ((Dev.poised_setSvc _ _).after (e.keeps_setBank _ _).poised))
      (.ite (e.poised_completeFailed _ _) ((Dev.poised_typRun _).after (e.poised_pushJob _)))))))

/-! ## Family 0x04: the engines -/

theorem poises_opEngineConfig : d.Poises (opEngineConfig h d) :=
  .fixed (.ite .err (.ite .err (.ite .err (.ite .err (.config (.change .refl))))))

theorem poises_opEngineStatus : d.Poises (opEngineStatus h d) := by
  unfold opEngineStatus
  exact .fixed (.ite .err (.ite .err (.done (.refl d))))

theorem poises_opSpareArm : d.Poises (opSpareArm h d) := by
  refine .fixed (.config (.ite .err (.ite .err ?_)))
  extract_lets e f g
  have hg : d.Poised g := by
    have hf : d.Poised f := (Dev.poised_setLe _ _ _).after (d.poised_setPe _ _)
    exact .ite ((Dev.stands_powerOn _ _).toRuns.poised.after hf) hf
  clear_value g
  have hanswer : d.Poises (cfgAccept h g _ _ _) := .changeAccept (h := h) (key := 0x20 + finst h.cmd.fid)
    (f := fun c => { c with les := upd c.les (finst h.cmd.fid) (fun x => { x with spare := some (byteAt h.cmd.params 0) }) })
    (g := fun w d => d.setLe (finst h.cmd.fid) (fun x => { x with armCmd := some w })) hg fun w e => e.poised_setLe _ _
  split
  next o ho =>
    obtain ⟨hdev, hafter⟩ := hanswer.of_some o ho
    exact .ite (.some hdev hafter) (.some (.refl d) hafter)
  next => exact .waits

theorem poises_opSpareDisarm : d.Poises (opSpareDisarm h d) := by
  unfold opSpareDisarm
  refine .fixed (.config ?_)
  have hanswer : d.Poises (cfgChange h d _ _ _) := .change (h := h) (key := 0x20 + finst h.cmd.fid)
    (f := fun c => { c with les := upd c.les (finst h.cmd.fid) (fun x => { x with spare := none }) })
    (g := fun d => d.dropSpare (finst h.cmd.fid)) fun e => e.poised_dropSpare _
  split
  next o ho =>
    exact .some (hanswer.of_some o ho).1
      (Dev.poised_choice (fun e => (Dev.keeps_failMigrate _ _).poised.after (e.keeps_failArm _).poised) .refl)
  next => exact .waits

theorem poises_opEngineMigrate : d.Poises (opEngineMigrate h d) := by
  unfold opEngineMigrate
  refine .fixed (.ite .err (.ite .err (.accept (.refl d) fun w e => ?_)))
  split
  · exact e.poised_completeFailed w _
  · exact .ite (e.poised_completeFailed w _) (e.poised_setLe _ _)

theorem poises_opPersonalityParam : d.Poises (opPersonalityParam h d) := by
  unfold opPersonalityParam
  exact .var (.ite .err (.config (.change fun e => .ite (e.poised_setLe _ _) (.refl e))))

/-! ## Families 0x05 to 0x07: the switch, the MACs, mirrors and proofs -/

theorem poises_opPortConfig : d.Poises (opPortConfig h d) := .fixed (.change .refl)

theorem poises_opVlanSet : d.Poises (opVlanSet h d) := .fixed (.change .refl)

theorem poises_opFdbAdd : d.Poises (opFdbAdd h d) := by
  refine .fixed ?_
  split
  · exact .err
  · exact .ite (.change fun e => e.poised_setSwc _) (.ite (.change fun e => e.poised_setSwc _) (.done (d.poised_setSwc _)))

theorem poises_opFdbDelete : d.Poises (opFdbDelete h d) := by
  refine .fixed ?_
  split
  · exact .done (.refl d)
  · exact .ite (.change fun e => e.poised_setSwc _) (.done (d.poised_setSwc _))

theorem poises_opFdbRead : d.Poises (opFdbRead h d) := .fixed .fragments

theorem poises_opGalleyConfig : d.Poises (opGalleyConfig h d) := .fixed (.change fun e => .ite (.refl e) (e.poised_setSwc _))

theorem poises_opFilterSet : d.Poises (opFilterSet h d) := .fixed (.checked (.change .refl))

theorem poises_opSwitchCounters : d.Poises (opSwitchCounters h d) := .fixed (.done (.refl d))

theorem poises_opMacConfig : d.Poises (opMacConfig h d) := by
  unfold opMacConfig
  refine .fixed ?_
  split
  · exact .err
  · exact .ite .err (.config (.change fun e => (e.keeps_pauseEval _).poised))

theorem poises_opMacCounters : d.Poises (opMacCounters h d) := by
  unfold opMacCounters
  exact .fixed (.done (.refl d))

theorem poises_opMdioRead : d.Poises (opMdioRead h d) := .fixed (.checked (.quoin fun e => (e.keeps_setFree _).poised))

theorem poises_opMdioWrite : d.Poises (opMdioWrite h d) := .fixed (.checked (.quoin .refl))

theorem poises_opProofConfig : d.Poises (opProofConfig h d) := by
  unfold opProofConfig
  exact .fixed (.checked (.ite .err (.config (.change .refl))))

theorem poises_opMirrorConfig : d.Poises (opMirrorConfig h d) := by
  unfold opMirrorConfig
  exact .fixed (.checked (.config (.change .refl)))

theorem poises_opMirrorCounters : d.Poises (opMirrorCounters h d) := by
  unfold opMirrorCounters
  exact .fixed (.ite (.done (.refl d)) (.done (.refl d)))

/-! ## Families 0x08 and 0x09: the multidrop controllers and the serial lines -/

theorem poises_opMbConfig : d.Poises (opMbConfig h d) := by
  unfold opMbConfig
  exact .fixed (.checked (.ite .err (.config (.change .refl))))

theorem poises_opMbRateDetect : d.Poises (opMbRateDetect h d) :=
  .fixed (.ite .err (.ite .err (.accept (.refl d) fun _ e => e.poised_setMb _ _)))

theorem poises_opMbObjectConfig : d.Poises (opMbObjectConfig h d) := .fixed (.config (.change fun e => (e.keeps_setObj _ _ _).poised))

theorem poises_opMbRingConfig : d.Poises (opMbRingConfig h d) := by
  unfold opMbRingConfig
  exact .fixed (.ite .err (.ite .err (.config (.change .refl))))

theorem poises_opMbTransmit : d.Poises (opMbTransmit h d) := by
  refine .ite .err (.ite .err ?_)
  split
  · exact .err
  split
  · exact .err
  split
  · exact .err
  · exact .on (.ite .err (.quoin fun e => (Dev.poised_newRequest _ _ _ _).after (e.keeps_setObj _ _ _).poised))

theorem poises_opMbWakeConfig : d.Poises (opMbWakeConfig h d) := .fixed (.config (.change .refl))

theorem poises_opMbStatus : d.Poises (opMbStatus h d) := .fixed (.done (.refl d))

theorem poises_opSlConfig : d.Poises (opSlConfig h d) := by
  unfold opSlConfig
  exact .fixed (.checked (.ite .err (.config (.change .refl))))

theorem poises_opSlStatus : d.Poises (opSlStatus h d) := .fixed (.done (.refl d))

/-! ## Families 0x0A and 0x0B: time and the forme rings -/

theorem poises_opTimeGet : d.Poises (opTimeGet h d) := .fixed (.done (.refl d))

theorem poises_opTimeConfig : d.Poises (opTimeConfig h d) := by
  unfold opTimeConfig
  exact .fixed (.checked (.ite .err (.ite .err (.config (.change .refl)))))

theorem poises_opTimeStep : d.Poises (opTimeStep h d) := .fixed (.on (.ite .err (.ite .err (.accept (.refl d) fun _ e => e.poised_setOrr _))))

theorem poises_opPulseConfig : d.Poises (opPulseConfig h d) := .fixed (.checked (.config (.change fun e => e.poised_setPulse _ _)))

theorem poises_opCaptureConfig : d.Poises (opCaptureConfig h d) := .fixed (.config (.change .refl))

theorem poises_opTimeStatus : d.Poises (opTimeStatus h d) := .fixed (.done (.refl d))

theorem poises_opFormeRingConfig : d.Poises (opFormeRingConfig h d) := by
  unfold opFormeRingConfig
  exact .fixed (.checked (.config (.change .refl)))

theorem poises_opImpositionWrite : d.Poises (opImpositionWrite h d) := by
  refine .var (.ite .err ?_)
  split
  · exact .err
  · exact .ite .err (.done ((Dev.poised_setDoms _ _).after (d.poised_acquire 9 _ h.cmd.channel 0)))

theorem poises_opImpositionSwitch : d.Poises (opImpositionSwitch h d) :=
  .fixed (.on (.ite .err (.ite .err (.accept (.refl d) fun _ e => e.poised_setDoms _))))

theorem poises_opFormeStatus : d.Poises (opFormeStatus h d) := .fixed (.done (.refl d))

/-! ## Families 0x0C to 0x0E: power, service and security -/

theorem poises_opPowerPolicy : d.Poises (opPowerPolicy h d) := .fixed (.change fun e => .ite e.poised_beginLeave (.refl e))

theorem poises_opDeadline : d.Poises (opDeadline h d) := .fixed (.done (.ite (d.poised_setPwr _) (.ite (.refl d) (d.poised_setPwr _))))

theorem poises_opAlarmSet : d.Poises (opAlarmSet h d) := by
  unfold opAlarmSet
  exact .fixed (.ite .err (.ite .err (.ite (.done (d.poised_setPwr _)) (.some (d.poised_setPwr _)
    (Dev.poised_choice (fun e => e.poised_fireAlarm 0) .refl)))))

theorem poises_opWakeConfig : d.Poises (opWakeConfig h d) := .fixed (.change .refl)

theorem poises_opPowerStatus : d.Poises (opPowerStatus h d) := by
  unfold opPowerStatus
  exact .fixed (.done d.poised_accountPwr)

theorem poises_opFaultLogRead : d.Poises (opFaultLogRead h d) := .fixed .fragments

theorem poises_opServiceCounters : d.Poises (opServiceCounters h d) := by
  unfold opServiceCounters
  exact .fixed (.done (.refl d))

theorem poises_opRepair : d.Poises (opRepair h d) :=
  .ite .err (.accept (.refl d) fun _ e => .ite (e.poised_setSvc _)
    (.ite (e.poised_setSvc _) ((Dev.poised_selfTestDone _ none _ true).after (e.poised_setSvc _))))

theorem poises_opEngineReturn : d.Poises (opEngineReturn h d) :=
  .ite .err (.accept (.refl d) fun _ e => .ite (e.poised_setSvc _) (e.poised_setSvc _))

theorem poises_opBankRetire : d.Poises (opBankRetire h d) :=
  .fixed (.ite (.done (.refl d)) (.ite (.accept (.refl d) fun _ e => e.poised_setSwc _) (.ite .err (.changeAccept (.refl d) fun _ e =>
    (Dev.keeps_pauseAll _).poised.after (e.poised_setSwc _)))))

theorem poises_opPipeSwitchover : d.Poises (opPipeSwitchover h d) := by
  refine .fixed (.ite .err (.ite (.done (.refl d)) (.accept (.refl d) fun w e => (Dev.poised_setSwc _ _).after ?_)))
  split
  exacts [e.poised_completeDone _, .refl e]

theorem poises_opPortRemap : d.Poises (opPortRemap h d) :=
  .fixed (.ite (.done (.refl d)) (.ite .err (.changeAccept (.refl d) fun w e => e.poised_completeDone w)))

theorem poises_opSmRemove : d.Poises (opSmRemove h d) :=
  .ite .err (.ite .err (.ite .err (.ite .err (.accept (.refl d) fun w e => (Dev.poised_completeDone _ w).after ((Dev.poised_setAlm _ _).after
    ((Dev.poised_setCopy _ _ _).after (.ite (e.poised_resilverEnd _ _) (.refl e))))))))

theorem poises_opSmInsert : d.Poises (opSmInsert h d) :=
  .ite .err (.ite .err (.accept (.refl d) fun _ e => (e.keeps_beginResilver _ true _).poised))

theorem poises_opKeyInfo : d.Poises (opKeyInfo h d) := .fixed (.done (.refl d))

theorem poises_opKeyRevoke : d.Poises (opKeyRevoke h d) := by
  have hrevoked : d.Poised (d.revoke (byteAt h.cmd.params 0)) := ⟨rfl⟩
  exact .fixed (.ite (.done hrevoked) .err)

theorem poises_opDebugChallenge : d.Poises (opDebugChallenge h d) := by
  have hdrawn : d.Poised d.newChallenge.2 := ⟨rfl⟩
  exact .fixed (.done hdrawn)

theorem poises_opDebugResponse : d.Poises (opDebugResponse h d) := by
  have hjudged := d.poised_debugResponse (h.cmd.params.take 64)
  exact .fixed (.ite (.done hjudged) (.some hjudged .refl))

/-! ## Family 0x0F: rings, windows and attention lines -/

theorem poises_opRingConfig : d.Poises (opRingConfig h d) := by
  unfold opRingConfig
  exact .fixed (.checked (.ite .err (.config (.change .refl))))

theorem poises_opRingStatus : d.Poises (opRingStatus h d) := by
  unfold opRingStatus
  exact .fixed (.done (.refl d))

theorem poises_opWindowOpen : d.Poises (opWindowOpen h d) := by
  unfold opWindowOpen
  refine .fixed (.ite .err (.ite .err (.ite .err (.ite .err (.ite .err (.ite .err (.ite .err (.ite .err ?_))))))))
  split
  · exact .err
  · exact .ite .err (.done ((Dev.keeps_grant _ 8 _ _ _ 0).poised.after (d.poised_setWindow _ _)))

theorem poises_opWindowCommit : d.Poises (opWindowCommit h d) := .fixed (.ite (.done (d.poised_commitWindow _)) .err)

theorem poises_opWindowClose : d.Poises (opWindowClose h d) := .fixed (.done (d.poised_shutWindow _))

theorem poises_opChannelBind : d.Poises (opChannelBind h d) :=
  .fixed (.ite .err (.done ((Dev.poised_setChan _ _ _).after (.ite (.refl d) ((Dev.poised_setPort _ _ _).after (d.poised_setPort _ _))))))

theorem poises_opAttnConfig : d.Poises (opAttnConfig h d) := .fixed (.change .refl)

end Opcodes

end Sys2Proof.Machine
end

section
/-! SUPPORT. Executing what the channels hold leaves the part in the phase of its start: an opcode at a time (R91, R93, R113). -/

namespace Sys2Proof.Machine

theorem poises_execLow {h : Held} {d : Dev} {r : OpResult} (hr : execLow h d = some r) : d.Poises r := by
  unfold execLow at hr
  split at hr <;> cases hr
  exacts [
    poises_opDeviceInfo h d, poises_opChannelOpen h d, poises_opChannelClose h d, poises_opEventAck h d, poises_opIslandStatus h d,
    poises_opIslandClear h d, poises_opQuoinQuery h d, poises_opSettingGet h d, poises_opSettingSet h d, poises_opDeviceReset h d,
    .fixed (poises_opFuncEnable h d), .fixed (poises_opFuncDisable h d), poises_opFuncStatus h d, poises_opFuncClear h d, poises_opFuncList h d,
    .fixed (poises_opAlmanacInfo h d), poises_opAlmanacSave h d, .fixed (poises_opAlmanacRead h d), .dev (poises_opAlmanacWrite h d),
    .fixed (poises_opAlmanacCompact h d), .fixed (poises_opTypecaseInfo h d), .fixed (poises_opImageList h d), .fixed (poises_opImageBegin h d),
    .dev (poises_opImageData h d), .fixed (poises_opImageEnd h d), .fixed (poises_opImageDelete h d), poises_opEngineConfig h d,
    poises_opEngineStatus h d, poises_opSpareArm h d, poises_opSpareDisarm h d, poises_opEngineMigrate h d, poises_opPersonalityParam h d,
    poises_opPortConfig h d, poises_opVlanSet h d, poises_opFdbAdd h d, poises_opFdbDelete h d, poises_opFdbRead h d, poises_opGalleyConfig h d,
    poises_opFilterSet h d, poises_opSwitchCounters h d]

theorem poises_execHigh {h : Held} {d : Dev} {r : OpResult} (hr : execHigh h d = some r) : d.Poises r := by
  unfold execHigh at hr
  split at hr <;> cases hr
  exacts [
    poises_opMacConfig h d, poises_opMacCounters h d, poises_opMdioRead h d, poises_opMdioWrite h d, poises_opProofConfig h d,
    poises_opMirrorConfig h d, poises_opMirrorCounters h d, poises_opMbConfig h d, poises_opMbRateDetect h d, poises_opMbObjectConfig h d,
    poises_opMbRingConfig h d, poises_opMbTransmit h d, poises_opMbWakeConfig h d, poises_opMbStatus h d, poises_opSlConfig h d,
    poises_opSlStatus h d, poises_opTimeGet h d, poises_opTimeConfig h d, poises_opTimeStep h d, poises_opPulseConfig h d,
    poises_opCaptureConfig h d, poises_opTimeStatus h d, poises_opFormeRingConfig h d, poises_opImpositionWrite h d, poises_opImpositionSwitch h d,
    poises_opFormeStatus h d, poises_opPowerPolicy h d, poises_opDeadline h d, poises_opAlarmSet h d, poises_opWakeConfig h d,
    poises_opPowerStatus h d, poises_opFaultLogRead h d, poises_opServiceCounters h d, .fixed (poises_opRepair h d),
    .fixed (poises_opEngineReturn h d), poises_opBankRetire h d, .fixed (poises_opSectorRetire h d), poises_opPipeSwitchover h d,
    poises_opPortRemap h d, .fixed (poises_opSmRemove h d), .fixed (poises_opSmInsert h d), poises_opKeyInfo h d, poises_opKeyRevoke h d,
    poises_opDebugChallenge h d, poises_opDebugResponse h d, poises_opRingConfig h d, poises_opRingStatus h d, poises_opWindowOpen h d,
    poises_opWindowCommit h d, poises_opWindowClose h d, poises_opChannelBind h d, poises_opAttnConfig h d]

theorem poises_execOpcode (h : Held) (d : Dev) : d.Poises (execOpcode h d) := by
  unfold execOpcode
  split
  next r hr => exact poises_execLow hr
  next =>
    cases hr : execHigh h d with
    | none => exact .err
    | some r => exact poises_execHigh hr

/-! ## A channel runs -/

theorem Dev.poised_sendReply (d : Dev) (op : Nat) (c : VCmd) (r : Reply) (extra : Nat) (dst : Peer) : d.Poised (d.sendReply op c r extra dst) :=
  Dev.poised_forEach (fun d _ => d.poised_send _ _ _) _ d

theorem Dev.poised_refuse (d : Dev) (op : Nat) (c : VCmd) (r : Reply) : d.Poised (d.refuse op c r) :=
  Dev.poised_forEach (fun d _ => d.poised_send _ _ _) _ d

theorem Dev.poised_replay (run : OpExec) (d : Dev) (e : CacheEntry) (dst : Peer) : d.Poised (d.replay run e dst) := by
  unfold Dev.replay
  refine .ite (d.poised_send _ _ _) ?_
  split
  exacts [d.poised_sendReply _ _ _ 4 dst, .refl d]

theorem Dev.poised_settleReply (run : OpExec) (d : Dev) (h : Held) (r : Reply) : d.Poised (d.settleReply run h r) := by
  unfold Dev.settleReply
  extract_lets ch r a b c
  have hc : d.Poised c := (Dev.poised_sendReply _ _ _ _ 0 _).after ((Dev.poised_setChan _ _ _).after (d.poised_setChan _ _))
  clear_value c
  refine .ite ?_ hc
  split
  exacts [(c.poised_replay run _ _).after hc, hc]

theorem Dev.poised_runHeld (d : Dev) (h : Held) : d.Poised (d.runHeld execOpcode h).2 := by
  have hanswer := poises_execOpcode h d
  unfold Dev.runHeld
  dsimp only
  split
  · exact d.poised_setChan _ _
  next o ho =>
    obtain ⟨hdev, hafter⟩ := hanswer.of_some o ho
    have hsettled := (hafter _).after ((Dev.poised_settleReply execOpcode _ h o.reply).after hdev)
    split
    · exact (Dev.poised_refuse _ _ _ _).after (.ite (d.poised_setChan _ _) (d.poised_setChan _ _))
    · split
      exacts [(Dev.poised_setChan _ _ _).after hsettled, hsettled]

theorem Dev.poised_pump (ch : Nat) : ∀ (n : Nat) (d : Dev), d.Poised (d.pump execOpcode ch n)
  | 0, d => .refl d
  | n + 1, d => by
    unfold Dev.pump
    refine .ite (.refl d) ?_
    split
    · exact .refl d
    next h _ => exact .ite ((Dev.poised_pump ch n _).after (d.poised_runHeld h)) (d.poised_runHeld h)

theorem Dev.poised_resume (d : Dev) : d.Poised d.resume :=
  (Dev.keeps_udpOut _).poised.after (Dev.poised_forN (fun d ch => d.poised_pump ch 17) 8 d)

end Sys2Proof.Machine
end

section
/-! SUPPORT. What a reset of the part leaves (R16, R52, R53, R560): the islands hold nothing, and what AON, the flash and the serial memories
keep is as it was. -/

namespace Sys2Proof.Machine

/-- The islands hold nothing: no channel, event, record, engine or configuration, and none but AON and the TAP is out of reset. -/
structure Dev.Blank (d : Dev) : Prop where
  verind : d.verind = {}
  svc : d.svc = {}
  eng : d.eng = {}
  funcs : d.funcs = funcTable
  cfg : d.cfg = {}
  islands : ∀ i ∈ d.islands, i.id ≠ 0x00 → i.id ≠ 0x0F → i.st ≤ 1

/-! ## Every island but AON and the TAP -/

theorem Dev.Blank.parts {d : Dev} (h : d.Blank) : d.verind = {} ∧ d.svc = {} ∧ d.eng = {} ∧ d.funcs = funcTable ∧ d.cfg = {} ∧
    (∀ i ∈ d.islands, i.id ≠ 0x00 → i.id ≠ 0x0F → i.st ≤ 1) := ⟨h.verind, h.svc, h.eng, h.funcs, h.cfg, h.islands⟩

theorem Dev.blank_fullReset (d : Dev) (cause : Nat) (keepAlarm : Bool) : (d.fullReset cause false keepAlarm).Blank := by
  refine ⟨rfl, rfl, rfl, rfl, rfl, fun i hi haon _ => ?_⟩
  obtain ⟨x, -, rfl⟩ := List.mem_map.mp hi
  rw [if_neg (by simp)] at haon ⊢
  dsimp only at haon ⊢
  rw [if_neg (by simpa using haon)]
  split <;> decide

theorem Dev.blank_coldReset (d : Dev) : d.coldReset.Blank := by
  obtain ⟨hverind, hsvc, heng, hfuncs, hcfg, hislands⟩ := d.blank_fullReset 0 false
  exact ⟨hverind, hsvc, heng, hfuncs, hcfg, hislands⟩

theorem Dev.Blank.withStart {d : Dev} (h : d.Blank) (x : StartSt) (p : Pwr) : ({ d with start := x, pwr := p } : Dev).Blank := by
  obtain ⟨hverind, hsvc, heng, hfuncs, hcfg, hislands⟩ := h
  exact ⟨hverind, hsvc, heng, hfuncs, hcfg, hislands⟩

/-- An island that the first match of an update leaves stays an island of the part. -/
theorem mem_updFirst {α : Type} {p : α → Bool} {f : α → α} : ∀ {xs : List α} {y : α}, y ∈ updFirst xs p f → y ∈ xs ∨ ∃ x, p x = true ∧ y = f x
  | x :: xs, y, hy => by
    unfold updFirst at hy
    split at hy
    next hx =>
      rcases List.mem_cons.mp hy with rfl | hy
      exacts [.inr ⟨x, hx, rfl⟩, .inl (List.mem_cons_of_mem _ hy)]
    next =>
      rcases List.mem_cons.mp hy with rfl | hy
      · exact .inl List.mem_cons_self
      · exact (mem_updFirst hy).imp_left (List.mem_cons_of_mem _)

theorem Dev.mem_setIsland {d : Dev} {n : Nat} {f : Island → Island} (hf : ∀ x, (f x).id = x.id) {i : Island}
    (hi : i ∈ (d.setIsland n f).islands) (hn : i.id ≠ n) : i ∈ d.islands := by
  rcases mem_updFirst hi with hi | ⟨x, hx, rfl⟩
  · exact hi
  · exact absurd ((hf x).trans (by simpa using hx)) hn

/-- The level of the TAP's reset moves the TAP's island, its crossings and what crosses there. -/
theorem Dev.tapLevel_atTap (d : Dev) : ∃ is cs ts, d.tapLevel = { d with islands := is, crossings := cs, toggles := ts } ∧
    ∀ i ∈ is, i.id ≠ 0x0F → i ∈ d.islands := by
  unfold Dev.tapLevel
  extract_lets low was e
  split
  · exact ⟨_, _, _, rfl, fun i hi hne => Dev.mem_setIsland (f := fun i => { i with st := 1, gen := if d.tapOn then (i.gen + 1) % 4096 else i.gen })
      (d := (d.closeCrossings 0x0F).resetHalves 0x0F) (fun _ => rfl) hi hne⟩
  · split
    · have hmem (i : Island) (hi : i ∈ (d.setIsland 0x0F fun i => { i with st := 2 }).islands) (hne : i.id ≠ 0x0F) : i ∈ d.islands :=
        Dev.mem_setIsland (f := fun i => { i with st := 2 }) (fun _ => rfl) hi hne
      split
      exacts [⟨_, _, _, rfl, hmem⟩, ⟨_, _, _, rfl, hmem⟩]
    · exact ⟨_, _, _, rfl, fun i hi _ => hi⟩

theorem Dev.Blank.tapLevel {d : Dev} (h : d.Blank) : d.tapLevel.Blank := by
  obtain ⟨is, cs, ts, heq, hmem⟩ := d.tapLevel_atTap
  obtain ⟨hverind, hsvc, heng, hfuncs, hcfg, hislands⟩ := h
  rw [heq]
  exact ⟨hverind, hsvc, heng, hfuncs, hcfg, fun i hi haon htap => hislands i (hmem i hi htap) haon htap⟩

/-- Beside the TAP's island, its level leaves the part as it is. -/
theorem Dev.tapLevel_leaves (d : Dev) : d.tapLevel.start = d.start ∧ d.tapLevel.pwr = d.pwr ∧ d.tapLevel.tick = d.tick ∧
    d.tapLevel.sec = d.sec ∧ d.tapLevel.alm = d.alm := by
  obtain ⟨is, cs, ts, heq, -⟩ := d.tapLevel_atTap
  rw [heq]
  exact ⟨rfl, rfl, rfl, rfl, rfl⟩

/-! ## What outlasts a reset -/

/-- The serial memories and the keys. -/
def Dev.kept (d : Dev) : Alm × Sec := (d.alm, d.sec)

theorem Dev.Tells.kept {d e : Dev} (h : d.Tells e) : e.kept = d.kept := by
  obtain ⟨n, rfl, -⟩ := h
  rfl

theorem Dev.kept_timeStops (d : Dev) : d.timeStops.kept = d.kept := by
  unfold Dev.timeStops
  extract_lets e
  split
  · unfold Dev.toHoldover
    split
    · unfold Dev.setQuality
      split
      exacts [rfl, (Dev.tells_timeEvent _ 2).kept]
    · rfl
  · rfl

theorem Dev.kept_orrReset (d : Dev) : d.orrReset.kept = d.kept := (Dev.tells_completeOpt _ _ _ _).kept

theorem Dev.kept_accountPwr (d : Dev) : d.accountPwr.kept = d.kept := by
  unfold Dev.accountPwr
  cases d.pwr.st == 1 <;> rfl

theorem Dev.kept_typCutOff (d : Dev) : d.typCutOff.kept = d.kept := by
  refine forN_keeps Dev.kept _ (fun d b => ?_) 2 d
  split
  · dsimp only
    split <;> rfl
  · rfl

theorem Dev.fullReset_kept (d : Dev) (cause : Nat) (keepTime keepAlarm : Bool) : (d.fullReset cause keepTime keepAlarm).sec.revoked = d.sec.revoked ∧
    ((d.fullReset cause keepTime keepAlarm).alm.copy 0).journal = (d.alm.copy 0).journal := by
  have hkept : ((if d.timeOn then d.timeStops else d).orrReset).accountPwr.typCutOff.kept = d.kept := by
    rw [Dev.kept_typCutOff, Dev.kept_accountPwr, Dev.kept_orrReset]
    split
    exacts [d.kept_timeStops, rfl]
  unfold Dev.fullReset
  dsimp only
  generalize ((if d.timeOn then d.timeStops else d).orrReset).accountPwr.typCutOff = e at hkept ⊢
  obtain ⟨halm, hsec⟩ := Prod.mk.inj hkept
  refine ⟨congrArg Sec.revoked hsec, ?_⟩
  rw [← halm]
  simp only [Alm.copy, Alm.afterReset, Dev.draw, List.getD_eq_getElem?_getD, List.getElem?_map]
  cases e.alm.sm[0]? <;> rfl

end Sys2Proof.Machine
end

section
/-! The obligation of power-on, reset and start (1, 7, 22). -/

namespace Sys2Proof.Packets

open Sys2Proof.Machine

/-- A reset that the TAP's level follows. -/
theorem resetDone (d : Dev) (x : StartSt) (p : Pwr) : ∃ e : Dev, ({ d.coldReset with start := x, pwr := p } : Dev).tapLevel = e ∧ e.Blank ∧
    e.start = x ∧ e.pwr = p ∧ e.tick = 0 ∧ e.sec.revoked = d.sec.revoked ∧ (e.alm.copy 0).journal = (d.alm.copy 0).journal := by
  obtain ⟨hrevoked, hjournal⟩ := d.fullReset_kept 0 false false
  obtain ⟨hstart, hpwr, htick, hsec, halm⟩ := Dev.tapLevel_leaves { d.coldReset with start := x, pwr := p }
  exact ⟨_, rfl, (d.blank_coldReset.withStart x p).tapLevel, hstart, hpwr, htick, (congrArg Sec.revoked hsec).trans hrevoked,
    (congrArg (fun a : Alm => (a.copy 0).journal) halm).trans hjournal⟩

/-! ## START -/

theorem startRow_eq {d : Dev} (hphase : d.start.phase = .released) (x : StartIn) : d.startRow x = d.startSeq x false 0 0 := by
  unfold Dev.startRow
  rw [hphase]

theorem bootSel_startStep1 {d : Dev} (hphase : d.start.phase = .released) (x : StartIn) : (d.startStep1 x).start.bootSel = d.start.bootSel := by
  have hboot := Dev.boot_startStep1 (d := d) (by rw [hphase]; decide) x
  generalize d.startStep1 x = e at hboot ⊢
  exact congrArg (fun b : Phase × Nat × Nat × Verind × Cmp => b.2.2.1) hboot

theorem startSeq_hold {d : Dev} (hphase : d.start.phase = .released) (hboot : d.start.bootSel = 3) (x : StartIn) :
    (d.startSeq x false 0 0).start.phase = .hold := by
  have hsel := bootSel_startStep1 hphase x
  unfold Dev.startSeq
  dsimp only
  rw [if_pos (by rw [hsel, hboot]; rfl)]

theorem startSeq_dead {d : Dev} (hphase : d.start.phase = .released) (hboot : d.start.bootSel ≠ 3) {x : StartIn} (hfails : 2 ≤ x.testFails) :
    (d.startSeq x false 0 0).start.phase = .dead := by
  have hsel := bootSel_startStep1 hphase x
  have hdead := Dev.startStep2_dead hfails 0 0 (d.startStep1 x)
  unfold Dev.startSeq
  dsimp only
  rw [if_neg (by simpa [hsel] using hboot), if_pos (by rw [hdead]; rfl), hdead]

theorem keys_atReady (d : Dev) (x : StartIn) (copies loaded : Nat) : (d.atReady x copies loaded).verind.events.map Ev.key =
    d.verind.events.map Ev.key ++ [(d.verind.evSeq, 0xF000, 0,
      leb 1 d.start.cause ++ leb 1 copies ++ leb 1 loaded ++ [0#8] ++ leb 4 (x.elapsed / 1000))] := Dev.pushEvent_key _ _ _ _ _

theorem chans_atReady (d : Dev) (x : StartIn) (copies loaded : Nat) : (d.atReady x copies loaded).verind.chans = d.verind.chans :=
  congrArg (fun c => c.1.2.2.2.2.1) (Dev.tells_pushEvent _ _ _ _ _).keeps.core

/-- A START from a blank Verind ends in READY, its event the first. -/
theorem startDone_ready {d : Dev} (hphase : d.start.phase = .released) (hboot : d.start.bootSel ≠ 3) {x : StartIn} (hfails : x.testFails < 2)
    (hverind : d.verind = {}) : (d.startDone x).start.phase = .ready ∧
      ∃ e, (d.startDone x).verind.events.head? = some e ∧ e.op = 0xF000 ∧ e.seq = 0 ∧ byteAt e.body 0 = d.start.cause % 256 := by
  obtain ⟨a, copies, loaded, hboots, hstart, hchans, htold, -⟩ := Dev.startSeq_ready hphase hboot hfails false 0 0
  simp only [Dev.boot, Prod.mk.injEq] at hboots
  obtain ⟨-, hcause, -, hblank, -⟩ := hboots
  have hkeys := keys_atReady a x copies loaded
  rw [hblank, hverind, hcause] at hkeys
  unfold Dev.startDone
  rw [startRow_eq hphase]
  generalize d.startSeq x false 0 0 = b at hstart hchans htold ⊢
  have hidle : b.resume = b.udpOut := Dev.resume_idle (by
    rw [hchans, chans_atReady, hblank, hverind]
    decide)
  rw [hidle]
  refine ⟨(b.keeps_udpOut.poised.phase).trans ?_, ?_⟩
  · rw [hstart, Dev.start_atReady]
  · have hprefix := htold.trans b.keeps_udpOut.tells.1
    rw [hkeys] at hprefix
    obtain ⟨rest, hrest⟩ := hprefix
    generalize b.udpOut.verind.events = es at hrest ⊢
    cases es with
    | nil => simp at hrest
    | cons e es =>
      simp only [List.map_nil, List.nil_append, List.cons_append, List.map_cons, List.cons.injEq, Ev.key, Prod.mk.injEq] at hrest
      obtain ⟨⟨hseq, hop, -, hbody⟩, -⟩ := hrest
      refine ⟨e, rfl, hop.symm, hseq.symm, ?_⟩
      rw [← hbody]
      rfl

/-! ## The rows -/

/-- Settles O39: each row in turn. -/
theorem startAndReset : Obligations.StartAndReset := by
  intro boot host ns high x s
  dsimp only
  refine ⟨fun hoff => ?_, fun hlong hoff => ?_, fun hshort => if_pos hshort, fun hlow => ?_, ?_, fun hoff halarm => ?_, fun hst hoff hlow => ?_,
    fun hbad => ?_, fun hreleased => ⟨fun hboot => ?_, fun hboot hfails => ?_, fun hboot hfails hverind => ?_⟩⟩
  · have hopen : s.dev.vddAonOn boot host high = ({ s.dev.coldReset with
        start := if high then { s.dev.coldReset.start with phase := .released, bootSel := boot % 4, hostSel := host % 4, cause := 0, porstHigh := true }
          else { s.dev.coldReset.start with phase := .porstLow, porstHigh := false },
        pwr := { s.dev.coldReset.pwr with pwrEn := true } } : Dev).tapLevel := if_neg (by rw [hoff]; decide)
    have hrow : exec (.vddAonPowerOn boot host high) s = .next { s with
        tap := if s.dev.start.phase == .aonOff then {} else s.tap, dev := s.dev.burn (s.dev.vddAonOn boot host high) } := rfl
    obtain ⟨e, he, hblank, hstart, hpwr, htick, -, -⟩ := resetDone s.dev
      (if high then { s.dev.coldReset.start with phase := .released, bootSel := boot % 4, hostSel := host % 4, cause := 0, porstHigh := true }
        else { s.dev.coldReset.start with phase := .porstLow, porstHigh := false }) { s.dev.coldReset.pwr with pwrEn := true }
    rw [hopen, he, hoff] at hrow
    refine ⟨_, hrow, hblank.parts, congrArg Pwr.pwrEn hpwr, htick, rfl, fun hhigh => ?_, fun hlow => ?_⟩
    · rw [hhigh] at hstart
      exact ⟨congrArg StartSt.phase hstart, congrArg StartSt.bootSel hstart, congrArg StartSt.hostSel hstart, congrArg StartSt.cause hstart⟩
    · rw [hlow] at hstart
      exact congrArg StartSt.phase hstart
  · have hopen : s.dev.porstAssert = ({ s.dev.coldReset with
        start := { s.dev.coldReset.start with phase := .porstLow, porstHigh := false },
        pwr := { s.dev.coldReset.pwr with pwrEn := true } } : Dev).tapLevel := if_neg (by simpa using hoff)
    have hrow : exec (.porstAssert ns) s = .next { s with
        tap := if s.dev.start.phase == .aonOff then s.tap else s.tap.reset, dev := s.dev.burn s.dev.porstAssert } :=
      (if_neg (by omega)).trans (if_neg (by omega))
    obtain ⟨e, he, hblank, hstart, hpwr, htick, hrevoked, hjournal⟩ := resetDone s.dev
      { s.dev.coldReset.start with phase := .porstLow, porstHigh := false } { s.dev.coldReset.pwr with pwrEn := true }
    rw [hopen, he, if_neg (by simpa using hoff)] at hrow
    refine ⟨_, hrow, hblank.parts, congrArg StartSt.phase hstart, congrArg Pwr.pwrEn hpwr, htick, rfl, ?_, hjournal⟩
    exact (congrArg (orBits s.dev.sec.revoked) hrevoked).trans (orBits_self _)
  · have hopen : s.dev.porstRelease boot host = ({ s.dev with start := { s.dev.start with
        phase := .released, bootSel := boot % 4, hostSel := host % 4, cause := 0, porstHigh := true, since := s.dev.tick } } : Dev).tapLevel :=
      if_neg (by rw [hlow]; decide)
    obtain ⟨hstart, -⟩ := Dev.tapLevel_leaves { s.dev with start := { s.dev.start with
      phase := .released, bootSel := boot % 4, hostSel := host % 4, cause := 0, porstHigh := true, since := s.dev.tick } }
    rw [← hopen] at hstart
    have hrow : exec (.porstRelease boot host) s = .next (s.withDev (s.dev.porstRelease boot host)) := rfl
    exact ⟨_, hrow, ⟨congrArg StartSt.phase hstart, congrArg StartSt.bootSel hstart, congrArg StartSt.hostSel hstart, congrArg StartSt.cause hstart⟩,
      congrArg StartSt.since hstart⟩
  · have hrow : exec .lossOfPower s = .next { s with tap := {}, dev := s.dev.burn s.dev.powerLost } := rfl
    obtain ⟨e, he, hblank, hstart, hpwr, -⟩ := resetDone s.dev { s.dev.coldReset.start with
      phase := .aonOff, osc32k := false, porstHigh := false, bootSel := 0, hostSel := 0 } { s.dev.coldReset.pwr with pwrEn := false }
    have hopen : s.dev.powerLost = e := he
    rw [hopen] at hrow
    exact ⟨_, hrow, hblank.parts, congrArg StartSt.phase hstart, congrArg Pwr.pwrEn hpwr, rfl⟩
  · have hnone : ({ s.dev with start := { s.dev.start with osc32k := true } } : Dev).alarmTick = none := halarm
    have hopen : s.dev.oscStart = { s.dev with start := { s.dev.start with osc32k := true } } := by
      unfold Dev.oscStart
      rw [if_neg (by simpa using hoff)]
      dsimp only
      rw [hnone]
    exact State.run_withDev hopen
  · have hopen : s.dev.supplyFault .core = s.dev.coreRailFault := if_neg (by simp [hst, hoff, hlow])
    have hrow : exec (.supplyFault .core) s = .next (s.withDev (s.dev.supplyFault .core)) := rfl
    rw [hopen] at hrow
    have hblank : s.dev.coreRailFault.Blank := (s.dev.blank_fullReset 0 true).withStart _ _
    exact ⟨_, hrow, hblank.parts, rfl⟩
  · have hopen : s.dev.coreRailRestart = ({ s.dev with start := { s.dev.start with
        phase := .released, cause := 3, since := s.dev.tick } } : Dev).tapLevel := if_neg (by rw [hbad]; decide)
    obtain ⟨hstart, -⟩ := Dev.tapLevel_leaves { s.dev with start := { s.dev.start with phase := .released, cause := 3, since := s.dev.tick } }
    rw [← hopen] at hstart
    have hrow : exec .coreRailRestart s = .next (s.withDev s.dev.coreRailRestart) := rfl
    exact ⟨_, hrow, congrArg StartSt.phase hstart, congrArg StartSt.cause hstart⟩
  · have hrow : s.run (Dev.startDone x) = .next (s.withDev (s.dev.startDone x)) := rfl
    exact ⟨_, hrow, (Dev.poised_resume _).phase.trans ((congrArg (fun d : Dev => d.start.phase) (startRow_eq hreleased x)).trans (startSeq_hold hreleased hboot x))⟩
  · have hrow : s.run (Dev.startDone x) = .next (s.withDev (s.dev.startDone x)) := rfl
    exact ⟨_, hrow, (Dev.poised_resume _).phase.trans ((congrArg (fun d : Dev => d.start.phase) (startRow_eq hreleased x)).trans (startSeq_dead hreleased hboot hfails))⟩
  · have hrow : s.run (Dev.startDone x) = .next (s.withDev (s.dev.startDone x)) := rfl
    exact ⟨_, hrow, startDone_ready hreleased hboot hfails hverind⟩

end Sys2Proof.Packets
end

section
/-! SUPPORT. What the work of the switch leaves of the MACs (12, 13): what a MAC sent and counted, and its link. `Lines` relates a part to the
part after an operation of the switch. -/

namespace Sys2Proof.Machine

/-- What a MAC has sent and counted, and its link. -/
def Mac.line (x : Mac) : List Byte × List Nat × Bool × Nat × Bool := (x.sent, x.counters, x.linkUp, x.downAt, x.expired)

/-- Every MAC has sent and counted the same, its link is as it was, and one that is free stays free. -/
structure Dev.Lines (d e : Dev) : Prop where
  line : ∀ m, (e.mac m).line = (d.mac m).line
  idle : ∀ m, (d.mac m).tx = none → (e.mac m).tx = none
  length : e.macs.length = d.macs.length

theorem Dev.Lines.refl (d : Dev) : d.Lines d := ⟨fun _ => rfl, fun _ h => h, rfl⟩

theorem Dev.Lines.trans {d e f : Dev} (h : d.Lines e) (h' : e.Lines f) : d.Lines f :=
  ⟨fun m => (h'.line m).trans (h.line m), fun m hm => h'.idle m (h.idle m hm), h'.length.trans h.length⟩

theorem Dev.Lines.after {d e f : Dev} (h : e.Lines f) (h' : d.Lines e) : d.Lines f := h'.trans h

theorem Dev.Lines.ite {c : Prop} [Decidable c] {d e f : Dev} (h : d.Lines e) (h' : d.Lines f) : d.Lines (if c then e else f) := by
  split
  exacts [h, h']

/-- The parts of a line, one by one. -/
theorem Dev.Lines.parts {d e : Dev} (h : d.Lines e) (m : Nat) : (e.mac m).sent = (d.mac m).sent ∧ (e.mac m).counters = (d.mac m).counters ∧
    (e.mac m).linkUp = (d.mac m).linkUp ∧ (e.mac m).downAt = (d.mac m).downAt ∧ (e.mac m).expired = (d.mac m).expired := by
  have hline := h.line m
  simp only [Mac.line, Prod.mk.injEq] at hline
  exact hline

theorem Dev.lines_of_macs {d e : Dev} (h : e.macs = d.macs) : d.Lines e := by
  have hmac (m : Nat) : e.mac m = d.mac m := by rw [Dev.mac, Dev.mac, h]
  exact ⟨fun m => by rw [hmac], fun m hm => by rw [hmac, hm], by rw [h]⟩

theorem Dev.Tells.lines {d e : Dev} (h : d.Tells e) : d.Lines e := by
  obtain ⟨n, rfl, -⟩ := h
  exact Dev.lines_of_macs rfl

theorem Dev.Signals.lines {d e : Dev} (h : d.Signals e) : d.Lines e := by
  obtain ⟨n, ts, is, es, rfl, -, -⟩ := h
  exact Dev.lines_of_macs rfl

theorem Dev.mac_setMac_or (d : Dev) (m : Nat) (f : Mac → Mac) (k : Nat) : (d.setMac m f).mac k = d.mac k ∨ (d.setMac m f).mac k = f (d.mac k) := by
  by_cases hk : m = k
  · subst hk
    by_cases hm : m < d.macs.length
    · exact .inr (Dev.mac_setMac hm f)
    · have hpast : (upd d.macs m f).length ≤ m := by rw [upd_length]; omega
      exact .inl ((List.getD_eq_default _ _ hpast).trans (List.getD_eq_default _ _ (by omega)).symm)
  · exact .inl (upd_getD_ne d.macs m k f {} hk)

theorem Dev.lines_setMac (d : Dev) (m : Nat) {f : Mac → Mac} (hline : ∀ x, (f x).line = x.line) (hidle : ∀ x, x.tx = none → (f x).tx = none) :
    d.Lines (d.setMac m f) := by
  refine ⟨fun k => ?_, fun k hk => ?_, upd_length _ _ _⟩
  · rcases d.mac_setMac_or m f k with h | h <;> rw [h]
    exact hline _
  · rcases d.mac_setMac_or m f k with h | h <;> rw [h]
    exacts [hk, hidle _ hk]

theorem Dev.lines_foldl {α : Type} {f : Dev → α → Dev} (h : ∀ (d : Dev) x, d.Lines (f d x)) (xs : List α) (d : Dev) : d.Lines (xs.foldl f d) :=
  foldl_relates Dev.Lines.refl Dev.Lines.trans h xs d

theorem Dev.lines_forN {f : Dev → Nat → Dev} (h : ∀ (d : Dev) i, d.Lines (f d i)) (n : Nat) (d : Dev) : d.Lines (forN n d f) := Dev.lines_foldl h _ d

theorem Dev.lines_forEach {α : Type} {f : Dev → α → Dev} (h : ∀ (d : Dev) x, d.Lines (f d x)) (xs : List α) (d : Dev) :
    d.Lines (forEach xs d f) := Dev.lines_foldl h xs d

theorem Dev.lines_foldl_fst {α β : Type} {f : Dev × β → α → Dev × β} (h : ∀ (x : Dev × β) a, x.1.Lines (f x a).1) (xs : List α) (x : Dev × β) :
    x.1.Lines (xs.foldl f x).1 :=
  foldl_relates (R := fun x y : Dev × β => x.1.Lines y.1) (fun x => .refl x.1) (fun h h' => h.trans h') h xs x

theorem Dev.lines_foldl_snd {α β : Type} {f : β × Dev → α → β × Dev} (h : ∀ (x : β × Dev) a, x.2.Lines (f x a).2) (xs : List α) (x : β × Dev) :
    x.2.Lines (xs.foldl f x).2 :=
  foldl_relates (R := fun x y : β × Dev => x.2.Lines y.2) (fun x => .refl x.2) (fun h h' => h.trans h') h xs x

section Operations

variable (d : Dev)

theorem Dev.lines_setSwc (f : Swc → Swc) : d.Lines (d.setSwc f) := Dev.lines_of_macs rfl
theorem Dev.lines_setHst (f : Hst → Hst) : d.Lines (d.setHst f) := Dev.lines_of_macs rfl
theorem Dev.lines_setRing (r : Nat) (f : Ring → Ring) : d.Lines (d.setRing r f) := Dev.lines_of_macs rfl
theorem Dev.lines_setPort (p : Nat) (f : HostPort → HostPort) : d.Lines (d.setPort p f) := Dev.lines_of_macs rfl
theorem Dev.lines_setPe (p : Nat) (f : Pe → Pe) : d.Lines (d.setPe p f) := Dev.lines_of_macs rfl
theorem Dev.lines_setFree (n : Nat) : d.Lines { d with free := n } := Dev.lines_of_macs rfl
theorem Dev.lines_discard (n : Nat) : d.Lines (d.discard n) := Dev.lines_of_macs rfl
theorem Dev.lines_countFull (p c : Nat) : d.Lines (d.countFull p c) := Dev.lines_of_macs rfl
theorem Dev.lines_countFwd (p c : Nat) : d.Lines (d.countFwd p c) := Dev.lines_of_macs rfl
theorem Dev.lines_countAdm (p c : Nat) : d.Lines (d.countAdm p c) := Dev.lines_of_macs rfl

theorem Dev.lines_collect : d.Lines d.collect := by
  unfold Dev.collect
  refine Dev.Lines.after (Dev.lines_forN (fun d p => ?_) 14 _) (d.lines_setSwc _)
  dsimp only
  exact .ite (.refl d) ((Dev.signals_raise _ _ _ _).lines.after (d.lines_setPe p _))

theorem Dev.lines_dropMirror (g : Nat) (e : GEnt) : d.Lines (d.dropMirror g e) := by
  unfold Dev.dropMirror
  dsimp only
  split
  · exact ((Dev.lines_collect _).after (Dev.lines_setSwc _ _)).after (Dev.lines_setSwc _ _)
  · exact (Dev.lines_collect _).after (Dev.lines_setSwc _ _)

theorem Dev.lines_dropPortMirrors (p : Nat) : d.Lines (d.dropPortMirrors p) :=
  Dev.lines_forN (fun d _ => Dev.lines_forEach (fun d e => d.lines_dropMirror _ e) _ d) 8 d

theorem Dev.lines_pauseEval (m : Nat) : d.Lines (d.pauseEval m) := by
  unfold Dev.pauseEval
  dsimp only
  exact .ite (.refl d) (.ite (.ite (d.lines_setMac m (fun _ => rfl) fun _ h => h) (.refl d))
    (.ite (d.lines_setMac m (fun _ => rfl) fun _ h => h) (.refl d)))

theorem Dev.lines_pauseAll : d.Lines d.pauseAll := Dev.lines_forN Dev.lines_pauseEval 6 d

/-- A change of the frame in transmission. -/
theorem Dev.lines_mapTx (m : Nat) (f : TxFrame → TxFrame) : d.Lines (d.setMac m (fun x => { x with tx := x.tx.map f })) :=
  d.lines_setMac m (fun _ => rfl) fun x h => by simp [h]

theorem Dev.lines_expressBad (id : Nat) : d.Lines (d.expressBad id).2 :=
  (Dev.lines_forN (fun d m => d.lines_mapTx m _) 6 _).after (d.lines_setSwc _)

theorem Dev.lines_cutFrames (m : Nat) : d.Lines (d.cutFrames m).2 := by
  unfold Dev.cutFrames
  extract_lets p tx rx n e f g h
  have he : d.Lines e := by
    dsimp only [e, rx]
    split
    exacts [.ite (d.lines_expressBad _) (.refl d), .refl d]
  have hf : e.Lines f := by
    dsimp only [f, tx]
    clear_value e
    split
    exacts [.ite (e.lines_setSwc _) (.refl e), .refl e]
  clear_value f e
  dsimp only
  exact (Dev.lines_collect h).after ((Dev.lines_discard _ n).after ((g.lines_setMac m (f := fun x => { x with tx := none }) (fun _ => rfl) fun _ _ => rfl).after
    ((f.lines_setSwc _).after (hf.after he))))

theorem Dev.lines_settlePipe : d.Lines d.settlePipe := by
  unfold Dev.settlePipe
  split
  · exact .ite ((Dev.tells_completeDone _ _).lines.after (d.lines_setSwc _)) (.ite ((Dev.tells_completeFailed _ _ _).lines.after (d.lines_setSwc _)) (.refl d))
  · exact .refl d

theorem Dev.lines_beginLookup : d.Lines d.beginLookup := by
  unfold Dev.beginLookup
  split
  · exact (Dev.lines_settlePipe _).after (.ite (.refl d) (d.lines_setSwc _))
  · exact .refl d

theorem Dev.lines_roomIn (g n k : Nat) : d.Lines (d.roomIn g n k).2 := by
  induction k generalizing d with
  | zero => exact .refl d
  | succ k ih =>
    rw [Dev.roomIn]
    split
    · exact .refl d
    · split
      · exact (ih _).after (d.lines_dropMirror _ _)
      · exact .refl d

theorem Dev.lines_roomFor (n k : Nat) : d.Lines (d.roomFor n k).2 := by
  induction k generalizing d with
  | zero => exact .refl d
  | succ k ih =>
    rw [Dev.roomFor]
    dsimp only
    split
    · exact .refl d
    · split
      · exact (ih _).after (d.lines_dropMirror _ _)
      · exact .refl d

theorem Dev.lines_mirrorCopy (k : Nat) (bytes : List Byte) (held : Option Nat) (cls ing vid stamp : Nat) :
    d.Lines (d.mirrorCopy k bytes held cls ing vid stamp) := by
  unfold Dev.mirrorCopy
  dsimp only
  refine .ite (d.lines_setSwc _) ?_
  cases held <;> dsimp only
  · exact (Dev.lines_setSwc _ _).after (d.lines_setSwc _)
  · exact d.lines_setSwc _

theorem Dev.lines_mirrorAt (egress : Bool) (p : Nat) (bytes : List Byte) (held : Option Nat) (cls ing vid stamp : Nat) :
    d.Lines (d.mirrorAt egress p bytes held cls ing vid stamp) :=
  Dev.lines_forN (fun d k => .ite (d.lines_mirrorCopy k bytes held cls ing vid stamp) (.refl d)) 4 d

/-! ## Host rings, proofs and delivery -/

theorem Dev.lines_advanceRing (r : Nat) : d.Lines (d.advanceRing r) := (Dev.lines_setRing _ _ _).after (Dev.lines_setHst _ _)

theorem Dev.lines_ringPublish (r id : Nat) (data : List Byte) : d.Lines (d.ringPublish r id data) := by
  unfold Dev.ringPublish
  split
  · exact .refl d
  · exact (Dev.lines_advanceRing _ _).after ((Dev.lines_setRing _ _ _).after (d.lines_setHst _))

theorem Dev.lines_ringPut (r : Nat) (o : Owner) (src inst : Nat) (data : List Byte) : d.Lines (d.ringPut r o src inst data).2 := by
  unfold Dev.ringPut Dev.ringReserve
  dsimp only
  split_ifs
  · exact d.lines_setRing _ _
  · exact (Dev.lines_ringPublish _ _ _ _).after ((Dev.lines_setHst _ _).after (d.lines_setRing r _))

theorem Dev.lines_proof (egress : Bool) (p : Nat) (bytes : List Byte) (cls from_ stamp : Nat) (lost : Bool) :
    d.Lines (d.proof egress p bytes cls from_ stamp lost) := by
  unfold Dev.proof
  dsimp only
  refine .ite (.refl d) (.ite (d.lines_setSwc _) (.ite ((Dev.lines_setSwc _ _).after (d.lines_setSwc _)) ?_))
  exact (Dev.lines_setSwc _ _).after ((Dev.lines_ringPut _ _ _ _ _ _).after (d.lines_setSwc _))

theorem Dev.lines_learn (p : Nat) (b : List Byte) (vid : Nat) : d.Lines (d.learn p b vid) := by
  unfold Dev.learn
  dsimp only
  refine .ite (.refl d) ?_
  split
  · exact .ite (.refl d) (d.lines_setSwc _)
  · split
    exacts [d.lines_setSwc _, .refl d]

theorem Dev.lines_deliverLe (l cls : Nat) (bytes : List Byte) : d.Lines (d.deliverLe l cls bytes) := by
  unfold Dev.deliverLe
  split
  · exact d.lines_countFull _ _
  · split
    · exact .ite ((Dev.lines_countFwd _ _ _).after ((Dev.signals_capture _ _ _).lines.after ((Dev.signals_raise _ _ _ _).lines.after
        (Dev.lines_setPe _ _ _)))) (d.lines_countFull _ _)
    · exact d.lines_countFull _ _

theorem Dev.lines_deliverRing (r ing cls : Nat) (bytes : List Byte) : d.Lines (d.deliverRing r ing cls bytes) := by
  unfold Dev.deliverRing
  dsimp only
  exact .ite (.ite ((Dev.lines_countFwd _ _ _).after (d.lines_ringPut _ _ _ _ _)) ((Dev.lines_countFull _ _ _).after (d.lines_ringPut _ _ _ _ _)))
    (d.lines_countFull _ _)

/-! ## A frame taken in -/

theorem Dev.lines_expressIn (p : Nat) (rx : RxFrame) (src : Nat) : d.Lines (d.expressIn p rx src).1 := by
  refine Dev.lines_foldl_fst (fun a o => ?_) _ (d, rx.dests)
  dsimp only
  split_ifs <;> dsimp only
  · exact .refl _
  · exact Dev.lines_setSwc _ _
  · exact Dev.lines_countFull _ _ _

theorem Dev.lines_expressWhole (id vid : Nat) (bytes : List Byte) : d.Lines (d.expressWhole id vid bytes) :=
  (Dev.lines_forN (fun d m => d.lines_mapTx m _) 6 _).after (d.lines_setSwc _)

theorem Dev.lines_expressLong (p id vid m : Nat) (bytes : List Byte) : d.Lines (d.expressLong p id vid m bytes).1 := by
  refine Dev.lines_foldl_fst (fun a o => ?_) _ (d, m)
  dsimp only
  split_ifs <;> dsimp only
  · exact (Dev.lines_mapTx _ _ _).after ((Dev.lines_setSwc _ _).after (Dev.lines_countFull _ _ _))
  · exact .refl _

theorem Dev.lines_galleyRoom (f : Nat × Dev → Nat → Nat × Dev) (hf : ∀ (a : Nat × Dev) o, a.2.Lines (f a o).2) (m : Nat) :
    d.Lines ((List.range 6).foldl f (m, d)).2 := Dev.lines_foldl_snd hf _ (m, d)

theorem Dev.lines_galleyIn (p : Nat) (rx : RxFrame) (bytes : List Byte) : d.Lines (d.galleyIn p rx bytes).2 := by
  unfold Dev.galleyIn
  dsimp only
  have hroom := d.lines_roomFor (slugsFor bytes.length) 64
  split
  · exact (Dev.lines_countAdm _ _ _).after hroom
  refine hroom.trans ?_
  generalize (d.roomFor (slugsFor bytes.length) 64).2 = e
  have hports := e.lines_galleyRoom (fun a o =>
    if (!bit a.1 o) = true then (a.1, a.2)
    else if ((a.2.roomIn (o * 8 + rx.cls) (slugsFor bytes.length) 64).1 &&
        !(a.2.roomIn (o * 8 + rx.cls) (slugsFor bytes.length) 64).2.tooLong o rx.cls rx.vid bytes) = true then
      (a.1, (a.2.roomIn (o * 8 + rx.cls) (slugsFor bytes.length) 64).2)
    else (a.1 - 2 ^ o, (a.2.roomIn (o * 8 + rx.cls) (slugsFor bytes.length) 64).2.countFull o rx.cls)) (fun a o => by
      split_ifs <;> dsimp only
      exacts [.refl _, Dev.lines_roomIn _ _ _ _, (Dev.lines_countFull _ _ _).after (Dev.lines_roomIn _ _ _ _)]) rx.dests
  generalize List.foldl _ (rx.dests, e) (List.range 6) = r at hports ⊢
  refine hports.trans ?_
  split <;> dsimp only
  · exact .refl _
  · have hjoin (d : Dev) : d.Lines ((List.range 6).foldl (fun (d : Dev) o => if bit r.1 o = true then d.setSwc (fun s =>
        { (s.setGalley (o * 8 + rx.cls) (fun q => q ++ [{ no := s.ids, frame := rx.id }])) with ids := s.ids + 1 }) else d) d) :=
      Dev.lines_foldl (fun d o => .ite (d.lines_setSwc _) (.refl d)) _ d
    have hall := (hjoin _).after (r.2.lines_setSwc (fun s => { s with
      frames := s.frames ++ [{ id := rx.id, bytes := bytes, cls := rx.cls, vid := rx.vid, ing := p, stamp := rx.stamp,
                               slugs := (r.2.takeSlugs (slugsFor bytes.length) r.2.swc.lastBank []).1 }],
      lastBank := (r.2.takeSlugs (slugsFor bytes.length) r.2.swc.lastBank []).2 }))
    exact .ite ((Dev.lines_mirrorAt _ _ _ _ _ _ _ _ _).after hall) hall

theorem Dev.lines_frameTaken (p : Nat) (rx : RxFrame) (bytes : List Byte) (started : Bool) : d.Lines (d.frameTaken p rx bytes started).2 := by
  unfold Dev.frameTaken
  split
  · have hin : d.Lines (if started = true then (d, rx.dests) else d.expressIn p rx rx.id).1 := by
      split
      exacts [.refl d, d.lines_expressIn _ _ _]
    refine hin.trans ?_
    generalize (if started = true then (d, rx.dests) else d.expressIn p rx rx.id) = r
    obtain ⟨e, m⟩ := r
    have hlong := (Dev.lines_expressLong _ p rx.id rx.vid m bytes).after (e.lines_expressWhole rx.id rx.vid bytes)
    exact .ite ((Dev.lines_mirrorAt _ _ _ _ _ _ _ _ _).after hlong) hlong
  · split
    exacts [d.lines_galleyIn _ _ _, .refl d]

theorem Dev.lines_frameServed (p : Nat) (rx : RxFrame) (bytes : List Byte) (okIn : Bool) : d.Lines (d.frameServed p rx bytes okIn) := by
  unfold Dev.frameServed
  extract_lets d1 d2 d3 d4
  have h2 : d.Lines d2 := (Dev.lines_proof _ _ _ _ _ _ _ _).after (d.lines_learn _ _ _)
  have h3 : d2.Lines d3 := by
    dsimp only [d3]
    split
    exacts [d2.lines_deliverLe _ _ _, .refl d2]
  have h4 : d3.Lines d4 := by
    dsimp only [d4]
    split
    exacts [d3.lines_deliverRing _ _ _ _, .refl d3]
  exact (Dev.lines_pauseAll _).after ((Dev.lines_collect _).after (Dev.Lines.after (.ite (d4.lines_countFwd _ _) (.refl d4)) (h4.after (h3.after h2))))

theorem Dev.lines_frameIn (p : Nat) (rx : RxFrame) (bytes : List Byte) (started : Bool) : d.Lines (d.frameIn p rx bytes started).2 := by
  unfold Dev.frameIn
  extract_lets rx' lost
  have hlost (e : Dev) : e.Lines (lost e).2 := by
    dsimp only [lost]
    exact (Dev.lines_pauseAll _).after (e.lines_proof _ _ _ _ _ _ _)
  by_cases hdropped : rx'.dropped = true
  · rw [if_pos hdropped]
    exact (hlost _).after (d.lines_countAdm _ _)
  rw [if_neg hdropped]
  by_cases hlong : (rx'.cls == 7 && decide (1536 < bytes.length)) = true
  · rw [if_pos hlong]
    have hbad := d.lines_expressBad rx'.id
    generalize d.expressBad rx'.id = r at hbad ⊢
    exact (hlost _).after ((Dev.lines_countAdm _ _ _).after hbad)
  rw [if_neg hlong]
  split
  next okIn e heq =>
  have htaken : d.frameTaken p rx' bytes started = (okIn, e) := heq
  have he := d.lines_frameTaken p rx' bytes started
  rw [htaken] at he
  dsimp only
  exact (e.lines_frameServed p rx' bytes okIn).after he

theorem Dev.lines_inject (p : Nat) (bytes : List Byte) (cls : Nat) (mask : Option Nat) : d.Lines (d.inject p bytes cls mask).2.2 := by
  unfold Dev.inject
  dsimp only
  have hlookup : d.Lines (if mask.isNone = true then d.beginLookup else d) := .ite d.lines_beginLookup (.refl d)
  refine hlookup.trans ?_
  generalize (if mask.isNone = true then d.beginLookup else d) = e
  split <;> dsimp only
  · exact (Dev.lines_discard _ _).after (e.lines_setSwc _)
  · exact (Dev.lines_frameIn _ _ _ _ _).after (e.lines_setSwc _)

/-! ## Packets by UDP -/

theorem Dev.lines_injectAll (f : List Nat → Nat → List Nat) (g : List Byte → List Byte) (ps : List (List Byte)) (x : List Nat × Dev) :
    x.2.Lines (ps.foldl (fun a b => (f a.1 (a.2.inject 7 (g b) 0 none).1, (a.2.inject 7 (g b) 0 none).2.2)) x).2 :=
  Dev.lines_foldl_snd (f := fun a b => (f a.1 (a.2.inject 7 (g b) 0 none).1, (a.2.inject 7 (g b) 0 none).2.2))
    (fun a _ => a.2.lines_inject _ _ _ _) ps x

theorem Dev.lines_udpFlush : d.Lines d.udpFlush := by
  refine Dev.lines_forEach (fun d o => ?_) _ d
  dsimp only
  split
  · exact d.lines_setPort 3 _
  · refine (Dev.lines_setPort _ 3 _).after ((d.lines_setFree (d.free + 1)).trans ?_)
    exact Dev.lines_injectAll (fun ids i => ids ++ [i]) (fun b => hostFrame o.dst.mac o.dst.vid 0x0800 b) _ ([], d.draw.2)

theorem Dev.lines_udpOut : d.Lines d.udpOut := .ite (.refl d) ((Dev.lines_setPort _ 3 _).after d.lines_udpFlush)

end Operations

end Sys2Proof.Machine
end

section
/-! SUPPORT. A whole frame through the switch (R309, R312 to R315, R344): what each step of it changes, and a good frame for one port. -/

namespace Sys2Proof.Machine

/-! ## What single steps change -/

theorem Dev.Signals.beside {d e : Dev} (h : d.Signals e) : e.swc = d.swc ∧ e.hst = d.hst ∧ e.verind = d.verind ∧ e.cmp = d.cmp := by
  obtain ⟨n, ts, is, es, rfl, -, -⟩ := h
  exact ⟨rfl, rfl, rfl, rfl⟩

/-- Learning moves the address table alone. -/
theorem Dev.learn_shape (d : Dev) (p : Nat) (b : List Byte) (vid : Nat) : ∃ t, d.learn p b vid = d.setSwc (fun s => { s with fdb := t }) := by
  unfold Dev.learn
  dsimp only
  split
  · exact ⟨_, rfl⟩
  split
  · split
    exacts [⟨_, rfl⟩, ⟨_, rfl⟩]
  · split
    exacts [⟨_, rfl⟩, ⟨_, rfl⟩]

/-- Pause moves the MACs alone. -/
theorem Dev.pauseAll_shape (d : Dev) : ∃ ms, d.pauseAll = { d with macs := ms } := by
  unfold Dev.pauseAll forN
  generalize List.range 6 = ms
  refine foldl_relates (R := fun d e : Dev => ∃ ms, e = { d with macs := ms }) (fun d => ⟨d.macs, rfl⟩) ?_ (fun d m => ?_) ms d
  · rintro d e f ⟨ms, rfl⟩ ⟨ms', rfl⟩
    exact ⟨ms', rfl⟩
  · unfold Dev.pauseEval
    dsimp only
    split
    · exact ⟨_, rfl⟩
    split
    · split
      exacts [⟨_, rfl⟩, ⟨_, rfl⟩]
    · split
      exacts [⟨_, rfl⟩, ⟨_, rfl⟩]

/-- Collecting keeps the frames that something references, and tells the engines whose frames have left. -/
theorem Dev.collect_signals (d : Dev) :
    (d.setSwc (fun s => { s with frames := s.frames.filter (fun f => d.heldAny f.id) })).Signals d.collect := by
  unfold Dev.collect forN
  generalize List.range 14 = ps
  refine foldl_relates Dev.Signals.refl Dev.Signals.trans (fun e p => ?_) ps _
  dsimp only
  split
  exacts [.refl e, (e.signals_setPorts p _).trans (Dev.signals_raise _ _ _ _)]

theorem Dev.mirrorAt_off {d : Dev} (h : ∀ k, k < 4 → d.isOn (0x0700 + k) = false) (egress : Bool) (p : Nat) (bytes : List Byte) (held : Option Nat)
    (cls ing vid stamp : Nat) : d.mirrorAt egress p bytes held cls ing vid stamp = d := by
  unfold Dev.mirrorAt forN
  have hks : ∀ k ∈ List.range 4, k < 4 := fun k => List.mem_range.mp
  generalize List.range 4 = ks at hks
  induction ks with
  | nil => rfl
  | cons k ks ih =>
    rw [List.foldl_cons, if_neg (by simp [h k (hks k List.mem_cons_self)])]
    exact ih fun j hj => hks j (List.mem_cons_of_mem _ hj)

theorem Dev.proof_off {d : Dev} {p : Nat} (h : d.isOn (0x0800 + p) = false) (egress : Bool) (bytes : List Byte) (cls from_ stamp : Nat) (lost : Bool) :
    d.proof egress p bytes cls from_ stamp lost = d := by
  unfold Dev.proof
  exact if_pos (by simp [h])

/-! ## The class and destinations, of a part with other counters -/

theorem Dev.expired_countMac (d : Dev) (m i n k : Nat) : ((d.countMac m i n).mac k).expired = (d.mac k).expired := by
  unfold Dev.countMac
  rcases d.mac_setMac_or m (fun x => { x with counters := bump x.counters i n }) k with h | h <;> rw [h]

theorem Dev.classifyFrame_congr {d e : Dev} (hcfg : e.cfg = d.cfg) (htick : e.tick = d.tick) (hfuncs : e.funcs = d.funcs) (hfdb : e.swc.fdb = d.swc.fdb)
    (hexpired : ∀ k, (e.mac k).expired = (d.mac k).expired) (p : Nat) (b : List Byte) (forced mask : Option Nat) :
    e.classifyFrame p b forced mask = d.classifyFrame p b forced mask := by
  have hon : e.isOn = d.isOn := by funext f; rw [Dev.isOn, Dev.isOn, Dev.func, Dev.func, hfuncs]
  have hring : e.inRing = d.inRing := by funext m; simp only [Dev.inRing, Dev.func, hfuncs]
  have hmac : e.portMac = d.portMac := by funext q; rw [Dev.portMac, Dev.portMac, hcfg]
  have hvlan : e.vlan = d.vlan := by funext v; rw [Dev.vlan, Dev.vlan, hcfg]
  have hfind : e.swc.findFdb = d.swc.findFdb := by funext a v; simp only [Swc.findFdb, Swc.way, hfdb]
  have haddr : e.addressMask = d.addressMask := by funext a v; simp only [Dev.addressMask, hfind]
  have hred : e.reduceDests = d.reduceDests := by funext i v k; simp only [Dev.reduceDests, hexpired, hring, hmac, hvlan]
  have hrule : e.ruleFor = d.ruleFor := by funext m a; rw [Dev.ruleFor, Dev.ruleFor, hcfg]
  simp only [Dev.classifyFrame, Dev.ringCfg, hcfg, htick, hon, hmac, hvlan, haddr, hred, hrule]
  rfl

/-! ## Room -/

theorem Dev.roomFor_free {d : Dev} {n : Nat} (h : n ≤ d.freeSlugs) (k : Nat) : d.roomFor n (k + 1) = (true, d) := if_pos h

theorem Dev.roomIn_free {d : Dev} {g : Nat} (h : (d.swc.gal.getD g {}).limit = 0) (n k : Nat) : d.roomIn g n (k + 1) = (true, d) :=
  if_pos (by rw [h]; rfl)

theorem bit_two_pow (o k : Nat) : bit (2 ^ o) k = decide (o = k) := Nat.testBit_two_pow ..

/-- A loop over the ports that acts for one port. -/
theorem foldl_port {o : Nat} (ho : o < 6) (g : Dev → Nat → Dev) (d : Dev) :
    (List.range 6).foldl (fun d k => if bit (2 ^ o) k = true then g d k else d) d = g d o := by
  simp only [bit_two_pow, decide_eq_true_eq]
  interval_cases o <;> rfl

/-- The place of a frame in a galley, and the frame in its slugs. -/
def Dev.galleyed (d : Dev) (p o : Nat) (rx : RxFrame) (bytes : List Byte) : Dev :=
  let t := d.takeSlugs (slugsFor bytes.length) d.swc.lastBank []
  (d.setSwc (fun s => { s with
    frames := s.frames ++ [{ id := rx.id, bytes := bytes, cls := rx.cls, vid := rx.vid, ing := p, stamp := rx.stamp, slugs := t.1 }],
    lastBank := t.2 })).setSwc (fun s =>
      { (s.setGalley (o * 8 + rx.cls) (fun q => q ++ [{ no := s.ids, frame := rx.id }])) with ids := s.ids + 1 })

/-- A frame for one port with room joins its galley. -/
theorem Dev.galleyIn_one {d : Dev} {p o : Nat} (ho : o < 6) {rx : RxFrame} (hdests : rx.dests = 2 ^ o) {bytes : List Byte}
    (hfree : slugsFor bytes.length ≤ d.freeSlugs) (hport : (d.cfg.ports.getD p {}).limit = 0) (hgalley : (d.swc.gal.getD (o * 8 + rx.cls) {}).limit = 0)
    (hlong : d.tooLong o rx.cls rx.vid bytes = false) (hoff : ∀ k, k < 4 → d.isOn (0x0700 + k) = false) :
    d.galleyIn p rx bytes = (true, d.galleyed p o rx bytes) := by
  have hroom (k : Nat) (hk : k = o) : d.roomIn (k * 8 + rx.cls) (slugsFor bytes.length) 64 = (true, d) := Dev.roomIn_free (by rw [hk, hgalley]) _ 63
  unfold Dev.galleyIn
  dsimp only
  rw [show d.roomFor (slugsFor bytes.length) 64 = (true, d) from Dev.roomFor_free hfree 63, if_neg (by rw [hport]; simp), hdests,
    List.foldl_fixed' (a := (2 ^ o, d)) (fun k => ?_), if_neg (by simp)]
  · rw [foldl_port ho]
    have hmirror (e : Dev) (he : e.isOn = d.isOn) : (if p < 6 then e.mirrorAt false p bytes (some rx.id) rx.cls p rx.vid rx.stamp else e) = e := by
      split
      exacts [Dev.mirrorAt_off (by rwa [he]) _ _ _ _ _ _ _ _, rfl]
    exact congrArg (Prod.mk true) (hmirror _ rfl)
  · dsimp only
    by_cases hk : k = o
    · rw [hroom k hk, hk, hlong]
      simp [bit_two_pow]
    · rw [bit_two_pow, if_pos (by simp [Ne.symm hk])]

/-- A frame that is taken in is served (R309, R354). -/
theorem Dev.frameIn_served {d : Dev} {p : Nat} {rx : RxFrame} {bytes : List Byte} {started : Bool} (hdropped : rx.dropped = false)
    (hshort : ¬ (rx.cls == 7 && decide (1536 < bytes.length)) = true) :
    d.frameIn p rx bytes started = (if rx.toHost then [(bytes, rx.vid)] else [],
      (d.frameTaken p { rx with head := bytes } bytes started).2.frameServed p { rx with head := bytes } bytes
        (d.frameTaken p { rx with head := bytes } bytes started).1) :=
  (if_neg (by rw [hdropped]; simp)).trans (if_neg hshort)

/-- A frame of a class below 7 that its galleys take, with no part of the part itself among its destinations. -/
theorem Dev.frameIn_galley {d e : Dev} {p : Nat} {rx : RxFrame} {bytes : List Byte} (hdropped : rx.dropped = false) (hcls : rx.cls < 7)
    (hdests : (rx.dests &&& 0x3F) ≠ 0) (hle : rx.toLe = none) (hring : rx.toRing = none) (hhost : rx.toHost = false)
    (hin : d.galleyIn p { rx with head := bytes } bytes = (true, e)) (hoff : e.isOn (0x0800 + p) = false) (started : Bool) :
    d.frameIn p rx bytes started = ([], ((e.learn p bytes rx.vid).collect).pauseAll) := by
  have hoff' : (e.learn p bytes rx.vid).isOn (0x0800 + p) = false := by
    obtain ⟨t, ht⟩ := e.learn_shape p bytes rx.vid
    rw [ht]
    exact hoff
  have hne : (rx.cls == 7) = false := by simpa using (by omega : rx.cls ≠ 7)
  have htaken : d.frameTaken p { rx with head := bytes } bytes started = (true, e) :=
    (if_neg (by simp [hne])).trans ((if_pos (by simpa using hdests)).trans hin)
  rw [Dev.frameIn_served hdropped (by simp [hne]), htaken, hhost, Dev.frameServed, Dev.proof_off hoff', hle, hring]
  rfl

theorem Swc.galley_setGalley {s : Swc} {g : Nat} (hg : g < s.galleys.length) (f : List GEnt → List GEnt) : (s.setGalley g f).galley g = f (s.galley g) :=
  upd_getD_same s.galleys g f [] hg

/-- What the switch holds of a frame that joined a galley. -/
theorem Dev.galleyed_leaves {d : Dev} {p o : Nat} {rx : RxFrame} {bytes : List Byte} (hg : o * 8 + rx.cls < d.swc.galleys.length)
    (hids : ∀ f ∈ d.swc.frames, f.id ≠ rx.id) {e : Dev} (he : (((d.galleyed p o rx bytes).learn p bytes rx.vid).collect).pauseAll = e) :
    d.Lines e ∧ e.hst = d.hst ∧ e.swc.galley (o * 8 + rx.cls) = d.swc.galley (o * 8 + rx.cls) ++ [{ no := d.swc.ids, frame := rx.id }] ∧
      (e.swc.frame rx.id).bytes = bytes ∧ (e.swc.frame rx.id).ing = p := by
  obtain ⟨t, ht⟩ := (d.galleyed p o rx bytes).learn_shape p bytes rx.vid
  have hlines : d.Lines e := he ▸ (Dev.lines_pauseAll _).after ((Dev.lines_collect _).after ((Dev.lines_learn _ _ _ _).after
    (Dev.lines_of_macs (by rfl))))
  have hgalley : (d.galleyed p o rx bytes).swc.galley (o * 8 + rx.cls) = d.swc.galley (o * 8 + rx.cls) ++ [{ no := d.swc.ids, frame := rx.id }] :=
    Swc.galley_setGalley (s := { d.swc with frames := _, lastBank := _ }) hg _
  obtain ⟨f, hframes, hfid, hfbytes, hfing⟩ : ∃ f : SwFrame, (d.galleyed p o rx bytes).swc.frames = d.swc.frames ++ [f] ∧ f.id = rx.id ∧
      f.bytes = bytes ∧ f.ing = p := ⟨_, rfl, rfl, rfl, rfl⟩
  have hhst : (d.galleyed p o rx bytes).hst = d.hst := rfl
  generalize d.galleyed p o rx bytes = x at he ht hgalley hframes hhst
  rw [ht] at he
  have hheld : (x.setSwc (fun s => { s with fdb := t })).heldAny rx.id = true := by
    refine Bool.or_eq_true_iff.mpr (.inl (List.any_eq_true.mpr ⟨x.swc.galley (o * 8 + rx.cls), ?_, ?_⟩))
    · have hpast : x.swc.galleys[o * 8 + rx.cls]? ≠ none := fun hnone => by
        rw [Swc.galley, List.getD_eq_getElem?_getD, hnone] at hgalley
        simp at hgalley
      obtain ⟨q, hq⟩ := Option.ne_none_iff_exists'.mp hpast
      rw [Swc.galley, List.getD_eq_getElem?_getD, hq]
      exact List.mem_of_getElem? hq
    · rw [hgalley]
      simp
  generalize hy : x.setSwc (fun s => { s with fdb := t }) = y at he hheld
  have hyframes : y.swc.frames = d.swc.frames ++ [f] := by rw [← hy, ← hframes]; rfl
  have hygalley : y.swc.galley (o * 8 + rx.cls) = x.swc.galley (o * 8 + rx.cls) := by rw [← hy]; rfl
  have hyhst : y.hst = d.hst := by rw [← hy, ← hhst]; rfl
  obtain ⟨hswc, hhst', -⟩ := y.collect_signals.beside
  generalize y.collect = c at he hswc hhst'
  obtain ⟨ms, hms⟩ := c.pauseAll_shape
  have heswc : e.swc = c.swc := by rw [← he, hms]
  have hehst : e.hst = c.hst := by rw [← he, hms]
  have hfind : c.swc.frame rx.id = f := by
    rw [hswc]
    have hnone : (d.swc.frames.filter (fun f => y.heldAny f.id)).find? (fun f => f.id == rx.id) = none :=
      List.find?_eq_none.mpr fun g hg => by simpa using hids g (List.mem_of_mem_filter hg)
    simp [Swc.frame, Dev.setSwc, hyframes, hnone, hfid, hheld]
  refine ⟨hlines, hehst.trans (hhst'.trans hyhst), ?_, ?_, ?_⟩
  · rw [heswc, hswc, ← hgalley, ← hygalley]
    rfl
  · rw [heswc, hfind, hfbytes]
  · rw [heswc, hfind, hfing]

end Sys2Proof.Machine
end

section
/-! SUPPORT. What a MAC receives (R302, R344, R350): a frame that fails a check, a good one for one port, and a pause frame. -/

namespace Sys2Proof.Machine

/-- Where no packet waits for the UDP port, none leaves by it. -/
theorem Dev.udpOut_idle {d : Dev} (h : (d.port 3).out = []) : d.udpOut = d := if_pos (by rw [h]; rfl)

theorem Dev.frameRow_eq {d e : Dev} {m : Nat} {b : List Byte} {err : Bool} (hm : m < 6) (hreceive : d.frameReceive m b err = ([], e))
    (hout : (e.port 3).out = []) : Dev.frameRow m b err d = e := by
  have hidle : e.toHost m [] = e := Dev.udpOut_idle hout
  unfold Dev.frameRow
  rw [if_neg (by omega), hreceive]
  exact hidle

/-! ## Counters (Table 13.6) -/

section Counters

variable {d : Dev} {m i : Nat}

theorem Dev.counters_countMac (hm : m < d.macs.length) (k : Nat) :
    ((d.countMac m i k).mac m).counters = bump (d.mac m).counters i k := congrArg Mac.counters (Dev.mac_setMac hm _)

theorem bump_same {xs : List Nat} (hi : i < xs.length) (k : Nat) : (bump xs i k).getD i 0 = (xs.getD i 0 + k) % 2 ^ 64 := upd_getD_same xs i _ 0 hi

theorem bump_ne {xs : List Nat} {j : Nat} (h : i ≠ j) (k : Nat) : (bump xs i k).getD j 0 = xs.getD j 0 := upd_getD_ne xs i j _ 0 h

theorem bump_length (xs : List Nat) (k : Nat) : (bump xs i k).length = xs.length := upd_length _ _ _

theorem Dev.macs_countMac (j k : Nat) : (d.countMac m j k).macs.length = d.macs.length := upd_length _ _ _

/-- One count more. -/
theorem Dev.counts_countMac (hm : m < d.macs.length) (hi : i < (d.mac m).counters.length) (k : Nat) :
    ((d.countMac m i k).mac m).counters.getD i 0 = ((d.mac m).counters.getD i 0 + k) % 2 ^ 64 := by
  rw [Dev.counters_countMac hm, bump_same hi]

/-- Two counts more. -/
theorem Dev.counts_twice {j : Nat} (hm : m < d.macs.length) (hi : i < (d.mac m).counters.length) (hj : j < (d.mac m).counters.length) (hne : i ≠ j)
    (k l : Nat) : (((d.countMac m i k).countMac m j l).mac m).counters.getD i 0 = ((d.mac m).counters.getD i 0 + k) % 2 ^ 64 ∧
      (((d.countMac m i k).countMac m j l).mac m).counters.getD j 0 = ((d.mac m).counters.getD j 0 + l) % 2 ^ 64 := by
  have hm' : m < (d.countMac m i k).macs.length := by rwa [Dev.macs_countMac]
  rw [Dev.counters_countMac hm', Dev.counters_countMac hm]
  exact ⟨by rw [bump_ne hne.symm, bump_same hi], by rw [bump_same (by rwa [bump_length]), bump_ne hne]⟩

end Counters

/-! ## Receipt -/

/-- The part as a frame has ended at a port: nothing is under way there. -/
def Dev.ended (d : Dev) (p : Nat) : Dev := d.setSwc (fun s => { s with rx := upd s.rx p (fun _ => none) })

section Receipt

variable {d : Dev} {m : Nat} {b : List Byte}

/-- The first of four checks that fails gives the counter. -/
theorem firstCheck {α : Type} {c1 c2 c3 c4 : Prop} [Decidable c1] [Decidable c2] [Decidable c3] [Decidable c4] (counted : Nat → α) (good : α) {i : Nat}
    (hi : i = if c1 then 2 else if c2 then 3 else if c3 then 4 else if c4 then 5 else 0) (hbad : i ≠ 0) :
    (if c1 then counted 2 else if c2 then counted 3 else if c3 then counted 4 else if c4 then counted 5 else good) = counted i := by
  subst hi
  split_ifs at hbad ⊢
  exacts [rfl, rfl, rfl, rfl, absurd rfl hbad]

/-- A frame that fails a check counts, and nothing else happens. -/
theorem Dev.frameReceive_bad {err : Bool} {i : Nat} (hup : d.macUp m = true) (hrx : d.swc.rx.getD (d.macPort m) none = none)
    (hi : i = if !fcsGood b then 2 else if err then 3 else if b.length < 64 then 4
      else if (d.cfg.macs.getD m {}).maxFrame < b.length then 5 else 0) (hbad : i ≠ 0) :
    d.frameReceive m b err = ([], (d.ended (d.macPort m)).countMac m i 1) := by
  unfold Dev.frameReceive
  dsimp only
  rw [if_neg (by rw [hup]; simp), hrx]
  dsimp only
  exact firstCheck (fun i => (([] : List HostFrame), (d.ended (d.macPort m)).countMac m i 1)) _ hi hbad

/-- A good frame counts, and goes to the switch. -/
theorem Dev.frameReceive_good (hup : d.macUp m = true) (hrx : d.swc.rx.getD (d.macPort m) none = none) (hfcs : fcsGood b = true) (hlow : 64 ≤ b.length)
    (hhigh : b.length ≤ (d.cfg.macs.getD m {}).maxFrame) (htype : beVal (slice b 12 2) ≠ 0x8808) (hptp : d.ptpTaken m b = false)
    (hring : d.inRing m = false) (hswc : d.swcUp = true) :
    d.frameReceive m b false = ((((d.ended (d.macPort m)).countMac m 0 1).countMac m 1 b.length).setSwc (fun s => { s with ids := s.ids + 1 })).frameIn
      (d.macPort m) { (d.classifyFrame (d.macPort m) b none none) with id := d.swc.ids } b false := by
  have hclass : (((d.ended (d.macPort m)).countMac m 0 1).countMac m 1 b.length).classifyFrame (d.macPort m) b none none =
      d.classifyFrame (d.macPort m) b none none :=
    Dev.classifyFrame_congr (d := d) (by rfl) (by rfl) (by rfl) (by rfl) (fun k => by rw [Dev.expired_countMac, Dev.expired_countMac]; rfl) _ _ _ _
  have hptp' : (((d.ended (d.macPort m)).countMac m 0 1).countMac m 1 b.length).ptpTaken m b = false := hptp
  have hring' : (((d.ended (d.macPort m)).countMac m 0 1).countMac m 1 b.length).inRing m = false := hring
  have hhigh' : ¬ ((d.ended (d.macPort m)).cfg.macs.getD m {}).maxFrame < b.length := Nat.not_lt.mpr hhigh
  unfold Dev.frameReceive
  unfold Dev.ended at hclass hptp' hring' hhigh' ⊢
  dsimp only
  rw [if_neg (by rw [hup]; simp), if_neg (by rw [hfcs]; simp), if_neg (by simp), if_neg (by omega), if_neg hhigh', if_neg (by simpa using htype),
    if_neg (by rw [hptp']; simp), if_neg (by rw [hring']; simp), if_neg (by rw [hswc]; simp), hrx, hclass]
  rfl

end Receipt

end Sys2Proof.Machine
end

section
/-! SUPPORT. A good frame for one port with room, from its MAC to the back of a galley (R309, R312 to R315). -/

namespace Sys2Proof.Machine

/-- No function of a range is ON. -/
theorem Dev.isOn_off {d : Dev} {lo hi fid : Nat} (h : ∀ f ∈ d.funcs, lo ≤ f.fid → f.fid < hi → f.st ≠ 2) (hlo : lo ≤ fid) (hhi : fid < hi) :
    d.isOn fid = false := by
  unfold Dev.isOn Dev.func
  cases hfind : d.funcs.find? (fun x => x.fid == fid) with
  | none => rfl
  | some f =>
    have hfid : f.fid = fid := by simpa using List.find?_some hfind
    simpa using h f (List.mem_of_find?_eq_some hfind) (by omega) (by omega)

theorem Dev.macPort_lt (d : Dev) {m : Nat} (hm : m < 6) : d.macPort m < 6 := by
  unfold Dev.macPort
  cases hfind : (List.range 6).find? (fun p => d.portMac p == m) with
  | none => exact hm
  | some p => exact List.mem_range.mp (List.mem_of_find?_eq_some hfind)

/-- A frame whose one destination is a port goes to no part of the part itself. -/
theorem Dev.classifyFrame_port {d : Dev} {p o : Nat} {b : List Byte} {forced mask : Option Nat} (ho : o < 6)
    (hdropped : (d.classifyFrame p b forced mask).dropped = false) (hdests : (d.classifyFrame p b forced mask).dests = 2 ^ o) :
    (d.classifyFrame p b forced mask).toLe = none ∧ (d.classifyFrame p b forced mask).toRing = none ∧
      (d.classifyFrame p b forced mask).toHost = false := by
  have hshape {bad : Bool} {rx : RxFrame} {n : Nat} {le ring : Option Nat} {r : RxFrame}
      (hr : (if bad = true then { rx with dropped := true } else { rx with
        dests := n, toLe := if bit n 6 then le else none, toRing := if bit n 7 then ring else none, toHost := bit n 7 && ring.isNone } : RxFrame) = r)
      (hdropped : r.dropped = false) (hdests : r.dests = 2 ^ o) : r.toLe = none ∧ r.toRing = none ∧ r.toHost = false := by
    subst hr
    cases bad with
    | true => simp at hdropped
    | false =>
      simp only [Bool.false_eq_true, if_false] at hdests ⊢
      have h6 : bit n 6 = false := by rw [hdests, bit_two_pow]; simpa using (by omega : o ≠ 6)
      have h7 : bit n 7 = false := by rw [hdests, bit_two_pow]; simpa using (by omega : o ≠ 7)
      simp [h6, h7]
  exact hshape (by unfold Dev.classifyFrame; rfl) hdropped hdests

theorem Dev.countMac_beside (d : Dev) (m i k j l : Nat) : ((d.countMac m i k).countMac m j l).cfg = d.cfg ∧
    ((d.countMac m i k).countMac m j l).funcs = d.funcs ∧ ((d.countMac m i k).countMac m j l).hst = d.hst ∧
    ((d.countMac m i k).countMac m j l).swc = d.swc := ⟨rfl, rfl, rfl, rfl⟩

theorem Dev.freeSlugs_congr {d e : Dev} (hcfg : e.cfg = d.cfg) (hframes : e.swc.frames = d.swc.frames) (hdraining : e.swc.draining = d.swc.draining) :
    e.freeSlugs = d.freeSlugs := by
  have hbank : e.bankUp = d.bankUp := by funext k; rw [Dev.bankUp, Dev.bankUp, hcfg, hdraining]
  have hused : e.swc.bankUsed = d.swc.bankUsed := by funext k; rw [Swc.bankUsed, Swc.bankUsed, hframes]
  rw [Dev.freeSlugs, Dev.freeSlugs, hbank, hused]

theorem Dev.tooLong_congr {d e : Dev} (hcfg : e.cfg = d.cfg) : e.tooLong = d.tooLong := by
  have hvlan : e.vlan = d.vlan := by funext v; rw [Dev.vlan, Dev.vlan, hcfg]
  have hbytes : e.egressBytes = d.egressBytes := by funext q c v x; rw [Dev.egressBytes, Dev.egressBytes, hvlan]
  funext q c v x
  rw [Dev.tooLong, Dev.tooLong, Dev.portMac, Dev.portMac, hbytes, hcfg]

/-- A frame that the switch takes in for one port, with room there. -/
theorem Dev.frameIn_one {d : Dev} {p o : Nat} {b : List Byte} {rx : RxFrame} (ho : o < 6) (hdropped : rx.dropped = false) (hcls : rx.cls < 7)
    (hdests : rx.dests = 2 ^ o) (hle : rx.toLe = none) (hring : rx.toRing = none) (hhost : rx.toHost = false)
    (hids : ∀ f ∈ d.swc.frames, f.id ≠ rx.id) (hfree : slugsFor b.length ≤ d.freeSlugs) (hport : (d.cfg.ports.getD p {}).limit = 0)
    (hgal : (d.swc.gal.getD (o * 8 + rx.cls) {}).limit = 0) (hlong : d.tooLong o rx.cls rx.vid b = false) (hgalleys : d.swc.galleys.length = 64)
    (hmirrors : ∀ k, k < 4 → d.isOn (0x0700 + k) = false) (hproofs : d.isOn (0x0800 + p) = false) :
    ∃ e, d.frameIn p rx b false = ([], e) ∧ d.Lines e ∧ e.hst = d.hst ∧
      e.swc.galley (o * 8 + rx.cls) = d.swc.galley (o * 8 + rx.cls) ++ [{ no := d.swc.ids, frame := rx.id }] ∧
      (e.swc.frame rx.id).bytes = b ∧ (e.swc.frame rx.id).ing = p := by
  have hports : (rx.dests &&& 0x3F) ≠ 0 := by
    rw [hdests]
    interval_cases o <;> decide
  have hin := Dev.galleyIn_one (d := d) (p := p) ho (rx := { rx with head := b }) hdests hfree hport hgal hlong hmirrors
  have hleaves := Dev.galleyed_leaves (d := d) (p := p) (o := o) (rx := { rx with head := b }) (bytes := b)
    (by dsimp only; omega) hids rfl
  exact ⟨_, Dev.frameIn_galley hdropped hcls hports hle hring hhost hin hproofs false, hleaves⟩

/-- A good frame for one port with room. -/
theorem Dev.frameRow_good {d : Dev} {m o : Nat} {b : List Byte} (hm : m < 6) (hmacs : m < d.macs.length) (hout : (d.port 3).out = [])
    (hcounters : (d.mac m).counters.length = 14) (hup : d.macUp m = true) (hrx : d.swc.rx.getD (d.macPort m) none = none) (ho : o < 6)
    (hfcs : fcsGood b = true) (hlow : 64 ≤ b.length) (hhigh : b.length ≤ (d.cfg.macs.getD m {}).maxFrame) (htype : beVal (slice b 12 2) ≠ 0x8808)
    (hptp : d.ptpTaken m b = false) (hring : d.inRing m = false) (hswc : d.swcUp = true) {r : RxFrame}
    (hr : d.classifyFrame (d.macPort m) b none none = r) (hdropped : r.dropped = false) (hcls : r.cls < 7) (hdests : r.dests = 2 ^ o)
    (hids : ∀ f ∈ d.swc.frames, f.id < d.swc.ids) (hfree : slugsFor b.length ≤ d.freeSlugs) (hport : (d.cfg.ports.getD (d.macPort m) {}).limit = 0)
    (hgal : (d.swc.gal.getD (o * 8 + r.cls) {}).limit = 0) (hlong : d.tooLong o r.cls r.vid b = false) (hgalleys : d.swc.galleys.length = 64)
    (hoff : ∀ f ∈ d.funcs, 0x0700 ≤ f.fid → f.fid < 0x0900 → f.st ≠ 2) : ∃ e, Dev.frameRow m b false d = e ∧
      (e.mac m).counters.getD 0 0 = ((d.mac m).counters.getD 0 0 + 1) % 2 ^ 64 ∧
      (e.mac m).counters.getD 1 0 = ((d.mac m).counters.getD 1 0 + b.length) % 2 ^ 64 ∧
      ∃ x, e.swc.galley (o * 8 + r.cls) = d.swc.galley (o * 8 + r.cls) ++ [x] ∧ x.mirror = none ∧ (e.swc.frame x.frame).bytes = b ∧
        (e.swc.frame x.frame).ing = d.macPort m := by
  obtain ⟨hle, htoring, hhost⟩ := Dev.classifyFrame_port (d := d) (p := d.macPort m) (b := b) (forced := none) (mask := none) ho
    (by rw [hr]; exact hdropped) (by rw [hr]; exact hdests)
  rw [hr] at hle htoring hhost
  have hreceive := Dev.frameReceive_good hup hrx hfcs hlow hhigh htype hptp hring hswc
  rw [hr] at hreceive
  have hlength : ((d.ended (d.macPort m)).mac m).counters.length = 14 := hcounters
  have hcounted := Dev.counts_twice (d := d.ended (d.macPort m)) (m := m) (i := 0) (j := 1) hmacs (by omega) (by omega) (by decide) 1 b.length
  have hp := d.macPort_lt hm
  generalize hE : (((d.ended (d.macPort m)).countMac m 0 1).countMac m 1 b.length).setSwc (fun s => { s with ids := s.ids + 1 }) = E at hreceive
  have hEcounters : (E.mac m).counters = ((((d.ended (d.macPort m)).countMac m 0 1).countMac m 1 b.length).mac m).counters := by rw [← hE]; rfl
  rw [← hEcounters] at hcounted
  obtain ⟨hCcfg, hCfuncs, hChst, hCswc⟩ := (d.ended (d.macPort m)).countMac_beside m 0 1 1 b.length
  generalize ((d.ended (d.macPort m)).countMac m 0 1).countMac m 1 b.length = C at hE hCcfg hCfuncs hChst hCswc hEcounters
  subst hE
  generalize hE : C.setSwc (fun s => { s with ids := s.ids + 1 }) = E at hreceive hEcounters hcounted
  have hcfg : E.cfg = d.cfg := by rw [← hE]; exact hCcfg
  have hfuncs : E.funcs = d.funcs := by rw [← hE]; exact hCfuncs
  have hhst : E.hst = d.hst := by rw [← hE]; exact hChst
  have hswc' : E.swc = { d.swc with rx := upd d.swc.rx (d.macPort m) (fun _ => none), ids := d.swc.ids + 1 } := by
    rw [← hE, Dev.setSwc]
    dsimp only
    rw [hCswc]
    rfl
  have hframes : E.swc.frames = d.swc.frames := by rw [hswc']
  have hgaldefs : E.swc.gal = d.swc.gal := by rw [hswc']
  have hEgalleys : E.swc.galleys = d.swc.galleys := by rw [hswc']
  have hdraining : E.swc.draining = d.swc.draining := by rw [hswc']
  have hfreeE : E.freeSlugs = d.freeSlugs := Dev.freeSlugs_congr hcfg hframes hdraining
  have hlongE : E.tooLong = d.tooLong := Dev.tooLong_congr hcfg
  have hisOn : E.isOn = d.isOn := by funext f; rw [Dev.isOn, Dev.isOn, Dev.func, Dev.func, hfuncs]
  clear hE
  obtain ⟨e, hin, hlines, hehst, hjoined, hfbytes, hing⟩ := Dev.frameIn_one (d := E) (p := d.macPort m) (b := b) (rx := { r with id := d.swc.ids }) ho
    hdropped hcls hdests hle htoring hhost (by rw [hframes]; exact fun f hf => Nat.ne_of_lt (hids f hf)) (by rwa [hfreeE]) (by rwa [hcfg])
    (by rwa [hgaldefs]) (by rwa [hlongE]) (by rwa [hEgalleys])
    (fun k hk => by rw [hisOn]; exact Dev.isOn_off hoff (by omega) (by omega)) (by rw [hisOn]; exact Dev.isOn_off hoff (by omega) (by omega))
  have hcount := (hlines.parts m).2.1
  refine ⟨e, Dev.frameRow_eq hm (hreceive.trans hin) ?_, ?_, ?_, { no := E.swc.ids, frame := d.swc.ids }, hjoined.trans ?_, rfl, hfbytes, hing⟩
  · rw [Dev.port, hehst, hhst]
    exact hout
  · rw [hcount]
    exact hcounted.1
  · rw [hcount]
    exact hcounted.2
  · rw [Swc.galley, Swc.galley, hEgalleys]

end Sys2Proof.Machine
end

section
/-! SUPPORT. A classification in advance, an egress MAC that is free, pause frames, and the times of a MAC and of the address table (R309, R322,
R327, R346 to R350). -/

namespace Sys2Proof.Machine

section Rows

variable {d : Dev} {m : Nat} {b : List Byte}

/-! ## The class of a frame before its end (R309) -/

theorem Dev.classificationPoint_sets (hup : d.macUp m = true) (hswc : d.swcUp = true) (htype : frType b ≠ 0x8808) (hring : d.inRing m = false)
    (hptp : d.ptpTaken m b = false) (hswitch : d.swc.switchover = none) (hcls : (d.classifyFrame (d.macPort m) b none none).cls < 7)
    (hp : d.macPort m < d.swc.rx.length) : (d.classificationPoint m b).swc.rx.getD (d.macPort m) none =
      some { (d.classifyFrame (d.macPort m) b none none) with id := d.swc.ids } := by
  have hbegin : d.beginLookup = d := by rw [Dev.beginLookup, hswitch]
  have hopen : d.classificationPoint m b = d.classifyAt (d.macPort m) b := if_neg (by simp [hup, hswc, htype, hring, hptp])
  rw [hopen, Dev.classifyAt]
  dsimp only
  rw [hbegin, if_neg (by simpa using fun h => absurd h (Nat.ne_of_lt hcls))]
  exact upd_getD_same d.swc.rx _ _ none hp

/-! ## A free egress MAC (R322, R348) -/

theorem Dev.egress_pause (hup : d.macUp m = true) (hisland : d.islandUp 0x08 = true) (htx : (d.mac m).tx = none) {q : Nat}
    (hpend : (d.mac m).pausePend = some q) : d.egress m = (d.setMac m (fun x => { x with pausePend := none, lastPause := d.tick })).startTx m
      { kind := 2, bytes := d.pauseFrame m q } := by
  unfold Dev.egress
  dsimp only
  rw [if_neg (by simp [hup, hisland, htx]), hpend]

theorem Dev.dropOverlong_ungated {p c : Nat} (h : (d.swc.gal.getD (p * 8 + c) {}).gated = false) (k : Nat) : d.dropOverlong p c k = d := by
  cases k with
  | zero => rfl
  | succ k =>
    rw [Dev.dropOverlong]
    split
    · exact if_pos (by rw [h]; rfl)
    · rfl

theorem Dev.dropOverlong_all {p : Nat} (h : ∀ k, k < 8 → (d.swc.gal.getD (p * 8 + k) {}).gated = false) :
    forN 8 d (fun d c => d.dropOverlong p c 64) = d := by
  unfold forN
  have hks : ∀ k ∈ List.range 8, k < 8 := fun k => List.mem_range.mp
  generalize List.range 8 = ks at hks
  induction ks with
  | nil => rfl
  | cons k ks ih =>
    rw [List.foldl_cons, Dev.dropOverlong_ungated (h k (hks k List.mem_cons_self))]
    exact ih fun j hj => hks j (List.mem_cons_of_mem _ hj)

theorem Dev.eligible_empty {p c : Nat} (h : d.swc.galley (p * 8 + c) = []) : d.eligible p c = none := by
  rw [Dev.eligible, h]

/-- The head of an ungated galley may leave, unless a hold keeps its class. -/
theorem Dev.eligible_head {p c : Nat} {e : GEnt} {rest : List GEnt} (h : d.swc.galley (p * 8 + c) = e :: rest)
    (hungated : (d.swc.gal.getD (p * 8 + c) {}).gated = false) (hheld : c = 7 ∨ d.held (d.portMac p) = false) : ∃ x, d.eligible p c = some (e, x) := by
  have hgate (stop : Nat) : d.gateOpen p c stop = true := if_pos (by rw [hungated]; rfl)
  rw [Dev.eligible, h]
  dsimp only
  rw [if_pos (by rw [hgate]; rcases hheld with rfl | hheld <;> simp [*])]
  exact ⟨_, rfl⟩

/-- Of the galleys from the highest down, the first that may send. -/
theorem findSome_highest {α : Type} {f : Nat → Option α} {c : Nat} {x : α} (hc : c < 8) (hx : f c = some x) (habove : ∀ k, c < k → k < 8 → f k = none) :
    ((List.range 8).map (fun k => 7 - k)).findSome? f = some x := by
  have hlist : (List.range 8).map (fun k => 7 - k) = [7, 6, 5, 4, 3, 2, 1, 0] := by decide
  rw [hlist]
  interval_cases c <;> simp [hx, habove]

theorem Dev.egress_galley {p c : Nat} {e : GEnt} {rest : List GEnt} (hup : d.macUp m = true) (hisland : d.islandUp 0x08 = true)
    (htx : (d.mac m).tx = none) (hpend : (d.mac m).pausePend = none) (hp : d.macPort m = p) (hexpress : d.expressNext p = none) (hc : c < 8)
    (hgal : ∀ k, k < 8 → (d.swc.gal.getD (p * 8 + k) {}).gated = false ∧ (d.swc.gal.getD (p * 8 + k) {}).sched = 0) (hmac : d.portMac p = m)
    (hheld : c = 7 ∨ d.held m = false) (hhead : d.swc.galley (p * 8 + c) = e :: rest)
    (habove : ∀ k, c < k → k < 8 → d.swc.galley (p * 8 + k) = []) : ∃ x, d.egress m = d.sendGalley p c e x := by
  obtain ⟨x, hx⟩ := Dev.eligible_head hhead (hgal c hc).1 (by rwa [hmac])
  have hpick := findSome_highest (f := fun c => if ((d.swc.gal.getD (p * 8 + c) {}).sched == 0) = true then
    (d.eligible p c).map (fun x => (c, x)) else none) hc (x := (c, e, x)) (by rw [if_pos (by rw [(hgal c hc).2]; rfl), hx]; rfl)
    (fun k hk hk8 => by rw [Dev.eligible_empty (habove k hk hk8)]; exact ite_self _)
  refine ⟨x, ?_⟩
  unfold Dev.egress
  dsimp only
  rw [if_neg (by simp [hup, hisland, htx]), hpend, hp]
  dsimp only
  rw [hexpress]
  dsimp only
  rw [Dev.dropOverlong_all fun k hk => (hgal k hk).1, hpick]

/-- A galley that sends gives up its head, which is under way. -/
theorem Dev.sendGalley_leaves {p c : Nat} {e : GEnt} {rest : List GEnt} {x : List Byte} (hm : m < d.macs.length) (hmac : d.portMac p = m)
    (hhead : d.swc.galley (p * 8 + c) = e :: rest) : (d.sendGalley p c e x).swc.galley (p * 8 + c) = rest ∧
      ((d.sendGalley p c e x).mac m).tx.map (fun y => (y.kind, y.frame, y.cls, y.start)) = some (0, e.frame, c, d.tick) := by
  have hpast : p * 8 + c < d.swc.galleys.length := by
    by_contra hpast
    rw [Swc.galley, List.getD_eq_default _ _ (by omega)] at hhead
    simp at hhead
  unfold Dev.sendGalley
  dsimp only
  rw [hmac]
  constructor
  · have hleft := Swc.galley_setGalley (s := d.swc) hpast (fun q => q.drop 1)
    rw [hhead] at hleft
    exact hleft
  · generalize hE : d.setSwc (fun s => s.setGalley (p * 8 + c) (fun q => q.drop 1)) = E
    have hmE : m < E.macs.length := by rw [← hE]; exact hm
    have htick : E.tick = d.tick := by rw [← hE]; rfl
    rw [Dev.startTx, Dev.mac_setMac hmE, htick]
    rfl

/-! ## Pause frames and holds (R350) -/

/-- A MAC whose time on hold is counted up to `tick`. -/
def Mac.accounted (tick : Nat) (x : Mac) : Mac :=
  match x.holdTo with
  | some t => { x with heldNs := x.heldNs + (min tick t - x.holdFrom), holdFrom := max x.holdFrom (min tick t),
                       counters := upd x.counters 13 (fun _ => (x.heldNs + (min tick t - x.holdFrom)) / 1000) }
  | none => x

theorem Dev.accountHold_eq (d : Dev) (m : Nat) : d.accountHold m = d.setMac m (Mac.accounted d.tick) := rfl

theorem Mac.counters_accounted (tick : Nat) (x : Mac) : (x.accounted tick).counters.length = x.counters.length ∧
    ∀ i, i ≠ 13 → (x.accounted tick).counters.getD i 0 = x.counters.getD i 0 := by
  unfold Mac.accounted
  split
  · exact ⟨upd_length _ _ _, fun i hi => upd_getD_ne _ _ _ _ _ hi.symm⟩
  · exact ⟨rfl, fun _ _ => rfl⟩

theorem Dev.counters_accountHold (d : Dev) (m k : Nat) : ((d.accountHold m).mac k).counters.length = (d.mac k).counters.length ∧
    ∀ i, i ≠ 13 → ((d.accountHold m).mac k).counters.getD i 0 = (d.mac k).counters.getD i 0 := by
  rw [Dev.accountHold_eq]
  rcases d.mac_setMac_or m (Mac.accounted d.tick) k with h | h <;> rw [h]
  exacts [⟨rfl, fun _ _ => rfl⟩, Mac.counters_accounted _ _]

/-- A pause frame is a control frame: its type stands where a tag would. -/
theorem frType_pause (h : beVal (slice b 12 2) = 0x8808) : frType b = 0x8808 := by
  have htag : frTag b = none := by
    unfold frTag
    rw [h]
    rfl
  rw [frType, htag]
  exact h

theorem Dev.pauseRow_holds (hm : m < 6) (hmacs : m < d.macs.length) (hout : (d.port 3).out = []) (hcounters : (d.mac m).counters.length = 14)
    (hup : d.macUp m = true) (hfcs : fcsGood b = true) (hlength : b.length = 64) (hmax : 64 ≤ (d.cfg.macs.getD m {}).maxFrame) (hda : frDa b = pauseDa)
    (htype : beVal (slice b 12 2) = 0x8808) (hop : beVal (slice b 14 2) = 1) (hflag : bit (d.cfg.macs.getD m {}).flags 1 = true) :
    ∃ e, Dev.pauseRow m b d = e ∧ (e.mac m).counters.getD 6 0 = ((d.mac m).counters.getD 6 0 + 1) % 2 ^ 64 ∧
      (e.mac m).holdTo = if beVal (slice b 16 2) = 0 then none else some (d.tick + beVal (slice b 16 2) * 512 * d.bitNs m) := by
  have hmax' : ¬ ((d.ended (d.macPort m)).cfg.macs.getD m {}).maxFrame < b.length := by rw [hlength]; exact Nat.not_lt.mpr hmax
  have hreceive : d.frameReceive m b false = ([], (d.ended (d.macPort m)).macControl m b) := by
    unfold Dev.frameReceive
    unfold Dev.ended at hmax' ⊢
    dsimp only
    rw [if_neg (by rw [hup]; simp), if_neg (by rw [hfcs]; simp), if_neg (by simp), if_neg (by omega), if_neg hmax', if_pos (by simpa using htype)]
  have hhst : ((d.ended (d.macPort m)).macControl m b).hst = d.hst := by
    unfold Dev.macControl
    dsimp only
    split <;> rfl
  have hopen : Dev.pauseRow m b d = (d.ended (d.macPort m)).macControl m b :=
    (if_pos (by rw [frType_pause htype]; rfl)).trans (Dev.frameRow_eq hm hreceive (by rw [Dev.port, hhst]; exact hout))
  refine ⟨_, hopen, ?_⟩
  have hE : (d.ended (d.macPort m)).mac = d.mac ∧ (d.ended (d.macPort m)).macs = d.macs ∧ (d.ended (d.macPort m)).cfg = d.cfg ∧
    (d.ended (d.macPort m)).tick = d.tick := ⟨rfl, rfl, rfl, rfl⟩
  generalize d.ended (d.macPort m) = E at hE
  obtain ⟨hmac, hmacsE, hcfg, htick⟩ := hE
  unfold Dev.macControl
  dsimp only
  rw [hcfg, if_pos (by rw [hflag, hda, hop, hlength]; rfl)]
  obtain ⟨hsize, hkept⟩ := E.counters_accountHold m m
  have haccount : (E.accountHold m).macs.length = d.macs.length := (upd_length _ _ _).trans (by rw [hmacsE])
  have htickA : ((E.accountHold m).countMac m 6 1).tick = d.tick := htick
  have hcfgA : ((E.accountHold m).countMac m 6 1).cfg = d.cfg := hcfg
  have hcounted := Dev.counts_countMac (d := E.accountHold m) (m := m) (i := 6) (by rwa [haccount]) (by rw [hsize, hmac, hcounters]; decide) 1
  have hmA : m < ((E.accountHold m).countMac m 6 1).macs.length := by rwa [Dev.macs_countMac, haccount]
  rw [hkept 6 (by decide), hmac] at hcounted
  generalize (E.accountHold m).countMac m 6 1 = A at htickA hcfgA hcounted hmA
  rw [Dev.mac_setMac hmA]
  refine ⟨hcounted, ?_⟩
  have hbit : A.bitNs m = d.bitNs m := by rw [Dev.bitNs, Dev.bitNs, Dev.byteNs, Dev.byteNs, hcfgA]
  simp only [htickA, hbit, beq_iff_eq]

theorem Dev.pauseHoldEnd_frees (hm : m < d.macs.length) {v : Nat} (h : (d.mac m).holdTo = some v) :
    ((d.pauseHoldEnd m).mac m).holdTo = none ∧ (d.pauseHoldEnd m).tick = max d.tick v := by
  rw [Dev.pauseHoldEnd, h]
  exact ⟨congrArg Mac.holdTo (Dev.mac_setMac (d := (d.advanceTo v).accountHold m) ((upd_length _ _ _).symm ▸ hm) _), rfl⟩

theorem Dev.pauseRefresh_sets (hm : m < d.macs.length) (hasserted : (d.mac m).asserted = true) (hup : d.macUp m = true)
    (hpend : (d.mac m).pausePend = none) : ((d.pauseRefresh m).mac m).pausePend = some 0xFFFF ∧
      (d.pauseRefresh m).tick = max d.tick ((d.mac m).lastPause + 32768 * 512 * d.byteNs m / 8) := by
  rw [Dev.pauseRefresh]
  dsimp only
  rw [if_pos (by simp [hasserted, hup, hpend])]
  exact ⟨congrArg Mac.pausePend (Dev.mac_setMac (d := d.advanceTo ((d.mac m).lastPause + 32768 * 512 * d.byteNs m / 8)) hm _), rfl⟩

end Rows

end Sys2Proof.Machine
end

section
/-! SUPPORT. A frame that has left its MAC, the link-down hold, the age of an address, and a pipe that is loaded again (R322, R325, R327, R345, R347). -/

namespace Sys2Proof.Machine

/-! ## A frame that has left (R322, R345) -/

section Follow

variable (d : Dev)

theorem Dev.lines_injectTo (m cls : Nat) (bytes : List Byte) : d.Lines (d.injectTo m cls bytes).2 := by
  unfold Dev.injectTo
  extract_lets p id rx e
  split
  · exact (Dev.lines_discard _ 1).after (d.lines_setSwc _)
  · exact (e.lines_frameIn 7 rx bytes false).after (d.lines_setSwc _)

theorem Dev.keeps_injectTo (m cls : Nat) (bytes : List Byte) : d.Keeps (d.injectTo m cls bytes).2 := by
  unfold Dev.injectTo
  extract_lets p id rx e
  split
  · exact (Dev.keeps_discard _ 1).after (d.keeps_setSwc _)
  · exact (e.keeps_frameIn 7 rx bytes false).after (d.keeps_setSwc _)

/-- A relation that holds of a frame sent to one MAC, and of no change, holds of a PTP message sent. -/
theorem Dev.ptpSend_relates {R : Dev → Dev → Prop} (hrefl : R d d) (hinject : ∀ m cls bytes, R d (d.injectTo m cls bytes).2) (m : Nat)
    (event peer : Bool) (msg : List Byte) : R d (d.ptpSend m event peer msg) := by
  unfold Dev.ptpSend
  extract_lets eth
  split
  · split
    exacts [hrefl, hinject _ _ _]
  · exact hinject _ _ _

/-- So does it of the message that follows one. -/
theorem Dev.ptpFollowUp_relates {R : Dev → Dev → Prop} (hrefl : R d d) (hinject : ∀ m cls bytes, R d (d.injectTo m cls bytes).2) (m ing sfd : Nat)
    (b : List Byte) : R d (d.ptpFollowUp m ing sfd b) := by
  unfold Dev.ptpFollowUp
  split
  · exact hrefl
  · extract_lets ty seq t
    split
    · exact hrefl
    split
    · exact d.ptpSend_relates hrefl hinject _ _ _ _
    split
    exacts [d.ptpSend_relates hrefl hinject _ _ _ _, hrefl]

theorem Dev.lines_ptpFollowUp (m ing sfd : Nat) (b : List Byte) : d.Lines (d.ptpFollowUp m ing sfd b) :=
  d.ptpFollowUp_relates (.refl d) d.lines_injectTo m ing sfd b

theorem Dev.keeps_ptpFollowUp (m ing sfd : Nat) (b : List Byte) : d.Keeps (d.ptpFollowUp m ing sfd b) :=
  d.ptpFollowUp_relates (.refl d) d.keeps_injectTo m ing sfd b

end Follow

section Rows

variable {d : Dev} {m : Nat}

/-- What a frame that has left counts, and how the MAC is then. -/
theorem Dev.frameTransmitted_leaves (hm : m < d.macs.length) (hcounters : (d.mac m).counters.length = 14) (hup : d.macUp m = true) {y : TxFrame}
    (htx : (d.mac m).tx = some y) (hkind : y.kind = 0) (haborted : y.aborted = false) (hmirror : y.mirror = none) :
    ((d.frameTransmitted m).mac m).tx = none ∧ ((d.frameTransmitted m).mac m).sent = y.bytes ∧
      ((d.frameTransmitted m).mac m).counters.getD 8 0 = ((d.mac m).counters.getD 8 0 + 1) % 2 ^ 64 ∧
      ((d.frameTransmitted m).mac m).counters.getD 9 0 = ((d.mac m).counters.getD 9 0 + y.bytes.length) % 2 ^ 64 ∧
      (d.frameTransmitted m).tick = max d.tick (y.start + (8 + y.bytes.length) * d.byteNs m) := by
  let e := (d.advanceTo (y.start + d.wireNs m y.bytes.length)).setMac m (fun x => { x with tx := none, sent := y.bytes })
  let c := (e.countMac m 8 1).countMac m 9 y.bytes.length
  have hmac : e.mac m = { d.mac m with tx := none, sent := y.bytes } := Dev.mac_setMac (d := d.advanceTo _) hm _
  have hmacs : e.macs.length = d.macs.length := upd_length _ _ _
  have hcounted := Dev.counts_twice (d := e) (m := m) (i := 8) (j := 9) (by rwa [hmacs]) (by rw [hmac]; dsimp only; omega) (by rw [hmac]; dsimp only; omega)
    (by decide) 1 y.bytes.length
  have hcmac : c.mac m = { d.mac m with tx := none, sent := y.bytes, counters := bump (bump (d.mac m).counters 8 1) 9 y.bytes.length } := by
    rw [show c.mac m = _ from Dev.mac_setMac (d := e.countMac m 8 1) (by rwa [Dev.macs_countMac, hmacs]) _,
      show (e.countMac m 8 1).mac m = _ from Dev.mac_setMac (d := e) (by rwa [hmacs]) _, hmac]
  have hctick : c.tick = max d.tick (y.start + (8 + y.bytes.length) * d.byteNs m) := rfl
  rw [hmac] at hcounted
  obtain ⟨f, hopen, hlines, hkeeps⟩ : ∃ f, d.frameTransmitted m = f ∧ c.Lines f ∧ c.Keeps f := by
    refine ⟨_, rfl, ?_⟩
    have hrest (x : Dev) (p : Nat) (cls : Nat) (held : Option Nat) (ing vid stamp from_ sfd : Nat) :
        x.Lines (((((x.countFwd p cls).mirrorAt true p y.bytes held cls ing vid stamp).proof true p y.bytes cls from_ sfd false).collect).pauseAll) ∧
        x.Keeps (((((x.countFwd p cls).mirrorAt true p y.bytes held cls ing vid stamp).proof true p y.bytes cls from_ sfd false).collect).pauseAll) :=
      ⟨(Dev.lines_pauseAll _).after ((Dev.lines_collect _).after ((Dev.lines_proof _ _ _ _ _ _ _ _).after ((Dev.lines_mirrorAt _ _ _ _ _ _ _ _ _).after
          (x.lines_countFwd _ _)))),
        (Dev.keeps_pauseAll _).after ((Dev.keeps_collect _).after ((Dev.keeps_proof _ _ _ _ _ _ _ _).after ((Dev.keeps_mirrorAt _ _ _ _ _ _ _ _ _).after
          (x.keeps_countFwd _ _))))⟩
    unfold Dev.frameTransmitted
    dsimp only
    rw [htx]
    dsimp only
    rw [if_neg (by rw [hup]; simp), if_neg (by rw [hkind]; decide), if_neg (by rw [haborted]; decide), if_neg (by rw [hkind]; decide), hmirror]
    exact hrest c _ _ _ _ _ _ _ _
  rw [hopen]
  obtain ⟨hsent, hcount, -⟩ := hlines.parts m
  refine ⟨hlines.idle m (by rw [hcmac]), hsent.trans (by rw [hcmac]), ?_, ?_, hkeeps.tick.trans hctick⟩
  · rw [hcount]
    exact hcounted.1
  · rw [hcount]
    exact hcounted.2

theorem Dev.sentRow_leaves (hm6 : m < 6) (hm : m < d.macs.length) (hcounters : (d.mac m).counters.length = 14) (hup : d.macUp m = true) {y : TxFrame}
    (htx : (d.mac m).tx = some y) (hkind : y.kind = 0) (haborted : y.aborted = false) (hmirror : y.mirror = none) :
    ((Dev.sentRow m d).mac m).tx = none ∧ ((Dev.sentRow m d).mac m).sent = y.bytes ∧
      ((Dev.sentRow m d).mac m).counters.getD 8 0 = ((d.mac m).counters.getD 8 0 + 1) % 2 ^ 64 ∧
      ((Dev.sentRow m d).mac m).counters.getD 9 0 = ((d.mac m).counters.getD 9 0 + y.bytes.length) % 2 ^ 64 ∧
      (Dev.sentRow m d).tick = max d.tick (y.start + (8 + y.bytes.length) * d.byteNs m) := by
  obtain ⟨hidle, hsent, hpackets, hbytes, htick⟩ := Dev.frameTransmitted_leaves hm hcounters hup htx hkind haborted hmirror
  have hrow : Dev.sentRow m d = (((d.frameTransmitted m).ptpFollowUp m y.ing (y.start + 8 * d.byteNs m) y.bytes)).udpOut := by
    refine (if_neg (by omega)).trans (congrArg Dev.udpOut ?_)
    unfold Dev.frameSent
    rw [htx]
    exact if_neg (by rw [hidle, hkind, haborted, hmirror]; decide)
  rw [hrow]
  generalize d.frameTransmitted m = e at *
  have hlines : e.Lines (e.ptpFollowUp m y.ing (y.start + 8 * d.byteNs m) y.bytes).udpOut := (Dev.lines_udpOut _).after (e.lines_ptpFollowUp _ _ _ _)
  have hkeeps : e.Keeps (e.ptpFollowUp m y.ing (y.start + 8 * d.byteNs m) y.bytes).udpOut := (Dev.keeps_udpOut _).after (e.keeps_ptpFollowUp _ _ _ _)
  obtain ⟨hsent', hcount, -⟩ := hlines.parts m
  exact ⟨hlines.idle m hidle, hsent'.trans hsent, hcount ▸ hpackets, hcount ▸ hbytes, hkeeps.tick.trans htick⟩

/-! ## The link-down hold (R347) -/

/-- The galleys that are empty in `d` are empty in `e`. -/
def Dev.Drained (d e : Dev) : Prop := ∀ g, d.swc.galley g = [] → e.swc.galley g = []

theorem Dev.drained_of_galleys {d e : Dev} (h : e.swc.galleys = d.swc.galleys) : d.Drained e := fun g hg => by rwa [Swc.galley, h]

theorem Dev.drained_forEach {α : Type} {f : Dev → α → Dev} (h : ∀ (d : Dev) x, (f d x).swc.galleys = d.swc.galleys) (xs : List α) (d : Dev) :
    (forEach xs d f).swc.galleys = d.swc.galleys := foldl_keeps (fun d : Dev => d.swc.galleys) f h xs d

/-- The frames of a galley leave it unsent. -/
def Dev.emptyGalley (p : Nat) (d : Dev) (c : Nat) : Dev :=
  forEach (d.swc.galley (p * 8 + c)) (d.setSwc (fun s => s.setGalley (p * 8 + c) (fun _ => []))) (fun d e =>
    match e.mirror with
    | some k => d.setSwc (fun s => { s with mirrors := upd s.mirrors k (fun x => { x with dropped := x.dropped + 1 }) })
    | none => d.countFull p c)

/-- The express frames of a port leave it unsent. -/
def Dev.emptyExpress (p : Nat) (d : Dev) (i : Nat) : Dev :=
  forEach (d.swc.xps.getD (i * 8 + p) []) (d.setSwc (fun s => { s with xps := upd s.xps (i * 8 + p) (fun _ => []) })) (fun d _ => d.countFull p 7)

theorem Dev.galleys_emptyGalley (p : Nat) (d : Dev) (c : Nat) :
    (Dev.emptyGalley p d c).swc.galleys = upd d.swc.galleys (p * 8 + c) (fun _ => []) := by
  unfold Dev.emptyGalley
  refine Dev.drained_forEach (fun d e => ?_) _ _
  split <;> rfl

theorem Dev.emptyGalley_empties (p : Nat) (d : Dev) (c : Nat) : (Dev.emptyGalley p d c).swc.galley (p * 8 + c) = [] := by
  rw [Swc.galley, Dev.galleys_emptyGalley]
  by_cases h : p * 8 + c < d.swc.galleys.length
  · exact upd_getD_same _ _ _ _ h
  · exact List.getD_eq_default _ _ (by rw [upd_length]; omega)

theorem Dev.drained_emptyGalley (p : Nat) (d : Dev) (c : Nat) : d.Drained (Dev.emptyGalley p d c) := fun g hg => by
  by_cases h : p * 8 + c = g
  · rw [← h]
    exact Dev.emptyGalley_empties p d c
  · rw [Swc.galley, Dev.galleys_emptyGalley, upd_getD_ne _ _ _ _ _ h]
    exact hg

theorem Dev.drained_emptyExpress (p : Nat) (d : Dev) (i : Nat) : d.Drained (Dev.emptyExpress p d i) :=
  Dev.drained_of_galleys (Dev.drained_forEach (f := fun d _ => d.countFull p 7) (fun _ _ => rfl) _ _)

theorem Dev.drained_forN {f : Dev → Nat → Dev} (h : ∀ (d : Dev) i, d.Drained (f d i)) (n : Nat) (d : Dev) : d.Drained (forN n d f) :=
  foldl_relates (R := Dev.Drained) (fun _ _ hg => hg) (fun h h' g hg => h' g (h g hg)) h _ d

theorem Dev.emptyGalleys_empty (p n : Nat) (d : Dev) : ∀ c, c < n → (forN n d (Dev.emptyGalley p)).swc.galley (p * 8 + c) = [] := by
  induction n with
  | zero => exact fun c hc => absurd hc (Nat.not_lt_zero c)
  | succ n ih =>
    intro c hc
    rw [forN_succ]
    rcases Nat.lt_succ_iff_lt_or_eq.mp hc with hc | rfl
    · exact Dev.drained_emptyGalley p _ n _ (ih c hc)
    · exact Dev.emptyGalley_empties p _ c

theorem Dev.lines_emptyGalley (p : Nat) (d : Dev) (c : Nat) : d.Lines (Dev.emptyGalley p d c) := by
  refine (Dev.lines_forEach (fun d e => ?_) _ _).after (d.lines_setSwc _)
  split
  exacts [d.lines_setSwc _, d.lines_countFull _ _]

theorem Dev.keeps_emptyGalley (p : Nat) (d : Dev) (c : Nat) : d.Keeps (Dev.emptyGalley p d c) := by
  refine (Dev.keeps_forEach (fun d e => ?_) _ _).after (d.keeps_setSwc _)
  split
  exacts [d.keeps_setSwc _, d.keeps_countFull _ _]

theorem Dev.lines_emptyExpress (p : Nat) (d : Dev) (i : Nat) : d.Lines (Dev.emptyExpress p d i) :=
  (Dev.lines_forEach (fun d _ => d.lines_countFull _ _) _ _).after (d.lines_setSwc _)

theorem Dev.keeps_emptyExpress (p : Nat) (d : Dev) (i : Nat) : d.Keeps (Dev.emptyExpress p d i) :=
  (Dev.keeps_forEach (fun d _ => d.keeps_countFull _ _) _ _).after (d.keeps_setSwc _)

theorem Dev.holdExpiry_leaves {q : Nat} (hm : m < d.macs.length) (hq : d.portMac q = m) (hlink : (d.mac m).linkUp = false)
    (hexpired : (d.mac m).expired = false) : ((d.holdExpiry q).mac m).expired = true ∧ (∀ c, c < 8 → (d.holdExpiry q).swc.galley (q * 8 + c) = []) ∧
      (d.holdExpiry q).tick = max d.tick ((d.mac m).downAt + 1000000 * d.cfg.dev.linkHoldMs) := by
  let e := (d.advanceTo ((d.mac m).downAt + msNs d.cfg.dev.linkHoldMs)).setMac m (fun x => { x with expired := true })
  let f := forN 8 e (Dev.emptyGalley q)
  let g := forN 8 f (Dev.emptyExpress q)
  have hopen : d.holdExpiry q = (g.collect).pauseAll := by
    unfold Dev.holdExpiry
    rw [hq]
    exact if_neg (by rw [hlink, hexpired]; decide)
  have hexp : (e.mac m).expired = true := congrArg Mac.expired (Dev.mac_setMac (d := d.advanceTo _) hm _)
  have htick : e.tick = max d.tick ((d.mac m).downAt + 1000000 * d.cfg.dev.linkHoldMs) := by
    rw [Nat.mul_comm]
    rfl
  have hempty := Dev.emptyGalleys_empty q 8 e
  have hdrained : f.Drained g := Dev.drained_forN (Dev.drained_emptyExpress q) 8 f
  have hlines : e.Lines ((g.collect).pauseAll) := (Dev.lines_pauseAll _).after ((Dev.lines_collect _).after
    ((Dev.lines_forN (Dev.lines_emptyExpress q) 8 f).after (Dev.lines_forN (Dev.lines_emptyGalley q) 8 e)))
  have hkeeps : e.Keeps ((g.collect).pauseAll) := (Dev.keeps_pauseAll _).after ((Dev.keeps_collect _).after
    ((Dev.keeps_forN (Dev.keeps_emptyExpress q) 8 f).after (Dev.keeps_forN (Dev.keeps_emptyGalley q) 8 e)))
  rw [hopen]
  refine ⟨(hlines.parts m).2.2.2.2.trans hexp, fun c hc => ?_, hkeeps.tick.trans htick⟩
  have hg := hdrained _ (hempty c hc)
  clear_value g
  obtain ⟨hswc, -⟩ := g.collect_signals.beside
  generalize g.collect = x at hswc
  obtain ⟨ms, hms⟩ := x.pauseAll_shape
  rw [hms]
  dsimp only
  rw [hswc]
  exact hg

/-! ## The address table and the pipes (R325, R327) -/

theorem Dev.fdbAge_removes {i : Nat} {e : FdbEnt} (h : d.swc.way i = some e) (hstatic : e.static = false) :
    (d.fdbAge i).swc.way i = none ∧ (d.fdbAge i).tick = max d.tick (e.since + 300000000000) ∧ ∀ j, j ≠ i → (d.fdbAge i).swc.way j = d.swc.way j := by
  have hopen : d.fdbAge i = (d.advanceTo (e.since + 300 * secNs)).setSwc (fun s => s.setWay i none) := by
    rw [Dev.fdbAge, h]
    exact if_neg (by rw [hstatic]; decide)
  rw [hopen]
  refine ⟨?_, rfl, fun j hj => ?_⟩
  · have hnone : (d.swc.fdb.filter (fun x => x.1 != i)).find? (fun x => x.1 == i) = none := List.find?_eq_none.mpr fun x hx => by
      simpa using (List.mem_filter.mp hx).2
    exact congrArg (Option.map Prod.snd) hnone
  · have hsame : (d.swc.fdb.filter (fun x => x.1 != i)).find? (fun x => x.1 == j) = d.swc.fdb.find? (fun x => x.1 == j) := by
      rw [List.find?_filter]
      refine congrArg (fun p => d.swc.fdb.find? p) (funext fun x => ?_)
      by_cases hx : x.1 = j <;> simp [hx, hj]
    exact congrArg (Option.map Prod.snd) hsame

theorem Dev.pipeReloaded_checks {k : Nat} (hk : k < 2) (hlength : k < d.swc.reload.length) (hup : d.islandUp (0x09 + k) = true) :
    (Dev.pipeReloaded (k % 2) d).swc.reload.getD k true = false := by
  rw [Nat.mod_eq_of_lt hk, Dev.pipeReloaded, if_pos hup]
  exact upd_getD_same d.swc.reload k (fun _ => false) true hlength

end Rows

end Sys2Proof.Machine
end

section
/-! SUPPORT. Links that come and go (R346, R347), and a memory bank that has drained (R327). -/

namespace Sys2Proof.Machine

/-! ## What a link that goes tells nobody -/

/-- The host's queues are as they were. -/
structure Dev.Hushed (d e : Dev) : Prop where
  verind : e.verind = d.verind

theorem Dev.Hushed.refl (d : Dev) : d.Hushed d := ⟨rfl⟩
theorem Dev.Hushed.trans {d e f : Dev} (h : d.Hushed e) (h' : e.Hushed f) : d.Hushed f := ⟨h'.verind.trans h.verind⟩
theorem Dev.Hushed.after {d e f : Dev} (h : e.Hushed f) (h' : d.Hushed e) : d.Hushed f := h'.trans h

theorem Dev.Hushed.ite {c : Prop} [Decidable c] {d e f : Dev} (h : d.Hushed e) (h' : d.Hushed f) : d.Hushed (if c then e else f) := by
  split
  exacts [h, h']

theorem Dev.hushed_foldl {α : Type} {f : Dev → α → Dev} (h : ∀ (d : Dev) x, d.Hushed (f d x)) (xs : List α) (d : Dev) : d.Hushed (xs.foldl f d) :=
  foldl_relates Dev.Hushed.refl Dev.Hushed.trans h xs d

theorem Dev.hushed_forN {f : Dev → Nat → Dev} (h : ∀ (d : Dev) i, d.Hushed (f d i)) (n : Nat) (d : Dev) : d.Hushed (forN n d f) := Dev.hushed_foldl h _ d

theorem Dev.hushed_forEach {α : Type} {f : Dev → α → Dev} (h : ∀ (d : Dev) x, d.Hushed (f d x)) (xs : List α) (d : Dev) :
    d.Hushed (forEach xs d f) := Dev.hushed_foldl h _ d

section Link

variable (d : Dev) (m : Nat)

theorem Dev.hushed_setSwc (f : Swc → Swc) : d.Hushed (d.setSwc f) := ⟨rfl⟩
theorem Dev.hushed_setMac (f : Mac → Mac) : d.Hushed (d.setMac m f) := ⟨rfl⟩
theorem Dev.hushed_discard (n : Nat) : d.Hushed (d.discard n) := ⟨rfl⟩

theorem Dev.hushed_collect : d.Hushed d.collect := by
  obtain ⟨-, -, h, -⟩ := d.collect_signals.beside
  exact ⟨h⟩

theorem Dev.hushed_dropMirror (g : Nat) (e : GEnt) : d.Hushed (d.dropMirror g e) := by
  unfold Dev.dropMirror
  dsimp only
  split
  · exact (Dev.hushed_collect _).after ((Dev.hushed_setSwc _ _).after (Dev.hushed_setSwc _ _))
  · exact (Dev.hushed_collect _).after (Dev.hushed_setSwc _ _)

theorem Dev.hushed_dropPortMirrors (p : Nat) : d.Hushed (d.dropPortMirrors p) :=
  Dev.hushed_forN (fun d _ => Dev.hushed_forEach (fun d e => d.hushed_dropMirror _ e) _ d) 8 d

theorem Dev.hushed_expressBad (id : Nat) : d.Hushed (d.expressBad id).2 :=
  (Dev.hushed_forN (fun d m => d.hushed_setMac m _) 6 _).after (d.hushed_setSwc _)

theorem Dev.hushed_cutFrames : d.Hushed (d.cutFrames m).2 := by
  unfold Dev.cutFrames
  extract_lets p tx rx n e f g h
  have he : d.Hushed e := by
    dsimp only [e, rx]
    split
    exacts [.ite (d.hushed_expressBad _) (.refl d), .refl d]
  have hf : e.Hushed f := by
    dsimp only [f, tx]
    clear_value e
    split
    exacts [.ite (e.hushed_setSwc _) (.refl e), .refl e]
  clear_value f e
  dsimp only
  exact (Dev.hushed_collect h).after ((Dev.hushed_discard _ n).after ((g.hushed_setMac m _).after ((f.hushed_setSwc _).after (hf.after he))))

theorem Dev.portDown_eq : (d.portDown m).2 = (((d.accountHold m).cutFrames m).2.setMac m (fun x =>
    { x with linkUp := false, downAt := ((d.accountHold m).cutFrames m).2.tick, expired := false, asserted := false, pausePend := none,
             holdTo := none })).dropPortMirrors (((d.accountHold m).cutFrames m).2.macPort m) := by
  unfold Dev.portDown
  generalize (d.accountHold m).cutFrames m = r
  obtain ⟨cut, e⟩ := r
  have hport (f : Mac → Mac) : (e.setMac m f).macPort m = e.macPort m := rfl
  dsimp only
  rw [hport]

theorem Dev.hushed_portDown : d.Hushed (d.portDown m).2 := by
  rw [d.portDown_eq]
  exact (Dev.hushed_dropPortMirrors _ _).after ((Dev.hushed_setMac _ m _).after ((Dev.hushed_cutFrames _ m).after (d.hushed_setMac m _)))

/-- A link that has gone. -/
theorem Dev.portDown_leaves {d : Dev} {m : Nat} (hm : m < d.macs.length) : (d.portDown m).2.macs.length = d.macs.length ∧
    ((d.portDown m).2.mac m).linkUp = false ∧ ((d.portDown m).2.mac m).downAt = d.tick ∧
    ((d.portDown m).2.mac m).counters = ((d.accountHold m).mac m).counters := by
  rw [d.portDown_eq]
  have hcut := (d.accountHold m).lines_cutFrames m
  have htick : ((d.accountHold m).cutFrames m).2.tick = d.tick := (((d.accountHold m).keeps_cutFrames m).tick).trans rfl
  have hmacs : (d.accountHold m).macs.length = d.macs.length := upd_length _ _ _
  generalize ((d.accountHold m).cutFrames m).2 = c at hcut htick
  have hmac := Dev.mac_setMac (d := c) (m := m) (by rwa [hcut.length, hmacs]) (fun x =>
    { x with linkUp := false, downAt := c.tick, expired := false, asserted := false, pausePend := none, holdTo := none })
  have hlength : (c.setMac m (fun x =>
    { x with linkUp := false, downAt := c.tick, expired := false, asserted := false, pausePend := none, holdTo := none })).macs.length =
      d.macs.length := (upd_length _ _ _).trans (hcut.length.trans hmacs)
  generalize c.setMac m (fun x =>
    { x with linkUp := false, downAt := c.tick, expired := false, asserted := false, pausePend := none, holdTo := none }) = e at hmac hlength
  have hlines := e.lines_dropPortMirrors (c.macPort m)
  obtain ⟨-, hcounters, hup, hdown, -⟩ := hlines.parts m
  refine ⟨hlines.length.trans hlength, hup.trans (by rw [hmac]), hdown.trans ?_, hcounters.trans ?_⟩
  · rw [hmac]
    exact htick
  · rw [hmac]
    exact (hcut.parts m).2.1

end Link

section Rows

variable {d : Dev} {m : Nat}

/-- An event of the link says whether it is up. -/
theorem Dev.linkEvent_told {c d e : Dev} (m : Nat) (up : Bool) (hbefore : c.Remembers d) (hslot : d.verind.freeSlots ≠ 0)
    (hrestart : d.cmp.restarting = false) (hafter : (d.linkEvent m up).Remembers e) :
    ∃ x ∈ e.verind.events.drop c.verind.events.length, x.op = 0xF006 ∧ x.fid = 0x0100 + m ∧ byteAt x.body 0 = b2n up := by
  obtain ⟨x, hx, hop, hfid, hbody⟩ := Dev.emit_told hbefore hslot hrestart hafter
  refine ⟨x, hx, hop, hfid, ?_⟩
  rw [hbody]
  cases up <;> rfl

theorem Dev.linkDown_leaves (hm : m < d.macs.length) (hcounters : (d.mac m).counters.length = 14) (hon : d.isOn (0x0100 + m) = true)
    (hslot : d.verind.freeSlots ≠ 0) (hrestart : d.cmp.restarting = false) (hlink : (d.mac m).linkUp = true) :
    d.Keeps (d.linkDown m) ∧ ((d.linkDown m).mac m).linkUp = false ∧ ((d.linkDown m).mac m).downAt = d.tick ∧
      ((d.linkDown m).mac m).counters.getD 12 0 = ((d.mac m).counters.getD 12 0 + 1) % 2 ^ 64 ∧
      ∃ x ∈ (d.linkDown m).verind.events.drop d.verind.events.length, x.op = 0xF006 ∧ x.fid = 0x0100 + m ∧ byteAt x.body 0 = 0 := by
  obtain ⟨hlength, hdown, hsince, hkept⟩ := Dev.portDown_leaves hm
  obtain ⟨hsize, hother⟩ := d.counters_accountHold m m
  have hopen : d.linkDown m = (((d.portDown m).2.countMac m 12 1).linkEvent m false).episode (fun e =>
      e.logFault 7 (0x18 + m) (if (d.portDown m).1 then 2 else 9) 0 (macFid m) 0) := by
    unfold Dev.linkDown
    rw [if_neg (by simp [hlink, macFid, hon])]
  rw [hopen]
  have hkeeps := d.keeps_portDown m
  have hhushed := d.hushed_portDown m
  generalize (if (d.portDown m).1 then 2 else 9) = action
  generalize (d.portDown m).2 = x at *
  have hcounted := Dev.counts_countMac (d := x) (m := m) (i := 12) (by rwa [hlength]) (by rw [hkept, hsize, hcounters]; decide) 1
  have hcountedMac : (x.countMac m 12 1).mac m = { x.mac m with counters := bump (x.mac m).counters 12 1 } := Dev.mac_setMac (by rwa [hlength]) _
  rw [hkept, hother 12 (by decide)] at hcounted
  have hevent := Dev.tells_emit (x.countMac m 12 1) 0xF006 (macFid m)
    ([BitVec.ofNat 8 (b2n false), BitVec.ofNat 8 ((x.countMac m 12 1).cfg.macs.getD m {}).speed] ++ zeros 2)
  have hall : d.Keeps (x.countMac m 12 1) := (x.keeps_countMac m 12 1).after hkeeps
  have hverind : (x.countMac m 12 1).verind = d.verind := hhushed.verind
  generalize x.countMac m 12 1 = y at *
  have hepisode : (y.linkEvent m false).Keeps ((y.linkEvent m false).episode (fun e => e.logFault 7 (0x18 + m) action 0 (macFid m) 0)) :=
    Dev.keeps_episode _ fun e => e.keeps_logFault _ _ _ _ _ _
  have hmacs : ((y.linkEvent m false).episode (fun e => e.logFault 7 (0x18 + m) action 0 (macFid m) 0)).macs = (y.linkEvent m false).macs :=
    ((y.linkEvent m false).logs_episode 7 (0x18 + m) action 0 (macFid m) 0).keeps Dev.macs fun _ _ _ => rfl
  obtain ⟨-, hcount, hup, hdownAt, -⟩ := ((Dev.lines_of_macs hmacs).after hevent.lines).parts m
  have htold := Dev.linkEvent_told m false hall.tells (by rwa [hverind]) (by rw [hall.restarting, hrestart]) hepisode.tells
  refine ⟨hepisode.after (hevent.keeps.after hall), hup.trans ?_, hdownAt.trans ?_, ?_, htold⟩
  · rw [hcountedMac]
    exact hdown
  · rw [hcountedMac]
    exact hsince
  · rw [hcount]
    exact hcounted

theorem Dev.linkDownRow_leaves (hm6 : m < 6) (hm : m < d.macs.length) (hcounters : (d.mac m).counters.length = 14) (hon : d.isOn (0x0100 + m) = true)
    (hslot : d.verind.freeSlots ≠ 0) (hrestart : d.cmp.restarting = false) (hring : d.inRing m = false) (hlink : (d.mac m).linkUp = true) :
    ((Dev.linkDownRow m d).mac m).linkUp = false ∧ ((Dev.linkDownRow m d).mac m).downAt = d.tick ∧
      ((Dev.linkDownRow m d).mac m).counters.getD 12 0 = ((d.mac m).counters.getD 12 0 + 1) % 2 ^ 64 ∧
      ∃ x ∈ (Dev.linkDownRow m d).verind.events.drop d.verind.events.length, x.op = 0xF006 ∧ x.fid = 0x0100 + m ∧ byteAt x.body 0 = 0 := by
  obtain ⟨hkeeps, hleaves⟩ := Dev.linkDown_leaves hm hcounters hon hslot hrestart hlink
  have hfree : (d.linkDown m).inRing m = false := by
    have hfunc : (d.linkDown m).func = d.func := funext hkeeps.toStands.func
    rw [Dev.inRing, hfunc]
    exact hring
  have hrow : Dev.linkDownRow m d = d.linkDown m := (if_neg (by omega)).trans (if_neg (by rw [hfree]; simp))
  rwa [hrow]

theorem Dev.linkUpRow_leaves (hm6 : m < 6) (hm : m < d.macs.length) (hon : d.isOn (0x0100 + m) = true)
    (hslot : d.verind.freeSlots ≠ 0) (hrestart : d.cmp.restarting = false) (hring : d.inRing m = false) (hlink : (d.mac m).linkUp = false) :
    ((Dev.linkUpRow m d).mac m).linkUp = true ∧
      ∃ x ∈ (Dev.linkUpRow m d).verind.events.drop d.verind.events.length, x.op = 0xF006 ∧ x.fid = 0x0100 + m ∧ byteAt x.body 0 = 1 := by
  let e := d.setMac m (fun x => { x with linkUp := true, expired := false })
  have hopen : d.linkUp m = (e.linkEvent m true).pauseEval m := if_neg (by simp [hlink, macFid, hon])
  have hset : (e.mac m).linkUp = true := congrArg Mac.linkUp (Dev.mac_setMac hm _)
  have hkeeps : d.Keeps e := d.keeps_setMac m _
  have hevent : e.Tells (e.linkEvent m true) := e.tells_emit _ _ _
  have hpause := (e.linkEvent m true).keeps_pauseEval m
  have hfree : (d.linkUp m).inRing m = false := by
    have hfunc : (d.linkUp m).func = d.func := funext (hopen ▸ hpause.after (hevent.keeps.after hkeeps)).toStands.func
    rw [Dev.inRing, hfunc]
    exact hring
  have hrow : Dev.linkUpRow m d = (e.linkEvent m true).pauseEval m :=
    ((if_neg (by omega)).trans (if_neg (by rw [hfree]; simp))).trans hopen
  rw [hrow]
  exact ⟨((((Dev.lines_pauseEval _ m).after hevent.lines).parts m).2.2.1).trans hset,
    Dev.linkEvent_told (d := e) m true hkeeps.tells hslot hrestart hpause.tells⟩

/-! ## A bank that has drained (R327) -/

theorem Dev.tells_forEach {α : Type} {f : Dev → α → Dev} (h : ∀ (d : Dev) x, d.Tells (f d x)) (xs : List α) (d : Dev) : d.Tells (forEach xs d f) :=
  foldl_relates Dev.Tells.refl Dev.Tells.trans h xs d

/-- The part with bank `k` out of service. -/
def Dev.withoutBank (d : Dev) (k : Nat) : Dev :=
  { d with
    swc := { d.swc with draining := d.swc.draining - 2 ^ k, bankCmds := d.swc.bankCmds.filter (fun x => x.1 != k) }
    cfg := { d.cfg with retired := d.cfg.retired ||| 2 ^ k,
                        present := if d.cfg.present.contains 3 then d.cfg.present else d.cfg.present ++ [3] }
    svc := { d.svc with retirements := wrap32 (d.svc.retirements + 1) } }

theorem Dev.bankRetired_eq {k : Nat} (hdraining : bit d.swc.draining k = true) (hused : d.swc.bankUsed k = 0) :
    d.bankRetired k = forEach (d.swc.bankCmds.filter (fun x => x.1 == k)) (d.withoutBank k) (fun d x => d.complete x.2 stDone (leb 2 d.slugsInService)) :=
  if_pos (by rw [hdraining, hused]; rfl)

theorem Dev.bankRetired_leaves {k : Nat} (hdraining : bit d.swc.draining k = true) (hused : d.swc.bankUsed k = 0) :
    (d.withoutBank k).Tells (d.bankRetired k) ∧ (d.bankRetired k).cfg.retired = d.cfg.retired ||| 2 ^ k ∧
      (d.bankRetired k).swc.draining = d.swc.draining - 2 ^ k ∧ (d.bankRetired k).svc.retirements = (d.svc.retirements + 1) % 2 ^ 32 := by
  rw [Dev.bankRetired_eq hdraining hused]
  have htells := Dev.tells_forEach (fun (d : Dev) (x : Nat × Waiting) => d.tells_complete x.2 stDone (leb 2 d.slugsInService))
    (d.swc.bankCmds.filter (fun x => x.1 == k)) (d.withoutBank k)
  refine ⟨htells, ?_⟩
  obtain ⟨n, hn, -⟩ := htells
  rw [hn]
  exact ⟨rfl, rfl, rfl⟩

/-- Every command that waits for the bank completes. -/
theorem Dev.bankRetired_completes {s : State} {k : Nat} (hdraining : bit s.dev.swc.draining k = true) (hused : s.dev.swc.bankUsed k = 0) {w : Waiting}
    (hw : (k, w) ∈ s.dev.swc.bankCmds) (hrecov : w.recov = false) : s.completed (s.withDev (s.dev.bankRetired k)) w 0x0000 := by
  have hmem : (k, w) ∈ s.dev.swc.bankCmds.filter (fun x => x.1 == k) := List.mem_filter.mpr ⟨hw, by simp⟩
  obtain ⟨xs, ys, hsplit⟩ := List.append_of_mem hmem
  rw [Dev.bankRetired_eq hdraining hused, hsplit]
  unfold forEach
  rw [List.foldl_append, List.foldl_cons]
  have hbefore : (s.dev.withoutBank k).Tells _ := Dev.tells_forEach (fun (d : Dev) (x : Nat × Waiting) => d.tells_complete x.2 stDone (leb 2 d.slugsInService))
    xs (s.dev.withoutBank k)
  unfold forEach at hbefore
  generalize List.foldl _ (s.dev.withoutBank k) xs = c at hbefore ⊢
  refine State.completed_of_complete (d := c) (.trans (.of_events rfl rfl) hbefore.remembers) ?_ hrecov
    (Dev.tells_forEach (fun (d : Dev) (x : Nat × Waiting) => d.tells_complete x.2 stDone (leb 2 d.slugsInService)) ys _).remembers
  exact hbefore.keeps.restarting

end Rows

end Sys2Proof.Machine
end

section
/-! SUPPORT. A pipe of the switch that is found faulty (R325): its island is fenced, and the other pipe works on. -/

namespace Sys2Proof.Machine

section Pipe

variable {d : Dev} {i p : Nat}

/-! ## Islands -/

theorem Dev.island_quiet (d : Dev) (i : Nat) : (d.island i).quiet = ((d.islands.map Island.quiet).find? (fun x => x.id == i)).getD { id := i, st := 0 } := by
  rw [List.find?_map, Dev.island]
  change _ = ((d.islands.find? (fun x => x.id == i)).map Island.quiet).getD _
  cases d.islands.find? (fun x => x.id == i) <;> rfl

theorem Dev.Holds.island {d e : Dev} (h : d.Holds e) (i : Nat) : (e.island i).quiet = (d.island i).quiet := by
  have hislands : e.islands.map Island.quiet = d.islands.map Island.quiet := congrArg Prod.fst h.posts
  rw [Dev.island_quiet, Dev.island_quiet, hislands]

/-- An island that the part lists. -/
def Dev.posted (d : Dev) (i : Nat) : Prop := (d.islands.find? (fun x => x.id == i)).isSome

theorem Dev.posted_of_up (h : d.islandUp i = true) : d.posted i := by
  by_contra hnone
  have hfind : d.islands.find? (fun x => x.id == i) = none := by simpa [Dev.posted] using hnone
  simp [Dev.islandUp, Dev.island, hfind] at h

theorem Dev.island_setIsland (hposted : d.posted i) {f : Island → Island} (hid : ∀ x, (f x).id = x.id) :
    (d.setIsland i f).island i = f (d.island i) ∧ (d.setIsland i f).posted i := by
  obtain ⟨x, hx⟩ := Option.isSome_iff_exists.mp hposted
  have hfind : (d.setIsland i f).islands.find? (fun x => x.id == i) = some (f x) := by
    rw [Dev.setIsland, updFirst_find d.islands (fun x => x.id == i) f (fun x hx => by simpa [hid] using hx), hx]
    rfl
  exact ⟨by rw [Dev.island, Dev.island, hfind, hx]; rfl, by rw [Dev.posted, hfind]; rfl⟩

theorem Dev.posted_of_islands {d e : Dev} (h : e.islands.map Island.id = d.islands.map Island.id) (hposted : d.posted i) : e.posted i := by
  have hsome (xs : List Island) : (xs.find? (fun x => x.id == i)).isSome = (xs.map Island.id).any (· == i) := by
    rw [Bool.eq_iff_iff, List.find?_isSome, List.any_map, List.any_eq_true]
    rfl
  rw [Dev.posted, hsome, h, ← hsome]
  exact hposted

/-! ## The fence of a pipe's island (R325) -/

theorem Dev.pipe_settlePipe (d : Dev) : d.settlePipe.swc.pipe = d.swc.pipe := by
  unfold Dev.settlePipe
  split
  · split
    · exact (congrArg Swc.pipe (Dev.tells_completeDone _ _).apart.swc).trans rfl
    split
    · exact (congrArg Swc.pipe (Dev.tells_completeFailed _ _ _).apart.swc).trans rfl
    · rfl
  · rfl

/-- Island `i` is fenced, and pipe `p` is the active one. -/
structure Dev.Piped (d : Dev) (i p : Nat) : Prop where
  st : (d.island i).st = 4
  pipe : d.swc.pipe = p

theorem Dev.Piped.of_holds {d e : Dev} (h : d.Piped i p) (hholds : d.Holds e) (hpipe : e.swc.pipe = d.swc.pipe) : e.Piped i p :=
  ⟨(congrArg Island.st (hholds.island i) :).trans h.st, hpipe.trans h.pipe⟩

theorem Dev.episode_piped {f : Dev → Dev} (h : ∀ e : Dev, e.islands = d.islands → e.swc = d.swc → (f e).Piped i p) :
    (d.episode f).Piped i p := by
  obtain ⟨hst, hpipe⟩ := h { d with svc := { d.svc with episode := none } } rfl rfl
  exact ⟨hst, hpipe⟩

theorem Dev.inEpisode_piped {f : Dev → Dev} (h : ∀ e : Dev, e.islands = d.islands → e.swc = d.swc → (f e).Piped i p) :
    (d.inEpisode f).Piped i p := by
  unfold Dev.inEpisode
  split
  exacts [h d rfl rfl, Dev.episode_piped h]

/-- The steps of the fence of a pipe's island that had neither failed nor begun to recover. -/
def Dev.pipeFence (i cls cause : Nat) (d : Dev) : Dev :=
  let d := (d.closeCrossings i).setIsland i (fun x => { x with st := 4, recovering := true, cls := cls, why := cause })
  let d := d.logFault cls i 3 cause 0 0
  let ep := d.svc.episode
  let d := d.setIsland i (fun x => { x with ep := ep })
  let d := d.stripOwner (.island i) cls i cause 0 true false
  let d := if i == 0x05 then d.stripBus cls cause else d
  let (cut, d) := d.islandLoses i
  let d := if cut then d.logFault cls i 2 cause 0 0 else d
  if i == 0x09 || i == 0x0A then
    (if d.swc.pipe == i - 0x09 && !(d.pipeDown (1 - d.swc.pipe)) then
      (d.setSwc (fun s => { s with pipe := 1 - s.pipe })).serviceEvent 4 (i - 0x09)
    else d).settlePipe
  else d

theorem Dev.bareFault_eq {cls cause : Nat} (hstuck : (d.island i).stuck = false) (hrecovering : (d.island i).recovering = false) :
    d.bareFault i cls cause = d.inEpisode (Dev.pipeFence i cls cause) := by
  unfold Dev.bareFault
  dsimp only
  rw [if_neg (by rw [hstuck]; decide), hrecovering]
  rfl

/-- A pipe's island holds nothing that it would lose. -/
theorem Dev.islandLoses_pipe (d : Dev) {k : Nat} (hk : k < 2) : d.islandLoses (0x09 + k) = (false, d) := by
  interval_cases k <;> rfl

theorem Dev.pipeFence_piped {k : Nat} (hk : k < 2) (hposted : d.posted (0x09 + k)) (hpipe : d.swc.pipe = 1 - k) (cls cause : Nat) :
    (d.pipeFence (0x09 + k) cls cause).Piped (0x09 + k) (1 - k) := by
  unfold Dev.pipeFence
  extract_lets e f ep g h j
  have he : e.Piped (0x09 + k) (1 - k) ∧ e.posted (0x09 + k) := by
    obtain ⟨hset, hlisted⟩ := Dev.island_setIsland (d := d.closeCrossings (0x09 + k)) (i := 0x09 + k) hposted
      (f := fun x => { x with st := 4, recovering := true, cls := cls, why := cause }) (fun _ => rfl)
    exact ⟨⟨congrArg Island.st hset, hpipe⟩, hlisted⟩
  have hf : f.Piped (0x09 + k) (1 - k) ∧ f.posted (0x09 + k) := by
    have hkeeps : e.Keeps f := e.keeps_logFault cls (0x09 + k) 3 cause 0 0
    refine ⟨he.1.of_holds hkeeps.toHolds (congrArg Swc.pipe (e.apart_logFault cls (0x09 + k) 3 cause 0 0).swc), Dev.posted_of_islands ?_ he.2⟩
    exact congrArg (fun x => x.2.2.1) hkeeps.core
  have hg : g.Piped (0x09 + k) (1 - k) := by
    obtain ⟨hset, -⟩ := Dev.island_setIsland (d := f) (i := 0x09 + k) hf.2 (f := fun x => { x with ep := ep }) (fun _ => rfl)
    exact ⟨(congrArg Island.st hset :).trans hf.1.st, hf.1.pipe⟩
  have hh : h.Piped (0x09 + k) (1 - k) := hg.of_holds (g.keeps_stripOwner _ _ _ _ _ _ _).toHolds (congrArg Swc.pipe (g.apart_stripOwner _ _ _ _ _ _ _).swc)
  have hj : j = h := if_neg (by simp; omega)
  clear_value h
  rw [hj, Dev.islandLoses_pipe h hk]
  dsimp only
  rw [if_pos (by interval_cases k <;> rfl), if_neg (by simp : ¬ false = true), if_neg (by rw [hh.pipe]; interval_cases k <;> simp)]
  exact hh.of_holds h.keeps_settlePipe.toHolds h.pipe_settlePipe

/-- A pipe that is found faulty, while both check. -/
theorem Dev.pipeFault_piped {k : Nat} (hk : k < 2) (hup : d.pipeDown k = false) (hother : d.pipeDown (1 - k) = false) (hpipe : d.swc.pipe ≤ 1)
    (hrecovering : (d.island (0x09 + k)).recovering = false) (hstuck : (d.island (0x09 + k)).stuck = false) :
    (Dev.pipeFault k d).Piped (0x09 + k) (1 - k) := by
  obtain ⟨c, hopen, hislands, hcpipe⟩ : ∃ c : Dev, Dev.pipeFault k d = c.bareFault (0x09 + k) 2 0 ∧ c.islands = d.islands ∧ c.swc.pipe = 1 - k := by
    refine ⟨_, rfl, ?_, ?_⟩
    · obtain ⟨n, hn, -⟩ := Dev.tells_serviceEvent (if d.swc.pipe == k && !(d.pipeDown (1 - k)) then d.setSwc (fun s => { s with pipe := 1 - k }) else d) 4 k
      rw [hn]
      split <;> rfl
    · rw [(Dev.tells_serviceEvent _ 4 k).apart.swc, hother]
      by_cases hact : d.swc.pipe = k
      · rw [if_pos (by simp [hact])]
        rfl
      · rw [if_neg (by simp [hact])]
        omega
  have hisland : c.island = d.island := by funext j; rw [Dev.island, Dev.island, hislands]
  rw [hopen, Dev.bareFault_eq (by rw [hisland]; exact hstuck) (by rw [hisland]; exact hrecovering)]
  have hposted : d.posted (0x09 + k) := Dev.posted_of_up (by simp only [Dev.pipeDown, Bool.or_eq_false_iff] at hup; simpa using hup.1)
  refine Dev.inEpisode_piped fun e he hswc => Dev.pipeFence_piped hk ?_ (by rw [hswc, hcpipe]) 2 0
  rwa [Dev.posted, he, hislands]

theorem Dev.pipeDisagree_piped {a b : Bool} (h0 : d.pipeDown 0 = false) (h1 : d.pipeDown 1 = false) (hrun : d.pwr.st = 0) (hab : (a && b) = false)
    (hpipe : d.swc.pipe ≤ 1) {k : Nat} (hk : k = if a then 0 else if b then 1 else d.swc.pipe)
    (hrecovering : (d.island (0x09 + k)).recovering = false) (hstuck : (d.island (0x09 + k)).stuck = false) :
    (Dev.pipeDisagree a b d).Piped (0x09 + k) (1 - k) := by
  have hawake : d.faultWakes = d := by simp [Dev.faultWakes, hrun]
  have hk2 : k < 2 := by
    subst hk
    split_ifs <;> omega
  unfold Dev.pipeDisagree
  rw [if_neg (by rw [h0, h1]; decide), hawake]
  refine Dev.episode_piped fun e he hswc => ?_
  have hisland : e.island = d.island := by funext j; rw [Dev.island, Dev.island, he]
  have hdown : e.pipeDown = d.pipeDown := by funext j; rw [Dev.pipeDown, Dev.pipeDown, Dev.islandUp, Dev.islandUp, hisland, hswc]
  have hfault := Dev.pipeFault_piped (d := e) (k := k) hk2 (by rw [hdown]; interval_cases k <;> assumption) (by rw [hdown]; interval_cases k <;> assumption)
    (by rwa [hswc]) (by rwa [hisland]) (by rwa [hisland])
  have hbad0 : (a || !b && d.swc.pipe == 0) = (k == 0) := by
    subst hk
    cases a <;> cases b <;> simp
  have hbad1 : (b || !a && d.swc.pipe == 1) = (k == 1) := by
    subst hk
    cases a <;> cases b <;> simp at hab ⊢
  dsimp only
  rw [hbad0, hbad1]
  interval_cases k
  exacts [hfault, hfault]

end Pipe

end Sys2Proof.Machine
end

section
/-! The obligation of the switch and the MACs (R302, R304, R309, R312 to R315, R322, R325, R327, R341, R344 to R350). -/

namespace Sys2Proof.Ports

open Sys2Proof.Machine

/-- A row of a MAC or port that the part has. -/
theorem run_onPort {m : Nat} (hm : m < 6) (s : State) (f : Dev → Dev) :
    s.run (fun d => if 5 < m then d else f d) = .next (s.withDev (f s.dev)) := State.run_withDev (if_neg (by omega))

/-- Settles O47: each row in turn. -/
theorem switchRows : Obligations.SwitchRows := by
  intro s m b err hm hmacs hout
  dsimp only
  intro hcounters
  have hm5 : ¬ 5 < m := by omega
  refine ⟨fun hup hrx => ⟨fun i hi hbad => ?_, fun o ho hfcs herr hlow hhigh htype hptp hring hswc hdropped hcls hdests hids hfree hport hgal hlong
      hgalleys hoff => ?_⟩,
    fun hup hswc htype hring hptp hswitch hcls hp => ?_,
    fun hup hisland htx => ⟨fun q hpend => ?_, fun c e rest hpend hexpress hc hgal hmac hheld hhead habove => ?_⟩,
    fun y hup htx hkind haborted hmirror => ?_, fun hup hfcs hlength hmax hda htype hop hflag => ?_, fun v hhold => ?_,
    fun hasserted hup hpend => ?_, fun hon hslot hrestart hring => ⟨fun hlink => ?_, fun hlink => ?_⟩, fun q hq hmac hlink hexpired => ?_,
    fun i e hway hstatic => ?_, fun wrongA wrongB h0 h1 hrun hboth hpipe hid hrecovering hstuck => ?_, fun k hk hlength hup => ?_,
    fun k hk hdraining hused => ?_⟩
  · refine ⟨_, State.run_withDev (Dev.frameRow_eq hm (Dev.frameReceive_bad hup hrx hi hbad) hout), ?_, rfl, rfl⟩
    refine Dev.counts_countMac (d := s.dev.ended (s.dev.macPort m)) hmacs ?_ 1
    have hlow : i < 14 := by
      rw [hi]
      split_ifs <;> decide
    exact hlow.trans_eq hcounters.symm
  · obtain ⟨e, hrow, hleaves⟩ := Dev.frameRow_good hm hmacs hout hcounters hup hrx ho hfcs hlow hhigh htype hptp hring hswc rfl hdropped hcls hdests
      hids hfree hport hgal hlong hgalleys hoff
    subst herr
    exact ⟨_, State.run_withDev hrow, hleaves⟩
  · exact ⟨_, run_onPort hm s (fun d => d.classificationPoint m b), Dev.classificationPoint_sets hup hswc htype hring hptp hswitch hcls hp⟩
  · have hrow : Dev.egressRow m s.dev = (s.dev.setMac m (fun x => { x with pausePend := none, lastPause := s.dev.tick })).startTx m
        { kind := 2, bytes := s.dev.pauseFrame m q } := by
      rw [Dev.egressRow, if_neg hm5, Dev.udpOut_idle hout]
      exact Dev.egress_pause hup hisland htx hpend
    have hmac := Dev.mac_setMac (d := s.dev.setMac m (fun x => { x with pausePend := none, lastPause := s.dev.tick })) (m := m)
      ((upd_length _ _ _).symm ▸ hmacs) (fun x => { x with tx := some { kind := 2, bytes := s.dev.pauseFrame m q, start := s.dev.tick } })
    rw [Dev.mac_setMac hmacs] at hmac
    exact ⟨_, State.run_withDev hrow, congrArg Mac.pausePend hmac, congrArg Mac.tx hmac⟩
  · obtain ⟨x, hsend⟩ := Dev.egress_galley hup hisland htx hpend rfl hexpress hc hgal hmac hheld hhead habove
    have hrow : Dev.egressRow m s.dev = s.dev.sendGalley (s.dev.macPort m) c e x := by
      rw [Dev.egressRow, if_neg hm5, Dev.udpOut_idle hout, hsend]
    exact ⟨_, State.run_withDev hrow, Dev.sendGalley_leaves hmacs hmac hhead⟩
  · exact ⟨_, State.run_withDev rfl, Dev.sentRow_leaves hm hmacs hcounters hup htx hkind haborted hmirror⟩
  · obtain ⟨e, hrow, hleaves⟩ := Dev.pauseRow_holds hm hmacs hout hcounters hup hfcs hlength hmax hda htype hop hflag
    exact ⟨_, State.run_withDev hrow, hleaves⟩
  · exact ⟨_, run_onPort hm s (fun d => d.pauseHoldEnd m), Dev.pauseHoldEnd_frees hmacs hhold⟩
  · exact ⟨_, run_onPort hm s (fun d => d.pauseRefresh m), Dev.pauseRefresh_sets hmacs hasserted hup hpend⟩
  · exact ⟨_, State.run_withDev rfl, Dev.linkDownRow_leaves hm hmacs hcounters hon hslot hrestart hring hlink⟩
  · exact ⟨_, State.run_withDev rfl, Dev.linkUpRow_leaves hm hmacs hon hslot hrestart hring hlink⟩
  · exact ⟨_, run_onPort hq s (fun d => d.holdExpiry q), Dev.holdExpiry_leaves hmacs hmac hlink hexpired⟩
  · exact ⟨_, State.run_withDev (f := fun d => d.fdbAge i) rfl, Dev.fdbAge_removes hway hstatic⟩
  · obtain ⟨hst, hactive⟩ := Dev.pipeDisagree_piped h0 h1 hrun hboth hpipe rfl hrecovering hstuck
    exact ⟨_, State.run_withDev rfl, hst, hactive⟩
  · exact ⟨_, State.run_withDev rfl, Dev.pipeReloaded_checks hk hlength hup⟩
  · obtain ⟨-, hretired, hdrained, hcount⟩ := Dev.bankRetired_leaves hdraining hused
    exact ⟨_, State.run_withDev (f := fun d => d.bankRetired k) rfl, hretired, hdrained, hcount, fun w hw hrecov => Dev.bankRetired_completes hdraining hused hw hrecov⟩

end Sys2Proof.Ports
end
